-- ==== Sys2Proof/Word.lean ====
section
/-!
DEFINITION. The byte of the control link and the ingest port, and the saturating counts of the manual.
-/
namespace Sys2Proof

/-- A byte as it crosses the control link, the ingest port or the store port. -/
abbrev Byte := BitVec 8

/-- A finite map from numbers, kept as a list of pairs with rising keys. -/
abbrev Table (α : Type) := List (Nat × α)

/-- The top of a 32-bit count (many rules: "saturating at 2^32 − 1"). -/
abbrev max32 : Nat := 4294967295

/-- `n + 1`, stopping at `top`: "a value that saturates stops at the end of its range". -/
def bump (top n : Nat) : Nat := if n < top then n + 1 else top

/-- ⌈x / y⌉ as the introduction defines it, for y above 0. -/
def ceilDiv (x y : Nat) : Nat := (x + (y - 1)) / y

end Sys2Proof
end

