-- ==== Sys2Proof/Config.lean ====
section
/-!
DEFINITION. What is fixed for one part: the sizes the manual gives, and the values it leaves open. An open
value is a constant without a body: nothing can be proved of which value it is.
-/
namespace Sys2Proof
namespace Config

/-- Bytes of a block of the store (Terms; R26). -/
def blockBytes : Nat := 131072

/-- Cycles of the reference clock in one second and in one millisecond: it runs at 27 MHz (ports; R111). -/
def cyclesPerSecond : Nat := 27000000
def cyclesPerMs : Nat := 27000

/-- OPEN VALUE. The fixed functions of R63: from the 48 wrapped bytes (the device key is fixed in the part),
`none` where the integrity check fails, else the unwrapped key material. The manual does not describe them. -/
opaque unwrap (wrapped : List Byte) : Option Nat

/-- OPEN VALUE. The revision number IDENTIFY reports (R192). -/
opaque revision : Byte

/-- OPEN VALUE. What the manual says "may" go either way inside the part: whether the nonvolatile write in
progress at a full reset made by RESET FULL is left whole (R10), and which blocks of an abandoned store write
hold the new contents (R48). Each use takes a fresh number. -/
opaque eitherWay (use : Nat) : Bool

/-- OPEN VALUE. The contents of a block after a write of it failed twice (R46, R47: the manual says only that
the blocks of that write are lost). Each use takes a fresh number. -/
opaque lostBlock (use : Nat) : List Byte

/-- OPEN VALUE. A block of a scrambled PICTURE track unscrambled with a key (R125), from the key material, the track and
the track block; the contents are given, as the store keeps them, without trailing zero bytes. The manual does not
describe the function. -/
opaque unscramble (material track block : Nat) (bytes : List Byte) : List Byte

end Config
end Sys2Proof
end

