-- ==== Sys2Proof/Syntax.lean ====
section
/-!
DEFINITION. The commands of the Wajgel 2640: one constructor of `Instr` for each row of the table of
operations and events. A row that is a request of the control link carries its frame (tag, and whether the
body has the length of its layout) and the fields of its body; a row that is an event at a port carries what
the port brings. A field that R198 codes by a place in a list stays a number here, because a host can send a
place outside the list; the owning unit judges it.
-/
namespace Sys2Proof

/-- What every request frame brings beside its fields (R188, R189): its tag, and whether its body has the
length its layout gives (a body of another length is MALFORMED). -/
structure Frame where
  tag : Byte
  fits : Bool := true
  deriving DecidableEq, Repr

/-- A whole segment as the ingest port brings it (R26, R198): the segment header and the payload bytes.
Of a payload longer than one block only the length matters, since its words are discarded. -/
structure Segment where
  package : Nat
  index : Nat
  length : Nat
  check : Nat
  track : Nat
  payload : List Byte
  deriving DecidableEq, Repr

/-- The base of a cue record's offset (R82); `other` is a byte that names neither, which R83 refuses. -/
inductive CueBase where
  | fromStart
  | fromEnd
  | other (code : Nat)
  deriving DecidableEq, Repr

/-- The action of a cue record with its fields (R82). -/
inductive CueAction where
  | setLines (mask values : BitVec 16)
  | pulseLine (line width : Nat)
  | fader (target frames : Nat)
  | notice (number : Nat)
  deriving DecidableEq, Repr

/-- A cue record of a PLAY entry (R82). -/
structure CueRecord where
  offset : Nat
  base : CueBase
  action : CueAction
  deriving DecidableEq, Repr

/-- An entry of a show list (R81). Absent reels of a PLAY and an absent timeout of a WAIT are `none`. -/
inductive Entry where
  | play (composition : Nat) (first last : Option Nat) (cues : List CueRecord)
  | black (frames : Nat)
  | wait (timeout : Option Nat)
  | setLines (mask values : BitVec 16)
  | incl (list : Nat)
  deriving DecidableEq, Repr

/-- One route of a sound map (R147): an optional source channel and the route gain. -/
structure Route where
  source : Option Nat
  gain : Nat
  deriving DecidableEq, Repr

/-- The configuration LINE SETUP gives (R179). Each field is the code of R198; `other` is a direction byte
that is neither IN nor OUT. -/
inductive LineRequest where
  | output (idle safe : Nat)
  | input (condition debounce function : Nat)
  | other (direction : Nat)
  deriving DecidableEq, Repr

/-- Why the receiver discards a frame at its length or at its check (R188). The third cause, GAP, is the
row FRAME_GAP_TIMEOUT. `came` is what has come after the marker beyond the bytes the receiver holds (DESIGN CHOICE: no row
stands for a byte, so the bytes come with this one, assumption 30). -/
inductive DiscardCause where
  | length (came : List Byte)
  | check (came : List Byte)
  deriving DecidableEq, Repr

/-- The commands, in the order of the table. -/
inductive Instr where
  /-- Power-on or the reset line: the store size the port reports, the seconds the booth clock ran while the
  part had no power, and whether a nonvolatile write in progress was left whole (R1, R10, R59). -/
  | fullReset (size clockRan : Nat) (landed : Bool)
  | segmentTaken (segment : Segment)
  | gatherIdleTimeout
  | mapBlockWriteComplete (ok : Bool)
  | ingestWriteComplete (ok : Bool)
  | packageCloseComplete
  | sweepReadComplete (ok : Bool)
  | storeRetry
  | pictureTransferComplete (ok : Bool)
  | pictureReaderBeginFrame
  | windowFillBegin
  | windowFillComplete (ok : Bool)
  | soundReaderBeginPortion
  | soundTransferComplete (ok : Bool)
  | subtitleLoadBegin
  | subtitleTransferComplete (ok : Bool)
  | nvmWriteComplete (ok : Bool)
  | queueWaitingWrite
  | secondEvent
  | checkIntervalExpiry
  | windowCheckBegin
  | windowCheckEnd
  | frameSyncEdge (rising : Bool)
  | generatorTick
  | syncLoss
  | lookahead
  | boundary
  | waitTimeout
  | pauseLimitExpiry
  | repeatLimit
  | fadeEnd
  | pulseEnd (line : Nat)
  | linkSendComplete
  | linkCheckBegin
  | projectorAnswer (challenge projector : Nat)
  | answerTimeout
  | linkIntervalExpiry
  | seatRecordComplete
  | inputPinChange (line : Nat) (high : Bool)
  | debounceExpiry (line : Nat)
  | controlFrameDiscarded (cause : DiscardCause)
  | frameGapTimeout
  | unknownRequest (kind : Nat) (tag : Byte)
  | outgoingSendComplete
  | trackList (frame : Frame) (first : Nat) (state : Option Nat)
  | trackDelete (frame : Frame) (track : Nat)
  | compositionList (frame : Frame) (first : Nat)
  | compositionRead (frame : Frame) (composition : Nat)
  | compositionDelete (frame : Frame) (composition : Nat)
  | storeStatus (frame : Frame)
  | storeSweep (frame : Frame)
  | ingestOpen (frame : Frame) (package mode : Nat)
  | ingestClose (frame : Frame)
  | ingestAbort (frame : Frame)
  | ingestStatus (frame : Frame)
  | clockRead (frame : Frame)
  | clockTrim (frame : Frame) (seconds : Int)
  | grantLoad (frame : Frame) (key allowance start stop : Nat) (wrapped : List Byte)
  | grantList (frame : Frame)
  | grantRevoke (frame : Frame) (slot : Nat)
  | grantPurge (frame : Frame) (slot : Nat)
  | grantCheck (frame : Frame)
  | checkInterval (frame : Frame) (seconds : Nat)
  | listLoad (frame : Frame) (list part : Nat) (final : Bool) (entries : List Entry)
  | listRead (frame : Frame) (list first : Nat)
  | showArm (frame : Frame) (list : Nat)
  | showStart (frame : Frame)
  | pause (frame : Frame)
  | resume (frame : Frame)
  | go (frame : Frame)
  | skip (frame : Frame)
  | stop (frame : Frame)
  | pauseLimit (frame : Frame) (seconds : Nat)
  | frameSource (frame : Frame) (source : Nat) (edge : Option Nat)
  | position (frame : Frame)
  | mark (frame : Frame)
  | captureRead (frame : Frame) (count : Nat)
  | pair (frame : Frame) (projector : Nat)
  | linkCheck (frame : Frame)
  | linkInterval (frame : Frame) (seconds : Nat)
  | pictureStatus (frame : Frame)
  /-- A layout code with 24 routes, or with the remove flag (`none`). -/
  | soundMapLoad (frame : Frame) (code : Nat) (routes : Option (List Route))
  | soundMapRead (frame : Frame) (code : Nat)
  | faderSet (frame : Frame) (target frames : Nat)
  | lipsyncSet (frame : Frame) (trim : Int)
  | soundStatus (frame : Frame)
  | streamSet (frame : Frame) (stream route : Nat) (offset : Int)
  | subtitleStatus (frame : Frame)
  | logRead (frame : Frame) (first count : Nat)
  | logRelease (frame : Frame) (sequence : Nat)
  | lineSetup (frame : Frame) (line : Nat) (config : LineRequest)
  | lineSet (frame : Frame) (mask values : BitVec 16)
  | lineRead (frame : Frame)
  | identify (frame : Frame)
  | status (frame : Frame)
  | resetFull (frame : Frame)
  | resetShow (frame : Frame)
  | noticeSetup (frame : Frame) (enables : BitVec 52) (levels : List Nat) (mask : Nat)
  | noticeClear (frame : Frame) (causes : BitVec 52)
  | noticeRead (frame : Frame)
  | controlMarkerFound
  deriving DecidableEq, Repr

end Sys2Proof
end

