-- ==== Sys2Proof/Machine/State.lean ====
section
/-!
DEFINITION. The state of the Wajgel 2640, unit by unit, as plain data, and the state at reset.
Tables that hold few of their many possible entries are kept as rising lists of the entries held: a track id that
is not listed is FREE, a composition id or a grant slot that is not listed is free.
Durations that run on the reference clock are held in its cycles (27 MHz).
-/
namespace Sys2Proof
namespace Machine

/-! ## Catalogue and nonvolatile memory (R1 to R10) -/

/-- Damage reasons of R3, in its order. -/
inductive DamageReason where
  | check | gap | storeFull | storeFault | interrupted
  deriving DecidableEq, Repr

/-- State of a track entry that is not FREE (R3). -/
inductive TrackStatus where
  | filling
  | ready
  | damaged (reason : DamageReason)
  deriving DecidableEq, Repr

/-- Kinds of track (R3). -/
inductive TrackKind where
  | picture | sound | subtitle | description
  deriving DecidableEq, Repr

/-- The header fields that depend on the kind (R3). -/
inductive TrackInfo where
  | picture (rate frames span : Nat)
  | sound (channels layout samples : Nat)
  | subtitle (bytes : Nat)
  | description
  deriving DecidableEq, Repr

/-- The header fields of a track (R3): kind with its fields, declared length in blocks, and the key id, which
is present exactly when the track is scrambled. -/
structure TrackHeader where
  info : TrackInfo
  length : Nat
  key : Option Nat
  deriving DecidableEq, Repr

/-- A track entry that is not FREE (R3). -/
structure TrackEntry where
  status : TrackStatus
  package : Nat
  number : Nat
  header : TrackHeader
  extentCount : Nat
  deriving DecidableEq, Repr

/-- An extent of a track (R2): first track block, first store block, length. -/
structure Extent where
  block : Nat
  store : Nat
  length : Nat
  deriving DecidableEq, Repr

/-- What a map block holds (R2): the track id, the copy of the header fields that the track table records at the
track's opening (R3, R28), and the extent list. Its byte layout is not visible at any port. -/
structure MapBlock where
  track : Nat
  package : Nat
  number : Nat
  header : TrackHeader
  extents : List Extent
  deriving DecidableEq, Repr

/-- Reasons of an INCOMPLETE composition (R5), in its order. -/
inductive IncompleteReason where
  | missing | kind | rate | short | keyMixed | damaged
  deriving DecidableEq, Repr

/-- A reel (R5): picture track, entry frame, duration, sound track, and the subtitle tracks of streams 0 to 3. -/
structure Reel where
  picture : Option Nat
  entry : Nat
  duration : Nat
  sound : Option Nat
  subtitles : List (Option Nat)
  deriving DecidableEq, Repr

/-- A held composition entry (R5). It is READY when `incomplete` is absent. -/
structure Composition where
  incomplete : Option IncompleteReason
  package : Nat
  tag : List Byte
  rate : Nat
  key : Option Nat
  total : Nat
  countPoint : Option Nat
  shown : Nat
  reels : List Reel
  deriving DecidableEq, Repr

/-- A reel as a description gives it: numbers within the package in place of track ids (R37, R38). -/
structure ReelNumbers where
  picture : Nat
  entry : Nat
  duration : Nat
  sound : Option Nat
  subtitles : List (Option Nat)
  deriving DecidableEq, Repr

/-- The catalogue's in-part copies (R3, R5, R7). `extents` are the extent lists the part holds for its tracks:
from their allocation, or from the start-up sweep (R14, R18). `awaiting` marks the entries awaiting resolution
and keeps the track numbers their descriptions gave (R6, R38). -/
structure Catalogue where
  tracks : Table TrackEntry
  extents : Table (List Extent)
  compositions : Table Composition
  awaiting : Table (List ReelNumbers)
  deriving DecidableEq, Repr

/-- Grant states (R61), in its order. -/
inductive GrantState where
  | pending | active | spent | expired | revoked
  deriving DecidableEq, Repr

/-- A held grant (R61). `material` is the unwrapped key; no port reports it. -/
structure Grant where
  key : Nat
  material : Nat
  start : Nat
  stop : Nat
  allowance : Nat
  shows : Nat
  state : GrantState
  loaded : Nat
  deriving DecidableEq, Repr

/-- The trim budget record (R59). -/
structure Budget where
  start : Nat
  used : Nat
  deriving DecidableEq, Repr

/-- Outcomes of a showing (R104, R169), numbered from 1 in this order by the log record body. -/
inductive ShowingOutcome where
  | complete | stopped | revoked | abortedLink | abortedFault | interrupted
  deriving DecidableEq, Repr

/-- The fields of a log record that a lost record lacks (R169). `stop` is the end time, present when CLOSED;
`counted` is the count time, present when the record is counted. -/
structure LogShowing where
  composition : Nat
  package : Nat
  tag : List Byte
  grant : Option (Nat × Nat)
  start : Nat
  stop : Option Nat
  firstReel : Nat
  lastReel : Nat
  presented : Nat
  repeated : Nat
  counted : Option Nat
  deriving DecidableEq, Repr

/-- A show-log record (R169). It is OPEN while `outcome` is absent, and lost while `showing` is absent. -/
structure LogRecord where
  sequence : Nat
  outcome : Option ShowingOutcome
  mark : Bool
  showing : Option LogShowing
  deriving DecidableEq, Repr

/-- Nonvolatile memory (R7). Log records stand under their places (R170). -/
structure Nvm where
  tracks : Table TrackEntry
  compositions : Table Composition
  grants : Table Grant
  log : Table LogRecord
  budget : Budget
  paired : Option Nat
  deriving DecidableEq, Repr

/-- The single record of a count write (R8, R76): the grant charged with its shows counted and state, the
composition with its times shown, and the log record with its count time. -/
structure CountWrite where
  grant : Option (Nat × Nat × GrantState)
  composition : Nat × Nat
  record : Nat × Nat
  deriving DecidableEq, Repr

/-- Kinds of nonvolatile write (R8). An absent value frees the record. -/
inductive Write where
  | track (id : Nat) (value : Option TrackEntry)
  | composition (id : Nat) (value : Option Composition)
  | grant (slot : Nat) (value : Option Grant)
  | log (record : LogRecord)
  | budget (value : Budget)
  | paired (projector : Nat)
  | count (value : CountWrite)
  deriving DecidableEq, Repr

/-- A write standing in the queue; `forCheck` when the window check waits for its completion (R71). -/
structure QueuedWrite where
  write : Write
  forCheck : Bool
  deriving DecidableEq, Repr

/-- Reply statuses (R190), in the order of their codes. -/
inductive Status where
  | ok | clamped | refused | busy | starting | unknown | malformed | duplicateTag
  deriving DecidableEq, Repr

/-- Refusal reasons (R190), numbered from 1 in this order. -/
inductive Reason where
  | wrongState | notFound | inUse | referenced | tableFull | logFull | interlock | overlayFull | badGrant
  | keyConflict | outOfRange
  deriving DecidableEq, Repr

/-- A reply (R190). One that holds no slot goes through the immediate queue (R189). -/
structure Reply where
  tag : Byte
  kind : Nat
  status : Status
  reason : Option Reason
  body : List Byte
  immediate : Bool
  deriving DecidableEq, Repr

/-- A count that has fired and waits for room (R77): the count time, the composition, the log record and the
bound grant's slot and key id. -/
structure Count where
  time : Nat
  composition : Nat
  record : Nat
  grant : Option (Nat × Nat)
  deriving DecidableEq, Repr

/-- The change that a composition entry takes when its write is queued (R8): an entry with its value, and the track
numbers of its description when it is to await resolution (R6); or the resolution of the entry from the numbers its
description gave (R38). -/
inductive CompositionChange where
  | enter (value : Composition) (awaiting : Option (List ReelNumbers))
  | resolve (numbers : List ReelNumbers)
  deriving DecidableEq, Repr

/-- A requester waiting for room in the write queue (R8). -/
inductive Waiter where
  /-- a request of the control link, which makes its checks again -/
  | request (command : Instr)
  /-- a track entry already changed in the part; `engine` when the ingest engine holds its port for it; with
  the reply that its queuing releases (R24) -/
  | track (id : Nat) (engine : Bool) (reply : Option Reply)
  /-- a composition entry with the change it takes at its queuing; `engine` as above; `closes` when its queuing ends
  the close of the package (R23) -/
  | composition (id : Nat) (change : CompositionChange) (engine closes : Bool)
  /-- the count of a showing (R77) -/
  | count (value : Count)
  /-- the running window check (R70) -/
  | check
  /-- a trim budget period that has ended (R59) -/
  | budget
  /-- the show log's unwritten list (R172) -/
  | log
  deriving DecidableEq, Repr

/-- The write queue (R8): the writes, the head in progress; the waiting requesters, longest first; and the
NVM_FAULT events since the full reset (R20). -/
structure WriteQueue where
  writes : List QueuedWrite
  waiters : List Waiter
  faults : Nat
  deriving DecidableEq, Repr

/-! ## The store, free space and sweeps (R1, R11 to R16) -/

/-- A block of the store as it stands: a map block, or the bytes of a data block without trailing zeros. -/
inductive StoreBlock where
  | map (contents : MapBlock)
  | data (bytes : List Byte)
  deriving DecidableEq, Repr

/-- The media store behind the store port: the size it last reported, the size the part took from it (0 while
the part uses no store, R1), and its blocks. A block that is not listed holds zero bytes. -/
structure Store where
  reported : Nat
  size : Nat
  blocks : Table StoreBlock
  deriving DecidableEq, Repr

/-- A run of store blocks. -/
structure Run where
  first : Nat
  length : Nat
  deriving DecidableEq, Repr

/-- Kinds of sweep (R14). -/
inductive SweepKind where
  | startup | requested
  deriving DecidableEq, Repr

/-- A sweep in progress (R14): the tracks still to read, the one being read first; the map blocks read; and the
extents read so far, per track. -/
structure Sweep where
  kind : SweepKind
  toRead : List Nat
  read : Nat
  taken : Table (List Extent)
  deriving DecidableEq, Repr

/-- The free-space unit (R11): the free-extent list, the stranded count and the sweep in progress. -/
structure FreeSpace where
  list : List Run
  stranded : Nat
  sweep : Option Sweep
  deriving DecidableEq, Repr

/-! ## Ingest (R21 to R40) -/

inductive EngineState where
  | idle | opened | closing
  deriving DecidableEq, Repr

inductive WriteMode where
  | steal | run
  deriving DecidableEq, Repr

/-- Modes of a busy track slot (R21). -/
inductive SlotMode where
  | filling | held | damaged
  deriving DecidableEq, Repr

/-- A busy track slot (R21). -/
structure TrackSlot where
  number : Nat
  mode : SlotMode
  track : Nat
  length : Nat
  next : Nat
  deriving DecidableEq, Repr

/-- A gather (R21, R34): consecutive blocks of one track within one extent. -/
structure Gather where
  track : Nat
  block : Nat
  store : Nat
  blocks : List (List Byte)
  room : Nat
  deriving DecidableEq, Repr

/-- The one store write of the ingest writer that waits for its grant or is in progress (R34): a track's map
block (R2), with the reply of an INGEST ABORT that waits for the entry write its completion queues (R24); or a closed
gather, `dropped` when its outcome is disregarded (R24, R32). -/
inductive IngestWrite where
  | map (block : MapBlock) (reply : Option Reply)
  | data (gather : Gather) (dropped : Bool)
  deriving DecidableEq, Repr

/-- Refusal kinds of segments (R26), in its order. -/
inductive SegmentRefusal where
  | foreign | malformed | check | noTrack | noSlot | noId | late | stale | beyond
  deriving DecidableEq, Repr

/-- The package counters (R21). `refused` has one count for each refusal kind, in the order of R26. -/
structure PackageCounters where
  written : Nat
  duplicates : Nat
  dropped : Nat
  refused : List Nat
  ready : Nat
  damaged : Nat
  held : Nat
  noEntry : Nat
  deriving DecidableEq, Repr

/-- A close report (R39). -/
structure CloseReport where
  package : Nat
  aborted : Bool
  counters : PackageCounters
  resolvedReady : Nat
  resolvedIncomplete : Nat
  deriving DecidableEq, Repr

/-- The ingest engine (R21). `idleCycles` counts the reference clock since the last segment was taken while a
gather is open (R34). `resolved` counts the compositions the closing package resolved, READY and INCOMPLETE,
while the close waits for room (R23). -/
structure Ingest where
  state : EngineState
  package : Option (Nat × WriteMode)
  slots : List (Option TrackSlot)
  received : Option Segment
  gather : Option Gather
  writing : Option IngestWrite
  counters : PackageCounters
  idleForeign : Nat
  report : Option CloseReport
  idleCycles : Nat
  resolved : Nat × Nat
  deriving DecidableEq, Repr

/-! ## Store arbiter and window cache (R41 to R57) -/

/-- The six clients of the store port, highest priority first (R42). -/
inductive Client where
  | picture | sound | windowFill | subtitle | ingest | sweep
  deriving DecidableEq, Repr

/-- A store request (R43), with the track id where the client has given one (R46). Each of the six clients gives it (DESIGN
CHOICE, assumption 26). -/
structure StoreRequest where
  client : Client
  writes : Bool
  first : Nat
  count : Nat
  track : Option Nat
  deriving DecidableEq, Repr

/-- The current transfer (R43): its request, whether its attempt is RETRY, and whether its client disregards
its outcome (R44). -/
structure Transfer where
  request : StoreRequest
  retry : Bool
  dropped : Bool
  deriving DecidableEq, Repr

/-- The store arbiter (R43, R46): the port is BUSY while there is a current transfer. `held` is the next request of
the client that disregards the current transfer: it is made when that transfer's completion is reported (R42). -/
structure Arbiter where
  current : Option Transfer
  waiting : List StoreRequest
  held : Option StoreRequest
  retries : Nat
  faults : Nat
  deriving DecidableEq, Repr

/-- The three readers that use the window cache (R50), in order of priority. -/
inductive Reader where
  | picture | sound | subtitle
  deriving DecidableEq, Repr

/-- A valid entry of the window cache (R49). -/
structure CacheEntry where
  track : Nat
  index : Nat
  block : Nat
  count : Nat
  store : Nat
  kind : TrackKind
  key : Option Nat
  deriving DecidableEq, Repr

/-- Who attached a question to a fill (R52): a reader's lookup, a reader's preparation, or a preparation of the
sequencer on a reader's behalf. -/
inductive AskKind where
  | lookup | readerPreparation | sequencerPreparation
  deriving DecidableEq, Repr

/-- A lookup or preparation attached to a fill (R52); not `live` once it has been withdrawn (R56). -/
structure Ask where
  reader : Reader
  kind : AskKind
  block : Nat
  live : Bool
  deriving DecidableEq, Repr

/-- A fill (R52, R55). -/
structure Fill where
  track : Nat
  running : Bool
  stale : Bool
  asks : List Ask
  deriving DecidableEq, Repr

/-- The window cache (R49, R57): valid entries under their numbers 0 to 7, the use order, the fills in the order
they were made, and the counts; `ranges` has one count for each cause STATE, LENGTH, KIND, MAP. -/
structure Cache where
  entries : Table CacheEntry
  order : List Nat
  fills : List Fill
  hits : Nat
  misses : Nat
  reads : Nat
  replaced : Nat
  ranges : List Nat
  deriving DecidableEq, Repr

/-! ## Key unit (R58 to R79) -/

/-- The states of a requester (R68, R132). -/
inductive Requester where
  | idle | pending | checking
  deriving DecidableEq, Repr

/-- The key unit. `checkTime` and `checkNext` are the running window check's time and the next slot it judges
(R70). `counted` is the counted mark of R76. -/
structure Keys where
  clock : Nat
  budget : Budget
  grants : Table Grant
  interval : Nat
  counter : Nat
  requester : Requester
  followOn : Bool
  checkTime : Nat
  checkNext : Nat
  prepared : Option Nat
  bound : Option Nat
  counted : Bool
  deriving DecidableEq, Repr

/-! ## Show sequencer (R80 to R109) -/

/-- A position: a list and an entry number (R87). -/
structure Pos where
  list : Nat
  entry : Nat
  deriving DecidableEq, Repr

/-- A PLAY that has passed its checks: its position, its composition as the sequencer hands it on (R88), its
reel range and its played range (R82), and its cue records. -/
structure Play where
  pos : Pos
  id : Nat
  composition : Composition
  firstReel : Nat
  lastReel : Nat
  firstFrame : Nat
  lastFrame : Nat
  cues : List CueRecord
  deriving DecidableEq, Repr

/-- The current showing: its PLAY, its log record, its resolved cues in order, the next cue to load into compare
unit 0, the frame and reel at which it is to end (R105), whether a revocation moved its end, and the frames
presented and repeated (R92). -/
structure Showing where
  play : Play
  record : Nat
  cues : List (Nat × CueAction)
  nextCue : Nat
  endFrame : Nat
  endReel : Nat
  revoked : Bool
  presented : Nat
  repeated : Nat
  deriving DecidableEq, Repr

/-- The current entry (R87). A BLACK that has become current between two ticks has not `begun`: the next tick is
its takeover tick (R97). -/
inductive Current where
  | none
  | play (showing : Showing)
  | black (frames : Nat) (begun : Bool)
  | wait
  deriving DecidableEq, Repr

/-- Why a PLAY is skipped (R88), in its order. -/
inductive SkipReason where
  | notReady | range | noGrant | unpaired
  deriving DecidableEq, Repr

/-- The prepared entry (R87, R95). -/
inductive Prepared where
  | play (play : Play)
  | black (pos : Pos) (frames : Nat)
  | wait (pos : Pos) (timeout : Option Nat)
  | showEnd
  | walkLimit (pos : Pos)
  deriving DecidableEq, Repr

/-- A step of a walk (R89), as lookahead records it. -/
inductive PathStep where
  | setLines (pos : Pos) (mask values : BitVec 16)
  | push (pos : Pos) (list : Nat)
  | nestSkip (pos : Pos) (list : Nat)
  | pop (pos : Pos)
  | skip (pos : Pos) (composition : Nat) (reason : SkipReason)
  deriving DecidableEq, Repr

/-- The recorded path (R87, R95): the steps in order, and the stack copy they leave. -/
structure RecordedPath where
  steps : List PathStep
  stack : List Pos
  deriving DecidableEq, Repr

inductive SeqState where
  | idle | armed | preroll | running | paused | waiting | halted
  deriving DecidableEq, Repr

inductive WaitReason where
  | wait | logFull
  deriving DecidableEq, Repr

inductive HaltCause where
  | walkLimit | abortedFault | abortedLink
  deriving DecidableEq, Repr

/-- Outcomes of a show (R103), in its order. -/
inductive ShowOutcome where
  | complete | stopped | pauseLimit | showReset
  deriving DecidableEq, Repr

/-- The staging area of LIST LOAD (R83). -/
structure Staging where
  list : Nat
  part : Nat
  entries : List Entry
  deriving DecidableEq, Repr

/-- The show sequencer (R80, R83, R86, R87). Both timers count reference cycles and are absent while stopped;
`waitLimit` is the WAIT's timeout while its timer runs. `startList` is the list the show was started from. -/
structure Sequencer where
  lists : List (List Entry)
  staging : Option Staging
  stack : List Pos
  state : SeqState
  pos : Option Pos
  current : Current
  prepared : Option Prepared
  path : Option RecordedPath
  waitReason : Option WaitReason
  waitLimit : Option Nat
  waitTimer : Option Nat
  pauseTimer : Option Nat
  pauseLimit : Nat
  halt : Option HaltCause
  startList : Nat
  deriving DecidableEq, Repr

/-! ## Timeline (R110 to R123) -/

/-- Selected edge of the frame sync (R110). -/
inductive Edge where
  | rising | falling | both
  deriving DecidableEq, Repr

/-- States of the frame clock. -/
inductive ClockState where
  | free | acquiring | locked | coasting
  deriving DecidableEq, Repr

/-- A target of a compare unit (R118). -/
structure Target where
  frame : Nat
  tag : Nat
  deriving DecidableEq, Repr

/-- A compare unit (R118). -/
structure CompareUnit where
  armed : Option Target
  pending : Option Target
  deriving DecidableEq, Repr

/-- The timecode (R116). -/
structure Timecode where
  hours : Nat
  minutes : Nat
  seconds : Nat
  frames : Nat
  deriving DecidableEq, Repr

/-- A capture (R121); `line` is absent when the source is MARK. -/
structure Capture where
  line : Option Nat
  composition : Option Nat
  reel : Nat
  reelFrame : Nat
  frame : Nat
  timecode : Timecode
  time : Nat
  deriving DecidableEq, Repr

/-- The timeline. `source` is the selected edge, absent for INTERNAL; `acquiring` counts the generator ticks in
ACQUIRING and `coasting` those since the loss (R112, R113); `count` is the generator's count (R111). -/
structure Timeline where
  source : Option Edge
  clock : ClockState
  acquiring : Nat
  coasting : Nat
  count : Nat
  rate : Nat
  edges : Nat
  generated : Nat
  losses : Nat
  frame : Nat
  reel : Nat
  reelFrame : Nat
  timecode : Timecode
  black : Nat
  starts : List Nat
  units : List CompareUnit
  captures : List Capture
  dropped : Nat
  deriving DecidableEq, Repr

/-! ## Caption records (R155, R164) -/

/-- A subtitle cue as its record gives it (R155). -/
structure Cue where
  number : Nat
  inTime : Nat
  outTime : Nat
  bottom : Bool
  offset : Nat
  italic : Bool
  bold : Bool
  lines : List (List Byte)
  deriving DecidableEq, Repr

/-- Reasons of a CLEAR record (R163, R164). -/
inductive ClearReason where
  | out | displaced | reelEnd | ended | route
  deriving DecidableEq, Repr

/-- A SHOW or CLEAR record (R164). -/
inductive CaptionRecord where
  | present (stream composition reel : Nat) (cue : Cue)
  | clear (stream number : Nat) (reason : ClearReason)
  deriving DecidableEq, Repr

/-! ## Picture path (R124 to R137) -/

/-- Condition of a place of the frame queue (R124). -/
inductive PlaceCondition where
  | filling | complete | missing
  deriving DecidableEq, Repr

/-- A place of the frame queue (R124): whether it belongs to the prepared PLAY, its composition frame, its
condition, and the blocks of the frame, unscrambled, which a COMPLETE place holds. -/
structure Place where
  prepared : Bool
  frame : Nat
  condition : PlaceCondition
  blocks : List (List Byte)
  deriving DecidableEq, Repr

/-- The frame the picture reader is reading (R45): its track, the next track block to look up and the first one
after the frame, the pieces found (store block and length), the transfers left, the one asked for first, and the
blocks that have arrived, unscrambled as they came (R125). -/
structure FrameJob where
  prepared : Bool
  track : Nat
  next : Nat
  stop : Nat
  pieces : List Run
  transfers : List Run
  blocks : List (List Byte)
  deriving DecidableEq, Repr

/-- A frame as the picture link carries it: its composition frame and its blocks. -/
structure Picture where
  frame : Nat
  blocks : List (List Byte)
  deriving DecidableEq, Repr

/-- A send of the picture link (R129): a frame of the showing with that log record, black, or a challenge. -/
inductive Send where
  | frame (record : Nat) (picture : Picture)
  | black
  | challenge (number : Nat)
  deriving DecidableEq, Repr

/-- States of the projector link (R131). -/
inductive LinkState where
  | unknown | paired | suspect | unpaired
  deriving DecidableEq, Repr

/-- The frame side of the picture path (R124 to R129). `nextCurrent` and `nextPrepared` are the next frames the
reader will begin for the two PLAYs; `last` is the copy of the last frame sent, `carried` the frame of the current
showing that the link last carried to completion, and `travelling` holds the overlay records that left with the send
in flight (R164). `repeats` has one count for each cause MISSING, LATE, EMPTY. -/
structure FrameSide where
  places : List Place
  job : Option FrameJob
  nextCurrent : Nat
  nextPrepared : Nat
  keyCurrent : Option Nat
  keyPrepared : Option Nat
  last : Option Picture
  carried : Option Picture
  consecutive : Nat
  repeats : List Nat
  sending : Option Send
  waiting : Option Send
  travelling : List CaptionRecord
  overtaken : Nat
  deriving DecidableEq, Repr

/-- The link side of the picture path (R130 to R134). `answerTimer` and `counter` count reference cycles. -/
structure LinkSide where
  paired : Option Nat
  state : LinkState
  requester : Requester
  retry : Bool
  challenge : Nat
  answerTimer : Option Nat
  interval : Nat
  counter : Nat
  begun : Nat
  answersPaired : Nat
  answersOther : Nat
  timeouts : Nat
  strays : Nat
  deriving DecidableEq, Repr

/-! ## Sound (R138 to R153) -/

/-- A position of a portion (R139, R140). -/
inductive Cell where
  | silence
  | lost
  | awaited (reel sample : Nat)
  | present (reel : Nat) (samples : List Int)
  deriving DecidableEq, Repr

/-- A portion of the sound buffer (R140). -/
structure Portion where
  prepared : Bool
  frame : Nat
  cells : List Cell
  deriving DecidableEq, Repr

/-- What the sound reader waits for (R141): the answer of a lookup (`count` 0), or a transfer of `count` blocks,
of a track from a track block. -/
structure SoundJob where
  track : Nat
  block : Nat
  count : Nat
  deriving DecidableEq, Repr

/-- The read run (R141). -/
structure ReadRun where
  track : Nat
  block : Nat
  blocks : List (List Byte)
  deriving DecidableEq, Repr

/-- A sound map (R147). -/
structure SoundMap where
  code : Nat
  routes : List Route
  deriving DecidableEq, Repr

/-- A route set (R148) of one reel; `identity` when no map had the track's layout code. -/
structure RouteSet where
  reel : Nat
  code : Nat
  identity : Bool
  channels : Nat
  routes : List Route
  deriving DecidableEq, Repr

/-- A fade (R149, R150). -/
structure Fade where
  start : Nat
  target : Nat
  length : Nat
  taken : Nat
  deriving DecidableEq, Repr

/-- Why the outputs are muted (R151, R153), in the order of R153. -/
inductive MuteReason where
  | sequencer | interlock
  deriving DecidableEq, Repr

/-- The sound renderer. `outputs` are the values the serial outputs carry in the frame period begun by the last
tick, for each sample frame the 24 outputs (R145); empty where every output carries 0. `mute` is the mute of that
frame period, as it was judged at its tick or at an event that mutes at once (R151). `underruns` has one count for
each cause FAULT, LATE, EMPTY. -/
structure Sound where
  portions : List Portion
  job : Option SoundJob
  nextCurrent : Nat
  nextPrepared : Nat
  run : Option ReadRun
  maps : Table SoundMap
  routesCurrent : List RouteSet
  routesPrepared : List RouteSet
  fader : Nat
  fade : Option Fade
  trimCurrent : Int
  trimNext : Int
  trimPrepared : Int
  outputs : List (List Int)
  mute : Option MuteReason
  underruns : List Nat
  clips : Nat
  deriving DecidableEq, Repr

/-! ## Subtitles (R154 to R168) -/

inductive StreamRoute where
  | off | overlay | seats | both
  deriving DecidableEq, Repr

/-- A cue of the live bank after conversion (R159). -/
structure TimedCue where
  cue : Cue
  inFrame : Nat
  outFrame : Nat
  deriving DecidableEq, Repr

inductive BankState where
  | free | loading | loaded
  deriving DecidableEq, Repr

/-- A cue bank (R156, R157): the PLAY and reel it belongs to, the cues kept, their text bytes, whether it is
closed, and the records dropped for FORM, ORDER and CAPACITY. -/
structure Bank where
  state : BankState
  prepared : Bool
  reel : Nat
  cues : List Cue
  text : Nat
  closed : Bool
  form : Nat
  order : Nat
  capacity : Nat
  deriving DecidableEq, Repr

/-- A cue on display (R162). -/
structure Shown where
  tag : Nat
  timed : TimedCue
  deriving DecidableEq, Repr

/-- A subtitle stream (R154 to R162): its route and offsets, its two banks, the live one, the live bank's cues
after conversion, the next cue, and its two display slots. -/
structure Stream where
  route : StreamRoute
  current : Int
  next : Int
  banks : List Bank
  live : Option Nat
  timed : Option (List TimedCue)
  nextCue : Nat
  slots : List (Option Shown)
  deriving DecidableEq, Repr

/-- The subtitle loader at work on a bank (R158): the stream and bank, the track, the next track block to read,
the blocks of the list, the list bytes still to be read from the store, the bytes read but not yet taken as
records, whether the list has ended before its last byte (R155), and the blocks of the transfer asked for
(0 while a lookup waits). -/
structure Loader where
  stream : Nat
  bank : Nat
  track : Nat
  block : Nat
  total : Nat
  left : Nat
  buffer : List Byte
  ended : Bool
  count : Nat
  deriving DecidableEq, Repr

/-- The subtitle engine. `drops` has one count for each cause FORM, ORDER, CAPACITY, RANGE, LATE, FAULT; `sent`
and `cancelled` have one for the overlay and one for the seat link (R165). -/
structure Subtitles where
  streams : List Stream
  loader : Option Loader
  overlay : List CaptionRecord
  seats : List CaptionRecord
  transmitting : Option CaptionRecord
  drops : List Nat
  displaced : Nat
  sent : List Nat
  cancelled : List Nat
  lost : Nat
  deriving DecidableEq, Repr

/-! ## Show log (R169 to R177) -/

/-- The show log: the records held, oldest first; the unwritten list; the records whose last queued write has
not completed (R172); and the reply of a LOG RELEASE that waits for its record's write to be queued (R175). -/
structure ShowLog where
  records : List LogRecord
  unwritten : List Nat
  uncompleted : List Nat
  release : Option (Nat × Reply)
  deriving DecidableEq, Repr

/-! ## Automation lines (R178 to R187) -/

inductive LineCondition where
  | rise | fall | both | low | high
  deriving DecidableEq, Repr

inductive LineFunction where
  | none | notice | go | mark | pause | interlock
  deriving DecidableEq, Repr

/-- An automation line (R178). Levels are HIGH when true. `wire` is the level the booth wiring gives the pin.
`timer` is the debounce timer: its candidate level and the reference cycles it has run. -/
structure Line where
  output : Bool
  idle : Bool
  safe : Bool
  condition : LineCondition
  debounce : Nat
  function : LineFunction
  latch : Bool
  pulse : Option Nat
  level : Bool
  timer : Option (Bool × Nat)
  holding : Bool
  onsets : Nat
  wire : Bool
  deriving DecidableEq, Repr

/-! ## Control port and notice unit (R188 to R197) -/

/-- How far an outstanding request is (R189): not yet taken by its owner, taken and waiting, or answered. -/
inductive SlotPhase where
  | deferred (command : Instr)
  | waiting
  | answered
  deriving DecidableEq, Repr

/-- A slot of the control port (R189). -/
structure RequestSlot where
  tag : Byte
  kind : Nat
  phase : SlotPhase
  deriving DecidableEq, Repr

/-- The latest record of a cause (R194). -/
structure NoticeRecord where
  time : Nat
  composition : Option Nat
  frame : Nat
  detail : List Byte
  deriving DecidableEq, Repr

/-- A notice frame as it was built when its send began (R195). -/
structure NoticeFrame where
  cause : Nat
  count : Nat
  record : NoticeRecord
  deriving DecidableEq, Repr

/-- The frame the outgoing direction sends (R191). -/
inductive OutFrame where
  | reply (value : Reply)
  | notice (value : NoticeFrame)
  deriving DecidableEq, Repr

/-- The control port (R188, R189, R191, R193). `inFrame` says that the receiver is IN FRAME, and otherwise HUNTING; `held`
are the bytes received after the marker of the frame in reception, and `gapCycles` the cycles of the reference clock since
the last byte of it; `discards` has one count for each cause LENGTH, CHECK, GAP; `taking` is false once RESET FULL has been
taken. -/
structure ControlPort where
  inFrame : Bool
  held : List Byte
  gapCycles : Nat
  discards : List Nat
  taking : Bool
  slots : List RequestSlot
  replies : List Reply
  sending : Option OutFrame
  unanswered : Nat
  deriving DecidableEq, Repr

/-- A notice cause (R194). -/
structure Cause where
  pending : Bool
  enabled : Bool
  sent : Bool
  count : Nat
  latest : Option NoticeRecord
  deriving DecidableEq, Repr

/-- The notice unit (R194): the 52 causes, the levels of the eight groups and the mask. -/
structure Notices where
  causes : List Cause
  levels : List Nat
  mask : Nat
  deriving DecidableEq, Repr

/-! ## The state -/

/-- The whole state of the part, the store behind its store port, and the queue of commands that wait. -/
structure State where
  /-- the commands waiting, first in, first out -/
  pending : List Instr
  /-- start-up is in progress (R16) -/
  startUp : Bool
  store : Store
  nvm : Nvm
  catalogue : Catalogue
  queue : WriteQueue
  free : FreeSpace
  ingest : Ingest
  arbiter : Arbiter
  cache : Cache
  keys : Keys
  seq : Sequencer
  time : Timeline
  frames : FrameSide
  link : LinkSide
  sound : Sound
  subs : Subtitles
  log : ShowLog
  lines : List Line
  port : ControlPort
  notices : Notices
  /-- the MODEL's own field: how many free values of `Config` have been used -/
  freeUses : Nat
  deriving DecidableEq, Repr

/-- No command of this part ends in a fault: every event the manual describes leaves a next state. -/
inductive Fault where
  deriving DecidableEq, Repr

/-- Why the model gives a command no meaning. Safe: nothing is claimed of such a step. -/
inductive Refusal where
  /-- raised by an arm of `exec` whose command has no meaning yet -/
  | notModelled (mnemonic : String)
  deriving DecidableEq, Repr

/-- What a step of the part answers. -/
abbrev Result := Host.Outcome State Fault Refusal

/-! ## Reset -/

def Bank.free : Bank :=
  { state := .free, prepared := false, reel := 0, cues := [], text := 0, closed := false, form := 0, order := 0,
    capacity := 0 }

def Stream.reset : Stream :=
  { route := .off, current := 0, next := 0, banks := [Bank.free, Bank.free], live := none, timed := none,
    nextCue := 0, slots := [none, none] }

def Line.reset (wire : Bool) : Line :=
  { output := false, idle := false, safe := false, condition := .rise, debounce := 0, function := .none,
    latch := false, pulse := none, level := wire, timer := none, holding := false, onsets := 0, wire := wire }

def Cause.clear (enabled : Bool) : Cause :=
  { pending := false, enabled := enabled, sent := false, count := 0, latest := none }

def PackageCounters.zero : PackageCounters :=
  { written := 0, duplicates := 0, dropped := 0, refused := List.replicate 9 0, ready := 0, damaged := 0, held := 0,
    noEntry := 0 }

/-- Nonvolatile memory that has never been written (R59, R130, R170). -/
def Nvm.blank : Nvm :=
  { tracks := [], compositions := [], grants := [], log := [], budget := { start := 0, used := 0 }, paired := none }

def Ingest.reset : Ingest :=
  { state := .idle, package := none, slots := [none, none, none, none], received := none, gather := none,
    writing := none, counters := PackageCounters.zero, idleForeign := 0, report := none, idleCycles := 0,
    resolved := (0, 0) }

def Cache.reset : Cache :=
  { entries := [], order := [], fills := [], hits := 0, misses := 0, reads := 0, replaced := 0,
    ranges := [0, 0, 0, 0] }

def Keys.reset : Keys :=
  { clock := 0, budget := { start := 0, used := 0 }, grants := [], interval := 60, counter := 0,
    requester := .pending, followOn := false, checkTime := 0, checkNext := 0, prepared := none, bound := none,
    counted := false }

def Sequencer.reset : Sequencer :=
  { lists := List.replicate 16 [], staging := none, stack := [], state := .idle, pos := none, current := .none,
    prepared := none, path := none, waitReason := none, waitLimit := none, waitTimer := none, pauseTimer := none,
    pauseLimit := 600, halt := none, startList := 0 }

def CompareUnit.empty : CompareUnit := { armed := none, pending := none }

def Timeline.reset : Timeline :=
  { source := none, clock := .free, acquiring := 0, coasting := 0, count := 0, rate := 24, edges := 0,
    generated := 0, losses := 0, frame := 0, reel := 1, reelFrame := 0,
    timecode := { hours := 0, minutes := 0, seconds := 0, frames := 0 }, black := 0, starts := [],
    units := List.replicate 6 CompareUnit.empty, captures := [], dropped := 0 }

def FrameSide.reset : FrameSide :=
  { places := [], job := none, nextCurrent := 0, nextPrepared := 0, keyCurrent := none, keyPrepared := none,
    last := none, carried := none, consecutive := 0, repeats := [0, 0, 0], sending := none, waiting := none,
    travelling := [], overtaken := 0 }

def LinkSide.reset : LinkSide :=
  { paired := none, state := .unknown, requester := .pending, retry := false, challenge := 0, answerTimer := none,
    interval := 30, counter := 0, begun := 0, answersPaired := 0, answersOther := 0, timeouts := 0, strays := 0 }

def Sound.reset : Sound :=
  { portions := [], job := none, nextCurrent := 0, nextPrepared := 0, run := none, maps := [], routesCurrent := [],
    routesPrepared := [], fader := 4096, fade := none, trimCurrent := 0, trimNext := 0, trimPrepared := 0,
    outputs := [], mute := some .sequencer, underruns := [0, 0, 0], clips := 0 }

def Subtitles.reset : Subtitles :=
  { streams := List.replicate 4 Stream.reset, loader := none, overlay := [], seats := [], transmitting := none,
    drops := [0, 0, 0, 0, 0, 0], displaced := 0, sent := [0, 0], cancelled := [0, 0], lost := 0 }

def ControlPort.reset : ControlPort :=
  { inFrame := false, held := [], gapCycles := 0, discards := [0, 0, 0], taking := true, slots := [], replies := [], sending := none,
    unanswered := 0 }

/-- Group levels at a full reset: the default levels of the table of causes. -/
def Notices.reset : Notices :=
  { causes := List.replicate 52 (Cause.clear true), levels := [7, 5, 4, 4, 3, 2, 6, 1], mask := 0 }

/-- The part as power comes up with nonvolatile memory never written: every unit at the value its chapter gives
for a full reset, start-up in progress, and the store's size not yet reported (R1). The command FULL_RESET brings
the size and takes the part through the start of start-up. Values the manual does not give: the booth clock 0 and
the levels of the booth wiring LOW (DESIGN CHOICE). -/
def State.reset : State :=
  { pending := [], startUp := true, store := { reported := 0, size := 0, blocks := [] }, nvm := Nvm.blank,
    catalogue := { tracks := [], extents := [], compositions := [], awaiting := [] },
    queue := { writes := [], waiters := [], faults := 0 }, free := { list := [], stranded := 0, sweep := none },
    ingest := Ingest.reset, arbiter := { current := none, waiting := [], held := none, retries := 0, faults := 0 },
    cache := Cache.reset, keys := Keys.reset, seq := Sequencer.reset, time := Timeline.reset,
    frames := FrameSide.reset, link := LinkSide.reset, sound := Sound.reset, subs := Subtitles.reset,
    log := { records := [], unwritten := [], uncompleted := [], release := none },
    lines := List.replicate 16 (Line.reset false), port := ControlPort.reset, notices := Notices.reset,
    freeUses := 0 }

end Machine
end Sys2Proof
end

