-- ==== Sys2Proof/Machine/Tables.lean ====
section
/-!
DEFINITION. Finite tables with rising keys, and the few list operations the units share.
-/
namespace Sys2Proof

variable {α : Type}

/-- The value under a key. -/
def Table.find : Table α → Nat → Option α
  | [], _ => none
  | (j, x) :: rest, k => if j = k then some x else Table.find rest k

/-- The table with `x` under key `k`. -/
def Table.put : Table α → Nat → α → Table α
  | [], k, x => [(k, x)]
  | (j, y) :: rest, k, x =>
    if k < j then (k, x) :: (j, y) :: rest
    else if j = k then (k, x) :: rest
    else (j, y) :: Table.put rest k x

/-- The table without key `k`. -/
def Table.erase : Table α → Nat → Table α
  | [], _ => []
  | (j, y) :: rest, k => if j = k then Table.erase rest k else (j, y) :: Table.erase rest k

/-- The table with `x` under `k`, or without `k` when there is no `x`. -/
def Table.set (t : Table α) (k : Nat) : Option α → Table α
  | some x => t.put k x
  | none => t.erase k

/-- Keys rise strictly: the one form in which a table is kept. -/
def Table.rising : Table α → Bool
  | [] => true
  | [_] => true
  | (j, _) :: (k, y) :: rest => decide (j < k) && Table.rising ((k, y) :: rest)

/-- The lowest number below `bound` that is no key. -/
def Table.lowestFree (t : Table α) (bound : Nat) : Option Nat :=
  (List.range bound).find? fun k => (t.find k).isNone

/-- The list with its element `n` changed by `f`. -/
def updateAt (f : α → α) : List α → Nat → List α
  | [], _ => []
  | x :: xs, 0 => f x :: xs
  | x :: xs, n + 1 => x :: updateAt f xs n

/-- The list with its element `n` replaced. -/
def replaceAt (l : List α) (n : Nat) (x : α) : List α := updateAt (fun _ => x) l n

/-- One 32-bit saturating count of a list of counts raised by 1. -/
def bumpAt (l : List Nat) (n : Nat) : List Nat := updateAt (bump max32) l n

/-- One 32-bit saturating count of a list of counts raised by `k`. -/
def addAt (l : List Nat) (n k : Nat) : List Nat := updateAt (fun c => min max32 (c + k)) l n

/-- The sum of a list of counts. -/
def total (l : List Nat) : Nat := l.foldl (· + ·) 0

end Sys2Proof
end

