-- ==== Sys2Proof/Machine/Layout.lean ====
section
/-!
DEFINITION. The byte layouts of R198: the general rule for fields, and the codes of the named values. A set of
named values is coded by the place of the value in the first list of the set in the manual, unless the last
chapter numbers it.
-/
namespace Sys2Proof
namespace Machine
namespace Layout

/-- `n` in `k` little-endian bytes. -/
def num : Nat → Nat → List Byte
  | 0, _ => []
  | k + 1, n => BitVec.ofNat 8 n :: num k (n / 256)

/-- An integer in `k` little-endian bytes of two's complement. -/
def int (k : Nat) (i : Int) : List Byte := num k (i % (256 ^ k : Nat)).toNat

/-- The number that little-endian bytes hold. -/
def value : List Byte → Nat
  | [] => 0
  | b :: bs => b.toNat + 256 * value bs

/-- The integer that `k` little-endian bytes hold in two's complement. -/
def signed (k : Nat) (bytes : List Byte) : Int :=
  let n := value bytes
  if 2 * n < 256 ^ k then (n : Int) else (n : Int) - (256 ^ k : Nat)

/-- A yes-or-no field. -/
def flag (b : Bool) : List Byte := if b then [1#8] else [0#8]

/-- A field that may be absent: a presence byte, then the field when present. -/
def opt {α : Type} (f : α → List Byte) : Option α → List Byte
  | some x => 1#8 :: f x
  | none => [0#8]

/-- A field that repeats: its count in `k` bytes, then the members. -/
def rep {α : Type} (k : Nat) (f : α → List Byte) (l : List α) : List Byte :=
  num k l.length ++ l.flatMap f

/-- A set of flags, one for each member of a numbered set, in as many flag bytes as the members need. -/
def flags (members : List Bool) : List Byte :=
  num ((members.length + 7) / 8) (members.foldr (fun b n => (if b then 1 else 0) + 2 * n) 0)

/-- A text field of a given size: longer text is cut, shorter text is filled with zero bytes. -/
def text (k : Nat) (bytes : List Byte) : List Byte := bytes.take k ++ List.replicate (k - bytes.length) 0#8

/-- A named value by its code. -/
def code (n : Nat) : List Byte := num 1 n

end Layout

open Layout

/-! ### Codes of the named values -/

def TrackKind.code : TrackKind → Nat
  | .picture => 0 | .sound => 1 | .subtitle => 2 | .description => 3

def TrackStatus.code : TrackStatus → Nat
  | .filling => 1 | .ready => 2 | .damaged _ => 3

def DamageReason.code : DamageReason → Nat
  | .check => 0 | .gap => 1 | .storeFull => 2 | .storeFault => 3 | .interrupted => 4

def IncompleteReason.code : IncompleteReason → Nat
  | .missing => 0 | .kind => 1 | .rate => 2 | .short => 3 | .keyMixed => 4 | .damaged => 5

def GrantState.code : GrantState → Nat
  | .pending => 0 | .active => 1 | .spent => 2 | .expired => 3 | .revoked => 4

/-- The last chapter numbers the outcomes of a showing in the log record body. -/
def ShowingOutcome.code : ShowingOutcome → Nat
  | .complete => 1 | .stopped => 2 | .revoked => 3 | .abortedLink => 4 | .abortedFault => 5 | .interrupted => 6

def Status.code : Status → Nat
  | .ok => 0 | .clamped => 1 | .refused => 2 | .busy => 3 | .starting => 4 | .unknown => 5 | .malformed => 6
  | .duplicateTag => 7

def Reason.code : Reason → Nat
  | .wrongState => 1 | .notFound => 2 | .inUse => 3 | .referenced => 4 | .tableFull => 5 | .logFull => 6
  | .interlock => 7 | .overlayFull => 8 | .badGrant => 9 | .keyConflict => 10 | .outOfRange => 11

def SweepKind.code : SweepKind → Nat
  | .startup => 0 | .requested => 1

def EngineState.code : EngineState → Nat
  | .idle => 0 | .opened => 1 | .closing => 2

def WriteMode.code : WriteMode → Nat
  | .steal => 0 | .run => 1

def SlotMode.code : SlotMode → Nat
  | .filling => 0 | .held => 1 | .damaged => 2

def Client.code : Client → Nat
  | .picture => 0 | .sound => 1 | .windowFill => 2 | .subtitle => 3 | .ingest => 4 | .sweep => 5

def Reader.code : Reader → Nat
  | .picture => 0 | .sound => 1 | .subtitle => 2

def Requester.code : Requester → Nat
  | .idle => 0 | .pending => 1 | .checking => 2

def SkipReason.code : SkipReason → Nat
  | .notReady => 0 | .range => 1 | .noGrant => 2 | .unpaired => 3

def SeqState.code : SeqState → Nat
  | .idle => 0 | .armed => 1 | .preroll => 2 | .running => 3 | .paused => 4 | .waiting => 5 | .halted => 6

def WaitReason.code : WaitReason → Nat
  | .wait => 0 | .logFull => 1

def HaltCause.code : HaltCause → Nat
  | .walkLimit => 0 | .abortedFault => 1 | .abortedLink => 2

def ShowOutcome.code : ShowOutcome → Nat
  | .complete => 0 | .stopped => 1 | .pauseLimit => 2 | .showReset => 3

def Edge.code : Edge → Nat
  | .rising => 0 | .falling => 1 | .both => 2

def ClockState.code : ClockState → Nat
  | .free => 0 | .acquiring => 1 | .locked => 2 | .coasting => 3

def PlaceCondition.code : PlaceCondition → Nat
  | .filling => 0 | .complete => 1 | .missing => 2

def LinkState.code : LinkState → Nat
  | .unknown => 0 | .paired => 1 | .suspect => 2 | .unpaired => 3

def Send.code : Send → Nat
  | .frame _ _ => 0 | .black => 1 | .challenge _ => 2

def StreamRoute.code : StreamRoute → Nat
  | .off => 0 | .overlay => 1 | .seats => 2 | .both => 3

def BankState.code : BankState → Nat
  | .free => 0 | .loading => 1 | .loaded => 2

def MuteReason.code : MuteReason → Nat
  | .sequencer => 0 | .interlock => 1

def ClearReason.code : ClearReason → Nat
  | .out => 0 | .displaced => 1 | .reelEnd => 2 | .ended => 3 | .route => 4

def LineCondition.code : LineCondition → Nat
  | .rise => 0 | .fall => 1 | .both => 2 | .low => 3 | .high => 4

def LineFunction.code : LineFunction → Nat
  | .none => 0 | .notice => 1 | .go => 2 | .mark => 3 | .pause => 4 | .interlock => 5

/-- Levels: LOW 0, HIGH 1 (R178). -/
def level (high : Bool) : List Byte := Layout.flag high

end Machine
end Sys2Proof
end

