-- ==== Sys2Proof/Decode.lean ====
section
/-!
DEFINITION. What a word of the table spells, and the commands that control frames and ingest segments spell by the layouts
of R188 and R198. The model's commands enter it decoded; these readers say which bytes stand for which command.
-/
namespace Sys2Proof

open Machine Layout

/-- The command that a word spells by the table's bits. The table gives no row any bits. -/
def decodeTableWord (_nbits _w : Nat) : Option Instr := none

/-- A reader of the bytes of a body. -/
abbrev Parse := StateT (List Byte) Option

namespace Parse

/-- The next `k` bytes. -/
def bytes (k : Nat) : Parse (List Byte) := fun b => if b.length < k then none else some (b.take k, b.drop k)

/-- A number of `k` bytes. -/
def number (k : Nat) : Parse Nat := do return value (← bytes k)

/-- A two's complement number of `k` bytes. -/
def integer (k : Nat) : Parse Int := do return signed k (← bytes k)

/-- A yes-or-no field. -/
def yesNo : Parse Bool := do return (← number 1) != 0

/-- A field that may be absent. -/
def maybe {α : Type} (f : Parse α) : Parse (Option α) := do
  match ← number 1 with
  | 0 => return none
  | 1 => return some (← f)
  | _ => failure

/-- `n` members one after the other. -/
def times {α : Type} (f : Parse α) : Nat → Parse (List α)
  | 0 => return []
  | n + 1 => do
    let x ← f
    return x :: (← times f n)

/-- A field that repeats, its count in one byte. -/
def repeated {α : Type} (f : Parse α) : Parse (List α) := do times f (← number 1)

/-- Sixteen flags, one for each line. -/
def lines : Parse (BitVec 16) := do return BitVec.ofNat 16 (← number 2)

/-- A cue action (R82). -/
def action : Parse CueAction := do
  match ← number 1 with
  | 0 => return .setLines (← lines) (← lines)
  | 1 => return .pulseLine (← number 1) (← number 1)
  | 2 => return .fader (← number 2) (← number 2)
  | 3 => return .notice (← number 2)
  | _ => failure

/-- The base of a cue record (R82). -/
def base : Parse CueBase := do
  match ← number 1 with
  | 0 => return .fromStart
  | 1 => return .fromEnd
  | code => return .other code

/-- A cue record (R82). -/
def cue : Parse CueRecord := do return { offset := ← number 3, base := ← base, action := ← action }

/-- An entry (R81), its kind by the list of the Terms. -/
def entry : Parse Entry := do
  match ← number 1 with
  | 0 => return .play (← number 1) (← maybe (number 1)) (← maybe (number 1)) (← repeated cue)
  | 1 => return .incl (← number 1)
  | 2 => return .wait (← maybe (number 2))
  | 3 => return .setLines (← lines) (← lines)
  | 4 => return .black (← number 2)
  | _ => failure

/-- A route of a sound map (R147). -/
def route : Parse Route := do return { source := ← maybe (number 1), gain := ← number 2 }

/-- The routes of SOUND MAP LOAD, or its remove flag. -/
def routes : Parse (Option (List Route)) := do
  if ← yesNo then return none else return some (← times route 24)

/-- The configuration of LINE SETUP (R179): IN 0, OUT 1. Another direction byte with no byte after it fits, and LINE SETUP
refuses it OUT_OF_RANGE; with bytes after it the body is MALFORMED (DESIGN CHOICE, assumption 29). -/
def lineConfig : Parse LineRequest := do
  match ← number 1 with
  | 0 => return .input (← number 1) (← number 1) (← number 1)
  | 1 => return .output (← number 1) (← number 1)
  | d => return .other d

/-- Fifty-two flags, one for each notice cause. -/
def causes : Parse (BitVec 52) := do return BitVec.ofNat 52 (← number 7)

end Parse

open Parse in
/-- The body of a request, by its kind (R198). -/
def requestBody (kind : Nat) (f : Frame) : Parse Instr :=
  match kind with
  | 1 => do return .trackList f (← number 2) (← maybe (number 1))
  | 2 => do return .trackDelete f (← number 2)
  | 3 => do return .compositionList f (← number 1)
  | 4 => do return .compositionRead f (← number 1)
  | 5 => do return .compositionDelete f (← number 1)
  | 6 => return .storeStatus f
  | 7 => return .storeSweep f
  | 8 => do return .ingestOpen f (← number 4) (← number 1)
  | 9 => return .ingestClose f
  | 10 => return .ingestAbort f
  | 11 => return .ingestStatus f
  | 12 => return .clockRead f
  | 13 => do return .clockTrim f (← integer 4)
  | 14 => do return .grantLoad f (← number 2) (← number 2) (← number 4) (← number 4) (← bytes 48)
  | 15 => return .grantList f
  | 16 => do return .grantRevoke f (← number 1)
  | 17 => do return .grantPurge f (← number 1)
  | 18 => return .grantCheck f
  | 19 => do return .checkInterval f (← number 2)
  | 20 => do return .listLoad f (← number 1) (← number 1) (← yesNo) (← repeated entry)
  | 21 => do return .listRead f (← number 1) (← number 2)
  | 22 => do return .showArm f (← number 1)
  | 23 => return .showStart f
  | 24 => return .pause f
  | 25 => return .resume f
  | 26 => return .go f
  | 27 => return .skip f
  | 28 => return .stop f
  | 29 => do return .pauseLimit f (← number 2)
  | 30 => do return .frameSource f (← number 1) (← maybe (number 1))
  | 31 => return .position f
  | 32 => return .mark f
  | 33 => do return .captureRead f (← number 1)
  | 34 => do return .pair f (← number 4)
  | 35 => return .linkCheck f
  | 36 => do return .linkInterval f (← number 2)
  | 37 => return .pictureStatus f
  | 38 => do return .soundMapLoad f (← number 1) (← routes)
  | 39 => do return .soundMapRead f (← number 1)
  | 40 => do return .faderSet f (← number 2) (← number 2)
  | 41 => do return .lipsyncSet f (← integer 2)
  | 42 => return .soundStatus f
  | 43 => do return .streamSet f (← number 1) (← number 1) (← integer 2)
  | 44 => return .subtitleStatus f
  | 45 => do return .logRead f (← number 4) (← number 1)
  | 46 => do return .logRelease f (← number 4)
  | 47 => do return .lineSetup f (← number 1) (← lineConfig)
  | 48 => do return .lineSet f (← lines) (← lines)
  | 49 => return .lineRead f
  | 50 => return .identify f
  | 51 => return .status f
  | 52 => return .resetFull f
  | 53 => return .resetShow f
  | 54 => do return .noticeSetup f (← causes) (← times (number 1) 7) (← number 1)
  | 55 => do return .noticeClear f (← causes)
  | 56 => return .noticeRead f
  | _ => failure

/-- A body that fits no layout stands for the kind's command with its body marked as not fitting: the fields that a body
of zeros long enough for any layout would give. -/
def unfitting (kind : Nat) (tag : Byte) : Option Instr :=
  ((requestBody kind { tag := tag, fits := false }).run (List.replicate 100 0#8)).map (·.1)

/-- The command of a taken frame (R189, R198). -/
def decodeRequest (kind : Nat) (tag : Byte) (body : List Byte) : Instr :=
  match (requestBody kind { tag := tag }).run body with
  | some (c, []) => c
  | _ => (unfitting kind tag).getD (.unknownRequest kind tag)

/-- The bytes after the first marker A5h among received bytes; none where no marker is among them (R188). -/
def hunt : List Byte → Option (List Byte)
  | [] => none
  | b :: rest => if b = 0xA5#8 then some rest else hunt rest

/-- The bytes of a frame after its marker, by its length bytes: length, kind, tag, body and check (R188). -/
def frameLength (bytes : List Byte) : Nat := value (bytes.take 2) + 6

/-- The command that the bytes after a marker stand for (R188): none while the frame is not whole. -/
def decodeFrame (bytes : List Byte) : Option Instr :=
  if bytes.length < 2 then none
  else
    let n := value (bytes.take 2)
    if 1024 < n then some (.controlFrameDiscarded (.length []))
    else if bytes.length < frameLength bytes then none
    else
      let inner := bytes.take (n + 4)
      let sum := (inner.map (·.toNat)).foldl (· + ·) 0 % 65536
      if value ((bytes.drop (n + 4)).take 2) ≠ sum then some (.controlFrameDiscarded (.check []))
      else some (decodeRequest (value ((bytes.drop 2).take 1)) (bytes.getD 3 0#8) ((bytes.drop 4).take n))

/-- The segment that the bytes of the ingest port stand for (R26, R198): none while it is not whole. The payload comes in
whole words. -/
def decodeSegment (bytes : List Byte) : Option Instr :=
  if bytes.length < 20 then none
  else
    let n := value ((bytes.drop 8).take 4)
    if bytes.length < 20 + (n + 3) / 4 * 4 then none
    else
      some (.segmentTaken
        { package := value (bytes.take 4), index := value ((bytes.drop 4).take 4), length := n,
          check := value ((bytes.drop 12).take 4), track := (bytes.getD 16 0#8).toNat,
          payload := if Config.blockBytes < n then [] else (bytes.drop 20).take n })

end Sys2Proof
end

