-- ==== Sys2Proof/Machine/Flags.lean ====
section
/-!
DEFINITION. The notice unit's flags (R194, R195): the causes and their numbers, raising a cause, when a cause is
due, and which due cause is chosen.
-/
namespace Sys2Proof
namespace Machine

/-- The notice causes, in the order of their numbers. -/
inductive NoticeCause where
  | storeFault | nvmFault | linkUnpaired | interlock | showHalted
  | showStarted | showEnded | showingStarted | showingEnded | showingCounted | entrySkipped | waiting | nestSkipped
  | grantActive | grantExpired | grantSpent | trimClamped
  | pictureUnderrun | soundUnderrun | cueDropped | cueDisplaced | mapMissing | windowRange
  | syncLost | syncRegained | captureTaken | captureOverrun | cueNotice
  | trackReady | trackDamaged | packageClosed | storeLow | blocksStranded | sweepDone
  | logNearFull | logFull
  | lineEvent (line : Nat)
  deriving DecidableEq, Repr

/-- The number of a cause: 0 for STORE_FAULT to 51 for LINE_EVENT_15. -/
def NoticeCause.number : NoticeCause → Nat
  | .storeFault => 0 | .nvmFault => 1 | .linkUnpaired => 2 | .interlock => 3 | .showHalted => 4
  | .showStarted => 5 | .showEnded => 6 | .showingStarted => 7 | .showingEnded => 8 | .showingCounted => 9
  | .entrySkipped => 10 | .waiting => 11 | .nestSkipped => 12
  | .grantActive => 13 | .grantExpired => 14 | .grantSpent => 15 | .trimClamped => 16
  | .pictureUnderrun => 17 | .soundUnderrun => 18 | .cueDropped => 19 | .cueDisplaced => 20 | .mapMissing => 21
  | .windowRange => 22
  | .syncLost => 23 | .syncRegained => 24 | .captureTaken => 25 | .captureOverrun => 26 | .cueNotice => 27
  | .trackReady => 28 | .trackDamaged => 29 | .packageClosed => 30 | .storeLow => 31 | .blocksStranded => 32
  | .sweepDone => 33
  | .logNearFull => 34 | .logFull => 35
  | .lineEvent n => 36 + n

/-- The group of a cause number. -/
def groupOf (n : Nat) : Nat :=
  if n < 5 then 0 else if n < 13 then 1 else if n < 17 then 2 else if n < 23 then 3 else if n < 28 then 4
  else if n < 34 then 5 else if n < 36 then 6 else 7

/-- The current showing (R87). -/
def State.showing (s : State) : Option Showing :=
  match s.seq.current with
  | .play sh => some sh
  | _ => none

/-- The prepared showing (R87): the prepared entry when it is a PLAY. -/
def State.preparedPlay (s : State) : Option Play :=
  match s.seq.prepared with
  | some (.play p) => some p
  | _ => none

/-- The interlock holds while at least one line is holding (R178). -/
def State.interlocked (s : State) : Bool := s.lines.any (·.holding)

/-- A cause after an occurrence (R194). -/
def Cause.occur (r : NoticeRecord) (c : Cause) : Cause :=
  { c with pending := true, count := bump 255 c.count, latest := some r }

/-- The latest record an occurrence takes (R194). -/
def noticeRecord (s : State) (detail : List Byte) : NoticeRecord :=
  { time := s.keys.clock, composition := s.showing.map (·.play.id), frame := s.time.frame, detail := detail }

/-- A unit raises a cause (R194). -/
def raise (c : NoticeCause) (detail : List Byte) (s : State) : State :=
  { s with notices := { s.notices with
      causes := updateAt (Cause.occur (noticeRecord s detail)) s.notices.causes c.number } }

/-- The level of a cause's group. -/
def Notices.levelOf (n : Notices) (cause : Nat) : Nat := n.levels.getD (groupOf cause) 0

/-- A cause is due when it is pending, enabled and not sent, and its group's level is above the mask (R194). -/
def Notices.isDue (n : Notices) (number : Nat) (c : Cause) : Bool :=
  c.pending && c.enabled && !c.sent && decide (n.mask < n.levelOf number)

/-- The due cause whose group has the highest level; among equal levels the lowest group, and within a group the
lowest cause (R195). Groups and causes are met in rising order, so a later cause wins only by a higher level. -/
def Notices.choose (n : Notices) : Option Nat :=
  go n.causes 0 none
where
  go : List Cause → Nat → Option Nat → Option Nat
    | [], _, best => best
    | c :: rest, number, best =>
      let better := n.isDue number c &&
        (match best with
         | none => true
         | some b => decide (n.levelOf b < n.levelOf number))
      go rest (number + 1) (if better then some number else best)

end Machine
end Sys2Proof
end

