-- ==== Sys2Proof/Machine/Operands.lean ====
section
/-!
DEFINITION. The operand forms of the requests: which named value a code stands for (R198), and the clamping of
the introduction ("brought to the nearest end of its permitted range").
-/
namespace Sys2Proof
namespace Machine

/-- A number brought to the nearest end of `low` to `high`. -/
def clamp (low high n : Nat) : Nat := if n < low then low else if high < n then high else n

/-- An integer brought to the nearest end of `low` to `high`. -/
def clampInt (low high i : Int) : Int := if i < low then low else if high < i then high else i

/-- Write modes (R22). -/
def writeModeOf : Nat → Option WriteMode
  | 0 => some .steal
  | 1 => some .run
  | _ => none

/-- Routes of a subtitle stream (R154). -/
def streamRouteOf : Nat → Option StreamRoute
  | 0 => some .off
  | 1 => some .overlay
  | 2 => some .seats
  | 3 => some .both
  | _ => none

/-- Levels of a line (R178): HIGH is true. -/
def levelOf : Nat → Option Bool
  | 0 => some false
  | 1 => some true
  | _ => none

/-- Conditions of an input line (R178). -/
def lineConditionOf : Nat → Option LineCondition
  | 0 => some .rise
  | 1 => some .fall
  | 2 => some .both
  | 3 => some .low
  | 4 => some .high
  | _ => none

/-- Functions of an input line (R178). -/
def lineFunctionOf : Nat → Option LineFunction
  | 0 => some .none
  | 1 => some .notice
  | 2 => some .go
  | 3 => some .mark
  | 4 => some .pause
  | 5 => some .interlock
  | _ => none

/-- The frame source a FRAME SOURCE request selects (R110): `some none` is INTERNAL, `some (some e)` SYNC with
edge `e`, `none` any other value. INTERNAL is taken with or without an edge, which it does not read (DESIGN CHOICE,
assumption 43). -/
def sourceOf (source : Nat) (edge : Option Nat) : Option (Option Edge) :=
  match source, edge with
  | 0, _ => some none
  | 1, some 0 => some (some .rising)
  | 1, some 1 => some (some .falling)
  | 1, some 2 => some (some .both)
  | _, _ => none

/-- Whether a track status is the one a TRACK LIST state code names (R17): `none` when the code is not one of
FILLING, READY and DAMAGED. -/
def trackStateOf : Nat → Option (TrackStatus → Bool)
  | 1 => some fun | .filling => true | _ => false
  | 2 => some fun | .ready => true | _ => false
  | 3 => some fun | .damaged _ => true | _ => false
  | _ => none

/-- The six edit rates (Terms; R3). -/
def isRate (n : Nat) : Bool := n == 24 || n == 25 || n == 30 || n == 48 || n == 50 || n == 60

/-- The kind of a track header (R3). -/
def TrackHeader.kind (h : TrackHeader) : TrackKind :=
  match h.info with
  | .picture .. => .picture
  | .sound .. => .sound
  | .subtitle .. => .subtitle
  | .description => .description

/-- The first frame of reel `k` of a list of reels, counted from reel 1: the sum of the durations before it (R5). -/
def reelStart (reels : List Reel) (k : Nat) : Nat := total ((reels.take (k - 1)).map (·.duration))

/-- The reel, counted from 1, that holds composition frame `f`, with its first frame (R5). -/
def reelAt (reels : List Reel) (f : Nat) : Option (Nat × Reel × Nat) :=
  go reels 1 0
where
  go : List Reel → Nat → Nat → Option (Nat × Reel × Nat)
    | [], _, _ => none
    | r :: rest, k, start => if f < start + r.duration then some (k, r, start) else go rest (k + 1) (start + r.duration)

/-- Sample frames of one composition frame (R138). -/
def samplesPerFrame (rate : Nat) : Nat := 48000 / rate

/-- Sample frames of a block of a SOUND track of `c` channels (R138). -/
def samplesPerBlock (c : Nat) : Nat := Config.blockBytes / (3 * c)

/-- Reference cycles of a nominal frame period at a rate: the divisor of R111. -/
def divisor (rate : Nat) : Nat := Config.cyclesPerSecond / rate

end Machine
end Sys2Proof
end

