-- ==== Sys2Proof/Machine/Ops.lean ====
section
/-!
DEFINITION. The operations every unit shares: replies and the outgoing direction of the control link (R189 to
R191), taking a request, the nonvolatile write queue (R8), the store's blocks (R41) and the store arbiter (R43 to
R46).
-/
namespace Sys2Proof
namespace Machine

open Layout

/-! ### Replies and the outgoing direction -/

/-- The units that own requests (summary table of request kinds). -/
inductive Owner where
  | catalogue | freeSpace | ingest | keys | sequencer | timeline | picture | sound | subtitle | log | lines | control
  | notices
  deriving DecidableEq, Repr

/-- The owner of a request kind. Where the summary table names two units, each owns the requests of its own state: STORE
STATUS and STORE SWEEP are the free-space unit's (R15, R20), and the last three the notice unit's (DEDUCED, assumption
31). -/
def ownerOf (kind : Nat) : Owner :=
  if kind < 6 then .catalogue else if kind < 8 then .freeSpace else if kind < 12 then .ingest else if kind < 20 then .keys
  else if kind < 30 then .sequencer else if kind < 34 then .timeline else if kind < 38 then .picture
  else if kind < 43 then .sound else if kind < 45 then .subtitle else if kind < 47 then .log
  else if kind < 50 then .lines else if kind < 54 then .control else .notices

/-- The kinds marked store-using: TRACK DELETE, STORE STATUS, STORE SWEEP, INGEST OPEN, CLOSE and ABORT, and
SHOW START. -/
def storeUsing (kind : Nat) : Bool :=
  kind == 2 || kind == 6 || kind == 7 || kind == 8 || kind == 9 || kind == 10 || kind == 23

/-- The slot after its request has been answered. -/
def RequestSlot.answer (tag : Byte) (r : RequestSlot) : RequestSlot :=
  if r.tag = tag then { r with phase := .answered } else r

/-- A reply becomes ready: it joins the waiting replies, and the request that holds a slot under its tag has been
answered by its owner (R189, R191). -/
def sendReply (r : Reply) (s : State) : State :=
  { s with port := { s.port with
      replies := s.port.replies ++ [r]
      slots := if r.immediate then s.port.slots else s.port.slots.map (RequestSlot.answer r.tag) } }

/-- The reply of a request that holds a slot. -/
def replyOf (kind : Nat) (tag : Byte) (status : Status) (reason : Option Reason) (body : List Byte) : Reply :=
  { tag := tag, kind := kind, status := status, reason := reason, body := body, immediate := false }

/-- Answered OK with a body. -/
def answerOk (kind : Nat) (frame : Frame) (body : List Byte) (s : State) : State :=
  sendReply (replyOf kind frame.tag .ok none body) s

/-- Answered CLAMPED with the values applied. -/
def answerClamped (kind : Nat) (frame : Frame) (body : List Byte) (s : State) : State :=
  sendReply (replyOf kind frame.tag .clamped none body) s

/-- Refused with a reason; a refused request changes nothing. -/
def refuse (kind : Nat) (frame : Frame) (reason : Reason) (s : State) : State :=
  sendReply (replyOf kind frame.tag .refused (some reason) []) s

/-- Not taken: BUSY, STARTING or MALFORMED. -/
def turnAway (kind : Nat) (frame : Frame) (status : Status) (s : State) : State :=
  sendReply (replyOf kind frame.tag status none []) s

/-- A reply that holds no slot joins the immediate queue of 4, or the frame is dropped and counted (R189). -/
def immediateReply (kind : Nat) (tag : Byte) (status : Status) (s : State) : State :=
  if 4 ≤ (s.port.replies.filter (·.immediate)).length then
    { s with port := { s.port with unanswered := bump max32 s.port.unanswered } }
  else
    sendReply { tag := tag, kind := kind, status := status, reason := none, body := [], immediate := true } s

/-- The outgoing direction begins the notice frame of a cause: the cause is marked sent, and the frame is built from
its count and latest record (R195). -/
def beginNotice (number : Nat) (s : State) : State :=
  match s.notices.causes[number]? with
  | some c =>
    let r : NoticeRecord := c.latest.getD { time := 0, composition := none, frame := 0, detail := [] }
    { s with
      port := { s.port with sending := some (.notice { cause := number, count := c.count, record := r }) }
      notices := { s.notices with
        causes := updateAt (fun c => { c with sent := true }) s.notices.causes number } }
  | none => s

/-- When the outgoing direction is free, the next frame begins: the reply that became ready first, else the notice of
R195 (R191). Every command ends with this choice. -/
def settle (s : State) : State :=
  match s.port.sending with
  | some _ => s
  | none =>
    match s.port.replies with
    | r :: rest => { s with port := { s.port with sending := some (.reply r), replies := rest } }
    | [] =>
      match s.notices.choose with
      | some n => beginNotice n s
      | none => s

/-- The end of every command: the outgoing direction chooses, and the part stands in its next state. -/
def finish (s : State) : Result := .next (settle s)

/-! ### Taking a request (R189) -/

/-- An owner with a request that waits, or with one it has not yet taken, takes no later one (R189). -/
def ownerBusy (kind : Nat) (s : State) : Bool :=
  s.port.slots.any fun r =>
    decide (ownerOf r.kind = ownerOf kind) &&
      (match r.phase with
       | .answered => false
       | _ => true)

/-- A request takes a slot in a phase. -/
def holdSlot (kind : Nat) (tag : Byte) (phase : SlotPhase) (s : State) : State :=
  { s with port := { s.port with slots := s.port.slots ++ [{ tag := tag, kind := kind, phase := phase }] } }

/-- Bytes arrive for the frame in reception, and the timer of the gap runs from the last of them (R188). -/
def ControlPort.receive (came : List Byte) (p : ControlPort) : ControlPort :=
  { p with held := p.held ++ came, gapCycles := if came.isEmpty then p.gapCycles else 0 }

/-- The receiver hunts through bytes it holds: at a marker among them it goes IN FRAME with the bytes after it, and without
one it has discarded them all (R188). -/
def ControlPort.hunting (bytes : List Byte) (p : ControlPort) : ControlPort :=
  match hunt bytes with
  | some rest => { p with inFrame := true, held := rest }
  | none => { p with inFrame := false, held := [] }

/-- A frame leaves the receiver taken: it hunts through the bytes that follow the frame among those it holds (R188). -/
def ControlPort.taken (p : ControlPort) : ControlPort := p.hunting (p.held.drop (frameLength p.held))

/-- A frame of a request kind is taken: the receiver is HUNTING again (R188), and the frame is judged in the order
of R189. `serve` is what the owner does with the request. After RESET FULL no frame is taken (R193). -/
def takeFrame (kind : Nat) (frame : Frame) (command : Instr) (serve : State → State) (s : State) : State :=
  if !s.port.taking then s
  else
    let s := { s with port := s.port.taken }
    if 4 ≤ s.port.slots.length then immediateReply kind frame.tag .busy s
    else if s.port.slots.any (fun r => decide (r.tag = frame.tag)) then immediateReply kind frame.tag .duplicateTag s
    else if !frame.fits then turnAway kind frame .malformed (holdSlot kind frame.tag .waiting s)
    else if s.startUp && storeUsing kind then turnAway kind frame .starting (holdSlot kind frame.tag .waiting s)
    else if ownerBusy kind s then holdSlot kind frame.tag (.deferred command) s
    else serve (holdSlot kind frame.tag .waiting s)

/-- The meaning of a request: its frame is taken, and the outgoing direction chooses. -/
def request (kind : Nat) (frame : Frame) (command : Instr) (serve : State → State) (s : State) : Result :=
  finish (takeFrame kind frame command serve s)

/-! ### The nonvolatile write queue (R8) -/

/-- A requester that comes now can queue its write at once: the queue holds fewer than 8 writes and no requester
has waited longer (R8). -/
def State.hasRoom (s : State) : Bool := decide (s.queue.writes.length < 8) && s.queue.waiters.isEmpty

/-- A write joins the queue. -/
def pushWrite (w : Write) (forCheck : Bool) (s : State) : State :=
  { s with queue := { s.queue with writes := s.queue.writes ++ [{ write := w, forCheck := forCheck }] } }

/-- A requester begins to wait for room. -/
def awaitRoom (w : Waiter) (s : State) : State :=
  { s with queue := { s.queue with waiters := s.queue.waiters ++ [w] } }

/-- The write of a track entry as the in-part table then holds it. -/
def pushTrack (id : Nat) (s : State) : State := pushWrite (.track id (s.catalogue.tracks.find id)) false s

/-- The write of a composition entry as the in-part table then holds it. -/
def pushComposition (id : Nat) (s : State) : State :=
  pushWrite (.composition id (s.catalogue.compositions.find id)) false s

/-- The write of a grant slot as the in-part table then holds it. -/
def pushGrant (slot : Nat) (forCheck : Bool) (s : State) : State :=
  pushWrite (.grant slot (s.keys.grants.find slot)) forCheck s

/-- A changed track entry's write is queued, or waits for room (R8); its queuing releases `reply`. -/
def queueTrack (id : Nat) (engine : Bool) (reply : Option Reply) (s : State) : State :=
  if s.hasRoom then
    match reply with
    | some r => sendReply r (pushTrack id s)
    | none => pushTrack id s
  else awaitRoom (.track id engine reply) s

/-- A track entry in the in-part table. -/
def setTrack (id : Nat) (e : Option TrackEntry) (s : State) : State :=
  { s with catalogue := { s.catalogue with tracks := s.catalogue.tracks.set id e } }

/-- A composition entry in the in-part table. -/
def setComposition (id : Nat) (c : Option Composition) (s : State) : State :=
  { s with catalogue := { s.catalogue with compositions := s.catalogue.compositions.set id c } }

/-- The extent list the part holds for a track. -/
def setExtents (id : Nat) (l : Option (List Extent)) (s : State) : State :=
  { s with catalogue := { s.catalogue with extents := s.catalogue.extents.set id l } }

/-- A grant slot in the in-part table. -/
def setGrant (slot : Nat) (g : Option Grant) (s : State) : State :=
  { s with keys := { s.keys with grants := s.keys.grants.set slot g } }

/-! ### The store's blocks -/

/-- Bytes without trailing zeros: the one form in which the contents of a data block are kept. -/
def trimZeros : List Byte → List Byte
  | [] => []
  | b :: bs =>
    match trimZeros bs with
    | [] => if b = 0#8 then [] else [b]
    | rest => b :: rest

/-- The contents of a store block; a block nothing has been written to holds zero bytes. -/
def Store.read (st : Store) (block : Nat) : StoreBlock := (st.blocks.find block).getD (.data [])

/-- The bytes of a data block as far as its last byte that is not zero; a map block's byte layout is not visible. -/
def Store.bytes (st : Store) (block : Nat) : List Byte :=
  match st.read block with
  | .data b => b
  | .map _ => []

/-- Byte `i` of a store block. -/
def Store.byte (st : Store) (block i : Nat) : Byte := (st.bytes block).getD i 0#8

/-- A block written whole (R41). -/
def Store.write (st : Store) (block : Nat) (contents : StoreBlock) : Store :=
  match contents with
  | .map m => { st with blocks := st.blocks.put block (.map m) }
  | .data b =>
    match trimZeros b with
    | [] => { st with blocks := st.blocks.erase block }
    | t => { st with blocks := st.blocks.put block (.data t) }

/-- Consecutive blocks written from a first block on. -/
def Store.writeRun (st : Store) (first : Nat) : List (List Byte) → Store
  | [] => st
  | b :: rest => (st.write first (.data b)).writeRun (first + 1) rest

/-! ### The store arbiter -/

/-- The place of a client in the fixed order of priority (R42). -/
def Client.rank : Client → Nat
  | .picture => 1 | .sound => 2 | .windowFill => 3 | .subtitle => 4 | .ingest => 5 | .sweep => 6

/-- The waiting request of the highest-priority client. -/
def bestRequest : List StoreRequest → Option StoreRequest
  | [] => none
  | r :: rest =>
    match bestRequest rest with
    | none => some r
    | some b => if b.client.rank < r.client.rank then some b else some r

/-- The requests of clients other than `c`. -/
def withoutClient (c : Client) (l : List StoreRequest) : List StoreRequest := l.filter fun r => !decide (r.client = c)

/-- A transfer begins with attempt FIRST. -/
def Transfer.begin (r : StoreRequest) : Transfer := { request := r, retry := false, dropped := false }

/-- The current transfer is one whose outcome client `c` disregards (R44). -/
def Arbiter.disregards (c : Client) (a : Arbiter) : Bool :=
  match a.current with
  | some t => t.dropped && decide (t.request.client = c)
  | none => false

/-- A client asks for a transfer: granted at once while the port is IDLE, else it waits (R43). While the part uses
no store nothing is granted (R1, R41). A client whose granted transfer still runs, disregarded, makes the request
only when that transfer's completion has been reported, so that it never has two at the arbiter (R42). -/
def askStore (r : StoreRequest) (s : State) : State :=
  { s with arbiter :=
      if s.arbiter.current.isNone && decide (0 < s.store.size) then
        { s.arbiter with current := some (Transfer.begin r) }
      else if s.arbiter.disregards r.client then { s.arbiter with held := some r }
      else { s.arbiter with waiting := s.arbiter.waiting ++ [r] } }

/-- The completion of a disregarded transfer has been reported: the request its client held back is made (R42). -/
def releaseHeld (s : State) : State :=
  { s with arbiter := { s.arbiter with waiting := s.arbiter.waiting ++ s.arbiter.held.toList, held := none } }

/-- The transfer leaves the port, and the highest-priority waiting request is granted, or the port becomes IDLE
(R43). -/
def grantNext (s : State) : State :=
  { s with arbiter :=
      match bestRequest s.arbiter.waiting with
      | some r => { s.arbiter with current := some (Transfer.begin r),
                                   waiting := withoutClient r.client s.arbiter.waiting }
      | none => { s.arbiter with current := none } }

/-- A client withdraws: its waiting request is never granted, nor is one it holds back made, and the outcome of a
granted one is disregarded (R44). -/
def withdrawStore (c : Client) (s : State) : State :=
  { s with arbiter := { s.arbiter with
      waiting := withoutClient c s.arbiter.waiting
      held := s.arbiter.held.filter fun r => !decide (r.client = c)
      current := s.arbiter.current.map fun t =>
        if t.request.client = c then { t with dropped := true } else t } }

/-- The detail of STORE_FAULT (R46). -/
def storeFaultDetail (r : StoreRequest) : List Byte :=
  code r.client.code ++ code (if r.writes then 1 else 0) ++ num 3 r.first ++ num 1 r.count ++ opt (num 2) r.track

/-- The completion of the current transfer of client `c` with its outcome (R43, R46). A failed FIRST attempt is
tried again at once. Otherwise the counts are kept and a fault is raised, the client acts unless it disregards the
outcome, and then the arbiter grants. Without a transfer of that client nothing comes about. -/
def completeTransfer (c : Client) (ok : Bool) (act : Transfer → State → State) (s : State) : State :=
  match s.arbiter.current with
  | none => s
  | some t =>
    if t.request.client = c then
      if !ok && !t.retry then { s with arbiter := { s.arbiter with current := some { t with retry := true } } }
      else
        let s :=
          if ok then
            if t.retry then { s with arbiter := { s.arbiter with retries := bump max32 s.arbiter.retries } } else s
          else
            raise .storeFault (storeFaultDetail t.request)
              { s with arbiter := { s.arbiter with faults := bump max32 s.arbiter.faults } }
        grantNext (if t.dropped then releaseHeld s else act t s)
    else s

/-- A free value of `Config` has been used. -/
def useFree (k : Nat) (s : State) : State := { s with freeUses := s.freeUses + k }

end Machine
end Sys2Proof
end

