-- ==== Sys2Proof/Machine/Windows.lean ====
section
/-!
DEFINITION. The track window cache (R49 to R57): lookups, fills, withdrawals and flushes. What a reader does with an
answer stands in the reader's own file, and the completion of a fill in Machine/Fills.lean.
-/
namespace Sys2Proof
namespace Machine

open Layout

/-- The answer to a lookup: the store block with the blocks remaining in the extent from it, or waiting for a fill,
or a fault. -/
inductive Answer where
  | hit (store remaining : Nat)
  | waiting
  | fault
  deriving DecidableEq, Repr

/-- Causes of a range fault (R50, R53), in the order of the counts of R57. -/
inductive RangeCause where
  | state | length | kind | map
  deriving DecidableEq, Repr

def RangeCause.code : RangeCause → Nat
  | .state => 0 | .length => 1 | .kind => 2 | .map => 3

/-- The kind of track a reader reads (R50). -/
def Reader.kind : Reader → TrackKind
  | .picture => .picture | .sound => .sound | .subtitle => .subtitle

/-- The store client of a reader (R42). -/
def Reader.client : Reader → Client
  | .picture => .picture | .sound => .sound | .subtitle => .subtitle

/-- The judgement of a lookup against the track table (R50): the first check that fails gives the cause. -/
def judgeLookup (reader : Reader) (track block : Nat) (s : State) : Option RangeCause :=
  match s.catalogue.tracks.find track with
  | none => some .state
  | some e =>
    if e.status ≠ .ready then some .state
    else if e.header.length ≤ block then some .length
    else if e.header.kind ≠ reader.kind then some .kind
    else none

/-- A range fault is counted and WINDOW_RANGE is raised (R50). -/
def rangeFault (reader : Reader) (track block : Nat) (cause : RangeCause) (s : State) : State :=
  raise .windowRange (code reader.code ++ num 2 track ++ num 3 block ++ code cause.code)
    { s with cache := { s.cache with ranges := bumpAt s.cache.ranges cause.code } }

/-- Whether an entry covers a track block (R51). -/
def CacheEntry.covers (e : CacheEntry) (track block : Nat) : Bool :=
  decide (e.track = track) && decide (e.block ≤ block) && decide (block < e.block + e.count)

/-- The number of the valid entry that covers a track block. -/
def findCovering (entries : Table CacheEntry) (track block : Nat) : Option (Nat × CacheEntry) :=
  entries.find? fun p => p.2.covers track block

/-- An entry moves to the front of the use order. -/
def toFront (n : Nat) (order : List Nat) : List Nat := n :: order.filter fun m => !decide (m = n)

/-- A miss attaches the question to the fill for its track, making one when there is none (R52). -/
def attach (track : Nat) (q : Ask) : List Fill → List Fill
  | [] => [{ track := track, running := false, stale := false, asks := [q] }]
  | f :: rest => if f.track = track then { f with asks := f.asks ++ [q] } :: rest else f :: attach track q rest

/-- A lookup, or a preparation (R50 to R52). -/
def lookup (reader : Reader) (kind : AskKind) (track block : Nat) (s : State) : Answer × State :=
  match judgeLookup reader track block s with
  | some cause => (.fault, rangeFault reader track block cause s)
  | none =>
    match findCovering s.cache.entries track block with
    | some (n, e) =>
      (.hit (e.store + (block - e.block)) (e.count - (block - e.block)),
       { s with cache := { s.cache with hits := bump max32 s.cache.hits, order := toFront n s.cache.order } })
    | none =>
      (.waiting,
       { s with cache := { s.cache with
           misses := bump max32 s.cache.misses
           fills := attach track { reader := reader, kind := kind, block := block, live := true } s.cache.fills } })

/-- Whether anything live is attached to a fill. -/
def Fill.live (f : Fill) : Bool := f.asks.any (·.live)

/-- Questions chosen by `p` are withdrawn; a pending fill left with nothing attached is dropped, and a fill in
progress runs on (R52, R56). R44 names the window fill with nothing attached among the clients that withdraw a waiting
request; the model follows R52 and R56, by which a fill that has asked the arbiter runs on (DESIGN CHOICE, assumption 19). -/
def withdrawAsks (p : Ask → Bool) (s : State) : State :=
  { s with cache := { s.cache with
      fills := (s.cache.fills.map fun f =>
          { f with asks := f.asks.map fun q => if p q then { q with live := false } else q }).filter
        fun f => f.running || f.live } }

/-- A reader's own lookup or preparation. -/
def Ask.ofReader (r : Reader) (q : Ask) : Bool := decide (q.reader = r) && !decide (q.kind = .sequencerPreparation)

/-- A reader gives up what it waits for: its lookup or preparation, and its store request (R44, R56). -/
def withdrawReader (r : Reader) (s : State) : State := withdrawStore r.client (withdrawAsks (Ask.ofReader r) s)

/-- The sequencer's preparations are withdrawn with its prepared position (R56). -/
def withdrawSequencerAsks (s : State) : State := withdrawAsks (fun q => decide (q.kind = .sequencerPreparation)) s

/-- The place of a reader in the order of R42. -/
def Reader.rank : Reader → Nat
  | .picture => 0 | .sound => 1 | .subtitle => 2

/-- The rank of a pending fill (R52), smaller for a higher rank: the highest reader on whose behalf a live question is
attached, and within it whether that reader has a lookup attached or only preparations. -/
def Fill.rank (f : Fill) : Nat :=
  f.asks.foldl (fun best q =>
    let r := 2 * q.reader.rank + (if q.kind = .lookup then 0 else 1)
    if q.live && decide (r < best) then r else best) 6

/-- The pending fill that ranks highest; between equals the one made first (R52). -/
def bestFill : List Fill → Option Fill
  | [] => none
  | f :: rest =>
    if f.running then bestFill rest
    else
      match bestFill rest with
      | none => some f
      | some b => if b.rank < f.rank then some b else some f

/-- The highest-ranked pending fill begins when no fill is in progress: it asks the arbiter for its map-block read
(R52). The read is counted here (DESIGN CHOICE, assumption 19). -/
def beginFill (s : State) : State :=
  if s.cache.fills.any (·.running) then s
  else
    match bestFill s.cache.fills with
    | none => s
    | some f =>
      askStore { client := .windowFill, writes := false, first := f.track, count := 1, track := some f.track }
        { s with cache := { s.cache with
            reads := bump max32 s.cache.reads
            fills := s.cache.fills.map fun g => if g.track = f.track then { g with running := true } else g } }

/-- Every valid entry of a track becomes invalid, and a fill in progress for it becomes stale; the pending fill for
it is dropped (R55). The questions of the dropped fill are answered by the caller. -/
def invalidate (track : Nat) (s : State) : State :=
  let gone := (s.cache.entries.filter fun p => decide (p.2.track = track)).map (·.1)
  { s with cache := { s.cache with
      entries := s.cache.entries.filter fun p => !decide (p.2.track = track)
      order := s.cache.order.filter fun n => !gone.contains n
      fills := (s.cache.fills.map fun f =>
          if f.track = track && f.running then { f with stale := true } else f).filter
        fun f => f.running || !decide (f.track = track) } }

/-- An extent is loaded (R53): into the lowest-numbered invalid entry, else in place of the entry last in the use
order; an extent that a valid entry holds already is not loaded again. In each case its entry goes to the front. -/
def loadExtent (e : CacheEntry) (c : Cache) : Cache :=
  match c.entries.find? fun p => decide (p.2.track = e.track) && decide (p.2.index = e.index) with
  | some (n, _) => { c with order := toFront n c.order }
  | none =>
    match Table.lowestFree c.entries 8 with
    | some n => { c with entries := c.entries.put n e, order := toFront n c.order }
    | none =>
      match c.order.getLast? with
      | some n => { c with entries := c.entries.put n e, order := toFront n c.order,
                           replaced := bump max32 c.replaced }
      | none => c

/-- The extent of a list that covers a track block, with its place in the list. -/
def extentAt (extents : List Extent) (block : Nat) : Option (Nat × Extent) :=
  go extents 0
where
  go : List Extent → Nat → Option (Nat × Extent)
    | [], _ => none
    | e :: rest, n => if e.block ≤ block && block < e.block + e.length then some (n, e) else go rest (n + 1)

end Machine
end Sys2Proof
end

