-- ==== Sys2Proof/Machine/Picture.lean ====
section
/-!
DEFINITION. The picture path: the frame queue and its reader (R45, R124 to R126), presentation at the frame tick
(R127, R128), the picture link (R129) and the projector link check (R131 to R133). What the sequencer does with a
lost link stands with the sequencer.
-/
namespace Sys2Proof
namespace Machine

open Layout

/-! ### The reader -/

/-- The prepared PLAY's next frame, if one is left (R125). -/
def preparedNext (s : State) : Option (Bool × Play × Nat) :=
  match s.preparedPlay with
  | some p => if s.frames.nextPrepared ≤ p.lastFrame then some (true, p, s.frames.nextPrepared) else none
  | none => none

/-- The reader's next frame (R125): of the current showing while one is left, else of the prepared PLAY; true for
the prepared one. -/
def nextFrame (s : State) : Option (Bool × Play × Nat) :=
  match s.showing with
  | some sh =>
    if s.frames.nextCurrent ≤ sh.endFrame then some (false, sh.play, s.frames.nextCurrent) else preparedNext s
  | none => preparedNext s

/-- The frames the queue holds: its places that are COMPLETE or MISSING (R124). -/
def heldFrames (s : State) : List Place := s.frames.places.filter fun p => !decide (p.condition = .filling)

/-- The frame being read gets its condition with the blocks its place then holds, and the reader is done with it. -/
def endFrameJob (c : PlaceCondition) (blocks : List (List Byte)) (s : State) : State :=
  { s with frames := { s.frames with
      job := none
      places := s.frames.places.map fun p =>
        if p.condition = .filling then { p with condition := c, blocks := blocks } else p } }

/-- A piece is read as transfers of 8 blocks and a last transfer of the blocks that remain (R45). -/
def splitRun (r : Run) : List Run := go r.length r.first r.length
where
  go : Nat → Nat → Nat → List Run
    | 0, _, _ => []
    | fuel + 1, first, left =>
      if left = 0 then []
      else if left ≤ 8 then [{ first := first, length := left }]
      else { first := first, length := 8 } :: go fuel (first + 8) (left - 8)

/-- The picture reader asks for the first of the frame's transfers left; with none left the frame's place is COMPLETE
(R45). -/
def askPicture (j : FrameJob) (s : State) : State :=
  match j.transfers with
  | [] => endFrameJob .complete j.blocks s
  | r :: _ =>
    askStore { client := .picture, writes := false, first := r.first, count := r.length, track := some j.track }
      { s with frames := { s.frames with job := some j } }

/-- A piece of the frame has been found: the blocks that lie in the extent (R45). -/
def FrameJob.addPiece (j : FrameJob) (store remaining : Nat) : FrameJob :=
  let n := min remaining (j.stop - j.next)
  { j with pieces := j.pieces ++ [{ first := store, length := n }], next := j.next + n }

/-- The reader looks up the first block of the frame and then of each further extent the frame reaches; with all found
it asks for the first transfer, and with a fault the frame is MISSING (R45). -/
def lookUpFrame : Nat → FrameJob → State → State
  | 0, j, s => askPicture { j with transfers := j.pieces.flatMap splitRun } s
  | fuel + 1, j, s =>
    if j.stop ≤ j.next then askPicture { j with transfers := j.pieces.flatMap splitRun } s
    else
      match lookup .picture (if j.prepared then .readerPreparation else .lookup) j.track j.next s with
      | (.hit store remaining, s) => lookUpFrame fuel (j.addPiece store remaining) s
      | (.waiting, s) => { s with frames := { s.frames with job := some j } }
      | (.fault, s) => endFrameJob .missing [] s

/-- The frame span of a PICTURE track (R3). -/
def spanOf (track : Nat) (s : State) : Nat :=
  match s.catalogue.tracks.find track with
  | some e =>
    match e.header.info with
    | .picture _ _ span => span
    | _ => 1
  | none => 1

/-- The reader begins its next frame: a place FILLING at the tail, and the lookups of frame entry + reel frame of the
reel's picture track (R125). -/
def beginFrame (s : State) : State :=
  if 4 ≤ s.frames.places.length || s.frames.places.any (fun p => decide (p.condition = .filling)) then s
  else
    match nextFrame s with
    | none => s
    | some (prepared, play, f) =>
      let s := { s with frames := { s.frames with
          places := s.frames.places ++ [{ prepared := prepared, frame := f, condition := .filling, blocks := [] }]
          nextCurrent := if prepared then s.frames.nextCurrent else f + 1
          nextPrepared := if prepared then f + 1 else s.frames.nextPrepared } }
      match reelAt play.composition.reels f with
      | some (_, reel, start) =>
        match reel.picture with
        | some t =>
          let span := spanOf t s
          let first := (reel.entry + (f - start)) * span
          lookUpFrame (span + 1)
            { prepared := prepared, track := t, next := first, stop := first + span, pieces := [], transfers := [],
              blocks := [] } s
        | none => endFrameJob .missing [] s
      | none => endFrameJob .missing [] s

/-- The picture reader takes the answer to the lookup it waits for (R53, R54). -/
def pictureAnswer (a : Answer) (s : State) : State :=
  match s.frames.job with
  | none => s
  | some j =>
    match a with
    | .hit store remaining => lookUpFrame (j.stop - j.next + 1) (j.addPiece store remaining) s
    | .fault => endFrameJob .missing [] s
    | .waiting => lookUpFrame (j.stop - j.next + 1) j s

/-- The key with which the blocks of the frame being read are unscrambled (R125): the reading key of its PLAY, when its
track is scrambled. -/
def readingKey (j : FrameJob) (s : State) : Option Nat :=
  match s.catalogue.tracks.find j.track with
  | some e =>
    if e.header.key.isSome then (if j.prepared then s.frames.keyPrepared else s.frames.keyCurrent) else none
  | none => none

/-- Track block `block` of the frame being read as it passes on: unscrambled, or as read (R125). -/
def unscrambled (j : FrameJob) (s : State) (block : Nat) (bytes : List Byte) : List Byte :=
  match readingKey j s with
  | some material => Config.unscramble material j.track block bytes
  | none => bytes

/-- The blocks of the frame's track that a transfer has brought (R41, R125). The frame's blocks arrive in ascending order,
so the first of them is the one after which the transfers left, this one included, end with the frame. -/
def arrivedBlocks (j : FrameJob) (t : Transfer) (s : State) : List (List Byte) :=
  (List.range t.request.count).map fun i =>
    unscrambled j s (j.stop - total (j.transfers.map (·.length)) + i) (s.store.bytes (t.request.first + i))

/-- The completion of a transfer of the picture reader (R45, R47): its blocks are taken, and the next transfer is asked for,
or the place is COMPLETE, or on a store fault MISSING. -/
def pictureTransfer (ok : Bool) (t : Transfer) (s : State) : State :=
  match s.frames.job with
  | none => s
  | some j =>
    if ok then askPicture { j with transfers := j.transfers.drop 1, blocks := j.blocks ++ arrivedBlocks j t s } s
    else endFrameJob .missing [] s

/-! ### Discards (R126) -/

/-- Places that do not satisfy `keep` leave the queue; a discarded FILLING place ends the reader's work on it. -/
def keepPlaces (keep : Place → Bool) (s : State) : State :=
  let dropsJob := s.frames.places.any fun p => decide (p.condition = .filling) && !keep p
  let s := { s with frames := { s.frames with places := s.frames.places.filter keep } }
  if dropsJob then withdrawReader .picture { s with frames := { s.frames with job := none } } else s

/-- What the picture path drops when the current showing ends (R126, R127, R128). -/
def dropCurrentFrames (s : State) : State :=
  let s := keepPlaces (·.prepared) s
  { s with frames := { s.frames with keyCurrent := none, last := none, carried := none, consecutive := 0 } }

/-- What the picture path drops of the prepared PLAY. -/
def dropPreparedFrames (s : State) : State :=
  let s := keepPlaces (fun p => !p.prepared) s
  { s with frames := { s.frames with keyPrepared := none } }

/-- The frames of the current showing beyond a new last frame (R105). -/
def dropFramesBeyond (last : Nat) (s : State) : State :=
  keepPlaces (fun p => p.prepared || decide (p.frame ≤ last)) s

/-- The prepared PLAY becomes the current showing: its places, its reading key and the reader's position go with it
(R125), nothing of it has been sent, and the consecutive count is 0 (R128). A preparation of the reader that is attached to a
fill stays a preparation and is answered as one: no rule makes it a lookup (DESIGN CHOICE, assumption 18). -/
def takeOverFrames (s : State) : State :=
  { s with frames := { s.frames with
      places := s.frames.places.map fun p => { p with prepared := false }
      job := s.frames.job.map fun j => { j with prepared := false }
      nextCurrent := s.frames.nextPrepared
      keyCurrent := s.frames.keyPrepared
      keyPrepared := none
      last := none
      carried := none
      consecutive := 0 } }

/-! ### The picture link -/

/-- A send begins. With a frame or a black frame every record in the overlay outbox leaves, in order (R164); a
challenge carries none. -/
def beginSend (f : Send) (s : State) : State :=
  match f with
  | .challenge _ => { s with frames := { s.frames with sending := some f, travelling := [] } }
  | _ =>
    { s with
      frames := { s.frames with sending := some f, travelling := s.subs.overlay }
      subs := { s.subs with overlay := [], sent := addAt s.subs.sent 0 s.subs.overlay.length } }

/-- A frame chosen at a tick begins when the link is free, and otherwise becomes the waiting frame; a frame already
waiting is overtaken, and the last frame sent becomes the frame last carried to completion (R129), also where the
frame that overtakes it is the due one. -/
def putOnLink (f : Send) (s : State) : State :=
  match s.frames.sending with
  | none => beginSend f s
  | some _ =>
    match s.frames.waiting with
    | none => { s with frames := { s.frames with waiting := some f } }
    | some _ =>
      { s with frames := { s.frames with
          waiting := some f, overtaken := bump max32 s.frames.overtaken, last := s.frames.carried } }

/-- The last frame sent, again; black while none of the showing has been sent (R127, R128). -/
def repeatSend (sh : Showing) (s : State) : Send :=
  match s.frames.last with
  | some f => .frame sh.record f
  | none => .black

/-- Causes of a repeat (R128), in the order of the counts. -/
inductive RepeatCause where
  | missing | late | empty
  deriving DecidableEq, Repr

def RepeatCause.code : RepeatCause → Nat
  | .missing => 0 | .late => 1 | .empty => 2

/-- The current showing changed by `f`. -/
def updateShowing (f : Showing → Showing) (s : State) : State :=
  match s.seq.current with
  | .play sh => { s with seq := { s.seq with current := .play (f sh) } }
  | _ => s

/-- The due frame could not be presented: the last frame sent is sent again, the repeat is counted and reported to the
sequencer, and PICTURE_UNDERRUN is raised (R128, R92). -/
def repeatFrame (sh : Showing) (cause : RepeatCause) (s : State) : State :=
  let again := repeatSend sh s
  let n := s.frames.consecutive + 1
  let s := { s with frames := { s.frames with
      consecutive := n, repeats := bumpAt s.frames.repeats cause.code } }
  let s := putOnLink again s
  updateShowing (fun sh => { sh with repeated := sh.repeated + 1 })
    (raise .pictureUnderrun (num 3 s.time.frame ++ code cause.code ++ num 1 n) s)

/-- The due frame of the current showing at a tick (R128). A frame presented is the last frame sent from the tick on, unless
it overtakes a waiting frame (R129). -/
def presentDue (sh : Showing) (s : State) : State :=
  let due := s.time.frame
  match s.frames.places with
  | p :: rest =>
    if p.frame = due && !p.prepared then
      match p.condition with
      | .complete =>
        let picture : Picture := { frame := due, blocks := p.blocks }
        updateShowing (fun sh => { sh with presented := sh.presented + 1 })
          (putOnLink (.frame sh.record picture)
            { s with frames := { s.frames with places := rest, consecutive := 0, last := some picture } })
      | .missing => repeatFrame sh .missing { s with frames := { s.frames with places := rest } }
      | .filling =>
        repeatFrame sh .late
          (withdrawReader .picture { s with frames := { s.frames with places := rest, job := none } })
    else
      repeatFrame sh .empty
        { s with frames := { s.frames with nextCurrent := max s.frames.nextCurrent (due + 1) } }
  | [] =>
    repeatFrame sh .empty
      { s with frames := { s.frames with nextCurrent := max s.frames.nextCurrent (due + 1) } }

/-- The frame sent at a tick (R127); `takeover` at a showing's takeover tick. -/
def presentPicture (takeover : Bool) (s : State) : State :=
  match s.showing with
  | some sh =>
    if s.seq.state = .running || (takeover && decide (s.seq.state = .paused)) then presentDue sh s
    else if s.seq.state = .paused then putOnLink (repeatSend sh s) s
    else putOnLink .black s
  | none => putOnLink .black s

/-! ### The link check -/

/-- An ordinary link-check request (R132). -/
def requestLinkCheck (s : State) : State :=
  match s.link.requester with
  | .idle => { s with link := { s.link with requester := .pending } }
  | _ => s

/-- A check begins: its challenge carries the next challenge number and is the link's next send (R133). -/
def beginLinkCheck (s : State) : State :=
  let n := (s.link.challenge + 1) % 256
  beginSend (.challenge n)
    { s with link := { s.link with
        requester := .checking, retry := false, challenge := n, begun := bump max32 s.link.begun } }

/-- The link after a send: a pending check takes it first, then the waiting frame (R129). A waiting frame whose showing has
ended is sent all the same, also of a scrambled one, except where R129 and R135 have replaced it by black: at a show reset
and at a loss of the link. The law of R131 speaks of frames during a showing only (DESIGN CHOICE, assumption 20). -/
def freeLink (s : State) : State :=
  let s := { s with frames := { s.frames with sending := none, travelling := [] } }
  if s.link.requester = .pending then beginLinkCheck s
  else
    match s.frames.waiting with
    | some f => beginSend f { s with frames := { s.frames with waiting := none } }
    | none => s

/-- A frame of the current showing has been carried to completion: it is the last frame the link has carried, and the last
frame sent unless a later one has been sent already (R127, R129). -/
def FrameSide.carry (p : Picture) (f : FrameSide) : FrameSide :=
  { f with
    carried := some p
    last := match f.last with
      | some l => if p.frame < l.frame then some l else some p
      | none => some p }

/-- The completion of the send in flight (R129, R133). -/
def completeSend (s : State) : State :=
  match s.frames.sending with
  | none => s
  | some f =>
    let s :=
      match f with
      | .frame record p =>
        if s.showing.map (·.record) = some record then { s with frames := s.frames.carry p } else s
      | .black => s
      | .challenge _ => { s with link := { s.link with answerTimer := some 0 } }
    freeLink s

/-- Outcomes of a link check (R131, R133). -/
inductive CheckOutcome where
  | paired
  | other
  | timeout
  deriving DecidableEq, Repr

def CheckOutcome.code : CheckOutcome → Nat
  | .paired => 0 | .other => 1 | .timeout => 2

/-- The link state an outcome leads to (R131). -/
def LinkState.after (outcome : CheckOutcome) (l : LinkState) : LinkState :=
  match outcome, l with
  | .paired, _ => .paired
  | .other, _ => .unpaired
  | .timeout, .unknown => .suspect
  | .timeout, .paired => .suspect
  | .timeout, .suspect => .unpaired
  | .timeout, .unpaired => .unpaired

/-- The counts of R133 after an outcome. -/
def LinkSide.counted (outcome : CheckOutcome) (l : LinkSide) : LinkSide :=
  match outcome with
  | .paired => { l with answersPaired := bump max32 l.answersPaired }
  | .other => { l with answersOther := bump max32 l.answersOther }
  | .timeout => { l with timeouts := bump max32 l.timeouts }

/-- A check ends (R131 to R133): the counts, the timer, the state, the retry that a timeout into SUSPECT asks for, the
requester, and LINK_UNPAIRED at a change into UNPAIRED. -/
def endLinkCheck (outcome : CheckOutcome) (answered : Option Nat) (s : State) : State :=
  let before := s.link.state
  let after := before.after outcome
  let again := s.link.retry || decide (after = .suspect)
  let s := { s with link := { s.link.counted outcome with
      state := after, answerTimer := none, retry := again,
      requester := if again then .pending else .idle } }
  if after = .unpaired && !decide (before = .unpaired) then
    raise .linkUnpaired
      (code before.code ++ code outcome.code ++ opt (num 4) s.link.paired ++ opt (num 4) answered) s
  else s

/-- The outcome of an answer (R130, R133): a part that holds no paired id takes every answer as one with another id. -/
def answerOutcome (projector : Nat) (s : State) : CheckOutcome :=
  if s.link.paired = some projector then .paired else .other

end Machine
end Sys2Proof
end

