-- ==== Sys2Proof/Machine/SoundPath.lean ====
section
/-!
DEFINITION. The sound renderer: placing samples (R138, R139), the buffer and its reader (R140 to R143), presentation
and gain (R144 to R146), route sets (R148), the fader (R149, R150) and mute (R151).
-/
namespace Sys2Proof
namespace Machine

open Layout

/-! ### Placing samples -/

/-- The channel count, layout code and sample-frame count of a SOUND track. -/
def soundInfo (track : Nat) (s : State) : Option (Nat × Nat × Nat) :=
  match s.catalogue.tracks.find track with
  | some e =>
    match e.header.info with
    | .sound c layout n => some (c, layout, n)
    | _ => none
  | none => none

/-- The channel count of a SOUND track, 1 when the table holds none. -/
def channelsOf (track : Nat) (s : State) : Nat :=
  match soundInfo track s with
  | some (c, _, _) => c
  | none => 1

/-- The sound track of reel `k` of a PLAY. -/
def soundTrack (p : Play) (k : Nat) : Option Nat :=
  match p.composition.reels[k - 1]? with
  | some r => r.sound
  | none => none

/-- A sample position of a PLAY resolved in the order of R139. The played span is that of the PLAY also where a revocation has
moved the showing's end nearer (R105): no rule shortens it (DESIGN CHOICE, assumption 48). -/
def resolvePosition (p : Play) (q : Int) (s : State) : Cell :=
  let spf := samplesPerFrame p.composition.rate
  if q < 0 || q < (p.firstFrame * spf : Nat) || ((p.lastFrame + 1) * spf : Nat) ≤ q then .silence
  else
    match reelAt p.composition.reels (q.toNat / spf) with
    | none => .silence
    | some (k, reel, start) =>
      match reel.sound with
      | none => .silence
      | some t =>
        let n := q.toNat - start * spf
        match soundInfo t s with
        | some (_, _, samples) => if samples ≤ n then .silence else .awaited k n
        | none => .awaited k n

/-- The positions of a composition frame of a PLAY with lip-sync trim `d` (R139). -/
def resolveFrame (p : Play) (f : Nat) (d : Int) (s : State) : List Cell :=
  let spf := samplesPerFrame p.composition.rate
  (List.range spf).map fun (i : Nat) => resolvePosition p ((f * spf : Nat) - d + i) s

/-! ### The buffer and its reader -/

def Cell.isAwaited : Cell → Bool
  | .awaited _ _ => true
  | _ => false

def Cell.isLost : Cell → Bool
  | .lost => true
  | _ => false

/-- A position that R139 reads from a track, whatever became of it. -/
def Cell.isRead : Cell → Bool
  | .silence => false
  | _ => true

/-- A portion is FILLING while any of its positions is awaited (R140). -/
def Portion.filling (p : Portion) : Bool := p.cells.any Cell.isAwaited

/-- The samples of all channels at sample frame `j` of a block's bytes (R138). -/
def samplesAt (bytes : List Byte) (c j : Nat) : List Int :=
  (List.range c).map fun ch => signed 3 (text 3 ((bytes.drop (j * (3 * c) + 3 * ch)).take 3))

/-- The PLAY a portion belongs to. -/
def playOf (prepared : Bool) (s : State) : Option Play :=
  if prepared then s.preparedPlay else s.showing.map (·.play)

/-- Awaited positions whose blocks lie in the read run are copied from it (R141). -/
def copyFromRun (p : Play) (s : State) (cells : List Cell) : List Cell :=
  match s.sound.run with
  | none => cells
  | some run =>
    let c := channelsOf run.track s
    let n := samplesPerBlock c
    cells.map fun cell =>
      match cell with
      | .awaited k i =>
        if soundTrack p k = some run.track && run.block ≤ i / n then
          match run.blocks[i / n - run.block]? with
          | some bytes => .present k (samplesAt bytes c (i % n))
          | none => cell
        else cell
      | _ => cell

/-- The first awaited position: its reel and sample frame. -/
def firstAwaited (cells : List Cell) : Option (Nat × Nat) :=
  cells.findSome? fun
    | .awaited k i => some (k, i)
    | _ => none

/-- The positions of the FILLING portion replaced. -/
def setCells (cells : List Cell) (s : State) : State :=
  { s with sound := { s.sound with
      portions := s.sound.portions.map fun p => if p.filling then { p with cells := cells } else p } }

/-- The blocks of the transfer that reads from a block on (R141): as remain in the extent, below the track's declared
length, and within the reel's part of the played span, up to 8. -/
def transferBlocks (p : Play) (k track block remaining : Nat) (s : State) : Nat :=
  let declared :=
    match s.catalogue.tracks.find track with
    | some e => e.header.length
    | none => 0
  let n := samplesPerBlock (channelsOf track s)
  let duration :=
    match p.composition.reels[k - 1]? with
    | some r => r.duration
    | none => 0
  let last := (duration * samplesPerFrame p.composition.rate - 1) / n
  min 8 (min remaining (min (declared - block) (last + 1 - block)))

/-- Awaited positions of blocks `block` to `block + count − 1` of a track are marked lost (R142). -/
def loseBlocks (p : Play) (track block count : Nat) (s : State) (cells : List Cell) : List Cell :=
  let n := samplesPerBlock (channelsOf track s)
  cells.map fun cell =>
    match cell with
    | .awaited k i =>
      if soundTrack p k = some track && block ≤ i / n && i / n < block + count then .lost else cell
    | _ => cell

/-- The sound reader asks the arbiter for a transfer (R141). -/
def askSound (track block count store : Nat) (s : State) : State :=
  askStore { client := .sound, writes := false, first := store, count := count, track := some track }
    { s with sound := { s.sound with job := some { track := track, block := block, count := count } } }

/-- The FILLING portion is filled as far as it goes without waiting (R141, R142): from the read run, then by a lookup
for the first awaited position left. -/
def fillPortion : Nat → State → State
  | 0, s => s
  | fuel + 1, s =>
    match s.sound.portions.find? Portion.filling with
    | none => { s with sound := { s.sound with job := none } }
    | some portion =>
      match playOf portion.prepared s with
      | none => s
      | some p =>
        let cells := copyFromRun p s portion.cells
        match firstAwaited cells with
        | none => setCells cells { s with sound := { s.sound with job := none } }
        | some (k, i) =>
          match soundTrack p k with
          | none => setCells (cells.map fun c => if c.isAwaited then .lost else c) s
          | some t =>
            let b := i / samplesPerBlock (channelsOf t s)
            let s := setCells cells s
            match lookup .sound (if portion.prepared then .readerPreparation else .lookup) t b s with
            | (.hit store remaining, s) => askSound t b (transferBlocks p k t b remaining s) store s
            | (.waiting, s) =>
              { s with sound := { s.sound with job := some { track := t, block := b, count := 0 } } }
            | (.fault, s) =>
              fillPortion fuel
                (setCells (loseBlocks p t b 1 s cells) { s with sound := { s.sound with run := none } })

/-- Steps enough to fill a portion: each lookup that faults marks at least one position. -/
def portionFuel (s : State) : Nat :=
  match s.sound.portions.find? Portion.filling with
  | some p => p.cells.length + 1
  | none => 1

/-- The prepared PLAY's next portion, if one is left. -/
def preparedNextPortion (s : State) : Option (Bool × Play × Nat) :=
  match s.preparedPlay with
  | some p => if s.sound.nextPrepared ≤ p.lastFrame then some (true, p, s.sound.nextPrepared) else none
  | none => none

/-- The sound reader's next portion, chosen as the picture reader chooses its next frame (R141). -/
def nextPortion (s : State) : Option (Bool × Play × Nat) :=
  match s.showing with
  | some sh =>
    if s.sound.nextCurrent ≤ sh.endFrame then some (false, sh.play, s.sound.nextCurrent) else preparedNextPortion s
  | none => preparedNextPortion s

/-- The reader begins its next portion (R141): its positions are resolved, and it is filled as far as it goes. -/
def beginPortion (s : State) : State :=
  if 4 ≤ s.sound.portions.length || s.sound.portions.any Portion.filling then s
  else
    match nextPortion s with
    | none => s
    | some (prepared, p, f) =>
      let cells := resolveFrame p f (if prepared then s.sound.trimPrepared else s.sound.trimCurrent) s
      let s := { s with sound := { s.sound with
          portions := s.sound.portions ++ [{ prepared := prepared, frame := f, cells := cells }]
          nextCurrent := if prepared then s.sound.nextCurrent else f + 1
          nextPrepared := if prepared then f + 1 else s.sound.nextPrepared } }
      fillPortion (portionFuel s) s

/-- The FILLING portion with its PLAY. -/
def fillingPortion (s : State) : Option (Portion × Play) :=
  match s.sound.portions.find? Portion.filling with
  | some portion => (playOf portion.prepared s).map fun p => (portion, p)
  | none => none

/-- The sound reader takes the answer to the lookup it waits for (R141, R142). -/
def soundAnswer (a : Answer) (s : State) : State :=
  match s.sound.job, fillingPortion s with
  | some j, some (portion, p) =>
    match a with
    | .hit store remaining =>
      match firstAwaited portion.cells with
      | some (k, _) => askSound j.track j.block (transferBlocks p k j.track j.block remaining s) store s
      | none => s
    | .fault =>
      let s := setCells (loseBlocks p j.track j.block 1 s portion.cells)
        { s with sound := { s.sound with run := none } }
      fillPortion (portionFuel s) s
    | .waiting => fillPortion (portionFuel s) s
  | _, _ => s

/-- The completion of a transfer of the sound reader (R141, R142): its blocks become the read run, or on a store fault
the positions it was to bring are lost. -/
def soundTransfer (ok : Bool) (t : Transfer) (s : State) : State :=
  match s.sound.job, fillingPortion s with
  | some j, some (portion, p) =>
    if ok then
      let blocks := (List.range t.request.count).map fun i => s.store.bytes (t.request.first + i)
      let s := { s with sound := { s.sound with
          run := some { track := j.track, block := j.block, blocks := blocks } } }
      fillPortion (portionFuel s) s
    else
      let s := setCells (loseBlocks p j.track j.block j.count s portion.cells)
        { s with sound := { s.sound with run := none } }
      fillPortion (portionFuel s) s
  | _, _ => s

/-! ### Discards (R143) -/

/-- Portions that do not satisfy `keep` leave the buffer; a discarded FILLING one ends the reader's work on it. -/
def keepPortions (keep : Portion → Bool) (s : State) : State :=
  let dropsJob := s.sound.portions.any fun p => p.filling && !keep p
  let s := { s with sound := { s.sound with portions := s.sound.portions.filter keep } }
  if dropsJob then withdrawReader .sound { s with sound := { s.sound with job := none } } else s

/-- Whether a track is one of a showing's tracks as R143 speaks of them: a sound track of its composition, also of a reel
outside the played range (DESIGN CHOICE, assumption 21). -/
def Play.hasSoundTrack (p : Play) (track : Nat) : Bool := p.composition.reels.any fun r => decide (r.sound = some track)

/-- What the renderer drops when the current showing ends: its portions, the read run of its tracks (R143) and its
route sets (R148). -/
def dropCurrentSound (sh : Showing) (s : State) : State :=
  let s := keepPortions (·.prepared) s
  { s with sound := { s.sound with
      routesCurrent := []
      run := s.sound.run.filter fun r => !sh.play.hasSoundTrack r.track } }

/-- What the renderer drops of the prepared PLAY (R143, R148). -/
def dropPreparedSound (s : State) : State :=
  let s := keepPortions (fun p => !p.prepared) s
  { s with sound := { s.sound with routesPrepared := [] } }

/-- The portions of the current showing beyond a new last frame (R105). -/
def dropSoundBeyond (last : Nat) (s : State) : State :=
  keepPortions (fun p => p.prepared || decide (p.frame ≤ last)) s

/-- The prepared PLAY becomes the current showing: its portions, its trim (R152) and its route sets (R148) go with it. -/
def takeOverSound (s : State) : State :=
  { s with sound := { s.sound with
      portions := s.sound.portions.map fun p => { p with prepared := false }
      nextCurrent := s.sound.nextPrepared
      routesCurrent := s.sound.routesPrepared
      routesPrepared := []
      trimCurrent := s.sound.trimPrepared } }

/-! ### Route sets -/

/-- The held map of a layout code, with its slot (R147). -/
def findMap (maps : Table SoundMap) (code : Nat) : Option (Nat × SoundMap) :=
  maps.find? fun p => decide (p.2.code = code)

/-- The identity set (R148): output o takes source channel o with gain 4,096 below the channel count. -/
def identityRoutes (channels : Nat) : List Route :=
  (List.range 24).map fun o => { source := if o < channels then some o else none, gain := 4096 }

/-- The route set of one reel, when it has a sound track. -/
def routeSetOf (p : Play) (k : Nat) (s : State) : Option RouteSet :=
  match soundTrack p k with
  | none => none
  | some t =>
    match soundInfo t s with
    | none => none
    | some (c, layout, _) =>
      match findMap s.sound.maps layout with
      | some (_, m) => some { reel := k, code := layout, identity := false, channels := c, routes := m.routes }
      | none =>
        some { reel := k, code := layout, identity := true, channels := c, routes := identityRoutes c }

/-- The reels of a PLAY's played range. -/
def Play.reels (p : Play) : List Nat := (List.range (p.lastReel + 1 - p.firstReel)).map (· + p.firstReel)

/-- The route sets of a PLAY that becomes the prepared entry; MAP_MISSING is raised once for each reel whose layout has
no map (R148). -/
def formRouteSets (p : Play) (s : State) : State :=
  let sets := p.reels.filterMap fun k => routeSetOf p k s
  let s := { s with sound := { s.sound with routesPrepared := sets } }
  sets.foldl (fun s r =>
    if r.identity then raise .mapMissing (num 1 p.id ++ num 1 r.reel ++ num 1 r.code) s else s) s

/-! ### Presentation and gain -/

/-- The value sent for a source sample through a route gain and the house fader, before saturation (R146). -/
def scaled (sample : Int) (gain fader : Nat) : Int := sample * gain * fader / 16777216

/-- Saturation to a signed 24-bit sample (R146). -/
def saturate (v : Int) : Int := if 8388607 < v then 8388607 else if v < -8388608 then -8388608 else v

/-- The unsaturated value of output `o` for a position of a reel (R145). -/
def outputValue (sets : List RouteSet) (fader : Nat) (k : Nat) (samples : List Int) (o : Nat) : Int :=
  match sets.find? fun r => decide (r.reel = k) with
  | none => 0
  | some set =>
    match set.routes[o]? with
    | none => 0
    | some route =>
      match route.source with
      | none => 0
      | some ch => if ch < set.channels then scaled (samples.getD ch 0) route.gain fader else 0

/-- The unsaturated values of the 24 outputs at a position; planned silence and lost positions carry 0. -/
def outputRow (sets : List RouteSet) (fader : Nat) : Cell → List Int
  | .present k samples => (List.range 24).map (outputValue sets fader k samples)
  | _ => List.replicate 24 0

/-- Causes of an underrun (R144), in the order of the counts. -/
inductive UnderrunCause where
  | fault | late | empty
  deriving DecidableEq, Repr

def UnderrunCause.code : UnderrunCause → Nat
  | .fault => 0 | .late => 1 | .empty => 2

/-- A tick with missing samples (R144). -/
def soundUnderrun (cause : UnderrunCause) (missing : Nat) (s : State) : State :=
  if missing = 0 then s
  else
    raise .soundUnderrun (num 3 s.time.frame ++ code cause.code ++ num 2 missing)
      { s with sound := { s.sound with underruns := bumpAt s.sound.underruns cause.code } }

/-- The outputs carry 0 for the rest of the frame period. -/
def silenceOutputs (s : State) : State := { s with sound := { s.sound with outputs := [] } }

/-- A COMPLETE portion is output: its positions scaled and saturated, each saturated sample counted (R144 to R146). -/
def outputPortion (portion : Portion) (s : State) : State :=
  let rows := portion.cells.map (outputRow s.sound.routesCurrent s.sound.fader)
  let clips := total (rows.map fun row => (row.filter fun v => !decide (saturate v = v)).length)
  soundUnderrun .fault (portion.cells.filter Cell.isLost).length
    { s with sound := { s.sound with
        outputs := rows.map (·.map saturate), clips := min max32 (s.sound.clips + clips) } }

/-- The due frame's portion at a tick in RUNNING (R144). Portions of frames the tick has left behind go first. -/
def renderDue (sh : Showing) (s : State) : State :=
  let due := s.time.frame
  let s := keepPortions (fun p => p.prepared || decide (due ≤ p.frame)) s
  match s.sound.portions with
  | p :: rest =>
    if p.frame = due && !p.prepared then
      if p.filling then
        soundUnderrun .late (p.cells.filter Cell.isRead).length
          (silenceOutputs
            (withdrawReader .sound { s with sound := { s.sound with portions := rest, job := none } }))
      else outputPortion p { s with sound := { s.sound with portions := rest } }
    else
      soundUnderrun .empty ((resolveFrame sh.play due s.sound.trimCurrent s).filter Cell.isRead).length
        (silenceOutputs { s with sound := { s.sound with nextCurrent := max s.sound.nextCurrent (due + 1) } })
  | [] =>
    soundUnderrun .empty ((resolveFrame sh.play due s.sound.trimCurrent s).filter Cell.isRead).length
      (silenceOutputs { s with sound := { s.sound with nextCurrent := max s.sound.nextCurrent (due + 1) } })

/-- The renderer mutes in every state other than RUNNING and while an interlock holds (R151). -/
def State.muted (s : State) : Bool := !decide (s.seq.state = .running) || s.interlocked

/-- Why the renderer mutes by the state as it stands. R153 gives no precedence between the two reasons; the model names
the interlock while one holds (DESIGN CHOICE, assumption 38). -/
def State.muteReason (s : State) : Option MuteReason :=
  if s.interlocked then some .interlock else if s.seq.state = .running then none else some .sequencer

/-- The mute is judged by the state as it stands: at each tick for the frame period it begins, and at an event that mutes at
once (R151). -/
def judgeMute (s : State) : State := { s with sound := { s.sound with mute := s.muteReason } }

/-- The outputs are muted at once, for the rest of the frame period (R151). -/
def muteNow (s : State) : State := silenceOutputs (judgeMute s)

/-- The frame period's samples chosen at a tick (R144). -/
def renderSound (s : State) : State :=
  let t := judgeMute s
  match s.showing with
  | some sh => if s.muted then silenceOutputs t else renderDue sh t
  | none => silenceOutputs t

/-! ### The house fader -/

/-- A fade is taken from FADER SET or a FADER cue, with both values clamped (R149). -/
def takeFade (target frames : Nat) (s : State) : State :=
  { s with sound := { s.sound with
      fade := some { start := s.sound.fader, target := min target 8192, length := min frames 1200, taken := 0 } } }

/-- The fader's value after `k` of the fade's ticks (R150). -/
def Fade.at (f : Fade) (k : Nat) : Nat :=
  ((f.start : Int) + (((f.target : Int) - f.start) * k).tdiv f.length).toNat

/-- A fade in progress moves one step (R150). -/
def stepFade (s : State) : State :=
  match s.sound.fade with
  | none => s
  | some f =>
    let k := f.taken + 1
    if f.length ≤ k then { s with sound := { s.sound with fader := f.target, fade := none } }
    else { s with sound := { s.sound with fader := f.at k, fade := some { f with taken := k } } }

end Machine
end Sys2Proof
end

