-- ==== Sys2Proof/Machine/Compare.lean ====
section
/-!
DEFINITION. The compare units (R118, R119), the timecode (R116) and the capture queue (R121). What a fire does stands
with the owners of the units.
-/
namespace Sys2Proof
namespace Machine

open Layout

/-- A target loaded into a unit: to ARMED when it is empty, else to PENDING when that is empty; with both full the load
is not taken (R118). -/
def CompareUnit.load (t : Target) (u : CompareUnit) : CompareUnit :=
  match u.armed with
  | none => { u with armed := some t }
  | some _ =>
    match u.pending with
    | none => { u with pending := some t }
    | some _ => u

/-- A unit after a fire: PENDING has moved to ARMED (R119). -/
def CompareUnit.moveUp (u : CompareUnit) : CompareUnit := { armed := u.pending, pending := none }

/-- Whether unit `n` compares the composition frame or the reel frame. -/
def counterOf (n : Nat) (s : State) : Nat := if n < 2 then s.time.frame else s.time.reelFrame

/-- The target with which unit `n` fires now: with a current showing, its ARMED target at or below its counter
(R119). -/
def firing (n : Nat) (s : State) : Option Target :=
  match s.showing with
  | none => none
  | some _ =>
    match s.time.units[n]? with
    | none => none
    | some u =>
      match u.armed with
      | none => none
      | some t => if t.frame ≤ counterOf n s then some t else none

/-- Unit `n` changed by `f`. -/
def updateUnit (n : Nat) (f : CompareUnit → CompareUnit) (s : State) : State :=
  { s with time := { s.time with units := updateAt f s.time.units n } }

/-- Both places of the units chosen by `p` become empty (R118). -/
def emptyUnits (p : Nat → Bool) (s : State) : State :=
  { s with time := { s.time with
      units := (List.range s.time.units.length).map fun n =>
        if p n then CompareUnit.empty else s.time.units.getD n CompareUnit.empty } }

/-- The timecode of a composition frame at a rate (R116). -/
def timecodeOf (f rate : Nat) : Timecode :=
  { frames := f % rate, seconds := f / rate % 60, minutes := f / (60 * rate) % 60,
    hours := f / (3600 * rate) % 100 }

/-- The cascade after the composition frame has risen by 1 (R116). -/
def Timecode.tick (rate : Nat) (t : Timecode) : Timecode :=
  if t.frames + 1 < rate then { t with frames := t.frames + 1 }
  else if t.seconds + 1 < 60 then { t with frames := 0, seconds := t.seconds + 1 }
  else if t.minutes + 1 < 60 then { t with frames := 0, seconds := 0, minutes := t.minutes + 1 }
  else if t.hours + 1 < 100 then { hours := t.hours + 1, minutes := 0, seconds := 0, frames := 0 }
  else { hours := 0, minutes := 0, seconds := 0, frames := 0 }

/-- The source of a capture (R121): MARK, or the line number. R198 gives no form for a field that is a named value or a
number; the model sends byte 0 for MARK, and byte 1 with the line number for a line (DESIGN CHOICE, assumption 28). -/
def captureSource : Option Nat → List Byte
  | none => [0#8]
  | some n => 1#8 :: num 1 n

/-- A capture is taken (R121): added at the tail while the queue holds fewer than 8, else dropped and counted. -/
def takeCapture (line : Option Nat) (s : State) : State :=
  if s.time.captures.length < 8 then
    raise .captureTaken (captureSource line ++ num 3 s.time.frame)
      { s with time := { s.time with captures := s.time.captures ++
          [{ line := line, composition := s.showing.map (·.play.id), reel := s.time.reel,
             reelFrame := s.time.reelFrame, frame := s.time.frame, timecode := s.time.timecode,
             time := s.keys.clock }] } }
  else
    raise .captureOverrun (captureSource line)
      { s with time := { s.time with dropped := bump 65535 s.time.dropped } }

end Machine
end Sys2Proof
end

