-- ==== Sys2Proof/Machine/Captions.lean ====
section
/-!
DEFINITION. The subtitle engine: cue records and their admission (R155, R156), banks and the loader (R157, R158), the
conversion and the feeding of the compare units (R159 to R161), display slots (R162, R163) and the outboxes (R164,
R165).
-/
namespace Sys2Proof
namespace Machine

open Layout

/-! ### Outboxes -/

def StreamRoute.toOverlay : StreamRoute → Bool
  | .overlay => true | .both => true | _ => false

def StreamRoute.toSeats : StreamRoute → Bool
  | .seats => true | .both => true | _ => false

/-- The seat link takes the oldest record when it is free (R165). -/
def feedSeats (s : State) : State :=
  match s.subs.transmitting with
  | some _ => s
  | none =>
    match s.subs.seats with
    | r :: rest => { s with subs := { s.subs with transmitting := some r, seats := rest } }
    | [] => s

/-- Whether a record is the SHOW of a cue of a stream. -/
def CaptionRecord.presents (stream number : Nat) : CaptionRecord → Bool
  | .present k _ _ cue => decide (k = stream) && decide (cue.number = number)
  | .clear _ _ _ => false

/-- A CLEAR joins an outbox, or is withdrawn together with the cue's SHOW when that has not left (R164). The second
part of the answer says that a pair was cancelled. -/
def clearInto (stream number : Nat) (reason : ClearReason) (box : List CaptionRecord) : List CaptionRecord × Bool :=
  if box.any (CaptionRecord.presents stream number) then
    (box.filter fun r => !r.presents stream number, true)
  else (box ++ [.clear stream number reason], false)

/-- A SHOW record to the outputs given. -/
def sendShow (overlay seats : Bool) (r : CaptionRecord) (s : State) : State :=
  feedSeats { s with subs := { s.subs with
    overlay := if overlay then s.subs.overlay ++ [r] else s.subs.overlay
    seats := if seats then s.subs.seats ++ [r] else s.subs.seats } }

/-- A CLEAR record to the outputs given. -/
def sendClear (overlay seats : Bool) (stream number : Nat) (reason : ClearReason) (s : State) : State :=
  let o := if overlay then clearInto stream number reason s.subs.overlay else (s.subs.overlay, false)
  let b := if seats then clearInto stream number reason s.subs.seats else (s.subs.seats, false)
  let n := if o.2 then bumpAt s.subs.cancelled 0 else s.subs.cancelled
  feedSeats { s with subs := { s.subs with
    overlay := o.1, seats := b.1, cancelled := if b.2 then bumpAt n 1 else n } }

/-! ### Streams, slots and drops -/

/-- Stream `k` changed by `f`. -/
def updateStream (k : Nat) (f : Stream → Stream) (s : State) : State :=
  { s with subs := { s.subs with streams := updateAt f s.subs.streams k } }

/-- Causes of a dropped cue (R167), in the order of the counts. -/
inductive DropCause where
  | form | order | capacity | range | late | fault
  deriving DecidableEq, Repr

def DropCause.code : DropCause → Nat
  | .form => 0 | .order => 1 | .capacity => 2 | .range => 3 | .late => 4 | .fault => 5

/-- Cues dropped for a cause are counted. -/
def countDrops (c : DropCause) (n : Nat) (s : State) : State :=
  { s with subs := { s.subs with drops := addAt s.subs.drops c.code n } }

/-- CUE_DROPPED with the stream, the composition id, the reel and the count of each cause, when any cue was dropped. -/
def raiseDropped (stream composition reel : Nat) (counts : List Nat) (s : State) : State :=
  if total counts = 0 then s
  else raise .cueDropped (num 1 stream ++ num 1 composition ++ num 1 reel ++ counts.flatMap (num 4)) s

/-- A displayed cue leaves slot `n` of stream `k` with a CLEAR record (R163). -/
def clearSlot (k n : Nat) (reason : ClearReason) (s : State) : State :=
  match s.subs.streams[k]? with
  | none => s
  | some st =>
    match (st.slots[n]?).join with
    | none => s
    | some shown =>
      sendClear st.route.toOverlay st.route.toSeats k shown.timed.cue.number reason
        (updateStream k (fun st => { st with slots := replaceAt st.slots n none }) s)

/-- The displayed cues of stream `k` that satisfy `p` are cleared, lower slot first. -/
def clearWhere (k : Nat) (p : Shown → Bool) (reason : ClearReason) (s : State) : State :=
  [0, 1].foldl (fun s n =>
    match s.subs.streams[k]? with
    | none => s
    | some st =>
      match (st.slots[n]?).join with
      | none => s
      | some shown => if p shown then clearSlot k n reason s else s) s

/-- The four streams. -/
def streamNumbers : List Nat := [0, 1, 2, 3]

/-- Every displayed cue of every stream is cleared (R163). The manual gives no order of the CLEAR records across streams;
the model takes the streams from 0 to 3 (DESIGN CHOICE, assumption 39). -/
def clearAll (reason : ClearReason) (s : State) : State :=
  streamNumbers.foldl (fun s k => clearWhere k (fun _ => true) reason s) s

/-- The displayed cues of stream `k` whose out-frame the reel frame has reached are cleared OUT (R162, R163). -/
def clearPassed (k : Nat) (s : State) : State :=
  clearWhere k (fun shown => decide (shown.timed.outFrame ≤ s.time.reelFrame)) .out s

/-- The clearings of a frame tick (R163), the streams in the order of `clearAll` (DESIGN CHOICE, assumption 39). -/
def clearAtTick (s : State) : State := streamNumbers.foldl (fun s k => clearPassed k s) s

/-- The slot a new cue takes (R162): the lowest empty one, else that of the cue with the earliest out-frame, of equal ones
the lower; with the cue it displaces. -/
def chooseSlot (slots : List (Option Shown)) : Nat × Option Shown :=
  match (slots[0]?).join, (slots[1]?).join with
  | none, _ => (0, none)
  | some _, none => (1, none)
  | some a, some b => if b.timed.outFrame < a.timed.outFrame then (1, some b) else (0, some a)

/-- The unit of stream `k` fired with a cue (R162). -/
def showCue (k tag : Nat) (s : State) : State :=
  let s := clearPassed k s
  match s.subs.streams[k]?, s.showing with
  | some st, some sh =>
    match (st.timed.getD [])[tag]? with
    | none => s
    | some timed =>
      if timed.outFrame ≤ s.time.reelFrame then countDrops .late 1 s
      else
        let (n, displaced) := chooseSlot st.slots
        let s :=
          match displaced with
          | none => s
          | some old =>
            raise .cueDisplaced (num 1 k ++ num 2 old.timed.cue.number ++ num 2 timed.cue.number)
              (clearSlot k n .displaced
                { s with subs := { s.subs with displaced := bump max32 s.subs.displaced } })
        let s := updateStream k
          (fun st => { st with slots := replaceAt st.slots n (some { tag := tag, timed := timed }) }) s
        sendShow st.route.toOverlay st.route.toSeats (.present k sh.play.id s.time.reel timed.cue) s
  | _, _ => s

/-! ### Feeding the compare unit -/

/-- The first cue from `n` on whose out-frame is above the reel frame, with the number of cues passed over (R160). -/
def passOver (frame : Nat) : List TimedCue → Nat → Nat × Nat
  | [], n => (n, 0)
  | c :: rest, n =>
    if c.outFrame ≤ frame then
      let (m, passed) := passOver frame rest (n + 1)
      (m, passed + 1)
    else (n, 0)

/-- The stream's next cue is loaded into its unit, cues already over being passed over and counted LATE (R160). -/
def loadNextCue (k : Nat) (s : State) : State :=
  match s.subs.streams[k]? with
  | none => s
  | some st =>
    match st.timed with
    | none => s
    | some timed =>
      let (n, passed) := passOver s.time.reelFrame (timed.drop st.nextCue) st.nextCue
      let s := countDrops .late passed s
      match timed[n]? with
      | none => updateStream k (fun st => { st with nextCue := n }) s
      | some c =>
        updateUnit (2 + k) (CompareUnit.load { frame := c.inFrame, tag := n })
          (updateStream k (fun st => { st with nextCue := n + 1 }) s)

/-- Unit 2 + k fires as long as its ARMED target is reached: each fire shows its cue and loads the next (R119, R160). -/
def fireStream (k : Nat) : Nat → State → State
  | 0, s => s
  | fuel + 1, s =>
    match firing (2 + k) s with
    | none => s
    | some t => fireStream k fuel (loadNextCue k (showCue k t.tag (updateUnit (2 + k) CompareUnit.moveUp s)))

/-- Fires enough for every cue of the stream. -/
def streamFuel (k : Nat) (s : State) : Nat :=
  match s.subs.streams[k]? with
  | some st => (st.timed.getD []).length + 2
  | none => 0

/-- Units 2 to 5 are judged (R119), in the order of their streams (DESIGN CHOICE, assumption 39). -/
def judgeStreams (s : State) : State := streamNumbers.foldl (fun s k => fireStream k (streamFuel k s) s) s

/-! ### Conversion -/

/-- The frame of a time with an offset at a rate (R159). -/
def cueFrame (rate : Nat) (offset : Int) (t : Nat) : Nat :=
  (((t : Int) + offset).toNat * rate + 500) / 1000

/-- A cue after conversion, or none when its in-frame is at or beyond the reel's duration (R159). -/
def convertCue (rate duration : Nat) (offset : Int) (c : Cue) : Option TimedCue :=
  let i := cueFrame rate offset c.inTime
  let o := min (cueFrame rate offset c.outTime) duration
  if duration ≤ i then none
  else some { cue := c, inFrame := i, outFrame := if o ≤ i then i + 1 else o }

/-- The two loads that follow the conversion of the live bank, each firing where its frame is reached already (R160,
R161). -/
def feedUnit (k : Nat) (s : State) : State :=
  let s := loadNextCue k s
  let s := fireStream k (streamFuel k s) s
  let s := loadNextCue k s
  fireStream k (streamFuel k s) s

/-- The count of cues dropped LATE set to `n`. -/
def setLate (n : Nat) (s : State) : State :=
  { s with subs := { s.subs with drops := replaceAt s.subs.drops 4 n } }

/-- An act on the state, with the number of cues it drops LATE counted from 0, so that the number is exact where the count
of R167 saturates. -/
def countingLate (act : State → State) (s : State) : Nat × State :=
  let before := s.subs.drops.getD 4 0
  let s := act (setLate 0 s)
  let late := s.subs.drops.getD 4 0
  (late, setLate (min max32 (before + late)) s)

/-- The live bank of stream `k` is converted, and its first two cues are loaded into the unit, firing where their frame
is reached already (R159 to R161). The bank keeps, and reports, the cues that the conversion drops for RANGE (DESIGN CHOICE,
assumption 51). -/
def convertLive (k : Nat) (s : State) : State :=
  match s.subs.streams[k]?, s.showing with
  | some st, some sh =>
    match st.live with
    | none => s
    | some n =>
      match st.banks[n]? with
      | none => s
      | some bank =>
        if bank.state ≠ .loaded then s
        else
          let duration := ((sh.play.composition.reels[s.time.reel - 1]?).map (·.duration)).getD 0
          let timed := bank.cues.filterMap (convertCue sh.play.composition.rate duration st.current)
          let dropped := bank.cues.length - timed.length
          let s := raiseDropped k sh.play.id s.time.reel [0, 0, 0, dropped, 0, 0] (countDrops .range dropped s)
          let s := updateStream k (fun st => { st with timed := some timed, nextCue := 0 }) s
          let (late, s) := countingLate (feedUnit k) s
          raiseDropped k sh.play.id s.time.reel [0, 0, 0, 0, late, 0] s
  | _, _ => s

/-! ### Banks -/

/-- The subtitle track of reel `reel` for stream `k` of a PLAY. -/
def subtitleTrack (p : Play) (reel k : Nat) : Option Nat :=
  match p.composition.reels[reel - 1]? with
  | some r => (r.subtitles[k]?).join
  | none => none

/-- The following reel (R157), with whether it is of the prepared PLAY. -/
def followingReel (s : State) : Option (Bool × Nat) :=
  match s.showing with
  | some sh => if s.time.reel < sh.endReel then some (false, s.time.reel + 1) else preparedFirst s
  | none => preparedFirst s
where
  preparedFirst (s : State) : Option (Bool × Nat) := s.preparedPlay.map fun p => (true, p.firstReel)

/-- Whether a bank belongs to a reel of the current or the prepared PLAY. -/
def Bank.belongs (b : Bank) (prepared : Bool) (reel : Nat) : Bool :=
  !decide (b.state = .free) && decide (b.prepared = prepared) && decide (b.reel = reel)

/-- The loader's work on a bank is abandoned (R158). -/
def abandonLoad (k n : Nat) (s : State) : State :=
  match s.subs.loader with
  | some l =>
    if l.stream = k && l.bank = n then
      withdrawReader .subtitle { s with subs := { s.subs with loader := none } }
    else s
  | none => s

/-- An idle bank that does not belong to the following reel is discarded (R157). -/
def discardBank (following : Option (Bool × Nat)) (k n : Nat) (s : State) : State :=
  match s.subs.streams[k]? with
  | none => s
  | some st =>
    match st.banks[n]? with
    | none => s
    | some b =>
      let wanted :=
        match following with
        | some (prepared, reel) => b.belongs prepared reel
        | none => false
      if st.live = some n || wanted || decide (b.state = .free) then s
      else abandonLoad k n (updateStream k (fun st => { st with banks := replaceAt st.banks n Bank.free }) s)

/-- A load of the following reel begins into the lowest FREE idle bank when no bank belongs to that reel (R157). A reel
without a track for the stream leaves the bank LOADED at once. -/
def beginBank (prepared : Bool) (reel k : Nat) (s : State) : State :=
  match s.subs.streams[k]?, playOf prepared s with
  | some st, some p =>
    if st.banks.any (fun b => b.belongs prepared reel) then s
    else
      match [0, 1].find? (fun n => !decide (st.live = some n) &&
          decide (((st.banks[n]?).map (·.state)) = some BankState.free)) with
      | none => s
      | some n =>
        let state := if (subtitleTrack p reel k).isSome then BankState.loading else BankState.loaded
        updateStream k (fun st => { st with
          banks := replaceAt st.banks n { Bank.free with state := state, prepared := prepared, reel := reel } }) s
  | _, _ => s

/-- The engine judges its banks (R157). -/
def judgeBanks (s : State) : State :=
  let following := followingReel s
  let s := streamNumbers.foldl (fun s k => [0, 1].foldl (fun s n => discardBank following k n s) s) s
  match following with
  | none => s
  | some (prepared, reel) => streamNumbers.foldl (fun s k => beginBank prepared reel k s) s

/-- The banks of the prepared PLAY become banks of the current showing at its takeover. -/
def takeOverBanks (s : State) : State :=
  { s with subs := { s.subs with
      streams := s.subs.streams.map fun st =>
        { st with banks := st.banks.map fun b => if b.prepared then { b with prepared := false } else b } } }

/-- The number of the bank that belongs to a reel of the current showing. -/
def bankOf (st : Stream) (reel : Nat) : Option Nat :=
  [0, 1].find? fun n =>
    match st.banks[n]? with
    | some b => b.belongs false reel
    | none => false

/-- A reel start of the current showing (R159): every slot is cleared, the bank of the new reel becomes live, the banks
are judged, NEXT becomes CURRENT, and the live banks that are LOADED are converted, the streams from 0 to 3 (DESIGN CHOICE,
assumption 39). -/
def reelStartCaptions (s : State) : State :=
  let s := clearAll .reelEnd s
  let reel := s.time.reel
  let s := { s with subs := { s.subs with
    streams := s.subs.streams.map fun st =>
      { st with live := bankOf st reel, timed := none, nextCue := 0 } } }
  let s := judgeBanks s
  let s := { s with subs := { s.subs with
    streams := s.subs.streams.map fun st => { st with current := st.next } } }
  streamNumbers.foldl (fun s k => convertLive k s) s

/-- What the engine drops when the current showing ends (R163, R166): its cues are cleared with END and no bank is live.
The banks are judged when the sequencer has no current showing. -/
def dropCaptions (s : State) : State :=
  let s := clearAll .ended s
  { s with subs := { s.subs with
      streams := s.subs.streams.map fun st => { st with live := none, timed := none, nextCue := 0 } } }

/-! ### The loader and cue records -/

/-- The lines of a cue record: `n` lines, each its length and its text; none when a length is out of range or the bytes
do not come out even (R155). -/
def parseLines : Nat → List Byte → Option (List (List Byte))
  | 0, [] => some []
  | 0, _ :: _ => none
  | _ + 1, [] => none
  | n + 1, b :: rest =>
    if 120 < b.toNat || rest.length < b.toNat then none
    else (parseLines n (rest.drop b.toNat)).map fun more => rest.take b.toNat :: more

/-- A cue record of whole length (R155): none when a field lies outside its range or the length does not match. -/
def parseCue (r : List Byte) : Option Cue :=
  let number := value ((r.drop 2).take 2)
  let placement := (r.getD 12 0#8).toNat
  let offset := (r.getD 13 0#8).toNat
  let style := (r.getD 14 0#8).toNat
  let count := (r.getD 15 0#8).toNat
  if number = 0 || 1 < placement || 100 < offset || count = 0 || 4 < count then none
  else
    (parseLines count (r.drop 16)).map fun lines =>
      { number := number, inTime := value ((r.drop 4).take 4), outTime := value ((r.drop 8).take 4),
        bottom := decide (placement = 1), offset := offset, italic := decide (style % 2 = 1),
        bold := decide (style / 2 % 2 = 1), lines := lines }

/-- The text bytes of a cue (R155). -/
def Cue.text (c : Cue) : Nat := total (c.lines.map (·.length))

/-- A record is admitted to the bank being loaded, or dropped (R155, R156). -/
def Bank.takeIn (b : Bank) (r : List Byte) : Bank :=
  match parseCue r with
  | none => { b with form := b.form + 1 }
  | some c =>
    if b.closed then { b with capacity := b.capacity + 1 }
    else
      let ordered :=
        match b.cues.getLast? with
        | none => true
        | some last => decide (last.number < c.number) && decide (last.inTime ≤ c.inTime)
      if !ordered then { b with order := b.order + 1 }
      else if 512 ≤ b.cues.length || 65536 < b.text + c.text then
        { b with closed := true, capacity := b.capacity + 1 }
      else { b with cues := b.cues ++ [c], text := b.text + c.text }

/-- The records that are whole in the buffer are taken (R155, R158): the bank, the bytes left over, and whether the list
has ended. `left` is the number of list bytes not yet read from the store. -/
def takeRecords : Nat → Nat → Bank → List Byte → Bank × List Byte × Bool
  | 0, _, b, buffer => (b, buffer, false)
  | fuel + 1, left, b, buffer =>
    if buffer.length < 2 then
      if left = 0 then
        (if buffer.length = 0 then b else { b with form := b.form + 1 }, [], true)
      else (b, buffer, false)
    else
      let n := value (buffer.take 2)
      if n < 17 || buffer.length + left < n then ({ b with form := b.form + 1 }, [], true)
      else if buffer.length < n then (b, buffer, false)
      else takeRecords fuel left (b.takeIn (buffer.take n)) (buffer.drop n)

/-- The bytes of the list that consecutive blocks bring, up to the byte length. -/
def listBytes : List (List Byte) → Nat → List Byte
  | [], _ => []
  | b :: rest, left => text (min Config.blockBytes left) b ++ listBytes rest (left - Config.blockBytes)

/-- Bank `n` of stream `k` changed by `f`. -/
def updateBank (k n : Nat) (f : Bank → Bank) (s : State) : State :=
  updateStream k (fun st => { st with banks := updateAt f st.banks n }) s

/-- The bank the loader works on. -/
def loaderBank (l : Loader) (s : State) : Option Bank :=
  match s.subs.streams[l.stream]? with
  | some st => st.banks[l.bank]?
  | none => none

/-- Whether the loader's bank is live. -/
def loaderLive (l : Loader) (s : State) : Bool :=
  match s.subs.streams[l.stream]? with
  | some st => decide (st.live = some l.bank)
  | none => false

/-- The composition id of the PLAY a bank belongs to. -/
def bankComposition (b : Bank) (s : State) : Nat := ((playOf b.prepared s).map (·.id)).getD 0

/-- The whole list has been read (R156, R158): the bank is LOADED, drops are reported, and a live bank is converted at
once, its late load done (R161). -/
def finishLoad (l : Loader) (s : State) : State :=
  match loaderBank l s with
  | none => { s with subs := { s.subs with loader := none } }
  | some b =>
    let s := { s with subs := { s.subs with loader := none } }
    let s := updateBank l.stream l.bank (fun b => { b with state := .loaded }) s
    let s := raiseDropped l.stream (bankComposition b s) b.reel [b.form, b.order, b.capacity, 0, 0, 0] s
    if loaderLive l s then convertLive l.stream s else s

/-- A range fault or a store fault ends the load: the bank is LOADED with no cues (R158). Its closed flag stays as it stood,
and CUE_DROPPED reports the cues the bank had kept by cause FAULT and 0 by every other cause, also where the load had dropped
records for FORM, ORDER or CAPACITY before (DESIGN CHOICE, assumption 51). -/
def failLoad (l : Loader) (s : State) : State :=
  match loaderBank l s with
  | none => { s with subs := { s.subs with loader := none } }
  | some b =>
    let s := { s with subs := { s.subs with loader := none } }
    let s := updateBank l.stream l.bank (fun b => { b with state := .loaded, cues := [], text := 0 }) s
    let s := countDrops .fault b.cues.length s
    let s := raise .cueDropped
      (num 1 l.stream ++ num 1 (bankComposition b s) ++ num 1 b.reel ++
        [0, 0, 0, 0, 0, b.cues.length].flatMap (num 4)) s
    if loaderLive l s then convertLive l.stream s else s

/-- The loader asks the arbiter for the next transfer (R158): as many blocks, up to 8, as remain in the extent and in the
list. -/
def askSubtitle (l : Loader) (store remaining : Nat) (s : State) : State :=
  let n := min 8 (min remaining (l.total - l.block))
  askStore { client := .subtitle, writes := false, first := store, count := n, track := some l.track }
    { s with subs := { s.subs with loader := some { l with count := n } } }

/-- The loader looks up its next block (R158). -/
def lookUpCues (l : Loader) (s : State) : State :=
  let prepared := ((loaderBank l s).map (·.prepared)).getD false
  match lookup .subtitle (if prepared then .readerPreparation else .lookup) l.track l.block s with
  | (.hit store remaining, s) => askSubtitle l store remaining s
  | (.waiting, s) => { s with subs := { s.subs with loader := some { l with count := 0 } } }
  | (.fault, s) => failLoad l s

/-- The byte length of a SUBTITLE track. -/
def subtitleBytes (track : Nat) (s : State) : Nat :=
  match s.catalogue.tracks.find track with
  | some e =>
    match e.header.info with
    | .subtitle n => n
    | _ => 1
  | none => 1

/-- The bank the loader takes next (R158): a LOADING bank that is live before any idle one, the lowest stream first. -/
def nextLoad (s : State) : Option (Nat × Nat) :=
  let loading := streamNumbers.flatMap fun k => ([0, 1].filter fun n =>
    match s.subs.streams[k]? with
    | some st => decide ((st.banks[n]?).map (·.state) = some BankState.loading)
    | none => false).map fun n => (k, n)
  match loading.find? (fun p =>
      match s.subs.streams[p.1]? with
      | some st => decide (st.live = some p.2)
      | none => false) with
  | some p => some p
  | none => loading.head?

/-- The loader takes its next bank and begins reading its list (R158). -/
def beginLoad (s : State) : State :=
  match s.subs.loader with
  | some _ => s
  | none =>
    match nextLoad s with
    | none => s
    | some (k, n) =>
      let l : Loader := { stream := k, bank := n, track := 0, block := 0, total := 0, left := 0, buffer := [],
                          ended := false, count := 0 }
      match loaderBank l s with
      | none => s
      | some b =>
        match (playOf b.prepared s).bind (fun p => subtitleTrack p b.reel k) with
        | none => finishLoad l s
        | some t =>
          let bytes := subtitleBytes t s
          lookUpCues { l with track := t, total := ceilDiv bytes Config.blockBytes, left := bytes } s

/-- The loader takes the answer to the lookup it waits for. -/
def subtitleAnswer (a : Answer) (s : State) : State :=
  match s.subs.loader with
  | none => s
  | some l =>
    match a with
    | .hit store remaining => askSubtitle l store remaining s
    | .fault => failLoad l s
    | .waiting => lookUpCues l s

/-- The completion of a transfer of the loader (R158). -/
def subtitleTransfer (ok : Bool) (t : Transfer) (s : State) : State :=
  match s.subs.loader with
  | none => s
  | some l =>
    if !ok then failLoad l s
    else
      match loaderBank l s with
      | none => s
      | some b =>
        let blocks := (List.range t.request.count).map fun i => s.store.bytes (t.request.first + i)
        let fresh := listBytes blocks l.left
        let left := l.left - fresh.length
        let buffer := l.buffer ++ fresh
        let (b', rest, ended) := takeRecords (buffer.length + 1) left b buffer
        let s := updateBank l.stream l.bank (fun _ => b') s
        let s := countDrops .form (b'.form - b.form) (countDrops .order (b'.order - b.order)
          (countDrops .capacity (b'.capacity - b.capacity) s))
        let l := { l with block := l.block + l.count, left := left, buffer := rest, ended := ended, count := 0 }
        if ended || l.total ≤ l.block then finishLoad l s
        else lookUpCues l { s with subs := { s.subs with loader := some l } }

end Machine
end Sys2Proof
end

