-- ==== Sys2Proof/Machine/Fills.lean ====
section
/-!
DEFINITION. The completion of a window fill (R53 to R55) and the flush of a track (R55): the places where the cache
answers its readers.
-/
namespace Sys2Proof
namespace Machine

open Layout

/-- A reader takes the answer to the lookup or preparation it has attached to a fill. `waiting` asks it to look up
again from the start. -/
def readerAnswer (r : Reader) (a : Answer) (s : State) : State :=
  match r with
  | .picture => pictureAnswer a s
  | .sound => soundAnswer a s
  | .subtitle => subtitleAnswer a s

/-- A question that is answered to its reader: one that has not been withdrawn, and not one of the sequencer's. -/
def Ask.answered (q : Ask) : Bool := q.live && !decide (q.kind = .sequencerPreparation)

/-- Each question that is to be answered gets the same answer. -/
def answerAll (a : Answer) (asks : List Ask) (s : State) : State :=
  asks.foldl (fun s q => if q.answered then readerAnswer q.reader a s else s) s

/-- The distinct extents that hold a block of a question, in the order the questions were attached (R53), with their
places in the extent list. -/
def extentsAsked (extents : List Extent) (asks : List Ask) : List (Nat × Extent) :=
  asks.foldl (fun l q =>
    match extentAt extents q.block with
    | some (n, e) => if l.any (fun p => decide (p.1 = n)) then l else l ++ [(n, e)]
    | none => l) []

/-- The cache entry of an extent, its kind and key from the track table (R53). -/
def cacheEntry (track : Nat) (e : TrackEntry) (p : Nat × Extent) : CacheEntry :=
  { track := track, index := p.1, block := p.2.block, count := p.2.length, store := p.2.store, kind := e.header.kind,
    key := e.header.key }

/-- The extents of a fill are loaded, one entry each (R53). -/
def loadExtents (track : Nat) (l : List (Nat × Extent)) (s : State) : State :=
  match s.catalogue.tracks.find track with
  | none => s
  | some e => { s with cache := l.foldl (fun c p => loadExtent (cacheEntry track e p) c) s.cache }

/-- A question of a fill that has read its map block is answered: as a hit on the extent that covers its block, or with a
range fault of cause MAP (R53). A withdrawn one is answered to no one, and one whose block no extent covers raises and counts
nothing (DESIGN CHOICE, assumption 19). -/
def answerFromMap (track : Nat) (extents : List Extent) (q : Ask) (s : State) : State :=
  if !q.live then s
  else
    match extentAt extents q.block with
    | some (n, e) =>
      let order :=
        match s.cache.entries.find? fun p => decide (p.2.track = track) && decide (p.2.index = n) with
        | some (m, _) => toFront m s.cache.order
        | none => s.cache.order
      if q.answered then
        readerAnswer q.reader (.hit (e.store + (q.block - e.block)) (e.length - (q.block - e.block)))
          { s with cache := { s.cache with order := order } }
      else s
    | none =>
      let s := rangeFault q.reader track q.block .map s
      if q.answered then readerAnswer q.reader .fault s else s

/-- The extent list a fill finds in store block t for track t: empty when the block does not name the track (R53). -/
def mapExtents (track : Nat) (s : State) : List Extent :=
  match s.store.read track with
  | .map m => if m.track = track then m.extents else []
  | .data _ => []

/-- The completion of the fill in progress (R53 to R55). A stale fill loads nothing and its readers look up again; a
store fault is answered as a fault. The attached questions are answered, or judged again, in the order in which they were
attached, which also orders the use order after their hits (DESIGN CHOICE, assumption 19). The sequencer's preparations are
answered to no reader. A transfer that an answered
reader then asks for is among those waiting when the arbiter grants; R43 lets either come first (DESIGN CHOICE,
assumption 5). -/
def completeFill (ok : Bool) (s : State) : State :=
  match s.cache.fills.find? (·.running) with
  | none => s
  | some f =>
    let s := { s with cache := { s.cache with fills := s.cache.fills.filter fun g => !g.running } }
    if f.stale then answerAll .waiting f.asks s
    else if !ok then answerAll .fault f.asks s
    else
      let extents := mapExtents f.track s
      f.asks.foldl (fun s q => answerFromMap f.track extents q s)
        (loadExtents f.track (extentsAsked extents f.asks) s)

/-- The cache flushes a track that has been deleted or damaged (R55): its entries become invalid, a fill in progress
becomes stale, and the questions of its pending fill are judged again. -/
def flushTrack (track : Nat) (s : State) : State :=
  let asks := (s.cache.fills.filter fun f => decide (f.track = track) && !f.running).flatMap (·.asks)
  answerAll .waiting asks (invalidate track s)

/-! ### The commands of the cache and the readers -/

/-- STORE_RETRY: the attempt FIRST of the current transfer fails and is tried again at once (R46). -/
def execStoreRetry (s : State) : Result :=
  finish (match s.arbiter.current with
    | some t =>
      if t.retry then s else { s with arbiter := { s.arbiter with current := some { t with retry := true } } }
    | none => s)

/-- PICTURE_READER_BEGIN_FRAME (R125). -/
def execPictureReaderBeginFrame (s : State) : Result := finish (beginFrame s)

/-- PICTURE_TRANSFER_COMPLETE (R45). -/
def execPictureTransferComplete (ok : Bool) (s : State) : Result :=
  finish (completeTransfer .picture ok (pictureTransfer ok) s)

/-- WINDOW_FILL_BEGIN (R52). -/
def execWindowFillBegin (s : State) : Result := finish (beginFill s)

/-- WINDOW_FILL_COMPLETE (R53, R54). -/
def execWindowFillComplete (ok : Bool) (s : State) : Result :=
  finish (completeTransfer .windowFill ok (fun _ => completeFill ok) s)

/-- SOUND_READER_BEGIN_PORTION (R141). -/
def execSoundReaderBeginPortion (s : State) : Result := finish (beginPortion s)

/-- SOUND_TRANSFER_COMPLETE (R141, R142). -/
def execSoundTransferComplete (ok : Bool) (s : State) : Result :=
  finish (completeTransfer .sound ok (soundTransfer ok) s)

/-- SUBTITLE_LOAD_BEGIN (R158). -/
def execSubtitleLoadBegin (s : State) : Result := finish (beginLoad s)

/-- SUBTITLE_TRANSFER_COMPLETE (R158). -/
def execSubtitleTransferComplete (ok : Bool) (s : State) : Result :=
  finish (completeTransfer .subtitle ok (subtitleTransfer ok) s)

end Machine
end Sys2Proof
end

