-- ==== Sys2Proof/Machine/FreeSpace.lean ====
section
/-!
DEFINITION. The free-space unit (R11 to R16): allocation, release, stranding and sweeps.
-/
namespace Sys2Proof
namespace Machine

open Layout

/-- Data-area blocks: store blocks 512 to size − 1 (R1). -/
def State.dataBlocks (s : State) : Nat := s.store.size - 512

/-- The free blocks: the sum of the lengths in the list (R11). -/
def freeBlocks (l : List Run) : Nat := total (l.map (·.length))

/-- The low threshold (R11). -/
def State.lowThreshold (s : State) : Nat := s.dataBlocks / 32

/-- The blocks that consecutive runs of a list give for `need` blocks, first fit: whole entries from the front, the last
one split; and what stays in the list (R12). `block` is the first track block. -/
def takeRuns : Nat → Nat → List Run → List Extent × List Run
  | _, _, [] => ([], [])
  | need, block, r :: rest =>
    if need = 0 then ([], r :: rest)
    else if r.length ≤ need then
      let (taken, left) := takeRuns (need - r.length) (block + r.length) rest
      ({ block := block, store := r.first, length := r.length } :: taken, left)
    else
      ([{ block := block, store := r.first, length := need }],
       { first := r.first + need, length := r.length - need } :: rest)

/-- An allocation of `need` blocks: the track's extents and the list left, or a refusal (R12). -/
def allocate (need : Nat) (l : List Run) : Option (List Extent × List Run) :=
  if freeBlocks l < need then none
  else
    let (taken, left) := takeRuns need 0 l
    if 4000 < taken.length then none else some (taken, left)

/-- The free-extent list replaced. -/
def setFreeList (l : List Run) (s : State) : State := { s with free := { s.free with list := l } }

/-- An allocation's list takes force, and STORE_LOW is raised when it takes the free blocks below the threshold (R11). -/
def takeAllocation (left : List Run) (s : State) : State :=
  let before := freeBlocks s.free.list
  let s := setFreeList left s
  if s.lowThreshold ≤ before && freeBlocks left < s.lowThreshold then raise .storeLow (num 3 (freeBlocks left)) s
  else s

/-- A run joins the run that begins just after it. -/
def joinNext (r : Run) : List Run → List Run
  | [] => [r]
  | y :: rest =>
    if r.first + r.length = y.first then { first := r.first, length := r.length + y.length } :: rest
    else r :: y :: rest

/-- A run inserted in address order and merged with its neighbours (R13). -/
def insertRun (r : Run) : List Run → List Run
  | [] => [r]
  | x :: rest =>
    if x.first + x.length < r.first then x :: insertRun r rest
    else if x.first + x.length = r.first then joinNext { first := x.first, length := x.length + r.length } rest
    else joinNext r (x :: rest)

/-- The smallest run of a list, the one with the lowest first block among equals. -/
def smallestRun : List Run → Option Run
  | [] => none
  | r :: rest =>
    match smallestRun rest with
    | none => some r
    | some b => if b.length < r.length then some b else some r

/-- BLOCKS_STRANDED with the number of blocks and the first block, when there is one (R13, R14). -/
def raiseStranded (blocks : Nat) (first : Option Nat) (s : State) : State :=
  raise .blocksStranded (num 3 blocks ++ opt (num 3) first) s

/-- One extent is released (R13). -/
def releaseRun (r : Run) (s : State) : State :=
  let l := insertRun r s.free.list
  if l.length ≤ 2048 then setFreeList l s
  else
    match smallestRun l with
    | none => setFreeList l s
    | some out =>
      raiseStranded out.length (some out.first)
        { s with free := { s.free with
            list := l.filter fun x => !decide (x.first = out.first), stranded := s.free.stranded + out.length } }

/-- A track's extents are released one by one in ascending store order (R13); extents stand in that order (R2). -/
def releaseTrack (id : Nat) (s : State) : State :=
  let l := (s.catalogue.extents.find id).getD []
  l.foldl (fun s e => releaseRun { first := e.store, length := e.length } s) (setExtents id none s)

/-! ### Sweeps -/

/-- An extent into a list ordered by store block. -/
def insertByStore (e : Extent) : List Extent → List Extent
  | [] => [e]
  | x :: rest => if e.store < x.store then e :: x :: rest else x :: insertByStore e rest

/-- The runs from `start` to `stop − 1` that lie in none of the extents, which are ordered by store block (R14). -/
def gapsBetween (start stop : Nat) : List Extent → List Run
  | [] => if start < stop then [{ first := start, length := stop - start }] else []
  | e :: rest =>
    let upTo := min e.store stop
    let next := max start (e.store + e.length)
    if start < upTo then { first := start, length := upTo - start } :: gapsBetween next stop rest
    else gapsBetween next stop rest

/-- The complement, within the data area, of the extents read (R14). -/
def complement (size : Nat) (taken : Table (List Extent)) : List Run :=
  gapsBetween 512 size ((taken.flatMap (·.2)).foldl (fun l e => insertByStore e l) [])

/-- Runs left out one at a time, smallest first, until 2,048 remain; the list, and the blocks left out (R14). -/
def leaveOut : Nat → List Run → List Run × Nat
  | 0, l => (l, 0)
  | n + 1, l =>
    if l.length ≤ 2048 then (l, 0)
    else
      match smallestRun l with
      | none => (l, 0)
      | some out =>
        let (rest, blocks) := leaveOut n (l.filter fun x => !decide (x.first = out.first))
        (rest, blocks + out.length)

/-- The tracks whose map blocks a sweep reads, in ascending id (R14). -/
def tracksToSweep (s : State) : List Nat :=
  (s.catalogue.tracks.filter fun p => decide (0 < p.2.extentCount)).map (·.1)

/-- The sweep reader asks for its next map block. -/
def askSweep (track : Nat) (s : State) : State :=
  askStore { client := .sweep, writes := false, first := track, count := 1, track := some track } s

/-- STORE_LOW at the end of a sweep, complete or failed, that leaves the free blocks below the low threshold (R11). -/
def raiseIfLow (s : State) : State :=
  let free := freeBlocks s.free.list
  if free < s.lowThreshold then raise .storeLow (num 3 free) s else s

/-- The end of a sweep that has read every map block (R14, R11, R16). -/
def endSweep (sw : Sweep) (s : State) : State :=
  let gaps := complement s.store.size sw.taken
  let (list, stranded) := leaveOut gaps.length gaps
  let free := freeBlocks list
  let s := { s with free := { list := list, stranded := stranded, sweep := none } }
  let s :=
    match sw.kind with
    | .startup => { s with startUp := false, catalogue := { s.catalogue with extents := sw.taken } }
    | .requested => s
  let s := raise .sweepDone
    (code 0 ++ code sw.kind.code ++ num 2 list.length ++ num 3 free ++ num 3 stranded) s
  raiseIfLow (if 0 < stranded then raiseStranded stranded none s else s)

/-- A sweep begins (R14): its first read is asked for, and with nothing to read it ends at once. -/
def beginSweep (kind : SweepKind) (s : State) : State :=
  let sw : Sweep := { kind := kind, toRead := tracksToSweep s, read := 0, taken := [] }
  match sw.toRead with
  | [] => endSweep sw s
  | t :: _ => askSweep t { s with free := { s.free with sweep := some sw } }

/-- The map block of the track being swept has been read, or its read ended in a store fault, which ends the sweep with the
list in force (R14, R16) and raises STORE_LOW where that list is below the low threshold (R11). -/
def sweepRead (ok : Bool) (s : State) : State :=
  match s.free.sweep with
  | none => s
  | some sw =>
    match sw.toRead with
    | [] => s
    | t :: rest =>
      if ok then
        let extents :=
          match s.store.read t with
          | .map m => m.extents
          | .data _ => []
        let sw := { sw with toRead := rest, read := sw.read + 1, taken := sw.taken.put t extents }
        match rest with
        | [] => endSweep sw s
        | next :: _ => askSweep next { s with free := { s.free with sweep := some sw } }
      else
        let s := raiseIfLow
          (raise .sweepDone (code 1 ++ code sw.kind.code) { s with free := { s.free with sweep := none } })
        match sw.kind with
        | .startup => beginSweep .startup s
        | .requested => s

/-- SWEEP_READ_COMPLETE (R14). -/
def execSweepReadComplete (ok : Bool) (s : State) : Result :=
  finish (completeTransfer .sweep ok (fun _ => sweepRead ok) s)

end Machine
end Sys2Proof
end

