-- ==== Sys2Proof/Machine/Catalogue.lean ====
section
/-!
DEFINITION. The catalogue's requests (R17 to R20, R15). A request that makes a nonvolatile change takes `turn`: true
when it has waited for room and its write can now be queued, so that its checks are made again (R8).
-/
namespace Sys2Proof
namespace Machine

open Layout

/-- A request that passes its checks queues its write now, or waits for room (R8). -/
def whenRoom (turn : Bool) (command : Instr) (act : State → State) (s : State) : State :=
  if turn || s.hasRoom then act s else awaitRoom (.request command) s

/-! ### Reports -/

def TrackStatus.reason : TrackStatus → Option DamageReason
  | .damaged r => some r
  | _ => none

/-- The kind-dependent fields of a track in the order of R3, each with its presence byte. -/
def TrackInfo.report : TrackInfo → List Byte
  | .picture rate frames span => opt (num 1) (some rate) ++ opt (num 3) (some frames) ++ opt (num 1) (some span) ++
      opt (num 1) none ++ opt (num 1) none ++ opt (num 5) none ++ opt (num 5) none
  | .sound channels layout samples => opt (num 1) none ++ opt (num 3) none ++ opt (num 1) none ++
      opt (num 1) (some channels) ++ opt (num 1) (some layout) ++ opt (num 5) (some samples) ++ opt (num 5) none
  | .subtitle bytes => opt (num 1) none ++ opt (num 3) none ++ opt (num 1) none ++ opt (num 1) none ++
      opt (num 1) none ++ opt (num 5) none ++ opt (num 5) (some bytes)
  | .description => opt (num 1) none ++ opt (num 3) none ++ opt (num 1) none ++ opt (num 1) none ++
      opt (num 1) none ++ opt (num 5) none ++ opt (num 5) none

/-- A track entry with its id and its fields (R3, R17). -/
def trackReport (p : Nat × TrackEntry) : List Byte :=
  let e := p.2
  num 2 p.1 ++ code e.status.code ++ code e.header.kind.code ++ num 4 e.package ++ num 1 e.number ++
    num 3 e.header.length ++ num 2 e.extentCount ++ e.header.info.report ++ flag e.header.key.isSome ++
    opt (num 2) e.header.key ++ opt (fun r => code (DamageReason.code r)) e.status.reason

/-- Up to 16 members of a list with their report, and the id after the last one reported when more exist (R17). -/
def page {α : Type} (width : Nat) (report : Nat × α → List Byte) (l : List (Nat × α)) : List Byte :=
  let shown := l.take 16
  let next :=
    match l.drop 16, shown.getLast? with
    | _ :: _, some last => some (last.1 + 1)
    | _, _ => none
  rep 1 report shown ++ opt (num width) next

/-- The state of a composition entry: INCOMPLETE 0, READY 1 (R5). -/
def Composition.state (c : Composition) : Nat := if c.incomplete.isSome then 0 else 1

/-- A composition entry as COMPOSITION LIST reports it (R17). -/
def compositionReport (awaiting : Table (List ReelNumbers)) (p : Nat × Composition) : List Byte :=
  let c := p.2
  num 1 p.1 ++ code c.state ++ flag (awaiting.find p.1).isSome ++ num 4 c.package ++ text 16 c.tag ++ num 1 c.rate ++
    opt (num 2) c.key ++ num 3 c.total ++ opt (num 3) c.countPoint ++ num 2 c.shown ++
    opt (fun r => code (IncompleteReason.code r)) c.incomplete ++ num 1 c.reels.length

/-- A reel as COMPOSITION READ reports it (R5). -/
def reelReport (r : Reel) : List Byte :=
  opt (num 2) r.picture ++ num 4 r.entry ++ num 3 r.duration ++ opt (num 2) r.sound ++ r.subtitles.flatMap (opt (num 2))

/-- A composition entry with all fields of R5. -/
def compositionBody (c : Composition) : List Byte :=
  code c.state ++ num 4 c.package ++ text 16 c.tag ++ num 1 c.rate ++ opt (num 2) c.key ++ num 3 c.total ++
    opt (num 3) c.countPoint ++ num 2 c.shown ++ opt (fun r => code (IncompleteReason.code r)) c.incomplete ++
    rep 1 reelReport c.reels

/-- The store and its accounts (R20). The manual does not say how many requesters a unit with several writes makes: the
model counts each entry of the waiting line, which is one for each track or composition write, for each request, and one
each for the window check, the budget and the show log, so that their number can pass 255 and takes 2 bytes (DESIGN CHOICE,
assumption 40). -/
def storeReport (s : State) : List Byte :=
  let l := s.free.list
  num 4 s.store.size ++ num 3 s.dataBlocks ++ num 3 (freeBlocks l) ++ num 2 l.length ++
    num 3 (l.foldl (fun m r => max m r.length) 0) ++ num 3 s.free.stranded ++ num 3 s.lowThreshold ++
    num 3 (total ((s.catalogue.extents.flatMap (·.2)).map (·.length))) ++
    code (if s.free.sweep.isSome then 1 else 0) ++ opt (num 2) (s.free.sweep.map (·.read)) ++
    opt (num 2) (s.free.sweep.map (·.toRead.length)) ++ num 1 s.queue.writes.length ++
    num 2 s.queue.waiters.length ++ num 4 s.queue.faults

/-! ### Requests -/

/-- TRACK LIST (R17). -/
def serveTrackList (frame : Frame) (first : Nat) (state : Option Nat) (s : State) : State :=
  if 511 < first then refuse 1 frame .outOfRange s
  else
    match state with
    | none => answerOk 1 frame (page 2 trackReport (s.catalogue.tracks.filter fun p => decide (first ≤ p.1))) s
    | some n =>
      match trackStateOf n with
      | none => refuse 1 frame .outOfRange s
      | some is =>
        answerOk 1 frame
          (page 2 trackReport (s.catalogue.tracks.filter fun p => decide (first ≤ p.1) && is p.2.status)) s

/-- Whether a composition names a track. -/
def Composition.references (c : Composition) (track : Nat) : Bool :=
  c.reels.any fun r =>
    decide (r.picture = some track) || decide (r.sound = some track) || r.subtitles.any fun t => decide (t = some track)

/-- Whether the composition of the current or of the prepared showing names a track. -/
def State.playsTrack (s : State) (track : Nat) : Bool :=
  (match s.showing with
   | some sh => sh.play.composition.references track
   | none => false) ||
  (match s.preparedPlay with
   | some p => p.composition.references track
   | none => false)

/-- Whether a composition is that of the current or of the prepared showing. -/
def State.plays (s : State) (composition : Nat) : Bool :=
  decide (s.showing.map (·.play.id) = some composition) || decide (s.preparedPlay.map (·.id) = some composition)

/-- The deletion of a track takes effect whole (R18). -/
def deleteTrack (track : Nat) (s : State) : State :=
  pushTrack track (flushTrack track (setTrack track none (releaseTrack track s)))

/-- TRACK DELETE (R18). -/
def serveTrackDelete (turn : Bool) (frame : Frame) (track : Nat) (s : State) : State :=
  if s.free.sweep.isSome then turnAway 2 frame .busy s
  else if 511 < track then refuse 2 frame .outOfRange s
  else
    match s.catalogue.tracks.find track with
    | none => refuse 2 frame .notFound s
    | some e =>
      if e.status = .filling then refuse 2 frame .wrongState s
      else if s.playsTrack track then refuse 2 frame .inUse s
      else if s.catalogue.compositions.any (fun p => p.2.references track) then refuse 2 frame .referenced s
      else whenRoom turn (.trackDelete frame track) (fun s => answerOk 2 frame [] (deleteTrack track s)) s

/-- COMPOSITION LIST (R17). -/
def serveCompositionList (frame : Frame) (first : Nat) (s : State) : State :=
  if 63 < first then refuse 3 frame .outOfRange s
  else
    answerOk 3 frame (page 1 (compositionReport s.catalogue.awaiting)
      (s.catalogue.compositions.filter fun p => decide (first ≤ p.1))) s

/-- COMPOSITION READ (R17). -/
def serveCompositionRead (frame : Frame) (composition : Nat) (s : State) : State :=
  if 63 < composition then refuse 4 frame .outOfRange s
  else
    match s.catalogue.compositions.find composition with
    | none => refuse 4 frame .notFound s
    | some c => answerOk 4 frame (compositionBody c) s

/-- COMPOSITION DELETE (R19). -/
def serveCompositionDelete (turn : Bool) (frame : Frame) (composition : Nat) (s : State) : State :=
  if 63 < composition then refuse 5 frame .outOfRange s
  else
    match s.catalogue.compositions.find composition with
    | none => refuse 5 frame .notFound s
    | some _ =>
      if (s.catalogue.awaiting.find composition).isSome then refuse 5 frame .wrongState s
      else if s.plays composition then refuse 5 frame .inUse s
      else
        whenRoom turn (.compositionDelete frame composition)
          (fun s => answerOk 5 frame [] (pushComposition composition (setComposition composition none s))) s

/-- STORE STATUS (R20). -/
def serveStoreStatus (frame : Frame) (s : State) : State := answerOk 6 frame (storeReport s) s

/-- STORE SWEEP (R15). -/
def serveStoreSweep (frame : Frame) (s : State) : State :=
  if s.ingest.state ≠ .idle then refuse 7 frame .wrongState s
  else if s.free.sweep.isSome || s.ingest.writing.isSome then turnAway 7 frame .busy s
  else beginSweep .requested (answerOk 7 frame [] s)

/-- TRACK LIST (R17). -/
def execTrackList (frame : Frame) (first : Nat) (state : Option Nat) (s : State) : Result :=
  request 1 frame (.trackList frame first state) (serveTrackList frame first state) s

/-- TRACK DELETE (R18). -/
def execTrackDelete (frame : Frame) (track : Nat) (s : State) : Result :=
  request 2 frame (.trackDelete frame track) (serveTrackDelete false frame track) s

/-- COMPOSITION LIST (R17). -/
def execCompositionList (frame : Frame) (first : Nat) (s : State) : Result :=
  request 3 frame (.compositionList frame first) (serveCompositionList frame first) s

/-- COMPOSITION READ (R17). -/
def execCompositionRead (frame : Frame) (composition : Nat) (s : State) : Result :=
  request 4 frame (.compositionRead frame composition) (serveCompositionRead frame composition) s

/-- COMPOSITION DELETE (R19). -/
def execCompositionDelete (frame : Frame) (composition : Nat) (s : State) : Result :=
  request 5 frame (.compositionDelete frame composition) (serveCompositionDelete false frame composition) s

/-- STORE STATUS (R20). -/
def execStoreStatus (frame : Frame) (s : State) : Result :=
  request 6 frame (.storeStatus frame) (serveStoreStatus frame) s

/-- STORE SWEEP (R15). -/
def execStoreSweep (frame : Frame) (s : State) : Result :=
  request 7 frame (.storeSweep frame) (serveStoreSweep frame) s

end Machine
end Sys2Proof
end

