-- ==== Sys2Proof/Machine/Ingest.lean ====
section
/-!
DEFINITION. The ingest engine (R21 to R40): segments and their judgement, track slots, gathers and store writes, the
close of a package and its compositions.
-/
namespace Sys2Proof
namespace Machine

open Layout

/-! ### Reading what a package brings -/

/-- The sum of the payload taken as 32-bit little-endian words, the last one padded with zero bytes (R26). -/
def wordSum : List Byte → Nat
  | a :: b :: c :: d :: rest => value [a, b, c, d] + wordSum rest
  | rest => value rest

/-- The check of a payload (R26). -/
def payloadCheck (payload : List Byte) : Nat := wordSum payload % 4294967296

/-- Field of `k` bytes at an offset of a record. -/
def field (record : List Byte) (offset k : Nat) : Nat := value ((record.drop offset).take k)

/-- The kind's own fields of a track header record, with the declared length they ask for (R27). -/
def parseInfo (record : List Byte) : Option (TrackInfo × Nat) :=
  let a := field record 8 1
  let b := field record 9 1
  let n := field record 16 8
  match field record 0 1 with
  | 0 => if isRate a && decide (1 ≤ n) && decide (1 ≤ b) && decide (b ≤ 16) then some (.picture a n b, n * b) else none
  | 1 =>
    if decide (1 ≤ a) && decide (a ≤ 24) && decide (1 ≤ n) then
      some (.sound a b n, ceilDiv n (samplesPerBlock a))
    else none
  | 2 => if 1 ≤ n then some (.subtitle n, ceilDiv n Config.blockBytes) else none
  | 3 => some (.description, 1)
  | _ => none

/-- The header of a track header record whose contents are valid (R27). -/
def parseHeader (record : List Byte) : Option TrackHeader :=
  let scrambled := field record 1 1
  let key := field record 2 2
  let length := field record 4 4
  match parseInfo record with
  | none => none
  | some (info, needed) =>
    if length ≠ needed || length = 0 || 4194304 < length then none
    else
      match scrambled, info with
      | 0, _ => some { info := info, length := length, key := none }
      | 1, .picture _ _ _ => if key = 0 then none else some { info := info, length := length, key := some key }
      | _, _ => none

/-- A composition description (R37). -/
structure Description where
  tag : List Byte
  rate : Nat
  countPoint : Option Nat
  reels : List ReelNumbers
  deriving DecidableEq, Repr

/-- Reel k of a description, at its place in the record (R198). -/
def parseReel (record : List Byte) (k : Nat) : ReelNumbers :=
  let at_ := 24 + 16 * k
  let flags := BitVec.ofNat 8 (field record at_ 1)
  { picture := field record (at_ + 1) 1
    entry := field record (at_ + 8) 4
    duration := field record (at_ + 12) 4
    sound := if flags.getLsbD 0 then some (field record (at_ + 2) 1) else none
    subtitles := (List.range 4).map fun i =>
      if flags.getLsbD (i + 1) then some (field record (at_ + 3 + i) 1) else none }

/-- The description that `length` payload bytes hold, when its contents are valid (R37). -/
def parseDescription (record : List Byte) (length : Nat) : Option Description :=
  let n := field record 17 1
  let rate := field record 16 1
  let reels := (List.range n).map (parseReel record)
  let point := if (BitVec.ofNat 8 (field record 18 1)).getLsbD 0 then some (field record 20 4) else none
  let frames := total (reels.map (·.duration))
  if length = 24 + 16 * n && decide (1 ≤ n) && decide (n ≤ 32) && isRate rate &&
      reels.all (fun r => decide (1 ≤ r.duration) && decide (r.duration ≤ 216000)) &&
      (match point with
       | some p => decide (p < frames)
       | none => true) then
    some { tag := text 16 (record.take 16), rate := rate, countPoint := point, reels := reels }
  else none

/-! ### Counters, slots and notices -/

def SegmentRefusal.code : SegmentRefusal → Nat
  | .foreign => 0 | .malformed => 1 | .check => 2 | .noTrack => 3 | .noSlot => 4 | .noId => 5 | .late => 6
  | .stale => 7 | .beyond => 8

/-- The engine changed by `f`. -/
def updateIngest (f : Ingest → Ingest) (s : State) : State := { s with ingest := f s.ingest }

/-- The package counters changed by `f`. -/
def countIngest (f : PackageCounters → PackageCounters) (s : State) : State :=
  updateIngest (fun g => { g with counters := f g.counters }) s

/-- The receive buffer is empty again. -/
def clearReceived (s : State) : State := updateIngest (fun g => { g with received := none }) s

/-- The segment in the receive buffer is refused (R26). -/
def refuseSegment (kind : SegmentRefusal) (s : State) : State :=
  countIngest (fun c => { c with refused := bumpAt c.refused kind.code }) (clearReceived s)

/-- The segment in the receive buffer is dropped. -/
def dropSegment (s : State) : State :=
  countIngest (fun c => { c with dropped := bump max32 c.dropped }) (clearReceived s)

/-- Slot `n` replaced. -/
def setSlot (n : Nat) (slot : Option TrackSlot) (s : State) : State :=
  updateIngest (fun g => { g with slots := replaceAt g.slots n slot }) s

/-- The slot that satisfies `p`, with its number. -/
def findSlot (p : TrackSlot → Bool) (l : List (Option TrackSlot)) : Option (Nat × TrackSlot) :=
  go l 0
where
  go : List (Option TrackSlot) → Nat → Option (Nat × TrackSlot)
    | [], _ => none
    | none :: rest, n => go rest (n + 1)
    | some slot :: rest, n => if p slot then some (n, slot) else go rest (n + 1)

/-- The lowest free slot. -/
def freeSlot (l : List (Option TrackSlot)) : Option Nat := (List.range l.length).find? fun n => (l[n]?).join.isNone

/-- Content codes of a damaged description (R37). -/
inductive ContentCode where
  | content | noEntry
  deriving DecidableEq, Repr

def ContentCode.code : ContentCode → Nat
  | .content => 0 | .noEntry => 1

/-- TRACK_DAMAGED, and the track is counted as made DAMAGED (R28, R32). -/
def reportDamage (id : Nat) (e : TrackEntry) (reason : DamageReason) (content : Option ContentCode) (s : State) : State :=
  raise .trackDamaged
    (num 2 id ++ num 4 e.package ++ num 1 e.number ++ code reason.code ++ opt (fun c => code (ContentCode.code c)) content)
    (countIngest (fun c => { c with damaged := bump max32 c.damaged }) s)

/-- The engine waits for room in the write queue. -/
def State.engineWaits (s : State) : Bool :=
  s.queue.waiters.any fun
    | .track _ engine _ => engine
    | .composition _ _ engine _ => engine
    | _ => false

/-! ### Gathers and store writes -/

/-- The ingest writer asks for its store write. -/
def askIngest (w : IngestWrite) (first count track : Nat) (s : State) : State :=
  askStore { client := .ingest, writes := true, first := first, count := count, track := some track }
    (updateIngest (fun g => { g with writing := some w }) s)

/-- The open gather closes and becomes one store write (R34). -/
def closeGather (s : State) : State :=
  match s.ingest.gather with
  | none => s
  | some g =>
    askIngest (.data g false) g.store g.blocks.length g.track
      (updateIngest (fun i => { i with gather := none, idleCycles := 0 }) s)

/-- The picture reader is reading frames for a current or prepared showing and its queue holds fewer than 2 (R35). -/
def State.gathersCut (s : State) : Bool :=
  ((nextFrame s).isSome || s.frames.places.any fun p => decide (p.condition = .filling)) &&
    decide ((heldFrames s).length < 2)

/-- The room of a gather that begins now (R34, R35). -/
def State.gatherRoom (s : State) : Nat :=
  match s.ingest.package with
  | some (_, .run) => if s.gathersCut then 1 else 8
  | _ => 1

/-- The adaptive cut of R35: an open RUN gather closes when the frame queue falls below 2 frames, whatever the fall, and
when the cut of its room to 1 block begins to stand, because the reader has begun to read frames with fewer than 2 held
(DEDUCED, assumption 23). -/
def cutGather (before : State) (s : State) : State :=
  match s.ingest.package with
  | some (_, .run) =>
    if (2 ≤ (heldFrames before).length && decide ((heldFrames s).length < 2)) || (!before.gathersCut && s.gathersCut)
    then closeGather s else s
  | _ => s

/-- The data blocks of a track still to be written are given up: an open gather, and a closed one not yet granted; a
write in progress runs on and its outcome is disregarded (R24, R32). -/
def discardWrites (track : Nat) (s : State) : State :=
  let s :=
    match s.ingest.gather with
    | some g => if g.track = track then updateIngest (fun i => { i with gather := none }) s else s
    | none => s
  match s.ingest.writing with
  | some (.data g _) =>
    if g.track = track then
      let granted : Bool :=
        match s.arbiter.current with
        | some t => decide (t.request.client = .ingest)
        | none => false
      if granted then updateIngest (fun i => { i with writing := some (.data g true) }) s
      else
        { updateIngest (fun i => { i with writing := none }) s with
          arbiter := { s.arbiter with waiting := withoutClient .ingest s.arbiter.waiting } }
    else s
  | _ => s

/-- The track of slot `n` becomes DAMAGED (R32). -/
def damageTrack (n : Nat) (slot : TrackSlot) (reason : DamageReason) (content : Option ContentCode) (s : State) : State :=
  match s.catalogue.tracks.find slot.track with
  | none => setSlot n (some { slot with mode := .damaged }) s
  | some e =>
    let s := setTrack slot.track (some { e with status := .damaged reason }) s
    let s := setSlot n (some { slot with mode := .damaged }) s
    let s := flushTrack slot.track (discardWrites slot.track s)
    reportDamage slot.track e reason content (queueTrack slot.track true none s)

/-! ### Segments -/

/-- A gather after a block has joined it closes when it is full, or at the end of its extent or of its track (R34). -/
def gatherFull (g : Gather) (extents : List Extent) : Bool :=
  decide (g.room ≤ g.blocks.length) ||
    (match extentAt extents (g.block + g.blocks.length) with
     | some (_, e) => decide (e.block = g.block + g.blocks.length)
     | none => true)

/-- A gather that now holds the block of the accepted segment (R31, R34). -/
def takeBlock (n : Nat) (slot : TrackSlot) (g : Gather) (s : State) : State :=
  let s := clearReceived (setSlot n (some { slot with next := slot.next + 1 }) s)
  let s := countIngest (fun c => { c with written := bump max32 c.written }) s
  let s := updateIngest (fun i => { i with gather := some g }) s
  if gatherFull g ((s.catalogue.extents.find slot.track).getD []) then closeGather s else s

/-- A data segment that passes its checks: its block joins the open gather, or begins a new one, or waits in the receive
buffer for the writer (R31, R34). -/
def acceptData (n : Nat) (slot : TrackSlot) (g : Segment) (s : State) : State :=
  let block := slot.next - 1
  match s.ingest.gather with
  | some open_ =>
    if open_.track = slot.track && block = open_.block + open_.blocks.length && open_.blocks.length < open_.room then
      takeBlock n slot { open_ with blocks := open_.blocks ++ [g.payload] } s
    else closeGather s
  | none =>
    if s.ingest.writing.isSome then s
    else
      match extentAt ((s.catalogue.extents.find slot.track).getD []) block with
      | some (_, e) =>
        takeBlock n slot
          { track := slot.track, block := block, store := e.store + (block - e.block), blocks := [g.payload],
            room := s.gatherRoom } s
      | none => dropSegment s

/-- Whether a track id holds a DESCRIPTION. -/
def isDescription (track : Nat) (s : State) : Bool :=
  match s.catalogue.tracks.find track with
  | some e => decide (e.header.info = .description)
  | none => false

/-- A data segment that reaches a FILLING slot (R30, R31, R37). R26's table names a description whose contents are not valid
among the causes of MALFORMED, while R32 and R37 make its track DAMAGED and drop the segment: the model does as R32 and R37
say and counts the segment as dropped (DESIGN CHOICE, assumption 41). -/
def judgeData (n : Nat) (slot : TrackSlot) (g : Segment) (s : State) : State :=
  if slot.length < g.index then refuseSegment .beyond s
  else if g.index = slot.next then
    let right := if g.index < slot.length then g.length = Config.blockBytes else 1 ≤ g.length ∧ g.length ≤ Config.blockBytes
    if ¬ right then refuseSegment .malformed s
    else if payloadCheck g.payload ≠ g.check then dropSegment (damageTrack n slot .check none s)
    else if isDescription slot.track s && (parseDescription g.payload g.length).isNone then
      dropSegment (damageTrack n slot .check (some .content) s)
    else acceptData n slot g s
  else if g.index + 1 = slot.next then
    countIngest (fun c => { c with duplicates := bump max32 c.duplicates }) (clearReceived s)
  else if g.index < slot.next then refuseSegment .stale s
  else dropSegment (damageTrack n slot .gap none s)

/-- The map block of a track as the engine writes it (R2). -/
def mapBlockOf (track : Nat) (e : TrackEntry) (extents : List Extent) : MapBlock :=
  { track := track, package := e.package, number := e.number, header := e.header, extents := extents }

/-- A track header opens a slot for a new track (R28). A header whose track is to be written closes the gather first and
waits in the receive buffer until the writer is free (R34). R28 gives the next expected index 1 for the allocation that is
made; a slot that opens DAMAGED because the allocation is refused holds 1 too (DESIGN CHOICE, assumption 22). -/
def openTrack (n id : Nat) (g : Segment) (h : TrackHeader) (s : State) : State :=
  let slot : TrackSlot := { number := g.track, mode := .filling, track := id, length := h.length, next := 1 }
  let e : TrackEntry := { status := .filling, package := g.package, number := g.track, header := h, extentCount := 0 }
  match allocate h.length s.free.list with
  | none =>
    let s := clearReceived (setSlot n (some { slot with mode := .damaged }) s)
    let s := setTrack id (some { e with status := .damaged .storeFull }) s
    reportDamage id e .storeFull none (queueTrack id true none s)
  | some (extents, left) =>
    if s.ingest.gather.isSome then closeGather s
    else if s.ingest.writing.isSome then s
    else
      let s := clearReceived (setSlot n (some slot) (takeAllocation left s))
      let s := setTrack id (some { e with extentCount := extents.length }) s
      askIngest (.map (mapBlockOf id e extents) none) id 1 id (setExtents id (some extents) s)

/-- The READY track of a package with a number. -/
def readyTrack (tracks : Table TrackEntry) (package number : Nat) : Option (Nat × TrackEntry) :=
  tracks.find? fun p => decide (p.2.status = .ready) && decide (p.2.package = package) && decide (p.2.number = number)

/-- A track header for a new slot (R27 to R29). -/
def judgeHeader (g : Segment) (s : State) : State :=
  if s.ingest.state = .closing then refuseSegment .late s
  else if payloadCheck g.payload ≠ g.check then refuseSegment .check s
  else
    match if g.length = 24 then parseHeader g.payload else none with
    | none => refuseSegment .malformed s
    | some h =>
      match freeSlot s.ingest.slots with
      | none => refuseSegment .noSlot s
      | some n =>
        match readyTrack s.catalogue.tracks g.package g.track with
        | some (id, _) =>
          let s := setSlot n
            (some { number := g.track, mode := .held, track := id, length := h.length, next := 0 }) s
          countIngest (fun c => { c with held := bump max32 c.held }) (dropSegment s)
        | none =>
          match s.catalogue.tracks.lowestFree 512 with
          | none => refuseSegment .noId s
          | some id => openTrack n id g h s

/-- The segment in the receive buffer is acted on, or stays there until the writer is free (R27). -/
def actOnSegment (g : Segment) (s : State) : State :=
  match s.ingest.package with
  | none => clearReceived s
  | some (package, _) =>
    if g.package ≠ package then refuseSegment .foreign s
    else if Config.blockBytes < g.length then refuseSegment .malformed s
    else
      match findSlot (fun slot => decide (slot.number = g.track)) s.ingest.slots with
      | some (n, slot) =>
        match slot.mode with
        | .filling => judgeData n slot g s
        | .held => dropSegment (if g.index = slot.length then setSlot n none s else s)
        | .damaged => dropSegment s
      | none => if g.index = 0 then judgeHeader g s else refuseSegment .noTrack s

/-- The segment that waits in the receive buffer is acted on when nothing holds the engine (R26, R34). -/
def pumpSegment (s : State) : State :=
  match s.ingest.received with
  | none => s
  | some g => if s.engineWaits then s else actOnSegment g s

/-- The map block write of a track of the open package is outstanding. -/
def Ingest.mapOutstanding (g : Ingest) : Bool :=
  match g.writing with
  | some (.map m _) =>
    (findSlot (fun slot => decide (slot.track = m.track) && decide (slot.mode = .filling)) g.slots).isSome
  | _ => false

/-- The engine holds the port (R26, R28). -/
def State.portHeld (s : State) : Bool :=
  !decide (s.ingest.state = .idle) &&
    (s.ingest.received.isSome || s.ingest.mapOutstanding || s.engineWaits)

/-- SEGMENT_TAKEN (R27). While the engine holds the port no segment is taken. -/
def execSegmentTaken (g : Segment) (s : State) : Result :=
  finish
    (if s.ingest.state = .idle then updateIngest (fun i => { i with idleForeign := bump max32 i.idleForeign }) s
     else if s.portHeld then s
     else actOnSegment g (updateIngest (fun i => { i with received := some g, idleCycles := 0 }) s))

/-- GATHER_IDLE_TIMEOUT: no segment has been taken for 1 ms while a gather is open (R34). -/
def execGatherIdleTimeout (s : State) : Result := finish (closeGather s)

/-! ### Resolving a composition (R38) -/

/-- The track a package number maps to (R38): the READY entry, else the lowest DAMAGED one. -/
def mapNumber (tracks : Table TrackEntry) (package number : Nat) : Option (Nat × TrackEntry) :=
  match readyTrack tracks package number with
  | some p => some p
  | none => tracks.find? fun p =>
      decide (p.2.status.code = 3) && decide (p.2.package = package) && decide (p.2.number = number)

/-- A number that may be absent, mapped: absent numbers stay absent. -/
def mapOptional (tracks : Table TrackEntry) (package : Nat) (number : Option Nat) : Option (Nat × TrackEntry) :=
  number.bind (mapNumber tracks package)

/-- A reel with its numbers mapped. -/
structure MappedReel where
  numbers : ReelNumbers
  picture : Option (Nat × TrackEntry)
  sound : Option (Nat × TrackEntry)
  subtitles : List (Option (Nat × TrackEntry))

def mapReel (tracks : Table TrackEntry) (package : Nat) (r : ReelNumbers) : MappedReel :=
  { numbers := r, picture := mapNumber tracks package r.picture, sound := mapOptional tracks package r.sound,
    subtitles := r.subtitles.map (mapOptional tracks package) }

/-- The tracks a reel's numbers map to. -/
def MappedReel.tracks (m : MappedReel) : List TrackEntry :=
  (m.picture :: m.sound :: m.subtitles).filterMap fun t => t.map (·.2)

/-- Check 1: every track number given maps to a track. -/
def MappedReel.allMapped (m : MappedReel) : Bool :=
  m.picture.isSome && (m.numbers.sound.isNone || m.sound.isSome) &&
    (m.numbers.subtitles.zip m.subtitles).all fun p => p.1.isNone || p.2.isSome

/-- Check 3: each track is of the kind its place asks for. -/
def MappedReel.kindsFit (m : MappedReel) : Bool :=
  m.picture.all (fun t => decide (t.2.header.kind = .picture)) &&
    m.sound.all (fun t => decide (t.2.header.kind = .sound)) &&
    m.subtitles.all fun t => t.all fun t => decide (t.2.header.kind = .subtitle)

/-- Check 4: the picture track's edit rate. -/
def MappedReel.rateFits (rate : Nat) (m : MappedReel) : Bool :=
  m.picture.all fun t =>
    match t.2.header.info with
    | .picture r _ _ => decide (r = rate)
    | _ => false

/-- Check 5: the picture track holds the reel's frames. -/
def MappedReel.longEnough (m : MappedReel) : Bool :=
  m.picture.all fun t =>
    match t.2.header.info with
    | .picture _ frames _ => decide (m.numbers.entry + m.numbers.duration ≤ frames)
    | _ => false

/-- The key ids of the scrambled tracks of a composition. -/
def scrambledKeys (l : List MappedReel) : List Nat := (l.flatMap (·.tracks)).filterMap fun e => e.header.key

/-- The first failing check of R38, in its order. -/
def resolutionFailure (rate : Nat) (l : List MappedReel) : Option IncompleteReason :=
  if !l.all (·.allMapped) then some .missing
  else if !(l.flatMap (·.tracks)).all (fun e => decide (e.status = .ready)) then some .damaged
  else if !l.all (·.kindsFit) then some .kind
  else if !l.all (MappedReel.rateFits rate) then some .rate
  else if !l.all (·.longEnough) then some .short
  else if !(scrambledKeys l).all (fun k => decide ((scrambledKeys l).head? = some k)) then some .keyMixed
  else none

/-- The composition resolved (R38). -/
def resolveComposition (tracks : Table TrackEntry) (numbers : List ReelNumbers) (c : Composition) : Composition :=
  let mapped := numbers.map (mapReel tracks c.package)
  let failure := resolutionFailure c.rate mapped
  { c with
    incomplete := failure
    key := if failure.isNone then (scrambledKeys mapped).head? else none
    countPoint := some (c.countPoint.getD (c.total * 3 / 4))
    reels := mapped.map fun m =>
      { picture := m.picture.map (·.1), entry := m.numbers.entry, duration := m.numbers.duration,
        sound := m.sound.map (·.1), subtitles := m.subtitles.map fun t => t.map (·.1) } }

/-! ### Completions -/

/-- The awaiting mark of a composition entry, with the track numbers of its description (R6). -/
def setAwaiting (id : Nat) (numbers : Option (List ReelNumbers)) (s : State) : State :=
  { s with catalogue := { s.catalogue with awaiting := s.catalogue.awaiting.set id numbers } }

/-- The compositions the closing package has resolved, counted by what they became (R39). -/
def countResolved (c : Composition) (s : State) : State :=
  updateIngest (fun i => { i with resolved :=
    if c.incomplete.isNone then (i.resolved.1 + 1, i.resolved.2) else (i.resolved.1, i.resolved.2 + 1) }) s

/-- A composition entry's write is queued, and the in-part entry takes its change at that moment (R8). A resolution is made by
the tracks as they then stand, which keeps the tracks that a READY entry names READY (R6, R38). -/
def takeComposition (id : Nat) (change : CompositionChange) (s : State) : State :=
  match change with
  | .enter value awaiting => pushComposition id (setAwaiting id awaiting (setComposition id (some value) s))
  | .resolve numbers =>
    match s.catalogue.compositions.find id with
    | none => s
    | some c =>
      let c := resolveComposition s.catalogue.tracks numbers c
      pushComposition id (countResolved c (setAwaiting id none (setComposition id (some c) s)))

/-- A composition entry's write is queued, or waits for room. -/
def queueComposition (id : Nat) (change : CompositionChange) (engine closes : Bool) (s : State) : State :=
  if s.hasRoom then takeComposition id change s else awaitRoom (.composition id change engine closes) s

/-- The entry a description takes (R6, R37). -/
def newComposition (package : Nat) (d : Description) : Composition :=
  { incomplete := some .missing, package := package, tag := d.tag, rate := d.rate, key := none,
    total := total (d.reels.map (·.duration)), countPoint := d.countPoint, shown := 0,
    reels := d.reels.map fun r =>
      { picture := none, entry := r.entry, duration := r.duration, sound := none,
        subtitles := [none, none, none, none] } }

/-- The track of slot `n` becomes READY and its slot free (R33). -/
def completeTrack (n : Nat) (slot : TrackSlot) (e : TrackEntry) (s : State) : State :=
  let s := setSlot n none (setTrack slot.track (some { e with status := .ready }) s)
  let s := queueTrack slot.track true none s
  let s := countIngest (fun c => { c with ready := bump max32 c.ready }) s
  raise .trackReady
    (num 2 slot.track ++ num 4 e.package ++ num 1 e.number ++ code e.header.kind.code) s

/-- A written description: its track becomes READY and it takes the lowest free composition id, or it is DAMAGED when no
id is free (R37, R6). -/
def completeDescription (n : Nat) (slot : TrackSlot) (e : TrackEntry) (block : List Byte) (s : State) : State :=
  match s.catalogue.compositions.lowestFree 64 with
  | none =>
    countIngest (fun c => { c with noEntry := bump max32 c.noEntry })
      (damageTrack n slot .check (some .noEntry) s)
  | some id =>
    match parseDescription block (24 + 16 * field block 17 1) with
    | none => completeTrack n slot e s
    | some d =>
      queueComposition id (.enter (newComposition e.package d) (some d.reels)) true false (completeTrack n slot e s)

/-- A gather has been written whole (R33). -/
def gatherWritten (g : Gather) (s : State) : State :=
  match findSlot (fun slot => decide (slot.track = g.track) && decide (slot.mode = .filling)) s.ingest.slots with
  | none => s
  | some (n, slot) =>
    match s.catalogue.tracks.find slot.track with
    | none => s
    | some e =>
      if g.block + g.blocks.length < slot.length then s
      else if e.header.info = .description then completeDescription n slot e (g.blocks.getLast?.getD []) s
      else completeTrack n slot e s

/-- A store write of a gather failed twice (R36). -/
def gatherFailed (g : Gather) (s : State) : State :=
  match findSlot (fun slot => decide (slot.track = g.track) && decide (slot.mode = .filling)) s.ingest.slots with
  | none => s
  | some (n, slot) => damageTrack n slot .storeFault none s

/-- The completion of a data write of the ingest writer (R33, R34, R36). The blocks hold the client's data on success,
and free values on a store fault, whatever became of the track. -/
def dataWritten (ok : Bool) (g : Gather) (dropped : Bool) (s : State) : State :=
  let blocks :=
    if ok then g.blocks else (List.range g.blocks.length).map fun i => Config.lostBlock (s.freeUses + i)
  let s := if ok then s else useFree g.blocks.length s
  let s := { s with store := s.store.writeRun g.store blocks }
  let s := updateIngest (fun i => { i with writing := none }) s
  let s := if dropped then s else if ok then gatherWritten g s else gatherFailed g s
  pumpSegment s

/-- INGEST_WRITE_COMPLETE (R33). -/
def execIngestWriteComplete (ok : Bool) (s : State) : Result :=
  finish
    (match s.ingest.writing with
     | some (.data g dropped) => completeTransfer .ingest ok (fun _ => dataWritten ok g dropped) s
     | _ => s)

/-- A track entry's write is queued, or waits for room, and with it the reply of an INGEST ABORT (R24). -/
def releaseReply (reply : Option Reply) (s : State) : State :=
  match reply with
  | some r => sendReply r s
  | none => s

/-- The store at the completion of a map block write: the block holds the map, or a free value after a store fault. -/
def storeMap (ok : Bool) (m : MapBlock) (s : State) : State :=
  if ok then { s with store := s.store.write m.track (.map m) }
  else { useFree 1 s with store := s.store.write m.track (.data (Config.lostBlock s.freeUses)) }

/-- The entry of the track that a map block was written for, while that track stands: one deleted meanwhile holds its extents
no more. -/
def mappedEntry (m : MapBlock) (s : State) : Option TrackEntry :=
  if s.catalogue.extents.find m.track = some m.extents then s.catalogue.tracks.find m.track else none

/-- The completion of a map block write (R2, R24, R28). A track that has been deleted meanwhile needs no entry write. -/
def mapWritten (ok : Bool) (m : MapBlock) (reply : Option Reply) (s : State) : State :=
  let s := storeMap ok m (updateIngest (fun i => { i with writing := none }) s)
  let s :=
    match mappedEntry m s with
    | none => releaseReply reply s
    | some e =>
      let slot := findSlot (fun slot => decide (slot.track = m.track) && decide (slot.mode = .filling)) s.ingest.slots
      if ok then queueTrack m.track slot.isSome reply s
      else
        let s := releaseTrack m.track s
        let e := { e with status := .damaged .storeFault, extentCount := 0 }
        let s := flushTrack m.track (setTrack m.track (some e) s)
        match slot with
        | some (n, slot) =>
          reportDamage m.track e .storeFault none
            (queueTrack m.track true reply (setSlot n (some { slot with mode := .damaged }) s))
        | none => queueTrack m.track false reply s
  pumpSegment s

/-- MAP_BLOCK_WRITE_COMPLETE (R2): before the requests that wait behind an INGEST ABORT are taken. -/
def mapBlockWriteComplete (ok : Bool) (s : State) : State :=
  match s.ingest.writing with
  | some (.map m reply) => completeTransfer .ingest ok (fun _ => mapWritten ok m reply) s
  | _ => s

/-! ### Closing a package -/

/-- The entries of a package that await resolution, in ascending id. -/
def awaitingOf (package : Nat) (c : Catalogue) : List (Nat × List ReelNumbers) :=
  c.awaiting.filter fun p =>
    match c.compositions.find p.1 with
    | some e => decide (e.package = package)
    | none => false

/-- The outcome of a close, in the order R39 names. -/
def CloseReport.outcome (r : CloseReport) : Nat := if r.aborted then 1 else 0

/-- The counts of a close report in the order of R39. -/
def CloseReport.body (r : CloseReport) : List Byte :=
  let c := r.counters
  num 4 r.package ++ code r.outcome ++ num 4 c.ready ++ num 4 c.damaged ++ num 4 c.held ++ num 4 c.noEntry ++
    num 1 r.resolvedReady ++ num 1 r.resolvedIncomplete ++ num 4 c.written ++ num 4 c.duplicates ++ num 4 c.dropped ++
    num 5 (total c.refused) ++ c.refused.flatMap (num 4)

/-- The close report is formed, PACKAGE_CLOSED is raised and the engine is IDLE (R23, R24, R39). -/
def endPackage (aborted : Bool) (ready incomplete : Nat) (s : State) : State :=
  let r : CloseReport :=
    { package := (s.ingest.package.map (·.1)).getD 0, aborted := aborted, counters := s.ingest.counters,
      resolvedReady := ready, resolvedIncomplete := incomplete }
  raise .packageClosed r.body
    (updateIngest (fun i => { i with
      state := .idle, package := none, slots := [none, none, none, none], report := some r, resolved := (0, 0) }) s)

/-- The entries of the closing package are resolved one after the other as their writes are queued (R38, R8). -/
def resolveAll : List (Nat × List ReelNumbers) → State → State
  | [], s => s
  | (id, numbers) :: rest, s => resolveAll rest (queueComposition id (.resolve numbers) true rest.isEmpty s)

/-- The conditions under which the close completes (R23). -/
def State.closeReady (s : State) : Bool :=
  decide (s.ingest.state = .closing) && s.ingest.received.isNone && s.ingest.gather.isNone &&
    s.ingest.writing.isNone && !s.engineWaits &&
    (findSlot (fun slot => decide (slot.mode = .filling)) s.ingest.slots).isNone

/-- The close completes (R23): slots free, compositions resolved, and the package ended unless a composition's write still
waits for room. -/
def completeClose (s : State) : State :=
  if s.closeReady then
    let package := (s.ingest.package.map (·.1)).getD 0
    let s := updateIngest (fun i => { i with slots := [none, none, none, none], resolved := (0, 0) }) s
    let s := resolveAll (awaitingOf package s.catalogue) s
    if s.engineWaits then s else endPackage false s.ingest.resolved.1 s.ingest.resolved.2 s
  else s

/-- PACKAGE_CLOSE_COMPLETE (R23). -/
def execPackageCloseComplete (s : State) : Result := finish (completeClose s)

/-! ### Requests -/

/-- INGEST OPEN (R22). -/
def serveIngestOpen (frame : Frame) (package mode : Nat) (s : State) : State :=
  if s.free.sweep.isSome then turnAway 8 frame .busy s
  else if s.ingest.state ≠ .idle then refuse 8 frame .wrongState s
  else
    match writeModeOf mode with
    | none => refuse 8 frame .outOfRange s
    | some m =>
      answerOk 8 frame []
        (updateIngest (fun i => { i with
          state := .opened, package := some (package, m), counters := PackageCounters.zero,
          slots := [none, none, none, none] }) s)

/-- INGEST CLOSE (R23). -/
def serveIngestClose (frame : Frame) (s : State) : State :=
  if s.ingest.state ≠ .opened then refuse 9 frame .wrongState s
  else answerOk 9 frame [] (closeGather (updateIngest (fun i => { i with state := .closing }) s))

/-- The tracks of FILLING slots. -/
def fillingTracks (s : State) : List Nat :=
  s.ingest.slots.filterMap fun
    | some slot => if slot.mode = .filling then some slot.track else none
    | none => none

/-- The map block whose write is waiting or in progress. -/
def mapPending (s : State) : Option MapBlock :=
  match s.ingest.writing with
  | some (.map m _) => some m
  | _ => none

/-- A track of an aborted package becomes DAMAGED (INTERRUPTED) (R24). -/
def interruptTrack (id : Nat) (s : State) : State :=
  match s.catalogue.tracks.find id with
  | none => s
  | some e =>
    let s := flushTrack id (discardWrites id (setTrack id (some { e with status := .damaged .interrupted }) s))
    reportDamage id e .interrupted none s

/-- The entry writes of aborted tracks are queued, the last one releasing the reply (R24). -/
def queueInterrupted (reply : Reply) : List Nat → State → State
  | [], s => sendReply reply s
  | [id], s => queueTrack id true (some reply) s
  | id :: rest, s => queueInterrupted reply rest (queueTrack id true none s)

/-- A requester that waits for room, after an INGEST ABORT (R24): a composition entry that waits is queued without its
awaiting mark, and a composition not yet resolved is not resolved. -/
def Waiter.afterAbort : Waiter → Option Waiter
  | .composition id (.enter value _) engine closes => some (.composition id (.enter value none) engine closes)
  | .composition _ (.resolve _) _ _ => none
  | w => some w

/-- INGEST ABORT (R24). The FILLING tracks are interrupted in the order of their slots, and the entry of one whose map block
write is outstanding is written last, at that write's completion: R24 gives no order among them (DESIGN CHOICE, assumption
24). -/
def serveIngestAbort (frame : Frame) (s : State) : State :=
  match s.ingest.package with
  | none => refuse 10 frame .wrongState s
  | some (package, _) =>
    let reply := replyOf 10 frame.tag .ok none []
    let tracks := fillingTracks s
    let s := { s with queue := { s.queue with waiters := s.queue.waiters.filterMap Waiter.afterAbort } }
    let s := clearReceived s
    let s := tracks.foldl (fun s id => interruptTrack id s) s
    let marked := (awaitingOf package s.catalogue).map (·.1)
    let s := { s with catalogue := { s.catalogue with
        awaiting := s.catalogue.awaiting.filter fun p => !marked.contains p.1 } }
    let s := endPackage true 0 0 (updateIngest (fun i => { i with gather := none }) s)
    match mapPending s with
    | some m =>
      if tracks.contains m.track then
        let s := (tracks.filter fun id => !decide (id = m.track)).foldl (fun s id => queueTrack id true none s) s
        updateIngest (fun i => { i with writing := some (.map m (some reply)) }) s
      else queueInterrupted reply tracks s
    | none => queueInterrupted reply tracks s

/-- A slot as INGEST STATUS reports it (R25). -/
def slotReport (slot : TrackSlot) : List Byte :=
  num 1 slot.number ++ code slot.mode.code ++ num 2 slot.track ++ num 3 slot.length ++ num 3 slot.next

/-- INGEST STATUS (R25). -/
def ingestReport (s : State) : List Byte :=
  let g := s.ingest
  let c := g.counters
  code g.state.code ++ opt (fun p => num 4 p.1) g.package ++ opt (fun p => code (WriteMode.code p.2)) g.package ++
    g.slots.flatMap (opt slotReport) ++ num 1 ((g.gather.map (·.blocks.length)).getD 0) ++
    opt (fun g => num 2 (Gather.track g)) g.gather ++ flag g.writing.isSome ++ flag s.engineWaits ++
    num 4 c.written ++ num 4 c.duplicates ++ num 4 c.dropped ++ c.refused.flatMap (num 4) ++ num 4 c.ready ++
    num 4 c.damaged ++ num 4 c.held ++ num 4 c.noEntry ++ num 4 g.idleForeign ++ opt CloseReport.body g.report

/-- INGEST STATUS (R25). -/
def serveIngestStatus (frame : Frame) (s : State) : State := answerOk 11 frame (ingestReport s) s

/-- INGEST OPEN (R22). -/
def execIngestOpen (frame : Frame) (package mode : Nat) (s : State) : Result :=
  request 8 frame (.ingestOpen frame package mode) (serveIngestOpen frame package mode) s

/-- INGEST CLOSE (R23). -/
def execIngestClose (frame : Frame) (s : State) : Result :=
  request 9 frame (.ingestClose frame) (serveIngestClose frame) s

/-- INGEST ABORT (R24). -/
def execIngestAbort (frame : Frame) (s : State) : Result :=
  request 10 frame (.ingestAbort frame) (serveIngestAbort frame) s

/-- INGEST STATUS (R25). -/
def execIngestStatus (frame : Frame) (s : State) : Result :=
  request 11 frame (.ingestStatus frame) (serveIngestStatus frame) s

end Machine
end Sys2Proof
end

