-- ==== Sys2Proof/Machine/ShowLog.lean ====
section
/-!
DEFINITION. The show log (R169 to R177): its ring, opening and closing records, the unwritten list, collection and
start-up.
-/
namespace Sys2Proof
namespace Machine

open Layout

/-! ### The ring (R170) -/

/-- The oldest sequence number held. -/
def ShowLog.oldest (l : ShowLog) : Option Nat := l.records.head?.map (·.sequence)

/-- The newest sequence number held. -/
def ShowLog.newest (l : ShowLog) : Option Nat := l.records.getLast?.map (·.sequence)

/-- The collection mark: the highest number held whose record has its release mark set. -/
def ShowLog.mark (l : ShowLog) : Option Nat := (l.records.filter (·.mark)).getLast?.map (·.sequence)

/-- The open record. -/
def ShowLog.opened (l : ShowLog) : Option Nat := (l.records.find? (·.outcome.isNone)).map (·.sequence)

/-- The first uncollected number: the one after the collection mark, or the oldest. -/
def ShowLog.firstUncollected (l : ShowLog) : Option Nat :=
  match l.mark with
  | some m => some (m + 1)
  | none => l.oldest

/-- The uncollected count. -/
def ShowLog.uncollected (l : ShowLog) : Nat :=
  match l.firstUncollected, l.newest with
  | some first, some last => last + 1 - first
  | _, _ => 0

/-- The log has room for a new record (R170). -/
def ShowLog.hasRoom (l : ShowLog) : Bool :=
  decide (l.uncollected < 1024) &&
    (match l.newest with
     | some n => decide (n < max32)
     | none => true)

/-- A record held. -/
def ShowLog.find (l : ShowLog) (sequence : Nat) : Option LogRecord :=
  l.records.find? fun r => decide (r.sequence = sequence)

/-- The log changed by `f`. -/
def updateLog (f : ShowLog → ShowLog) (s : State) : State := { s with log := f s.log }

/-- A held record changed by `f`. -/
def ShowLog.change (sequence : Nat) (f : LogRecord → LogRecord) (l : ShowLog) : ShowLog :=
  { l with records := l.records.map fun r => if r.sequence = sequence then f r else r }

/-- The fields of a record that is not lost changed by `f`. -/
def LogRecord.changeShowing (f : LogShowing → LogShowing) (r : LogRecord) : LogRecord :=
  { r with showing := r.showing.map f }

/-- A changed record joins the unwritten list, or keeps its place there (R172), also where a count of its showing waits for
room behind that place (DESIGN CHOICE, assumption 49). -/
def ShowLog.join (sequence : Nat) (l : ShowLog) : ShowLog :=
  if l.unwritten.contains sequence then l else { l with unwritten := l.unwritten ++ [sequence] }

/-! ### Writing (R172) -/

/-- The write of the record at the head of the unwritten list is queued, with the record as it then stands; a LOG RELEASE
that waits for it is answered (R175). A record that R171 has removed from the ring meanwhile is held no longer, so that
no write can carry it: it leaves the list without a write, and its LOG RELEASE is answered all the same (DESIGN CHOICE,
assumption 42). -/
def queueLogHead (s : State) : State :=
  match s.log.unwritten with
  | [] => s
  | q :: rest =>
    let s := updateLog (fun l => { l with
      unwritten := rest, uncompleted := if l.uncompleted.contains q then l.uncompleted else l.uncompleted ++ [q] }) s
    let s :=
      match s.log.find q with
      | some r => pushWrite (.log r) false s
      | none => s
    match s.log.release with
    | some (waits, reply) =>
      if waits = q then sendReply reply (updateLog (fun l => { l with release := none }) s) else s
    | none => s

/-- The log waits for room already. -/
def State.logWaits (s : State) : Bool :=
  s.queue.waiters.any fun
    | .log => true
    | _ => false

/-- The log queues the writes of up to `n` records of its unwritten list as long as the queue has room, and then waits
(R172). -/
def pumpLog : Nat → State → State
  | 0, s => s
  | n + 1, s =>
    if s.log.unwritten.isEmpty || s.logWaits then s
    else if s.hasRoom then pumpLog n (queueLogHead s)
    else awaitRoom .log s

/-- The log queues the writes of its whole unwritten list, or waits for room with those left (R172). -/
def carryLog (s : State) : State := pumpLog s.log.unwritten.length s

/-- A changed record is carried to nonvolatile memory (R172). -/
def writeRecord (sequence : Nat) (s : State) : State := carryLog (updateLog (ShowLog.join sequence) s)

/-! ### Opening and closing (R171, R173, R176) -/

/-- The detail of LOG_NEAR_FULL and LOG_FULL (R176). -/
def logDetail (l : ShowLog) : List Byte :=
  num 2 l.uncollected ++ num 4 (l.firstUncollected.getD 0) ++ num 4 (l.newest.getD 0)

/-- The sequence number of the next record (R170). -/
def ShowLog.next (l : ShowLog) : Nat :=
  match l.newest with
  | some n => n + 1
  | none => 0

/-- The record of a showing that takes over (R171). -/
def openingRecord (sequence : Nat) (p : Play) (grant : Option (Nat × Nat)) (time : Nat) : LogRecord :=
  { sequence := sequence, outcome := none, mark := false,
    showing := some
      { composition := p.id, package := p.composition.package, tag := p.composition.tag, grant := grant, start := time,
        stop := none, firstReel := p.firstReel, lastReel := p.firstReel, presented := 0, repeated := 0,
        counted := none } }

/-- The log opens a record at a takeover (R171, R176). -/
def openRecord (p : Play) (grant : Option (Nat × Nat)) (s : State) : State :=
  let q := s.log.next
  let before := s.log.uncollected
  let s := updateLog (fun l => { l with
    records := (if 1024 ≤ l.records.length then l.records.drop 1 else l.records) ++
      [openingRecord q p grant s.keys.clock]
    uncompleted := l.uncompleted ++ [q] }) s
  let after := s.log.uncollected
  let s := if before = 959 && after = 960 then raise .logNearFull (logDetail s.log) s else s
  let s := if before = 1023 && after = 1024 then raise .logFull (logDetail s.log) s else s
  writeRecord q s

/-- The log closes the open record at the end of its showing (R173). -/
def closeRecord (sh : Showing) (outcome : ShowingOutcome) (s : State) : State :=
  let s := updateLog (ShowLog.change sh.record fun r =>
    { r.changeShowing (fun g => { g with
        stop := some s.keys.clock, lastReel := s.time.reel, presented := sh.presented, repeated := sh.repeated }) with
      outcome := some outcome }) s
  writeRecord sh.record s

/-! ### Start-up (R177) -/

/-- A record that did not reach nonvolatile memory (R177). -/
def lostRecord (sequence : Nat) : LogRecord :=
  { sequence := sequence, outcome := some .interrupted, mark := false, showing := none }

/-- The run of records from `q` downward, oldest first, at most `fuel` of them: a place that carries a lower number gives
a lost record, and a place never written ends the run (R177). -/
def ringRun (ring : Table LogRecord) : Nat → Nat → List LogRecord
  | 0, _ => []
  | fuel + 1, q =>
    match ring.find (q % 1024) with
    | none => []
    | some r =>
      (if q = 0 then [] else ringRun ring fuel (q - 1)) ++ [if r.sequence = q then r else lostRecord q]

/-- The highest sequence number found in any written place. -/
def ringNewest (ring : Table LogRecord) : Option Nat :=
  ring.foldl (fun m p =>
    match m with
    | some n => some (max n p.2.sequence)
    | none => some p.2.sequence) none

/-- A record held OPEN is closed INTERRUPTED at start-up. -/
def LogRecord.interrupt (time : Nat) (r : LogRecord) : LogRecord :=
  match r.outcome with
  | some _ => r
  | none => { r.changeShowing (fun g => { g with stop := some time }) with outcome := some .interrupted }

/-- The log as start-up forms it, with the numbers of the records start-up changed (R177). Every record, a lost one made
afresh too, reports its last queued write as completed until its next write is queued (DESIGN CHOICE, assumption 25). -/
def formLog (ring : Table LogRecord) (time : Nat) : ShowLog × List Nat :=
  match ringNewest ring with
  | none => ({ records := [], unwritten := [], uncompleted := [], release := none }, [])
  | some newest =>
    let run := ringRun ring 1024 newest
    let changed := (run.filter fun r =>
      r.outcome.isNone || decide (ring.find (r.sequence % 1024) ≠ some r)).map (·.sequence)
    ({ records := run.map (LogRecord.interrupt time), unwritten := [], uncompleted := [], release := none }, changed)

/-- Start-up of the log: its ring formed, the changed records on their way to nonvolatile memory, and the notices of its
thresholds (R177). -/
def startLog (s : State) : State :=
  let (l, changed) := formLog s.nvm.log s.keys.clock
  let s := { s with log := l }
  let s := carryLog (updateLog (fun l => { l with unwritten := changed }) s)
  let s := if 960 ≤ s.log.uncollected then raise .logNearFull (logDetail s.log) s else s
  if s.log.uncollected = 1024 then raise .logFull (logDetail s.log) s else s

/-! ### Requests (R174, R175) -/

/-- The flag byte of a log record body (R198). -/
def recordFlags (l : ShowLog) (r : LogRecord) : List Byte :=
  let counted : Bool := (r.showing.bind (·.counted)).isSome
  let grant : Bool := (r.showing.bind (·.grant)).isSome
  let collected : Bool :=
    match l.mark with
    | some m => decide (r.sequence ≤ m)
    | none => false
  flags [r.showing.isNone, counted, grant, r.mark, collected, l.unwritten.contains r.sequence,
    !l.uncompleted.contains r.sequence]

/-- A log record body (R198): 54 bytes, absent fields as 0. -/
def recordBody (l : ShowLog) (r : LogRecord) : List Byte :=
  let g : LogShowing := r.showing.getD
    { composition := 0, package := 0, tag := [], grant := none, start := 0, stop := none, firstReel := 0,
      lastReel := 0, presented := 0, repeated := 0, counted := none }
  num 4 r.sequence ++ code (if r.outcome.isSome then 1 else 0) ++
    code ((r.outcome.map ShowingOutcome.code).getD 0) ++ num 1 g.composition ++ recordFlags l r ++ num 4 g.package ++
    text 16 g.tag ++ num 1 ((g.grant.map (·.1)).getD 0) ++ num 1 g.firstReel ++ num 1 g.lastReel ++ num 1 0 ++
    num 2 ((g.grant.map (·.2)).getD 0) ++ num 4 g.start ++ num 4 (g.stop.getD 0) ++ num 4 (g.counted.getD 0) ++
    num 4 g.presented ++ num 4 g.repeated

/-- What every reply to LOG READ carries (R174): the oldest and newest sequence numbers, the collection mark, the
uncollected count, the open record and the length of the unwritten list. A refused reply holds nothing else (DEDUCED,
assumption 26). -/
def logTrailer (l : ShowLog) : List Byte :=
  opt (num 4) l.oldest ++ opt (num 4) l.newest ++ opt (num 4) l.mark ++ num 2 l.uncollected ++ opt (num 4) l.opened ++
    num 2 l.unwritten.length

/-- A LOG READ refused (R174). -/
def refuseLogRead (frame : Frame) (reason : Reason) (s : State) : State :=
  sendReply (replyOf 45 frame.tag .refused (some reason) (logTrailer s.log)) s

/-- The records a LOG READ takes: those held from `first` upward, up to `count` (R174). -/
def ShowLog.reading (l : ShowLog) (first count : Nat) : List LogRecord :=
  (l.records.filter fun r => decide (first ≤ r.sequence)).take count

/-- LOG READ (R174). -/
def serveLogRead (frame : Frame) (first count : Nat) (s : State) : State :=
  if count = 0 || 8 < count then refuseLogRead frame .outOfRange s
  else
    match s.log.oldest with
    | none => refuseLogRead frame .notFound s
    | some oldest =>
      if first < oldest then refuseLogRead frame .notFound s
      else answerOk 45 frame (rep 1 (recordBody s.log) (s.log.reading first count) ++ logTrailer s.log) s

/-- The newest CLOSED record's number (R175). -/
def ShowLog.newestClosed (l : ShowLog) : Option Nat := (l.records.filter (·.outcome.isSome)).getLast?.map (·.sequence)

/-- LOG RELEASE (R175). -/
def serveLogRelease (frame : Frame) (sequence : Nat) (s : State) : State :=
  match s.log.newestClosed with
  | none => answerOk 46 frame (num 4 sequence) s
  | some closed =>
    let q := min sequence closed
    let reply := replyOf 46 frame.tag (if q = sequence then .ok else .clamped) none (num 4 q)
    let old : Bool :=
      (match s.log.mark with
       | some m => decide (q ≤ m)
       | none => false) ||
      (match s.log.oldest with
       | some o => decide (q < o)
       | none => true)
    if old then sendReply reply s
    else
      writeRecord q
        (updateLog (fun l => { l.change q (fun r => { r with mark := true }) with release := some (q, reply) }) s)

/-- LOG READ (R174). -/
def execLogRead (frame : Frame) (first count : Nat) (s : State) : Result :=
  request 45 frame (.logRead frame first count) (serveLogRead frame first count) s

/-- LOG RELEASE (R175). -/
def execLogRelease (frame : Frame) (sequence : Nat) (s : State) : Result :=
  request 46 frame (.logRelease frame sequence) (serveLogRelease frame sequence) s

end Machine
end Sys2Proof
end

