-- ==== Sys2Proof/Machine/Keys.lean ====
section
/-!
DEFINITION. The key unit (R58 to R79): the booth clock and its trim budget, the grant table, the window check, selection,
and the count of a showing. GRANT REVOKE stands with the sequencer, which it tells of a revocation.
-/
namespace Sys2Proof
namespace Machine

open Layout

/-- The key unit changed by `f`. -/
def updateKeys (f : Keys → Keys) (s : State) : State := { s with keys := f s.keys }

/-! ### The window-check requester (R68) -/

/-- A window-check request; true for the follow-on class. -/
def requestCheck (followOn : Bool) (s : State) : State :=
  match s.keys.requester with
  | .idle => updateKeys (fun k => { k with requester := .pending }) s
  | .pending => s
  | .checking => if followOn then updateKeys (fun k => { k with followOn := true }) s else s

/-! ### The trim budget (R59, R60) -/

/-- Seconds of a budget period (R59). -/
def budgetPeriod : Nat := 31536000

/-- The budget period has ended at a clock value. -/
def Budget.ended (b : Budget) (clock : Nat) : Bool := decide (b.start + budgetPeriod ≤ clock)

/-- The budget of the period that holds the clock (R59). -/
def Budget.renew (b : Budget) (clock : Nat) : Budget :=
  if b.ended clock then { start := b.start + budgetPeriod * ((clock - b.start) / budgetPeriod), used := 0 } else b

/-- The remaining budget. -/
def Budget.left (b : Budget) : Nat := 600 - b.used

/-- The budget record's write is queued with a value. -/
def pushBudget (b : Budget) (s : State) : State :=
  pushWrite (.budget b) false (updateKeys (fun k => { k with budget := b }) s)

/-- The budget waits for room already. -/
def State.budgetWaits (s : State) : Bool :=
  s.queue.waiters.any fun
    | .budget => true
    | _ => false

/-- The period test (R59). The record changes when its write is queued (R8). -/
def testBudget (turn : Bool) (s : State) : State :=
  if s.keys.budget.ended s.keys.clock then
    if turn || s.hasRoom then pushBudget (s.keys.budget.renew s.keys.clock) s
    else if s.budgetWaits then s
    else awaitRoom .budget s
  else s

/-- The applied amount of a trim (R60). -/
def trimAmount (t : Int) (left clock : Nat) : Int :=
  clampInt (-(clock : Int)) ((max32 : Int) - clock) (clampInt (-(left : Int)) left t)

/-- A budget period that has ended by the clock before the trim is renewed first (R59), when its write has room beside the
trim's own. -/
def renewForTrim (renewed : Budget) (a : Int) (s : State) : State :=
  if s.keys.budget.ended s.keys.clock && (decide (a = 0) || decide (s.queue.writes.length < 7)) then
    pushBudget renewed s
  else s

/-- The clock moves by the applied amount, which is charged to the budget; grants and the budget are tested at the new
value (R60). -/
def moveClock (renewed : Budget) (a : Int) (s : State) : State :=
  if a = 0 then s
  else
    requestCheck true (testBudget false
      (pushBudget { renewed with used := renewed.used + a.natAbs }
        (updateKeys (fun k => { k with clock := ((k.clock : Int) + a).toNat }) s)))

/-- The reply of a trim asked for as `t` and applied as `a` (R60). -/
def answerTrim (frame : Frame) (t a : Int) (s : State) : State :=
  if a = t then answerOk 13 frame (int 2 a) s
  else
    answerClamped 13 frame (int 2 a)
      (raise .trimClamped (int 4 t ++ int 2 a ++ num 2 (s.keys.budget.renew s.keys.clock).left) s)

/-- The trim is taken (R60). -/
def applyTrim (frame : Frame) (t : Int) (s : State) : State :=
  let renewed := s.keys.budget.renew s.keys.clock
  let a := trimAmount t renewed.left s.keys.clock
  answerTrim frame t a (moveClock renewed a (renewForTrim renewed a s))

/-! ### Grants (R61 to R67) -/

/-- The detail of the notices of R62. -/
def grantDetail (slot : Nat) (g : Grant) : List Byte :=
  num 1 slot ++ num 2 g.key ++ num 4 g.start ++ num 4 g.stop ++ num 2 g.shows

/-- The state of a grant loaded at a clock value (R62). -/
def loadedState (start stop clock : Nat) : GrantState :=
  if stop ≤ clock then .expired else if start ≤ clock then .active else .pending

/-- A held slot carries the same key id with different material (R63). -/
def keyConflict (grants : Table Grant) (key material : Nat) : Bool :=
  grants.any fun p => decide (p.2.key = key) && !decide (p.2.material = material)

/-- The load takes the lowest free slot (R64). -/
def loadGrant (frame : Frame) (slot : Nat) (g : Grant) (s : State) : State :=
  let s := pushGrant slot false (setGrant slot (some g) s)
  let s := if g.state = .active then raise .grantActive (grantDetail slot g) s else s
  answerOk 14 frame (num 1 slot ++ code g.state.code) s

/-- GRANT LOAD (R63, R64). -/
def serveGrantLoad (turn : Bool) (frame : Frame) (key allowance start stop : Nat) (wrapped : List Byte) (s : State) :
    State :=
  if key = 0 || 65535 < key || allowance = 0 || 65535 < allowance then refuse 14 frame .outOfRange s
  else
    match Config.unwrap wrapped with
    | none => refuse 14 frame .badGrant s
    | some material =>
      if stop ≤ start then refuse 14 frame .badGrant s
      else if keyConflict s.keys.grants key material then refuse 14 frame .keyConflict s
      else
        match s.keys.grants.lowestFree 32 with
        | none => refuse 14 frame .tableFull s
        | some slot =>
          whenRoom turn (.grantLoad frame key allowance start stop wrapped)
            (fun s => loadGrant frame slot
              { key := key, material := material, start := start, stop := stop, allowance := allowance, shows := 0,
                state := loadedState start stop s.keys.clock, loaded := s.keys.clock } s) s

/-- A grant as GRANT LIST reports it (R61, R65). -/
def grantReport (k : Keys) (slot : Nat) (g : Grant) : List Byte :=
  num 2 g.key ++ num 4 g.start ++ num 4 g.stop ++ num 2 g.allowance ++ num 2 g.shows ++ code g.state.code ++
    num 4 g.loaded ++ flag (decide (k.prepared = some slot)) ++ flag (decide (k.bound = some slot))

/-- GRANT LIST (R65). -/
def serveGrantList (frame : Frame) (s : State) : State :=
  answerOk 15 frame
    ((List.range 32).flatMap fun slot => opt (grantReport s.keys slot) (s.keys.grants.find slot)) s

/-- A grant in a state that only GRANT PURGE ends (R62). -/
def GrantState.final : GrantState → Bool
  | .spent => true
  | .expired => true
  | .revoked => true
  | _ => false

/-- GRANT PURGE (R67). A PENDING or ACTIVE grant that is the bound one is refused WRONG_STATE, not IN_USE (DESIGN CHOICE,
assumption 17). -/
def serveGrantPurge (turn : Bool) (frame : Frame) (slot : Nat) (s : State) : State :=
  if 31 < slot then refuse 17 frame .outOfRange s
  else
    match s.keys.grants.find slot with
    | none => refuse 17 frame .notFound s
    | some g =>
      if !g.state.final then refuse 17 frame .wrongState s
      else if s.keys.bound = some slot then refuse 17 frame .inUse s
      else
        whenRoom turn (.grantPurge frame slot)
          (fun s => answerOk 17 frame []
            (pushGrant slot false
              (updateKeys (fun k => { k with prepared := if k.prepared = some slot then none else k.prepared })
                (setGrant slot none s)))) s

/-! ### The window check (R69 to R72) -/

/-- A count write is in flight (R69): queued, or waited for. -/
def State.countInFlight (s : State) : Bool :=
  (s.queue.writes.any fun w =>
    match w.write with
    | .count _ => true
    | _ => false) ||
  s.queue.waiters.any fun
    | .count _ => true
    | _ => false

/-- The state the check gives a grant at its check time (R70). -/
def checkedState (time : Nat) (g : Grant) : GrantState :=
  match g.state with
  | .pending => if g.stop ≤ time then .expired else if g.start ≤ time then .active else .pending
  | .active => if g.stop ≤ time then .expired else .active
  | other => other

/-- The change of a judged grant takes effect, its write queued and its notice raised (R62, R70). -/
def changeGrant (slot : Nat) (g : Grant) (target : GrantState) (s : State) : State :=
  let s := pushGrant slot true (setGrant slot (some { g with state := target }) s)
  match target with
  | .active => raise .grantActive (grantDetail slot g) s
  | .expired => if g.state = .active then raise .grantExpired (grantDetail slot g) s else s
  | _ => s

/-- The check judges the slots from `checkNext` on, as far as the queue has room (R70). -/
def judgeGrants : Nat → Bool → State → State
  | 0, _, s => s
  | fuel + 1, turn, s =>
    let n := s.keys.checkNext
    if 32 ≤ n then s
    else
      let passed := updateKeys (fun k => { k with checkNext := n + 1 })
      match s.keys.grants.find n with
      | none => judgeGrants fuel turn (passed s)
      | some g =>
        let target := checkedState s.keys.checkTime g
        if target = g.state then judgeGrants fuel turn (passed s)
        else if turn || s.hasRoom then judgeGrants fuel false (passed (changeGrant n g target s))
        else awaitRoom .check s

/-- A PENDING requester begins a check (R69, R70). -/
def beginCheck (s : State) : State :=
  if s.keys.requester = .pending && !s.countInFlight then
    judgeGrants 33 false
      (updateKeys (fun k => { k with
        requester := .checking, followOn := false, checkTime := k.clock, checkNext := 0 }) s)
  else s

/-- Every slot has been judged and every write of the check has completed (R71). -/
def State.checkDone (s : State) : Bool :=
  decide (s.keys.requester = .checking) && decide (32 ≤ s.keys.checkNext) &&
    !(s.queue.writes.any (·.forCheck))

/-- A check ends (R71). -/
def endCheck (s : State) : State :=
  if s.checkDone then
    updateKeys (fun k => { k with requester := if k.followOn then .pending else .idle }) s
  else s

/-- The interval has expired (R72). -/
def State.intervalDue (s : State) : Bool := decide (s.keys.interval ≤ s.keys.counter)

/-- The interval expiry is taken (R72). -/
def expireInterval (s : State) : State :=
  if s.intervalDue then requestCheck false (updateKeys (fun k => { k with counter := 0 }) s) else s

/-- A second event (R58): the clock advances, the interval counter counts it and the trim budget is tested. -/
def secondPasses (s : State) : State :=
  testBudget false
    (updateKeys (fun k => { k with clock := bump max32 k.clock, counter := k.counter + 1 }) (expireInterval s))

/-! ### Selection (R74) -/

/-- A grant is eligible at a clock value (R74). -/
def Grant.eligible (g : Grant) (key clock : Nat) : Bool :=
  decide (g.key = key) && decide (g.state = .active) && decide (g.start ≤ clock) && decide (clock < g.stop) &&
    decide (g.shows < g.allowance)

/-- The eligible grant with the earliest window end, the lowest slot among equals (R74). -/
def bestGrant (key clock : Nat) : Table Grant → Option (Nat × Grant)
  | [] => none
  | p :: rest =>
    match bestGrant key clock rest with
    | none => if p.2.eligible key clock then some p else none
    | some b => if p.2.eligible key clock && p.2.stop ≤ b.2.stop then some p else some b

/-- An ACTIVE grant of the key id whose window has passed (R74). -/
def staleGrant (key clock : Nat) (grants : Table Grant) : Bool :=
  grants.any fun p => decide (p.2.key = key) && decide (p.2.state = .active) && decide (p.2.stop ≤ clock)

/-- A selection by key id: the slot selected, or none for NO_GRANT (R74). -/
def selectGrant (key : Nat) (s : State) : Option (Nat × Grant) × State :=
  (bestGrant key s.keys.clock s.keys.grants,
   if staleGrant key s.keys.clock s.keys.grants then requestCheck true s else s)

/-! ### The count (R76, R77) -/

/-- A grant charged with one showing (R76). Shows counted never exceeds the allowance (R61). -/
def Grant.charge (g : Grant) : Grant :=
  let shows := min g.allowance (g.shows + 1)
  { g with shows := shows, state := if shows = g.allowance && g.state = .active then .spent else g.state }

/-- The grant a count charges: the one bound at the fire, while its slot still holds it. -/
def chargedGrant (c : Count) (s : State) : Option (Nat × Grant) :=
  match c.grant with
  | none => none
  | some (slot, key) =>
    match s.keys.grants.find slot with
    | some g => if g.key = key then some (slot, g) else none
    | none => none

/-- The grant after its charge, in the in-part table. -/
def setCharged (after : Option (Nat × Grant)) (s : State) : State :=
  match after with
  | some (slot, g) => setGrant slot (some g) s
  | none => s

/-- The composition's times shown, in the in-part table. With no entry under the id nothing is raised (DESIGN CHOICE,
assumption 13). -/
def setShown (id shown : Nat) (s : State) : State :=
  match s.catalogue.compositions.find id with
  | some e => setComposition id (some { e with shown := shown }) s
  | none => s

/-- The count write of R77. -/
def countWrite (c : Count) (after : Option (Nat × Grant)) (shown : Nat) : Write :=
  .count
    { grant := after.map fun p => (p.1, p.2.shows, p.2.state), composition := (c.composition, shown),
      record := (c.record, c.time) }

/-- SHOWING_COUNTED is raised, and GRANT_SPENT when the charge has spent the grant (R77). -/
def raiseCount (c : Count) (before after : Option (Nat × Grant)) (s : State) : State :=
  let s := raise .showingCounted
    (num 1 c.composition ++ opt (fun p => num 1 (Prod.fst p)) after ++ opt (fun p => num 2 (Grant.key (Prod.snd p))) after ++
      opt (fun p => num 2 (Grant.shows (Prod.snd p))) after ++ num 4 c.time) s
  match before, after with
  | some (_, b), some (slot, g) =>
    if g.state = .spent && b.state = .active then raise .grantSpent (grantDetail slot g) s else s
  | _, _ => s

/-- The count write is queued (R77): the grant, the composition and the log record change, and the notices are raised. Where
the composition has been freed meanwhile, or its id taken anew, the count goes to whatever entry holds the id (DESIGN CHOICE,
assumption 13). -/
def performCount (c : Count) (s : State) : State :=
  let before := chargedGrant c s
  let after := before.map fun p => (p.1, p.2.charge)
  let shown := min 65535 (((s.catalogue.compositions.find c.composition).map (·.shown)).getD 0 + 1)
  raiseCount c before after
    (pushWrite (countWrite c after shown) false
      (updateLog (ShowLog.change c.record (LogRecord.changeShowing fun g => { g with counted := some c.time }))
        (setShown c.composition shown (setCharged after s))))

/-- Compare unit 1 has fired: the current showing is counted once (R76, R77). -/
def countShowing (s : State) : State :=
  match s.showing with
  | none => s
  | some sh =>
    if s.keys.counted then s
    else
      let s := updateKeys (fun k => { k with counted := true }) s
      let grant :=
        match s.keys.bound with
        | some slot => (s.keys.grants.find slot).map fun g => (slot, g.key)
        | none => none
      let c : Count := { time := s.keys.clock, composition := sh.play.id, record := sh.record, grant := grant }
      if s.hasRoom then performCount c s else awaitRoom (.count c) s

/-! ### Requests -/

/-- CLOCK READ (R58). -/
def serveClockRead (frame : Frame) (s : State) : State :=
  let k := s.keys
  answerOk 12 frame
    (num 4 k.clock ++ num 4 k.budget.start ++ num 2 k.budget.used ++ num 2 k.budget.left ++ num 2 k.interval ++
      num 2 (k.interval - k.counter) ++ code k.requester.code ++ flag k.followOn) s

/-- CLOCK TRIM (R60). -/
def serveClockTrim (turn : Bool) (frame : Frame) (t : Int) (s : State) : State :=
  whenRoom turn (.clockTrim frame t) (applyTrim frame t) s

/-- GRANT CHECK (R72). -/
def serveGrantCheck (frame : Frame) (s : State) : State := answerOk 18 frame [] (requestCheck true s)

/-- CHECK INTERVAL (R72). -/
def serveCheckInterval (frame : Frame) (seconds : Nat) (s : State) : State :=
  let taken := clamp 10 3600 seconds
  let s := requestCheck true (updateKeys (fun k => { k with interval := taken, counter := 0 }) s)
  if taken = seconds then answerOk 19 frame [] s else answerClamped 19 frame (num 2 taken) s

/-! ### The commands -/

/-- SECOND_EVENT (R58). -/
def execSecondEvent (s : State) : Result := finish (secondPasses s)

/-- CHECK_INTERVAL_EXPIRY (R72). -/
def execCheckIntervalExpiry (s : State) : Result := finish (expireInterval s)

/-- WINDOW_CHECK_BEGIN (R69). -/
def execWindowCheckBegin (s : State) : Result := finish (beginCheck s)

/-- WINDOW_CHECK_END (R71). -/
def execWindowCheckEnd (s : State) : Result := finish (endCheck s)

/-- CLOCK READ (R58). -/
def execClockRead (frame : Frame) (s : State) : Result :=
  request 12 frame (.clockRead frame) (serveClockRead frame) s

/-- CLOCK TRIM (R60). -/
def execClockTrim (frame : Frame) (t : Int) (s : State) : Result :=
  request 13 frame (.clockTrim frame t) (serveClockTrim false frame t) s

/-- GRANT LOAD (R63, R64). -/
def execGrantLoad (frame : Frame) (key allowance start stop : Nat) (wrapped : List Byte) (s : State) : Result :=
  request 14 frame (.grantLoad frame key allowance start stop wrapped)
    (serveGrantLoad false frame key allowance start stop wrapped) s

/-- GRANT LIST (R65). -/
def execGrantList (frame : Frame) (s : State) : Result :=
  request 15 frame (.grantList frame) (serveGrantList frame) s

/-- GRANT PURGE (R67). -/
def execGrantPurge (frame : Frame) (slot : Nat) (s : State) : Result :=
  request 17 frame (.grantPurge frame slot) (serveGrantPurge false frame slot) s

/-- GRANT CHECK (R72). -/
def execGrantCheck (frame : Frame) (s : State) : Result :=
  request 18 frame (.grantCheck frame) (serveGrantCheck frame) s

/-- CHECK INTERVAL (R72). -/
def execCheckInterval (frame : Frame) (seconds : Nat) (s : State) : Result :=
  request 19 frame (.checkInterval frame seconds) (serveCheckInterval frame seconds) s

end Machine
end Sys2Proof
end

