-- ==== Sys2Proof/Machine/Lines.lean ====
section
/-!
DEFINITION. The latches, pulses and pins of the automation lines (R178, R180, R181, R185). Input conditions and functions
stand in Machine/LineInputs.lean, after the sequencer on which they act.
-/
namespace Sys2Proof
namespace Machine

open Layout

/-- Line `n` changed by `f`. -/
def updateLine (n : Nat) (f : Line → Line) (s : State) : State := { s with lines := updateAt f s.lines n }

/-- The level a pin shows (R178, R185): an input shows its wire, an output its latch, or its safe level while the
interlock holds. -/
def Line.pin (interlocked : Bool) (l : Line) : Bool :=
  if l.output then (if interlocked then l.safe else l.latch) else l.wire

/-- A latch write: the latch takes the value and a running pulse stops (R180). -/
def Line.write (value : Bool) (l : Line) : Line := { l with latch := value, pulse := none }

/-- A masked latch write (R180). -/
def writeMasked (mask values : BitVec 16) (s : State) : State :=
  { s with lines := (List.range s.lines.length).map fun n =>
      let l := s.lines.getD n (Line.reset false)
      if mask.getLsbD n then l.write (values.getLsbD n) else l }

/-- A PULSE_LINE cue (R181): an output shows the level that is not idle for `width` frames; an input disregards it. -/
def Line.startPulse (width : Nat) (l : Line) : Line :=
  if l.output then { l with latch := !l.idle, pulse := some width } else l

/-- A frame tick on a running pulse (R181). -/
def Line.stepPulse (l : Line) : Line :=
  match l.pulse with
  | none => l
  | some k => if k ≤ 1 then { l with latch := l.idle, pulse := none } else { l with pulse := some (k - 1) }

/-- Every running pulse moves one step. -/
def stepPulses (s : State) : State := { s with lines := s.lines.map Line.stepPulse }

/-- The latch of an output at a show reset (R187). -/
def Line.showReset (l : Line) : Line :=
  if l.output then { l with latch := l.idle, pulse := none } else { l with pulse := none }

/-- LINE SET (R180): the reply lists the masked lines that were inputs, as sixteen flags (DESIGN CHOICE, assumption 28). -/
def serveLineSet (frame : Frame) (mask values : BitVec 16) (s : State) : State :=
  let inputs := (List.range 16).map fun n => mask.getLsbD n && !((s.lines[n]?).map (·.output)).getD false
  answerOk 48 frame (flags inputs) (writeMasked mask values s)

/-- A line as LINE READ reports it (R186): direction, the configuration of that direction, the value, and the rest. -/
def lineReport (interlocked : Bool) (l : Line) : List Byte :=
  if l.output then
    code 1 ++ level l.idle ++ level l.safe ++ level l.latch ++ level (l.pin interlocked) ++ flag interlocked ++
      opt (num 1) l.pulse
  else
    code 0 ++ code l.condition.code ++ num 1 l.debounce ++ code l.function.code ++ level l.wire ++ level l.level ++
      opt (fun t => level (Prod.fst t)) l.timer ++ flag l.holding ++ num 2 l.onsets

/-- LINE READ (R186): the lines that hold the interlock are sixteen flags (DESIGN CHOICE, assumption 28). -/
def serveLineRead (frame : Frame) (s : State) : State :=
  answerOk 49 frame
    (s.lines.flatMap (lineReport s.interlocked) ++ flag s.interlocked ++ flags (s.lines.map (·.holding))) s

/-- LINE SET (R180). -/
def execLineSet (frame : Frame) (mask values : BitVec 16) (s : State) : Result :=
  request 48 frame (.lineSet frame mask values) (serveLineSet frame mask values) s

/-- LINE READ (R186). -/
def execLineRead (frame : Frame) (s : State) : Result :=
  request 49 frame (.lineRead frame) (serveLineRead frame) s

/-- PULSE_END (R181): a pulse whose next step is its last ends. -/
def execPulseEnd (line : Nat) (s : State) : Result :=
  finish (updateLine line (fun l => if l.pulse = some 1 then l.stepPulse else l) s)

end Machine
end Sys2Proof
end

