-- ==== Sys2Proof/Machine/Sequencer.lean ====
section
/-!
DEFINITION. The show sequencer (R86 to R107): walks and the checks on a PLAY, preparation, lookahead, takeovers, the ends
of showings and of shows, and halts.

The current position follows the walk: after each step it is the position the walk has reached.
-/
namespace Sys2Proof
namespace Machine

open Layout

/-- The sequencer changed by `f`. -/
def updateSeq (f : Sequencer → Sequencer) (s : State) : State := { s with seq := f s.seq }

/-- The timeline changed by `f`. -/
def updateTime (f : Timeline → Timeline) (s : State) : State := { s with time := f s.time }

/-- The entry after a position. -/
def Pos.after (p : Pos) : Pos := { p with entry := p.entry + 1 }

/-- A position as a detail or a reply carries it. -/
def Pos.bytes (p : Pos) : List Byte := num 1 p.list ++ num 2 p.entry

/-! ### The checks on a PLAY (R88) -/

/-- The PLAY of a composition and reel range, with its played range (R82). -/
def makePlay (pos : Pos) (id : Nat) (c : Composition) (first last : Nat) (cues : List CueRecord) : Play :=
  { pos := pos, id := id, composition := c, firstReel := first, lastReel := last,
    firstFrame := reelStart c.reels first, lastFrame := reelStart c.reels (last + 1) - 1, cues := cues }

/-- What the checks of R88 decide. -/
inductive Verdict where
  | pass (play : Play) (grant : Option (Nat × Grant))
  | skip (reason : SkipReason)

/-- Checks 1 to 4 in their order (R88). -/
def checkPlay (pos : Pos) (id : Nat) (first last : Option Nat) (cues : List CueRecord) (s : State) : Verdict × State :=
  match s.catalogue.compositions.find id with
  | none => (.skip .notReady, s)
  | some c =>
    if c.incomplete.isSome then (.skip .notReady, s)
    else
      let a := first.getD 1
      let b := last.getD c.reels.length
      if b < a || c.reels.length < b then (.skip .range, s)
      else
        match c.key with
        | none => (.pass (makePlay pos id c a b cues) none, s)
        | some key =>
          match selectGrant key s with
          | (none, s) => (.skip .noGrant, s)
          | (some g, s) =>
            if s.link.state = .paired then (.pass (makePlay pos id c a b cues) (some g), s)
            else (.skip .unpaired, s)

/-- The checks on a PLAY that is prepared. -/
def recheckPlay (p : Play) (s : State) : Verdict × State :=
  checkPlay p.pos p.id (some p.firstReel) (some p.lastReel) p.cues s

/-! ### Walks (R89, R95) -/

/-- Where a walk ends. -/
inductive WalkEnd where
  | play (play : Play) (grant : Option (Nat × Grant))
  | black (pos : Pos) (frames : Nat)
  | wait (pos : Pos) (timeout : Option Nat)
  | showEnd
  | limit (pos : Pos)

/-- What a walk finds: its steps in order, the stack they leave, the position it reaches and its end. -/
structure Walk where
  steps : List PathStep
  stack : List Pos
  reached : Pos
  stop : WalkEnd

/-- A walk with one step more at its beginning. -/
def Walk.after (step : PathStep) (w : Walk × State) : Walk × State :=
  ({ w.1 with steps := step :: w.1.steps }, w.2)

/-- A walk that has ended. -/
def walkEnd (stack : List Pos) (pos : Pos) (stop : WalkEnd) (s : State) : Walk × State :=
  ({ steps := [], stack := stack, reached := pos, stop := stop }, s)

/-- The walk from a position with `left` steps left and a copy of the stack (R89, R86). It changes nothing but the
requests for a window check that its selections make (R74). -/
def scan : Nat → Pos → List Pos → State → Walk × State
  | 0, pos, stack, s =>
    match (s.seq.lists.getD pos.list [])[pos.entry]? with
    | none =>
      match stack with
      | [] => walkEnd stack pos .showEnd s
      | _ :: _ => walkEnd stack pos (.limit pos) s
    | some (.black n) => walkEnd stack pos (.black pos n) s
    | some (.wait t) => walkEnd stack pos (.wait pos t) s
    | some (.play id first last cues) =>
      match checkPlay pos id first last cues s with
      | (.pass p g, s) => walkEnd stack pos (.play p g) s
      | (.skip _, s) => walkEnd stack pos (.limit pos) s
    | some _ => walkEnd stack pos (.limit pos) s
  | left + 1, pos, stack, s =>
    match (s.seq.lists.getD pos.list [])[pos.entry]? with
    | none =>
      match stack with
      | [] => walkEnd stack pos .showEnd s
      | back :: rest => Walk.after (.pop pos) (scan left back rest s)
    | some (.black n) => walkEnd stack pos (.black pos n) s
    | some (.wait t) => walkEnd stack pos (.wait pos t) s
    | some (.play id first last cues) =>
      match checkPlay pos id first last cues s with
      | (.pass p g, s) => walkEnd stack pos (.play p g) s
      | (.skip reason, s) => Walk.after (.skip pos id reason) (scan left pos.after stack s)
    | some (.setLines mask values) => Walk.after (.setLines pos mask values) (scan left pos.after stack s)
    | some (.incl list) =>
      if stack.length < 4 then
        Walk.after (.push pos list) (scan left { list := list, entry := 0 } (pos.after :: stack) s)
      else Walk.after (.nestSkip pos list) (scan left pos.after stack s)

/-- The steps a walk may take (R89). -/
def walkSteps : Nat := 64

/-- One step is acted on, on the stack and the lines themselves, and the current position moves with it (R89, R96). -/
def actStep (step : PathStep) (s : State) : State :=
  match step with
  | .setLines pos mask values => updateSeq (fun q => { q with pos := some pos.after }) (writeMasked mask values s)
  | .push pos list =>
    updateSeq (fun q => { q with stack := pos.after :: q.stack, pos := some { list := list, entry := 0 } }) s
  | .nestSkip pos list =>
    raise .nestSkipped (num 1 pos.list ++ num 1 pos.entry ++ num 1 list)
      (updateSeq (fun q => { q with pos := some pos.after }) s)
  | .pop _ => updateSeq (fun q => { q with stack := q.stack.drop 1, pos := q.stack.head? }) s
  | .skip pos id reason =>
    raise .entrySkipped (num 1 pos.list ++ num 1 pos.entry ++ num 1 id ++ code reason.code)
      (updateSeq (fun q => { q with pos := some pos.after }) s)

/-- A walk that acts, from a position (R89). -/
def actWalk (start : Pos) (s : State) : WalkEnd × State :=
  let (w, s) := scan walkSteps start s.seq.stack s
  (w.stop, w.steps.foldl (fun s step => actStep step s) (updateSeq (fun q => { q with pos := some start }) s))

/-! ### Preparation (R88, R75) -/

/-- The window lookups made as preparations for a prepared PLAY (R52, R88): the first block that each of its first reel's
tracks will be read at, of the picture, the sound and the subtitle streams in this order (DESIGN CHOICE, assumption 18). -/
def prepareWindows (p : Play) (s : State) : State :=
  match p.composition.reels[p.firstReel - 1]? with
  | none => s
  | some r =>
    let ask := fun (reader : Reader) (track block : Nat) (s : State) =>
      (lookup reader .sequencerPreparation track block s).2
    let s :=
      match r.picture with
      | some t => ask .picture t (r.entry * spanOf t s) s
      | none => s
    let s :=
      match r.sound with
      | some t => ask .sound t 0 s
      | none => s
    r.subtitles.foldl (fun s t =>
      match t with
      | some t => ask .subtitle t 0 s
      | none => s) s

/-- A PLAY that has passed becomes the prepared entry: its grant is the prepared grant, and the media units begin to
prepare it (R75, R88, R125, R148, R152, R157). -/
def preparePlay (p : Play) (g : Option (Nat × Grant)) (s : State) : State :=
  let s := updateSeq (fun q => { q with prepared := some (.play p) }) s
  let s := updateKeys (fun k => { k with prepared := g.map (·.1) }) s
  let s := { s with
    frames := { s.frames with nextPrepared := p.firstFrame, keyPrepared := g.map (·.2.material) }
    sound := { s.sound with nextPrepared := p.firstFrame, trimPrepared := s.sound.trimNext } }
  judgeBanks (prepareWindows p (formRouteSets p s))

/-- The prepared entry is discarded; what the media units hold of a prepared PLAY goes with it (R93, R103, R106). -/
def discardPrepared (s : State) : State :=
  match s.seq.prepared with
  | some (.play _) =>
    let s := dropPreparedSound (dropPreparedFrames s)
    let s := withdrawSequencerAsks (updateKeys (fun k => { k with prepared := none }) s)
    judgeBanks (updateSeq (fun q => { q with prepared := none }) s)
  | _ => updateSeq (fun q => { q with prepared := none }) s

/-- What a lookahead makes the prepared entry (R95). -/
def prepareEnd (stop : WalkEnd) (s : State) : State :=
  match stop with
  | .play p g => preparePlay p g s
  | .black pos n => updateSeq (fun q => { q with prepared := some (.black pos n) }) s
  | .wait pos t => updateSeq (fun q => { q with prepared := some (.wait pos t) }) s
  | .showEnd => updateSeq (fun q => { q with prepared := some .showEnd }) s
  | .limit pos => updateSeq (fun q => { q with prepared := some (.walkLimit pos) }) s

/-- Lookahead from a position: a walk that does not act, recorded with the stack copy it leaves (R95). -/
def lookAhead (start : Pos) (s : State) : State :=
  let (w, s) := scan walkSteps start s.seq.stack s
  prepareEnd w.stop (updateSeq (fun q => { q with path := some { steps := w.steps, stack := w.stack } }) s)

/-- The position of the current entry, from which lookahead goes on. -/
def State.position (s : State) : Pos := s.seq.pos.getD { list := 0, entry := 0 }

/-- The frames of the current entry still to be presented, counting the one presented at the last tick (R95), also where
R105 counts the frames to a new end (DESIGN CHOICE, assumption 17). -/
def framesLeft (s : State) : Option Nat :=
  match s.seq.current with
  | .play sh => some (sh.endFrame + 1 - s.time.frame)
  | .black _ true => some s.time.black
  | _ => none

/-- Lookahead is due: 96 frames or fewer remain, and it has not been made for the current entry (R95). -/
def State.lookaheadDue (s : State) : Bool :=
  s.seq.path.isNone &&
    (match framesLeft s with
     | some n => decide (n ≤ 96)
     | none => false)

/-- Lookahead is made when it is due. -/
def lookAheadIfDue (s : State) : State := if s.lookaheadDue then lookAhead s.position.after s else s

/-! ### Ends (R103, R104, R106) -/

/-- The current showing ends with an outcome (R104). SHOWING_ENDED is raised while the showing still is the current one, so
its record names the composition (DESIGN CHOICE, assumption 47). -/
def endShowing (outcome : ShowingOutcome) (s : State) : State :=
  match s.showing with
  | none => s
  | some sh =>
    let s := closeRecord sh outcome (emptyUnits (fun _ => true) s)
    let s := raise .showingEnded (num 1 sh.play.id ++ code outcome.code ++ flag s.keys.counted) s
    let s := updateKeys (fun k => { k with bound := none }) s
    let s := dropCaptions (dropCurrentSound sh (dropCurrentFrames s))
    judgeBanks (updateTime (fun t => { t with starts := [] }) (updateSeq (fun q => { q with current := .none }) s))

/-- The sequencer enters IDLE (R103, R111, R152). -/
def enterIdle (s : State) : State :=
  let s := updateSeq (fun q => { q with
    state := .idle, stack := [], pos := none, current := .none, path := none, waitReason := none, waitLimit := none,
    waitTimer := none, pauseTimer := none, halt := none }) s
  let s := updateTime (fun t => { t with rate := 24 }) s
  { s with sound := { s.sound with trimCurrent := s.sound.trimNext } }

/-- The show ends (R103). A current showing has ended by then, or ends STOPPED. -/
def endShow (outcome : ShowOutcome) (s : State) : State :=
  let s := discardPrepared (endShowing .stopped s)
  let s := emptyUnits (fun n => decide (n < 2)) s
  enterIdle (raise .showEnded (num 1 s.seq.startList ++ code outcome.code) s)

/-- The sequencer enters HALTED (R106). A prepared BLACK, WAIT, show end or walk limit is dropped as a prepared PLAY is
(DESIGN CHOICE, assumption 17). -/
def halt (cause : HaltCause) (s : State) : State :=
  let s := emptyUnits (fun n => decide (n < 2)) (discardPrepared s)
  let s := updateSeq (fun q => { q with
    state := .halted, current := .none, path := none, waitReason := none, waitLimit := none, waitTimer := none,
    pauseTimer := none, halt := some cause }) s
  raise .showHalted (code cause.code ++ s.position.bytes) s

/-- HALTED by the walk limit: the position of the entry not acted on becomes the current position (R89). -/
def haltAt (pos : Pos) (s : State) : State :=
  halt .walkLimit (updateSeq (fun q => { q with pos := some pos }) s)

/-! ### Waiting and running -/

/-- The sequencer enters RUNNING, or PAUSED while an interlock holds (R107). -/
def enterRunning (s : State) : State :=
  if s.interlocked then updateSeq (fun q => { q with state := .paused, pauseTimer := some 0 }) s
  else updateSeq (fun q => { q with state := .running }) s

/-- WAITING is raised with the list, the entry and the reason (R98, R99). -/
def raiseWaiting (pos : Pos) (reason : WaitReason) (s : State) : State :=
  raise .waiting (num 1 pos.list ++ num 1 pos.entry ++ code reason.code) s

/-- The sequencer enters WAITING at a WAIT, and looks ahead from the entry after it (R98). -/
def enterWait (pos : Pos) (timeout : Option Nat) (s : State) : State :=
  let s := updateSeq (fun q => { q with
    state := .waiting, pos := some pos, current := .wait, prepared := none, path := none, waitReason := some .wait,
    waitLimit := timeout, waitTimer := timeout.map fun _ => 0, pauseTimer := none }) s
  lookAhead pos.after (raiseWaiting pos .wait s)

/-- A PLAY that fails check 5 holds the sequencer in WAITING (R99). -/
def enterLogFull (p : Play) (s : State) : State :=
  raiseWaiting p.pos .logFull
    (updateSeq (fun q => { q with
      state := .waiting, pos := some p.pos, current := .none, path := none, waitReason := some .logFull,
      waitLimit := none, waitTimer := none, pauseTimer := none }) s)

/-- The sequencer enters PREROLL with its PLAY prepared (R91). -/
def enterPreroll (s : State) : State :=
  updateSeq (fun q => { q with
    state := .preroll, current := .none, path := none, waitReason := none, waitLimit := none, waitTimer := none }) s

/-- A BLACK becomes current between two ticks; the next tick presents its first frame (R90, R98). -/
def startBlack (pos : Pos) (n : Nat) (s : State) : State :=
  enterRunning (updateSeq (fun q => { q with
    pos := some pos, current := .black n false, prepared := none, path := none, waitReason := none, waitLimit := none,
    waitTimer := none }) s)

/-- What follows a walk that acts at SHOW START or at a GO (R90, R99). -/
def takeUpWalk (stop : WalkEnd) (s : State) : State :=
  match stop with
  | .play p g => enterPreroll (preparePlay p g s)
  | .black pos n => startBlack pos n s
  | .wait pos t => enterWait pos t s
  | .showEnd => endShow .complete s
  | .limit pos => haltAt pos s

/-- The sequencer stands in a black gap, and a walk acts from a position (R96). -/
def blackGap (start : Pos) (s : State) : State :=
  let s := enterRunning (updateSeq (fun q => { q with current := .none, path := none, pauseTimer := none }) s)
  match actWalk start s with
  | (.play p g, s) => preparePlay p g s
  | (.black pos n, s) => updateSeq (fun q => { q with prepared := some (.black pos n) }) s
  | (.wait pos t, s) => enterWait pos t s
  | (.showEnd, s) => endShow .complete s
  | (.limit pos, s) => haltAt pos s

/-! ### Cues (R82, R94) -/

/-- The composition frame a cue record resolves to (R82). No list holds a record of another base (R83). -/
def resolveCue (p : Play) (c : CueRecord) : Nat :=
  match c.base with
  | .fromStart | .other _ => clamp p.firstFrame p.lastFrame (p.firstFrame + c.offset)
  | .fromEnd => clamp p.firstFrame p.lastFrame (p.lastFrame + 1 - c.offset)

/-- A resolved cue into a list ordered by frame, after the cues with the same frame. -/
def insertCue (c : Nat × CueAction) : List (Nat × CueAction) → List (Nat × CueAction)
  | [] => [c]
  | x :: rest => if c.1 < x.1 then c :: x :: rest else x :: insertCue c rest

/-- The resolved cues in their order (R82). -/
def resolveCues (p : Play) : List (Nat × CueAction) :=
  p.cues.foldl (fun l c => insertCue (resolveCue p c, c.action) l) []

/-- The action of a cue is taken by the unit that owns its state (R82, R94). -/
def performCue (pos : Pos) (a : CueAction) (s : State) : State :=
  match a with
  | .setLines mask values => writeMasked mask values s
  | .pulseLine line width => updateLine line (Line.startPulse width) s
  | .fader target frames => takeFade target frames s
  | .notice number => raise .cueNotice (num 2 number ++ num 1 pos.list ++ num 1 pos.entry) s

/-- The next cue not yet loaded is loaded into compare unit 0 (R94). -/
def loadCue (s : State) : State :=
  match s.showing with
  | none => s
  | some sh =>
    match sh.cues[sh.nextCue]? with
    | none => s
    | some c =>
      updateUnit 0 (CompareUnit.load { frame := c.1, tag := sh.nextCue })
        (updateShowing (fun sh => { sh with nextCue := sh.nextCue + 1 }) s)

/-- Unit 0 fires as long as its ARMED target is reached: each fire performs its cue and loads the next (R94, R119). -/
def fireCues : Nat → State → State
  | 0, s => s
  | fuel + 1, s =>
    match firing 0 s, s.showing with
    | some t, some sh =>
      let s := updateUnit 0 CompareUnit.moveUp s
      let s :=
        match sh.cues[t.tag]? with
        | some c => performCue sh.play.pos c.2 s
        | none => s
      fireCues fuel (loadCue s)
    | _, _ => s

/-- Unit 1 fires: the showing is counted (R76, R120). -/
def fireCount : Nat → State → State
  | 0, s => s
  | fuel + 1, s =>
    match firing 1 s with
    | some _ => fireCount fuel (countShowing (updateUnit 1 CompareUnit.moveUp s))
    | none => s

/-- The compare units are judged (R119). -/
def judgeUnits (s : State) : State :=
  let fuel := ((s.showing.map fun sh => sh.cues.length).getD 0) + 3
  judgeStreams (fireCount 3 (fireCues fuel s))

/-! ### Takeover (R93, R115) -/

/-- The composition frames at which the reels of a played range begin. -/
def reelStarts (p : Play) : List Nat := p.reels.map fun k => reelStart p.composition.reels k

/-- The timeline takes a showing's first frame (R115, R116). -/
def startTimeline (p : Play) (s : State) : State :=
  updateTime (fun t => { t with
    rate := p.composition.rate, frame := p.firstFrame, reel := p.firstReel, reelFrame := 0,
    timecode := timecodeOf p.firstFrame p.composition.rate, starts := reelStarts p }) s

/-- The PLAY becomes the current showing (R93). Preparations of the sequencer still attached to a fill stay attached, since
R52 withdraws them at no takeover (DESIGN CHOICE, assumption 18). The count point carries tag 0 (DESIGN CHOICE, assumption
50). -/
def beginShowing (p : Play) (g : Option (Nat × Grant)) (s : State) : State :=
  let sh : Showing :=
    { play := p, record := s.log.next, cues := resolveCues p, nextCue := 0, endFrame := p.lastFrame,
      endReel := p.lastReel, revoked := false, presented := 0, repeated := 0 }
  let s := updateSeq (fun q => { q with
    pos := some p.pos, current := .play sh, prepared := none, path := none, waitReason := none, waitLimit := none,
    waitTimer := none, pauseTimer := none }) s
  let s := updateKeys (fun k => { k with bound := g.map (·.1), prepared := none, counted := false }) s
  let s := takeOverBanks (takeOverSound (takeOverFrames s))
  let s := startTimeline p s
  let s := openRecord p (g.map fun g => (g.1, g.2.key)) s
  let s := raise .showingStarted
    (num 1 p.pos.list ++ num 1 p.pos.entry ++ num 1 p.id ++ num 1 p.firstReel ++ num 1 p.lastReel ++
      opt (fun x => num 1 (Prod.fst x)) g) s
  let s := emptyUnits (fun n => decide (n < 2)) s
  let s :=
    match p.composition.countPoint with
    | some f => updateUnit 1 (CompareUnit.load { frame := f, tag := 0 }) s
    | none => s
  let s := loadCue (loadCue s)
  enterRunning (reelStartCaptions s)

/-- A prepared PLAY takes over at a tick: the five checks are made again (R93). -/
def takeOver (p : Play) (s : State) : State :=
  match recheckPlay p s with
  | (.skip reason, s) =>
    blackGap p.pos.after
      (discardPrepared
        (raise .entrySkipped (num 1 p.pos.list ++ num 1 p.pos.entry ++ num 1 p.id ++ code reason.code) s))
  | (.pass fresh g, s) => if s.log.hasRoom then beginShowing { fresh with cues := p.cues } g s else enterLogFull p s

/-- The PLAY's readers hold enough for its takeover (R91). -/
def playReady (p : Play) (s : State) : Bool :=
  let range := p.lastFrame + 1 - p.firstFrame
  decide (min 4 range ≤ ((heldFrames s).filter (·.prepared)).length) &&
    ((soundTrack p p.firstReel).isNone ||
      decide (min 2 range ≤ (s.sound.portions.filter fun q => q.prepared && !q.filling).length))

/-! ### The boundary (R96) -/

/-- The recorded path is acted on in its order (R96). -/
def actPath (s : State) : State :=
  match s.seq.path with
  | none => s
  | some path =>
    let s := updateSeq (fun q => { q with path := none, pos := q.pos.map Pos.after }) s
    path.steps.foldl (fun s step => actStep step s) s

/-- A BLACK becomes current at this tick and presents its first frame (R97). -/
def beginBlack (pos : Pos) (n : Nat) (s : State) : State :=
  updateTime (fun t => { t with black := n })
    (updateSeq (fun q => { q with pos := some pos, current := .black n true, prepared := none, path := none }) s)

/-- The current PLAY or BLACK ends, and lookahead is made when it has not been (R95, R102). -/
def endCurrent (outcome : Showing → ShowingOutcome) (s : State) : State :=
  let s :=
    match s.seq.current with
    | .play sh => endShowing (outcome sh) s
    | _ => updateSeq (fun q => { q with current := .none }) s
  match s.seq.path with
  | some _ => s
  | none => lookAhead s.position.after s

/-- The outcome of a showing at its boundary (R95, R105). -/
def Showing.boundaryOutcome (sh : Showing) : ShowingOutcome := if sh.revoked then .revoked else .complete

/-- The boundary tick of the current PLAY or BLACK (R96). -/
def boundaryTick (s : State) : State :=
  let s := actPath (endCurrent Showing.boundaryOutcome s)
  match s.seq.prepared with
  | some (.play p) => takeOver p s
  | some (.black pos n) => beginBlack pos n s
  | some (.wait pos t) => enterWait pos t s
  | some .showEnd => endShow .complete s
  | some (.walkLimit pos) => haltAt pos s
  | none => s

/-- The boundary taken by SKIP (R102): a prepared PLAY waits in a black gap until it is ready, and a prepared BLACK until
the next tick. -/
def skipBoundary (s : State) : State :=
  let s := actPath (endCurrent (fun _ => .stopped) s)
  match s.seq.prepared with
  | some (.wait pos t) => enterWait pos t s
  | some .showEnd => endShow .complete s
  | some (.walkLimit pos) => haltAt pos s
  | _ => s

/-- GO, or a timeout, in WAITING with reason WAIT (R98): the recorded path is acted on and the prepared entry taken up,
a PLAY by way of PREROLL. -/
def leaveWait (s : State) : State :=
  let s := updateSeq (fun q => { q with
    waitTimer := none, waitLimit := none, waitReason := none, current := .none }) s
  let s := actPath s
  match s.seq.prepared with
  | some (.play _) => enterPreroll s
  | some (.black pos n) => startBlack pos n s
  | some (.wait pos t) => enterWait pos t s
  | some .showEnd => endShow .complete s
  | some (.walkLimit pos) => haltAt pos s
  | none => s

/-- GO in WAITING with reason LOG_FULL, with room in the log (R99). -/
def leaveLogFull (s : State) : State :=
  match s.preparedPlay with
  | none => s
  | some p =>
    match recheckPlay p s with
    | (.pass _ _, s) => enterPreroll s
    | (.skip reason, s) =>
      let s := discardPrepared
        (raise .entrySkipped (num 1 p.pos.list ++ num 1 p.pos.entry ++ num 1 p.id ++ code reason.code) s)
      let (stop, s) := actWalk p.pos.after (updateSeq (fun q => { q with waitReason := none }) s)
      takeUpWalk stop s

/-! ### Pauses, losses and revocations -/

/-- The sequencer enters PAUSED (R100). -/
def enterPause (s : State) : State := updateSeq (fun q => { q with state := .paused, pauseTimer := some 0 }) s

/-- The pause has expired (R101). -/
def expirePause (s : State) : State := endShow .pauseLimit (endShowing .stopped s)

/-- A limit in seconds has been reached by a timer in reference cycles. -/
def timerReached (timer : Option Nat) (seconds : Nat) : Bool :=
  match timer with
  | some t => decide (seconds * Config.cyclesPerSecond ≤ t)
  | none => false

/-- The 48th consecutive repeated frame (R106, R128). -/
def checkRepeats (s : State) : State :=
  match s.showing with
  | some _ => if 48 ≤ s.frames.consecutive then halt .abortedFault (endShowing .abortedFault s) else s
  | none => s

/-- A send that carries a frame of the showing with a log record. -/
def Send.ofShowing (record : Nat) : Send → Bool
  | .frame r _ => decide (r = record)
  | _ => false

/-- A waiting frame of a showing becomes black (R129, R135). -/
def blackenWaiting (record : Nat) (s : State) : State :=
  { s with frames := { s.frames with
      waiting := s.frames.waiting.map fun f => if f.ofShowing record then .black else f } }

/-- The send in flight that carries a frame of the showing is abandoned, with the overlay records that travelled with it;
the link is free at once (R135, R164). Records that the next send takes are those then in the outbox. -/
def abandonSend (record : Nat) (s : State) : State :=
  match s.frames.sending with
  | some f =>
    if f.ofShowing record then
      freeLink { s with subs := { s.subs with lost := min max32 (s.subs.lost + s.frames.travelling.length) } }
    else s
  | none => s

/-- The link has become UNPAIRED (R135, R106): a scrambled showing ends ABORTED_LINK. The end comes before the send is
abandoned, so that its CLEAR records are in the outbox when the link begins its next send (R164); the outputs are muted at
once (R151). -/
def loseLink (s : State) : State :=
  match s.showing with
  | none => s
  | some sh =>
    if sh.play.composition.key.isSome then
      let s := halt .abortedLink (endShowing .abortedLink s)
      muteNow (abandonSend sh.record (blackenWaiting sh.record s))
    else s

/-- The bound grant has been revoked (R66, R105): the showing's end moves to the end of the reel last presented. The frames
to the new end count the frame last presented (DESIGN CHOICE, assumption 17). -/
def revokeShowing (s : State) : State :=
  match s.showing with
  | none => s
  | some sh =>
    let reel := s.time.reel
    let last := min sh.endFrame (reelStart sh.play.composition.reels (reel + 1) - 1)
    let s := updateShowing (fun sh => { sh with revoked := true, endFrame := last, endReel := min sh.endReel reel }) s
    lookAheadIfDue (judgeBanks (dropSoundBeyond last (dropFramesBeyond last s)))

/-- The interlock's onset at the sequencer (R107). -/
def interlockOnset (s : State) : State := if s.seq.state = .running then enterPause s else s

end Machine
end Sys2Proof
end

