-- ==== Sys2Proof/Machine/Tick.lean ====
section
/-!
DEFINITION. The frame tick (R114) and the events that make one (R111 to R113), and the shares of a tick that stand as
commands of their own.

One tick takes the units in this order: pulses and the fade move one step; the sequencer takes over, counts a BLACK down or
reaches its boundary, and the counters move; the compare units are judged; lookahead is made; the picture is presented; the
sound is rendered; the captions are cleared; the 48th repeat is looked for; an open RUN gather is cut. So a tick that the
48th repeat ends has carried RUNNING to every unit before the halt (R106, R114, R144).
-/
namespace Sys2Proof
namespace Machine

open Layout

/-- The counters rise by one frame (R115, R116); at a reel change units 2 to 5 are emptied and the reel start is reported
to the subtitle engine. -/
def advanceFrame (s : State) : State :=
  let f := s.time.frame + 1
  let s := updateTime (fun t => { t with frame := f, timecode := t.timecode.tick t.rate }) s
  if (s.time.starts.drop 1).contains f then
    reelStartCaptions
      (emptyUnits (fun n => decide (2 ≤ n))
        (updateTime (fun t => { t with reel := t.reel + 1, reelFrame := 0 }) s))
  else updateTime (fun t => { t with reelFrame := t.reelFrame + 1 }) s

/-- The boundary of the current PLAY or BLACK is due at the next tick (R95, R97). -/
def State.boundaryDue (s : State) : Bool :=
  decide (s.seq.state = .running) &&
    (match s.seq.current with
     | .play sh => decide (sh.endFrame ≤ s.time.frame)
     | .black _ begun => begun && decide (s.time.black ≤ 1)
     | _ => false)

/-- A prepared PLAY that is ready takes over (R91, R96). Readiness is judged at the tick, so a PLAY that became ready and lost
its portions to a LIPSYNC SET before it waits until it is ready again (DESIGN CHOICE, assumption 17). -/
def takeOverIfReady (s : State) : State :=
  match s.preparedPlay with
  | some p => if playReady p s then takeOver p s else s
  | none => s

/-- The sequencer's share of a tick in RUNNING (R93, R96, R97, R115). A BLACK found in a black gap while PAUSED becomes
current here, at the first tick after RESUME (DESIGN CHOICE, assumption 17). -/
def runTick (s : State) : State :=
  match s.seq.current with
  | .play _ => if s.boundaryDue then boundaryTick s else advanceFrame s
  | .black n begun =>
    if !begun then
      updateTime (fun t => { t with black := n }) (updateSeq (fun q => { q with current := .black n true }) s)
    else if s.boundaryDue then boundaryTick s
    else updateTime (fun t => { t with black := t.black - 1 }) s
  | .none =>
    match s.seq.prepared with
    | some (.black pos n) => beginBlack pos n s
    | _ => takeOverIfReady s
  | .wait => s

/-- The sequencer's share of a tick. In PAUSED it does nothing, also with a BLACK found in a black gap (DESIGN CHOICE,
assumption 17). -/
def sequencerTick (s : State) : State :=
  match s.seq.state with
  | .running => runTick s
  | .preroll => takeOverIfReady s
  | _ => s

/-- A showing has taken over between two states. -/
def tookOver (before after : State) : Bool :=
  match after.showing with
  | none => false
  | some sh => !decide (before.showing.map (·.record) = some sh.record)

/-- The frame tick (R114). -/
def frameTick (s : State) : State :=
  let t := sequencerTick (stepFade (stepPulses s))
  let takeover := tookOver s t
  let t := lookAheadIfDue (judgeUnits t)
  cutGather s (checkRepeats (clearAtTick (renderSound (presentPicture takeover t))))

/-- A tick from any source restarts the generator's count (R111). -/
def clockTick (s : State) : State := frameTick (updateTime (fun t => { t with count := 0 }) s)

/-! ### The frame clock (R112, R113) -/

/-- An edge matches the selected edge. -/
def Edge.takes (rising : Bool) : Edge → Bool
  | .rising => rising
  | .falling => !rising
  | .both => true

/-- FRAME_SYNC_EDGE (R112). -/
def syncEdge (rising : Bool) (s : State) : State :=
  match s.time.source with
  | none => s
  | some e =>
    if e.takes rising then
      let coasting := s.time.clock = .coasting
      let made := s.time.coasting
      let s := clockTick (updateTime (fun t => { t with
        clock := .locked, edges := bump max32 t.edges, acquiring := 0, coasting := 0 }) s)
      if coasting then raise .syncRegained (num 4 made) s else s
    else s

/-- The clock loses sync at a tick of the generator (R113): the tick, SYNC_LOST, and COASTING. SYNC_LOST carries the rate
in force as the loss is found, before its tick can change it (DESIGN CHOICE, assumption 34). -/
def loseSync (s : State) : State :=
  let rate := s.time.rate
  raise .syncLost (num 1 rate)
    (clockTick (updateTime (fun t => { t with
      clock := .coasting, generated := bump max32 t.generated, losses := bump max32 t.losses, acquiring := 0,
      coasting := 1 }) s))

/-- A tick of the internal generator (R111, R113). The count of coasting ticks that SYNC_REGAINED will carry, for which R112
gives no top, saturates at 2^32 − 1 (DESIGN CHOICE, assumption 34). -/
def generatorTicks (s : State) : State :=
  match s.time.clock with
  | .free => clockTick s
  | .acquiring =>
    if 1 ≤ s.time.acquiring then loseSync s
    else clockTick (updateTime (fun t => { t with generated := bump max32 t.generated, acquiring := t.acquiring + 1 }) s)
  | .coasting =>
    clockTick (updateTime (fun t => { t with generated := bump max32 t.generated, coasting := bump max32 t.coasting }) s)
  | .locked => s

/-- FRAME_SYNC_EDGE (R112). -/
def execFrameSyncEdge (rising : Bool) (s : State) : Result := finish (syncEdge rising s)

/-- GENERATOR_TICK (R111): in LOCKED the generator makes no tick of its own. -/
def execGeneratorTick (s : State) : Result := finish (generatorTicks s)

/-- SYNC_LOSS (R113): in LOCKED the generator's count reaches twice the divisor. -/
def execSyncLoss (s : State) : Result := finish (if s.time.clock = .locked then loseSync s else s)

/-- LOOKAHEAD (R95). -/
def execLookahead (s : State) : Result := finish (cutGather s (lookAheadIfDue s))

/-- BOUNDARY (R96): the tick after the one that presented the last frame of the current entry. -/
def execBoundary (s : State) : Result := finish (if s.boundaryDue then clockTick s else s)

/-- WAIT_TIMEOUT (R98): in WAITING with a timeout running, it acts as GO, or lapses while an interlock holds. -/
def execWaitTimeout (s : State) : Result :=
  finish
    (if s.seq.state = .waiting && s.seq.waitLimit.isSome && s.seq.waitTimer.isSome then
       (if s.interlocked then updateSeq (fun q => { q with waitTimer := none, waitLimit := none }) s
        else cutGather s (leaveWait s))
     else s)

/-- PAUSE_LIMIT_EXPIRY (R101). -/
def execPauseLimitExpiry (s : State) : Result :=
  finish (if s.seq.state = .paused && decide (s.seq.pauseLimit ≠ 0) then cutGather s (expirePause s) else s)

/-- REPEAT_LIMIT (R106). -/
def execRepeatLimit (s : State) : Result := finish (cutGather s (checkRepeats s))

/-- FADE_END (R150): a fade whose next step is its last reaches its target. -/
def execFadeEnd (s : State) : Result :=
  finish (match s.sound.fade with
    | some f => if f.length ≤ f.taken + 1 then stepFade s else s
    | none => s)

/-- LINK_SEND_COMPLETE (R129). -/
def execLinkSendComplete (s : State) : Result := finish (completeSend s)

/-- LINK_CHECK_BEGIN (R133): a PENDING requester begins its check while the link is free. -/
def execLinkCheckBegin (s : State) : Result :=
  finish (if s.link.requester = .pending && s.frames.sending.isNone then beginLinkCheck s else s)

/-- A check ends by an outcome; a change into UNPAIRED reaches the showing (R133, R135). -/
def concludeCheck (outcome : CheckOutcome) (answered : Option Nat) (s : State) : State :=
  let before := s.link.state
  let s := endLinkCheck outcome answered s
  if s.link.state = .unpaired && !decide (before = .unpaired) then cutGather s (loseLink s) else s

/-- PROJECTOR_ANSWER (R133): taken while the answer timer runs and its number is the challenge number, else stray. -/
def execProjectorAnswer (challenge projector : Nat) (s : State) : Result :=
  finish
    (if s.link.answerTimer.isSome && decide (challenge = s.link.challenge) then
       concludeCheck (answerOutcome projector s) (some projector) s
     else { s with link := { s.link with strays := bump max32 s.link.strays } })

/-- ANSWER_TIMEOUT (R133). -/
def execAnswerTimeout (s : State) : Result :=
  finish (if s.link.answerTimer.isSome then concludeCheck .timeout none s else s)

/-- LINK_INTERVAL_EXPIRY (R134). -/
def execLinkIntervalExpiry (s : State) : Result :=
  finish (requestLinkCheck { s with link := { s.link with counter := 0 } })

/-- SEAT_RECORD_COMPLETE (R165): the record has been sent, and the next one begins. -/
def execSeatRecordComplete (s : State) : Result :=
  finish (match s.subs.transmitting with
    | some _ => feedSeats { s with subs := { s.subs with transmitting := none, sent := addAt s.subs.sent 1 1 } }
    | none => s)

end Machine
end Sys2Proof
end

