-- ==== Sys2Proof/Machine/ShowRequests.lean ====
section
/-!
DEFINITION. The requests of the show sequencer (R83 to R85, R90, R98 to R103) and GRANT REVOKE (R66), which reaches the
current showing.
-/
namespace Sys2Proof
namespace Machine

open Layout

/-! ### Loading lists (R83, R84) -/

/-- A number lies in a range. -/
def within (low high n : Nat) : Bool := decide (low ≤ n) && decide (n ≤ high)

/-- The fields of a cue action lie in their ranges (R82). -/
def CueAction.fits : CueAction → Bool
  | .setLines _ _ => true
  | .pulseLine line width => within 0 15 line && within 1 255 width
  | .fader target frames => within 0 65535 target && within 0 65535 frames
  | .notice number => within 0 65535 number

/-- The base is one of the two of R82. -/
def CueBase.fits : CueBase → Bool
  | .fromStart | .fromEnd => true
  | .other _ => false

/-- The fields of a cue record lie in their ranges (R82). -/
def CueRecord.fits (c : CueRecord) : Bool :=
  within 0 6912000 c.offset && CueBase.fits c.base && CueAction.fits c.action

/-- The fields of an entry lie in their ranges, and a PLAY's first reel is at most its last (R81, R83). -/
def Entry.fits : Entry → Bool
  | .play id first last cues =>
    within 0 63 id && first.all (within 1 32) && last.all (within 1 32) && decide (cues.length ≤ 8) &&
      cues.all CueRecord.fits &&
      (match first, last with
       | some a, some b => decide (a ≤ b)
       | _, _ => true)
  | .black n => within 1 65535 n
  | .wait t => t.all (within 1 3600)
  | .setLines _ _ => true
  | .incl list => within 0 15 list

/-- The cue records of entries. -/
def cueCount (entries : List Entry) : Nat :=
  total (entries.map fun
    | .play _ _ _ cues => cues.length
    | _ => 0)

/-- The list a step of a walk stands in, and the list it goes on in. -/
def PathStep.lists : PathStep → List Nat
  | .setLines pos _ _ => [pos.list]
  | .push pos list => [pos.list, list]
  | .nestSkip pos _ => [pos.list]
  | .pop pos => [pos.list]
  | .skip pos _ _ => [pos.list]

/-- The list of the prepared position. -/
def Prepared.lists : Prepared → List Nat
  | .play p => [p.pos.list]
  | .black pos _ => [pos.list]
  | .wait pos _ => [pos.list]
  | .showEnd => []
  | .walkLimit pos => [pos.list]

/-- A list is in use (R84). -/
def Sequencer.uses (q : Sequencer) (list : Nat) : Bool :=
  (match q.pos with
   | some p => decide (p.list = list)
   | none => false) ||
  q.stack.any (fun p => decide (p.list = list)) ||
  (match q.path with
   | some path => (path.steps.flatMap PathStep.lists).contains list
   | none => false) ||
  (match q.prepared with
   | some p => p.lists.contains list
   | none => false)

/-- The lists other than `list`. -/
def otherEntries (lists : List (List Entry)) (list : Nat) : List Entry := (replaceAt lists list []).flatten

/-- A staged list is decided on (R84). -/
def completeLoad (frame : Frame) (st : Staging) (s : State) : State :=
  let others := otherEntries s.seq.lists st.list
  let cleared := updateSeq (fun q => { q with staging := none }) s
  if s.seq.uses st.list then refuse 20 frame .inUse cleared
  else if 256 < st.entries.length + others.length || 512 < cueCount st.entries + cueCount others then
    refuse 20 frame .tableFull cleared
  else
    answerOk 20 frame [] (updateSeq (fun q => { q with lists := replaceAt q.lists st.list st.entries }) cleared)

/-- A part has been taken (R83). -/
def takePart (frame : Frame) (final : Bool) (st : Staging) (s : State) : State :=
  if final then completeLoad frame st s
  else answerOk 20 frame [] (updateSeq (fun q => { q with staging := some st }) s)

/-- LIST LOAD (R83, R84). A list number above 15 and a part with more than 8 entries are refused OUT_OF_RANGE like a field
outside R81 and R82: R83 gives both ranges and no answer (DESIGN CHOICE, assumption 29). -/
def serveListLoad (frame : Frame) (list part : Nat) (final : Bool) (entries : List Entry) (s : State) : State :=
  if 15 < list || 255 < part || 8 < entries.length || !entries.all Entry.fits then refuse 20 frame .outOfRange s
  else if part = 0 then takePart frame final { list := list, part := 0, entries := entries } s
  else
    match s.seq.staging with
    | none => refuse 20 frame .wrongState s
    | some st =>
      if st.list = list && part = st.part + 1 then
        let gathered := st.entries ++ entries
        if 256 < gathered.length || 512 < cueCount gathered then
          refuse 20 frame .tableFull (updateSeq (fun q => { q with staging := none }) s)
        else takePart frame final { list := list, part := part, entries := gathered } s
      else refuse 20 frame .wrongState s

/-! ### Reading lists (R85) -/

/-- The sixteen flags of a mask or of values. -/
def lineFlags (b : BitVec 16) : List Byte := num 2 b.toNat

/-- The base of a cue record: FROM_START 0, FROM_END 1. -/
def CueBase.code : CueBase → Nat
  | .fromStart => 0 | .fromEnd => 1 | .other n => n

/-- A cue action with its fields (R82): SET_LINES 0, PULSE_LINE 1, FADER 2, NOTICE 3. -/
def CueAction.bytes : CueAction → List Byte
  | .setLines mask values => code 0 ++ lineFlags mask ++ lineFlags values
  | .pulseLine line width => code 1 ++ num 1 line ++ num 1 width
  | .fader target frames => code 2 ++ num 2 target ++ num 2 frames
  | .notice number => code 3 ++ num 2 number

/-- A cue record (R82). -/
def CueRecord.bytes (c : CueRecord) : List Byte := num 3 c.offset ++ code (CueBase.code c.base) ++ CueAction.bytes c.action

/-- An entry with its kind and fields (R81): PLAY 0, INCLUDE 1, WAIT 2, SET LINES 3, BLACK 4, by the list of the Terms. -/
def Entry.bytes : Entry → List Byte
  | .play id first last cues => code 0 ++ num 1 id ++ opt (num 1) first ++ opt (num 1) last ++ rep 1 CueRecord.bytes cues
  | .incl list => code 1 ++ num 1 list
  | .wait t => code 2 ++ opt (num 2) t
  | .setLines mask values => code 3 ++ lineFlags mask ++ lineFlags values
  | .black n => code 4 ++ num 2 n

/-- LIST READ (R85). The first entry number is taken, and the next entry number sent, in 2 bytes (DESIGN CHOICE, assumption
27). -/
def serveListRead (frame : Frame) (list first : Nat) (s : State) : State :=
  if 15 < list then refuse 21 frame .outOfRange s
  else
    let entries := s.seq.lists.getD list []
    let shown := (entries.drop first).take 8
    let next := if first + shown.length < entries.length then some (first + shown.length) else none
    let all := s.seq.lists.flatten
    answerOk 21 frame
      (rep 1 Entry.bytes shown ++ num 2 entries.length ++ opt (num 2) next ++ num 2 (256 - all.length) ++
        num 2 (512 - cueCount all) ++ opt (fun st => num 1 (Staging.list st) ++ num 1 (Staging.part st)) s.seq.staging) s

/-! ### Running a show -/

/-- SHOW ARM (R90). A list number above 15 is refused as such in every state, IDLE or not (DESIGN CHOICE, assumption 17). -/
def serveShowArm (frame : Frame) (list : Nat) (s : State) : State :=
  if 15 < list then refuse 22 frame .outOfRange s
  else if s.seq.state ≠ .idle then refuse 22 frame .wrongState s
  else
    answerOk 22 frame []
      (updateSeq (fun q => { q with
        state := .armed, stack := [], pos := some { list := list, entry := 0 }, startList := list }) s)

/-- SHOW START (R90). -/
def serveShowStart (frame : Frame) (s : State) : State :=
  if s.seq.state ≠ .armed then refuse 23 frame .wrongState s
  else
    let (stop, t) := actWalk s.position (raise .showStarted (num 1 s.seq.startList) s)
    answerOk 23 frame [] (cutGather s (takeUpWalk stop t))

/-- PAUSE, by the host or by a line: a refusal, or the state it leaves (R100). -/
def tryPause (s : State) : Except Reason State :=
  if s.seq.state = .running then .ok (enterPause s) else .error .wrongState

/-- RESUME (R100). -/
def tryResume (s : State) : Except Reason State :=
  if s.seq.state ≠ .paused then .error .wrongState
  else if s.interlocked then .error .interlock
  else .ok (updateSeq (fun q => { q with state := .running, pauseTimer := none }) s)

/-- GO, by the host or by a line (R98, R99). -/
def tryGo (s : State) : Except Reason State :=
  if s.seq.state ≠ .waiting then .error .wrongState
  else if s.interlocked then .error .interlock
  else
    match s.seq.waitReason with
    | some .logFull => if s.log.hasRoom then .ok (leaveLogFull s) else .error .logFull
    | _ => .ok (leaveWait s)

/-- SKIP (R102). -/
def trySkip (s : State) : Except Reason State :=
  if s.seq.state ≠ .running then .error .wrongState
  else
    match s.seq.current with
    | .play _ => .ok (skipBoundary s)
    | .black _ _ => .ok (skipBoundary s)
    | _ => .error .wrongState

/-- STOP (R103). -/
def tryStop (s : State) : Except Reason State :=
  match s.seq.state with
  | .idle => .error .wrongState
  | .armed => .ok (enterIdle s)
  | _ => .ok (endShow .stopped (endShowing .stopped s))

/-- A request of the sequencer is answered by what it comes to. -/
def answerTry (kind : Nat) (frame : Frame) (f : State → Except Reason State) (s : State) : State :=
  match f s with
  | .ok t => answerOk kind frame [] (cutGather s t)
  | .error r => refuse kind frame r s

/-- PAUSE LIMIT (R101). -/
def servePauseLimit (frame : Frame) (seconds : Nat) (s : State) : State :=
  let taken := min seconds 3600
  let s := updateSeq (fun q => { q with pauseLimit := taken }) s
  let s :=
    if s.seq.state = .paused && decide (taken ≠ 0) && timerReached s.seq.pauseTimer taken then
      cutGather s (expirePause s)
    else s
  if taken = seconds then answerOk 29 frame [] s else answerClamped 29 frame (num 2 taken) s

/-! ### GRANT REVOKE (R66) -/

/-- The revocation takes effect: a bound grant's showing is told of it. -/
def revokeGrant (slot : Nat) (g : Grant) (s : State) : State :=
  let s := pushGrant slot false (setGrant slot (some { g with state := .revoked }) s)
  if s.keys.bound = some slot then cutGather s (revokeShowing s) else s

/-- GRANT REVOKE (R66). -/
def serveGrantRevoke (turn : Bool) (frame : Frame) (slot : Nat) (s : State) : State :=
  if 31 < slot then refuse 16 frame .outOfRange s
  else
    match s.keys.grants.find slot with
    | none => refuse 16 frame .notFound s
    | some g =>
      if g.state.final then refuse 16 frame .wrongState s
      else whenRoom turn (.grantRevoke frame slot) (fun s => answerOk 16 frame [] (revokeGrant slot g s)) s

/-! ### The commands -/

/-- GRANT REVOKE (R66). -/
def execGrantRevoke (frame : Frame) (slot : Nat) (s : State) : Result :=
  request 16 frame (.grantRevoke frame slot) (serveGrantRevoke false frame slot) s

/-- LIST LOAD (R83, R84). -/
def execListLoad (frame : Frame) (list part : Nat) (final : Bool) (entries : List Entry) (s : State) : Result :=
  request 20 frame (.listLoad frame list part final entries) (serveListLoad frame list part final entries) s

/-- LIST READ (R85). -/
def execListRead (frame : Frame) (list first : Nat) (s : State) : Result :=
  request 21 frame (.listRead frame list first) (serveListRead frame list first) s

/-- SHOW ARM (R90). -/
def execShowArm (frame : Frame) (list : Nat) (s : State) : Result :=
  request 22 frame (.showArm frame list) (serveShowArm frame list) s

/-- SHOW START (R90). -/
def execShowStart (frame : Frame) (s : State) : Result :=
  request 23 frame (.showStart frame) (serveShowStart frame) s

/-- PAUSE (R100). -/
def execPause (frame : Frame) (s : State) : Result :=
  request 24 frame (.pause frame) (answerTry 24 frame tryPause) s

/-- RESUME (R100). -/
def execResume (frame : Frame) (s : State) : Result :=
  request 25 frame (.resume frame) (answerTry 25 frame tryResume) s

/-- GO (R98, R99). -/
def execGo (frame : Frame) (s : State) : Result :=
  request 26 frame (.go frame) (answerTry 26 frame tryGo) s

/-- SKIP (R102). -/
def execSkip (frame : Frame) (s : State) : Result :=
  request 27 frame (.skip frame) (answerTry 27 frame trySkip) s

/-- STOP (R103). -/
def execStop (frame : Frame) (s : State) : Result :=
  request 28 frame (.stop frame) (answerTry 28 frame tryStop) s

/-- PAUSE LIMIT (R101). -/
def execPauseLimit (frame : Frame) (seconds : Nat) (s : State) : Result :=
  request 29 frame (.pauseLimit frame seconds) (servePauseLimit frame seconds) s

end Machine
end Sys2Proof
end

