-- ==== Sys2Proof/Machine/LineInputs.lean ====
section
/-!
DEFINITION. Input conditions, debounce, input functions and the interlock (R182 to R184), and LINE SETUP (R179).
-/
namespace Sys2Proof
namespace Machine

open Layout

/-- A change of the debounced level is the condition's onset (R182). -/
def LineCondition.begins (high : Bool) : LineCondition → Bool
  | .rise => high
  | .fall => !high
  | .both => true
  | .high => high
  | .low => !high

/-- A level condition holds at a level. -/
def LineCondition.met (high : Bool) : LineCondition → Bool
  | .high => high
  | .low => !high
  | _ => false

/-- A line begins to hold (R184): INTERLOCK is raised, and with no other line holding the interlock's onset reaches the
sequencer (R107) and mutes the sound renderer at once (R151). The pins of the outputs follow by R185. -/
def beginHolding (n : Nat) (s : State) : State :=
  let first := !s.interlocked
  let s := raise .interlock (num 1 n) (updateLine n (fun l => { l with holding := true }) s)
  if first then muteNow (interlockOnset s) else s

/-- A line stops holding (R184). The release changes no state of the sequencer. -/
def stopHolding (n : Nat) (s : State) : State := updateLine n (fun l => { l with holding := false }) s

/-- What a refusal leaves: nothing has changed. -/
def orElseSame (s : State) : Except Reason State → State
  | .ok t => t
  | .error _ => s

/-- A line's function acts at its onset (R183, R184). -/
def actFunction (n : Nat) (l : Line) (s : State) : State :=
  match l.function with
  | .none => s
  | .notice => raise (.lineEvent n) (code l.condition.code ++ level l.level) s
  | .go => cutGather s (orElseSame s (tryGo s))
  | .mark => takeCapture (some n) s
  | .pause => orElseSame s (tryPause s)
  | .interlock => beginHolding n s

/-- A line's onset is taken (R182). -/
def takeOnset (n : Nat) (s : State) : State :=
  match s.lines[n]? with
  | none => s
  | some l => actFunction n l (updateLine n (fun l => { l with onsets := bump 65535 l.onsets }) s)

/-- The debounced level of an input becomes the candidate and is judged against the condition (R182). -/
def takeLevel (n : Nat) (high : Bool) (s : State) : State :=
  match s.lines[n]? with
  | none => s
  | some l =>
    let s := updateLine n (fun l => { l with level := high, timer := none }) s
    if l.condition.begins high then takeOnset n s
    else if l.holding then stopHolding n s
    else s

/-- The pin of an input has changed (R182). -/
def changePin (n : Nat) (high : Bool) (s : State) : State :=
  match s.lines[n]? with
  | none => s
  | some l =>
    if l.wire = high then s
    else
      let s := updateLine n (fun l => { l with wire := high }) s
      if l.output then s
      else if high = l.level then updateLine n (fun l => { l with timer := none }) s
      else if l.debounce = 0 then takeLevel n high s
      else updateLine n (fun l => { l with timer := some (high, 0) }) s

/-- INPUT_PIN_CHANGE (R182). -/
def execInputPinChange (line : Nat) (high : Bool) (s : State) : Result := finish (changePin line high s)

/-- DEBOUNCE_EXPIRY (R182): the pin has stood at the candidate for the whole debounce. -/
def execDebounceExpiry (line : Nat) (s : State) : Result :=
  finish (match s.lines[line]? with
    | some l =>
      match l.timer with
      | some (candidate, _) => takeLevel line candidate s
      | none => s
    | none => s)

/-! ### LINE SETUP (R179) -/

/-- A line about to take a new configuration: its pulse and its timer stop, and it stops holding. -/
def clearLine (n : Nat) (s : State) : State :=
  updateLine n (fun l => { l with pulse := none, timer := none, holding := false }) s

/-- A line becomes an output: its latch takes the idle level. -/
def setOutput (n : Nat) (idle safe : Bool) (s : State) : State :=
  updateLine n (fun l => { l with output := true, idle := idle, safe := safe, latch := idle }) (clearLine n s)

/-- A line becomes an input: its debounced level is the pin's, and a level condition already met has its onset at once. -/
def setInput (n : Nat) (c : LineCondition) (debounce : Nat) (f : LineFunction) (s : State) : State :=
  let s := updateLine n (fun l => { l with
    output := false, condition := c, debounce := debounce, function := f, level := l.wire }) (clearLine n s)
  match s.lines[n]? with
  | some l => if c.met l.level then takeOnset n s else s
  | none => s

/-- LINE SETUP (R179). -/
def serveLineSetup (frame : Frame) (line : Nat) (config : LineRequest) (s : State) : State :=
  if 15 < line then refuse 47 frame .outOfRange s
  else
    match config with
    | .other _ => refuse 47 frame .outOfRange s
    | .output idle safe =>
      match levelOf idle, levelOf safe with
      | some idle, some safe => answerOk 47 frame [] (setOutput line idle safe s)
      | _, _ => refuse 47 frame .outOfRange s
    | .input condition debounce function =>
      match lineConditionOf condition, lineFunctionOf function with
      | some c, some f =>
        if 255 < debounce || (decide (f = .interlock) && !decide (c = .low) && !decide (c = .high)) then
          refuse 47 frame .outOfRange s
        else answerOk 47 frame [] (setInput line c debounce f s)
      | _, _ => refuse 47 frame .outOfRange s

/-- LINE SETUP (R179). -/
def execLineSetup (frame : Frame) (line : Nat) (config : LineRequest) (s : State) : Result :=
  request 47 frame (.lineSetup frame line config) (serveLineSetup frame line config) s

end Machine
end Sys2Proof
end

