-- ==== Sys2Proof/Machine/MediaRequests.lean ====
section
/-!
DEFINITION. The requests of the timeline (R110, R117, R121, R122), the picture path (R130, R134, R136), the sound renderer
(R147, R149, R152, R153) and the subtitle engine (R154, R164, R167).
-/
namespace Sys2Proof
namespace Machine

open Layout

/-! ### Timeline -/

/-- The clock after a FRAME SOURCE that has passed (R110). -/
def Timeline.select (source : Option Edge) (t : Timeline) : Timeline :=
  match source with
  | none => { t with source := none, clock := .free, acquiring := 0, coasting := 0 }
  | some _ =>
    if t.source = source then t
    else { t with source := source, clock := .acquiring, acquiring := 0, coasting := 0 }

/-- FRAME SOURCE (R110). -/
def serveFrameSource (frame : Frame) (source : Nat) (edge : Option Nat) (s : State) : State :=
  match sourceOf source edge with
  | none => refuse 30 frame .outOfRange s
  | some e =>
    let s := updateTime (Timeline.select e) s
    answerOk 30 frame (code s.time.clock.code) s

/-- Whole seconds of the reference clock in a count of its cycles. -/
def wholeSeconds (cycles : Nat) : Nat := cycles / Config.cyclesPerSecond

/-- A timecode as a reply carries it. -/
def Timecode.bytes (t : Timecode) : List Byte := num 1 t.hours ++ num 1 t.minutes ++ num 1 t.seconds ++ num 1 t.frames

/-- A place of a compare unit. -/
def Target.bytes (t : Target) : List Byte := num 3 t.frame ++ num 2 t.tag

/-- A black gap stands (R87). -/
def State.inBlackGap (s : State) : Bool :=
  (decide (s.seq.state = .running) || decide (s.seq.state = .paused)) &&
    (match s.seq.current with
     | .none => true
     | _ => false)

/-- The position of the prepared entry; a lookahead that ended at the show's end or at its limit of entries prepared none
(R87, R95). -/
def Prepared.position : Prepared → Option Pos
  | .play p => some p.pos
  | .black pos _ => some pos
  | .wait pos _ => some pos
  | .showEnd => none
  | .walkLimit _ => none

/-- The running counts of the current showing, frames presented and frames repeated, or none (R92, R173). R173 puts them in
POSITION and PICTURE STATUS, and the lists of R117 and R136 give them no place: they come last (DESIGN CHOICE,
assumption 26). -/
def runningCounts (s : State) : List Byte :=
  opt (fun sh => num 4 (Showing.presented sh) ++ num 4 (Showing.repeated sh)) s.showing

/-- The timeline and the sequencer (R117), with the running counts of the showing (R173). -/
def positionReport (s : State) : List Byte :=
  let q := s.seq
  let t := s.time
  code q.state.code ++ opt Pos.bytes q.pos ++ flag s.inBlackGap ++ opt Pos.bytes (q.prepared.bind Prepared.position) ++
    opt (fun r => code (WaitReason.code r)) q.waitReason ++ opt (fun c => code (HaltCause.code c)) q.halt ++
    opt (fun c => num 2 (wholeSeconds c)) q.waitTimer ++ opt (fun c => num 4 (wholeSeconds c)) q.pauseTimer ++
    opt (fun p => num 1 (Play.id p) ++ num 1 (Play.firstReel p) ++ num 1 (Play.lastReel p)) (s.showing.map (·.play)) ++
    num 3 t.frame ++ num 1 t.reel ++ num 3 t.reelFrame ++ t.timecode.bytes ++ num 2 t.black ++
    code (if t.source.isSome then 1 else 0) ++ opt (fun e => code (Edge.code e)) t.source ++ code t.clock.code ++
    num 1 t.rate ++ num 4 t.edges ++ num 4 t.generated ++ num 4 t.losses ++
    t.units.flatMap (fun u => opt Target.bytes u.armed ++ opt Target.bytes u.pending) ++ num 1 t.captures.length ++
    runningCounts s

/-- POSITION (R117). -/
def servePosition (frame : Frame) (s : State) : State := answerOk 31 frame (positionReport s) s

/-- MARK (R121): QUEUED 0, DROPPED 1. -/
def serveMark (frame : Frame) (s : State) : State :=
  answerOk 32 frame (code (if s.time.captures.length < 8 then 0 else 1)) (takeCapture none s)

/-- A capture (R121). -/
def Capture.bytes (c : Capture) : List Byte :=
  captureSource c.line ++ opt (num 1) c.composition ++ num 1 c.reel ++ num 3 c.reelFrame ++ num 3 c.frame ++
    c.timecode.bytes ++ num 4 c.time

/-- CAPTURE READ (R122). -/
def serveCaptureRead (frame : Frame) (count : Nat) (s : State) : State :=
  if count = 0 || 8 < count then refuse 33 frame .outOfRange s
  else
    let left := s.time.captures.drop count
    answerOk 33 frame
      (rep 1 Capture.bytes (s.time.captures.take count) ++ num 1 left.length ++ num 2 s.time.dropped)
      (updateTime (fun t => { t with captures := left, dropped := 0 }) s)

/-! ### Picture path -/

/-- The link side changed by `f`. -/
def updateLink (f : LinkSide → LinkSide) (s : State) : State := { s with link := f s.link }

/-- PAIR takes effect: the id, its write, the link state and a check (R130). -/
def pairProjector (projector : Nat) (s : State) : State :=
  requestLinkCheck (pushWrite (.paired projector) false
    (updateLink (fun l => { l with paired := some projector, state := .unknown }) s))

/-- PAIR (R130). An id of 0 is refused OUT_OF_RANGE before the state is judged (DESIGN CHOICE, assumption 17). -/
def servePair (turn : Bool) (frame : Frame) (projector : Nat) (s : State) : State :=
  if projector = 0 || max32 < projector then refuse 34 frame .outOfRange s
  else if s.seq.state ≠ .idle then refuse 34 frame .wrongState s
  else whenRoom turn (.pair frame projector) (fun s => answerOk 34 frame [] (pairProjector projector s)) s

/-- LINK CHECK (R134). -/
def serveLinkCheck (frame : Frame) (s : State) : State := answerOk 35 frame [] (requestLinkCheck s)

/-- LINK INTERVAL (R134). -/
def serveLinkInterval (frame : Frame) (seconds : Nat) (s : State) : State :=
  let taken := clamp 1 600 seconds
  let s := requestLinkCheck (updateLink (fun l => { l with interval := taken, counter := 0 }) s)
  if taken = seconds then answerOk 36 frame [] s else answerClamped 36 frame (num 2 taken) s

/-- A place of the frame queue (R136): current PLAY 0, prepared PLAY 1. -/
def Place.bytes (p : Place) : List Byte := num 3 p.frame ++ code p.condition.code ++ code (if p.prepared then 1 else 0)

/-- The picture path (R136): whether a send is in flight, and then its kind, which may be absent; and the running
counts of the showing (R173). -/
def pictureReport (s : State) : List Byte :=
  let f := s.frames
  let l := s.link
  rep 1 Place.bytes f.places ++ opt (num 3) ((nextFrame s).map fun x => x.2.2) ++ flag f.keyCurrent.isSome ++
    flag f.keyPrepared.isSome ++ num 1 f.consecutive ++ f.repeats.flatMap (num 4) ++ num 4 f.overtaken ++
    flag f.sending.isSome ++ opt (fun x => code (Send.code x)) f.sending ++ flag f.waiting.isSome ++
    opt (num 4) l.paired ++ code l.state.code ++ code l.requester.code ++ flag l.retry ++ num 1 l.challenge ++
    num 2 l.interval ++
    num 2 (l.interval - wholeSeconds l.counter) ++ num 4 l.begun ++ num 4 l.answersPaired ++ num 4 l.answersOther ++
    num 4 l.timeouts ++ num 4 l.strays ++ runningCounts s

/-- PICTURE STATUS (R136). -/
def servePictureStatus (frame : Frame) (s : State) : State := answerOk 37 frame (pictureReport s) s

/-! ### Sound -/

/-- The sound renderer changed by `f`. -/
def updateSound (f : Sound → Sound) (s : State) : State := { s with sound := f s.sound }

/-- A route lies in its ranges (R147). -/
def Route.fits (r : Route) : Bool := r.source.all (within 0 23) && within 0 8192 r.gain

/-- A map put into a slot. -/
def putMap (slot code : Nat) (routes : List Route) (s : State) : State :=
  updateSound (fun x => { x with maps := x.maps.put slot { code := code, routes := routes } }) s

/-- SOUND MAP LOAD (R147). -/
def serveSoundMapLoad (frame : Frame) (code : Nat) (routes : Option (List Route)) (s : State) : State :=
  match routes with
  | some routes =>
    if 255 < code || routes.length ≠ 24 || !routes.all Route.fits then refuse 38 frame .outOfRange s
    else
      match findMap s.sound.maps code with
      | some (slot, _) => answerOk 38 frame [] (putMap slot code routes s)
      | none =>
        match s.sound.maps.lowestFree 8 with
        | some slot => answerOk 38 frame [] (putMap slot code routes s)
        | none => refuse 38 frame .tableFull s
  | none =>
    if 255 < code then refuse 38 frame .outOfRange s
    else
      match findMap s.sound.maps code with
      | some (slot, _) => answerOk 38 frame [] (updateSound (fun x => { x with maps := x.maps.erase slot }) s)
      | none => refuse 38 frame .notFound s

/-- A route: its optional source and its gain. -/
def Route.bytes (r : Route) : List Byte := opt (num 1) r.source ++ num 2 r.gain

/-- SOUND MAP READ (R147). -/
def serveSoundMapRead (frame : Frame) (code : Nat) (s : State) : State :=
  match findMap s.sound.maps code with
  | some (slot, m) => answerOk 39 frame (num 1 slot ++ m.routes.flatMap Route.bytes) s
  | none => refuse 39 frame .notFound s

/-- FADER SET (R149). -/
def serveFaderSet (frame : Frame) (target frames : Nat) (s : State) : State :=
  let s := takeFade target frames s
  if target ≤ 8192 && frames ≤ 1200 then answerOk 40 frame [] s
  else answerClamped 40 frame (num 2 (min target 8192) ++ num 2 (min frames 1200)) s

/-- The prepared PLAY's portions begin again with a new trim (R143, R152). -/
def restartPrepared (trim : Int) (s : State) : State :=
  match s.preparedPlay with
  | none => s
  | some p =>
    updateSound (fun x => { x with nextPrepared := p.firstFrame, trimPrepared := trim })
      (keepPortions (fun q => !q.prepared) s)

/-- LIPSYNC SET (R152). -/
def serveLipsyncSet (frame : Frame) (trim : Int) (s : State) : State :=
  let taken := clampInt (-4800) 4800 trim
  let s := updateSound (fun x => { x with trimNext := taken }) s
  let s :=
    if s.seq.state = .idle || s.seq.state = .armed then updateSound (fun x => { x with trimCurrent := taken }) s else s
  let s := restartPrepared taken s
  if taken = trim then answerOk 41 frame [] s else answerClamped 41 frame (int 2 taken) s

def Cell.isPresent : Cell → Bool
  | .present _ _ => true
  | _ => false

def Cell.isSilence : Cell → Bool
  | .silence => true
  | _ => false

/-- A portion of the sound buffer (R153): FILLING 0, COMPLETE 1; current PLAY 0, prepared PLAY 1. -/
def Portion.bytes (p : Portion) : List Byte :=
  let n := fun (is : Cell → Bool) => num 2 (p.cells.filter is).length
  num 3 p.frame ++ code (if p.filling then 0 else 1) ++ code (if p.prepared then 1 else 0) ++ n Cell.isPresent ++
    n Cell.isSilence ++ n Cell.isLost ++ n Cell.isAwaited


/-- A route set (R153). -/
def RouteSet.bytes (r : RouteSet) : List Byte := num 1 r.code ++ flag r.identity

/-- The track and the blocks of the read run (R153): its track id, and the numbers of its track blocks as a field that
repeats (R198). That the blocks are reported by their numbers is a DESIGN CHOICE (assumption 28). -/
def ReadRun.bytes (r : ReadRun) : List Byte :=
  num 2 r.track ++ rep 1 (fun i => num 3 (r.block + i)) (List.range r.blocks.length)

/-- The sound renderer (R153). The blocks of the read run are laid out by `ReadRun.bytes` (assumption 28). -/
def soundReport (s : State) : List Byte :=
  let x := s.sound
  rep 1 Portion.bytes x.portions ++ opt (num 3) ((nextPortion s).map fun y => y.2.2) ++
    opt ReadRun.bytes x.run ++ num 2 x.fader ++
    opt (fun f => num 2 (Fade.start f) ++ num 2 (Fade.target f) ++ num 2 (Fade.length f) ++ num 2 (Fade.taken f)) x.fade ++
    int 2 x.trimCurrent ++ int 2 x.trimNext ++ opt (int 2) (s.preparedPlay.map fun _ => x.trimPrepared) ++
    (List.range 8).flatMap (fun slot => opt (num 1) ((x.maps.find slot).map (·.code))) ++
    rep 1 RouteSet.bytes x.routesCurrent ++ rep 1 RouteSet.bytes x.routesPrepared ++ flag x.mute.isSome ++
    opt (fun m => code (MuteReason.code m)) x.mute ++ x.underruns.flatMap (num 4) ++ num 4 x.clips

/-- SOUND STATUS (R153). -/
def serveSoundStatus (frame : Frame) (s : State) : State := answerOk 42 frame (soundReport s) s

/-! ### Subtitles -/

/-- Fewer than two other streams feed the overlay (R154). -/
def overlayFree (stream : Nat) (s : State) : Bool :=
  decide ((streamNumbers.filter fun k =>
    !decide (k = stream) && (((s.subs.streams[k]?).map (·.route.toOverlay)).getD false)).length < 2)

/-- A route change reaches one cue on display (R164). -/
def rerouteCue (stream : Nat) (before after : StreamRoute) (shown : Shown) (s : State) : State :=
  let r : CaptionRecord := .present stream ((s.showing.map (·.play.id)).getD 0) s.time.reel shown.timed.cue
  let s := sendClear (before.toOverlay && !after.toOverlay) (before.toSeats && !after.toSeats) stream
    shown.timed.cue.number .route s
  if (after.toOverlay && !before.toOverlay) || (after.toSeats && !before.toSeats) then
    sendShow (after.toOverlay && !before.toOverlay) (after.toSeats && !before.toSeats) r s
  else s

/-- The route of a stream changes (R154, R164). The records of its two cues on display are made for the lower slot first
(DESIGN CHOICE, assumption 39). -/
def setRoute (stream : Nat) (route : StreamRoute) (s : State) : State :=
  match s.subs.streams[stream]? with
  | none => s
  | some st =>
    st.slots.foldl (fun s slot =>
        match slot with
        | some shown => rerouteCue stream st.route route shown s
        | none => s)
      (updateStream stream (fun st => { st with route := route }) s)

/-- STREAM SET (R154). -/
def serveStreamSet (frame : Frame) (stream route : Nat) (offset : Int) (s : State) : State :=
  if 3 < stream then refuse 43 frame .outOfRange s
  else
    match streamRouteOf route with
    | none => refuse 43 frame .outOfRange s
    | some r =>
      if r.toOverlay && !overlayFree stream s then refuse 43 frame .overlayFull s
      else
        let taken := clampInt (-10000) 10000 offset
        let s := updateStream stream (fun st => { st with next := taken }) (setRoute stream r s)
        if taken = offset then answerOk 43 frame [] s else answerClamped 43 frame (int 2 taken) s

/-- A bank (R167). -/
def bankReport (st : Stream) (n : Nat) (b : Bank) : List Byte :=
  code b.state.code ++
    opt (fun b => code (if Bank.prepared b then 1 else 0) ++ num 1 (Bank.reel b) ++ num 2 (Bank.cues b).length ++
      num 3 (Bank.text b) ++ flag (Bank.closed b) ++ flag (decide (st.live = some n)))
      (if b.state = .free then none else some b)

/-- A late load stands: the live bank is LOADING (R161). -/
def Stream.late (st : Stream) : Bool :=
  match st.live with
  | some n =>
    match st.banks[n]? with
    | some b => decide (b.state = .loading)
    | none => false
  | none => false

/-- The next cue: the first tag of the live bank not yet loaded into the unit (R160). -/
def Stream.nextTag (st : Stream) : Option Nat :=
  if st.nextCue < (st.timed.getD []).length then some st.nextCue else none

/-- A stream (R167). -/
def streamReport (st : Stream) : List Byte :=
  code st.route.code ++ int 2 st.current ++ int 2 st.next ++
    (List.range 2).flatMap (fun n => bankReport st n (st.banks.getD n Bank.free)) ++ flag st.late ++
    opt (num 2) st.nextTag ++
    st.slots.flatMap (opt fun shown =>
      num 2 (Shown.timed shown).cue.number ++ num 3 (Shown.timed shown).inFrame ++ num 3 (Shown.timed shown).outFrame)

/-- A line of a cue: its length, then its text. -/
def lineText (l : List Byte) : List Byte := num 1 l.length ++ l

/-- A SHOW or CLEAR record with its fields in the order of R164 (DEDUCED, assumption 27): the placement, style and lines as
in a subtitle cue record. -/
def CaptionRecord.bytes : CaptionRecord → List Byte
  | .present stream composition reel cue =>
    code 0 ++ num 1 stream ++ num 1 composition ++ num 1 reel ++ num 2 cue.number ++
      code (if cue.bottom then 1 else 0) ++ num 1 cue.offset ++ flags [cue.italic, cue.bold] ++ rep 1 lineText cue.lines
  | .clear stream number reason => code 1 ++ num 1 stream ++ num 2 number ++ code reason.code

/-- The subtitle engine (R167). -/
def subtitleReport (s : State) : List Byte :=
  let e := s.subs
  e.streams.flatMap streamReport ++ rep 1 CaptionRecord.bytes e.overlay ++ rep 1 CaptionRecord.bytes e.seats ++
    e.drops.flatMap (num 4) ++ num 4 e.displaced ++ e.sent.flatMap (num 4) ++ e.cancelled.flatMap (num 4) ++ num 4 e.lost

/-- SUBTITLE STATUS (R167). -/
def serveSubtitleStatus (frame : Frame) (s : State) : State := answerOk 44 frame (subtitleReport s) s

/-! ### The commands -/

/-- FRAME SOURCE (R110). -/
def execFrameSource (frame : Frame) (source : Nat) (edge : Option Nat) (s : State) : Result :=
  request 30 frame (.frameSource frame source edge) (serveFrameSource frame source edge) s

/-- POSITION (R117). -/
def execPosition (frame : Frame) (s : State) : Result :=
  request 31 frame (.position frame) (servePosition frame) s

/-- MARK (R121). -/
def execMark (frame : Frame) (s : State) : Result := request 32 frame (.mark frame) (serveMark frame) s

/-- CAPTURE READ (R122). -/
def execCaptureRead (frame : Frame) (count : Nat) (s : State) : Result :=
  request 33 frame (.captureRead frame count) (serveCaptureRead frame count) s

/-- PAIR (R130). -/
def execPair (frame : Frame) (projector : Nat) (s : State) : Result :=
  request 34 frame (.pair frame projector) (servePair false frame projector) s

/-- LINK CHECK (R134). -/
def execLinkCheck (frame : Frame) (s : State) : Result :=
  request 35 frame (.linkCheck frame) (serveLinkCheck frame) s

/-- LINK INTERVAL (R134). -/
def execLinkInterval (frame : Frame) (seconds : Nat) (s : State) : Result :=
  request 36 frame (.linkInterval frame seconds) (serveLinkInterval frame seconds) s

/-- PICTURE STATUS (R136). -/
def execPictureStatus (frame : Frame) (s : State) : Result :=
  request 37 frame (.pictureStatus frame) (servePictureStatus frame) s

/-- SOUND MAP LOAD (R147). -/
def execSoundMapLoad (frame : Frame) (code : Nat) (routes : Option (List Route)) (s : State) : Result :=
  request 38 frame (.soundMapLoad frame code routes) (serveSoundMapLoad frame code routes) s

/-- SOUND MAP READ (R147). -/
def execSoundMapRead (frame : Frame) (code : Nat) (s : State) : Result :=
  request 39 frame (.soundMapRead frame code) (serveSoundMapRead frame code) s

/-- FADER SET (R149). -/
def execFaderSet (frame : Frame) (target frames : Nat) (s : State) : Result :=
  request 40 frame (.faderSet frame target frames) (serveFaderSet frame target frames) s

/-- LIPSYNC SET (R152). -/
def execLipsyncSet (frame : Frame) (trim : Int) (s : State) : Result :=
  request 41 frame (.lipsyncSet frame trim) (serveLipsyncSet frame trim) s

/-- SOUND STATUS (R153). -/
def execSoundStatus (frame : Frame) (s : State) : Result :=
  request 42 frame (.soundStatus frame) (serveSoundStatus frame) s

/-- STREAM SET (R154). -/
def execStreamSet (frame : Frame) (stream route : Nat) (offset : Int) (s : State) : Result :=
  request 43 frame (.streamSet frame stream route offset) (serveStreamSet frame stream route offset) s

/-- SUBTITLE STATUS (R167). -/
def execSubtitleStatus (frame : Frame) (s : State) : Result :=
  request 44 frame (.subtitleStatus frame) (serveSubtitleStatus frame) s

end Machine
end Sys2Proof
end

