-- ==== Sys2Proof/Machine/FullReset.lean ====
section
/-!
DEFINITION. The two resets (R10, R48, R108, R187, R193): the full reset with the start of start-up, and the show reset.
-/
namespace Sys2Proof
namespace Machine

open Layout

/-! ### Nonvolatile memory -/

/-- The log record in the place of a sequence number takes a count time (R8, R172). -/
def countInRing (ring : Table LogRecord) (record : Nat × Nat) : Table LogRecord :=
  match ring.find (record.1 % 1024) with
  | some r =>
    if r.sequence = record.1 then
      ring.put (record.1 % 1024) (r.changeShowing fun g => { g with counted := some record.2 })
    else ring
  | none => ring

/-- The fields of a grant that a count write carries, charged to whatever grant stands in the slot; a slot that nonvolatile
memory holds empty stays so (DESIGN CHOICE, assumption 46). -/
def countInGrants (grants : Table Grant) (c : Nat × Nat × GrantState) : Table Grant :=
  match grants.find c.1 with
  | some g => grants.put c.1 { g with shows := c.2.1, state := c.2.2 }
  | none => grants

/-- Nonvolatile memory after a write has completed (R8). A count write changes the fields it carries of the records that
nonvolatile memory then holds, and writes none that it does not hold, as after an earlier write of the record that failed
twice (DESIGN CHOICE, assumption 46). -/
def Nvm.apply (m : Nvm) : Write → Nvm
  | .track id v => { m with tracks := m.tracks.set id v }
  | .composition id v => { m with compositions := m.compositions.set id v }
  | .grant slot v => { m with grants := m.grants.set slot v }
  | .log r => { m with log := m.log.put (r.sequence % 1024) r }
  | .budget b => { m with budget := b }
  | .paired p => { m with paired := some p }
  | .count c =>
    { m with
      grants := match c.grant with
        | some g => countInGrants m.grants g
        | none => m.grants
      compositions := match m.compositions.find c.composition.1 with
        | some e => m.compositions.put c.composition.1 { e with shown := c.composition.2 }
        | none => m.compositions
      log := countInRing m.log c.record }

/-! ### What a full reset leaves -/

/-- A store write in progress is abandoned: each of its blocks keeps its old contents or takes the new (R48). -/
def abandonBlocks (use : Nat) (store : Store) (first : Nat) : List StoreBlock → Store
  | [] => store
  | b :: rest =>
    abandonBlocks (use + 1) (if Config.eitherWay use then store.write first b else store) (first + 1) rest

/-- The blocks of the ingest writer's transfer in progress. -/
def blocksInFlight (s : State) : Nat × List StoreBlock :=
  match s.arbiter.current with
  | none => (0, [])
  | some t =>
    if t.request.writes then
      match s.ingest.writing with
      | some (.map m _) => (m.track, [.map m])
      | some (.data g _) => (g.store, g.blocks.map .data)
      | none => (0, [])
    else (0, [])

/-- Nonvolatile memory at a full reset: the write in progress has been left whole or not at all (R10). -/
def nvmAtReset (landed : Bool) (s : State) : Nvm :=
  match s.queue.writes with
  | w :: _ => if landed then s.nvm.apply w.write else s.nvm
  | [] => s.nvm

/-- The size the part takes from the size the port reports (R1): 0 when it does not use the store. -/
def sizeTaken (reported : Nat) : Nat := if reported < 4096 then 0 else min reported 16777216

/-- Every unit at its value after a full reset, with what outlives it: nonvolatile memory, the store's blocks, the booth
clock and the levels of the booth wiring. -/
def resetUnits (reported clockRan : Nat) (landed : Bool) (s : State) : State :=
  let flight := blocksInFlight s
  let store := abandonBlocks s.freeUses s.store flight.1 flight.2
  { State.reset with
    pending := s.pending
    nvm := nvmAtReset landed s
    store := { reported := reported, size := sizeTaken reported, blocks := store.blocks }
    keys := { Keys.reset with clock := min max32 (s.keys.clock + clockRan) }
    lines := s.lines.map fun l => Line.reset l.wire
    freeUses := s.freeUses + flight.2.length }

/-! ### Loading and start-up (R7, R10, R16, R177) -/

/-- The in-part copies are loaded (R7, R130, R61). -/
def loadNvm (s : State) : State :=
  { s with
    catalogue := { tracks := s.nvm.tracks, extents := [], compositions := s.nvm.compositions, awaiting := [] }
    keys := { s.keys with budget := s.nvm.budget, grants := s.nvm.grants }
    link := { s.link with paired := s.nvm.paired } }

/-- FILLING entries become DAMAGED (INTERRUPTED) (R10). -/
def interruptFilling (s : State) : State :=
  (s.catalogue.tracks.filter fun p => decide (p.2.status = .filling)).foldl (fun s p =>
    queueTrack p.1 false none (setTrack p.1 (some { p.2 with status := .damaged .interrupted }) s)) s

/-- The tracks a composition names. -/
def Composition.tracks (c : Composition) : List Nat :=
  c.reels.flatMap fun r => (r.picture :: r.sound :: r.subtitles).filterMap id

/-- A track id that stays in an entry: the track is not FREE (R10). -/
def keepTrack (tracks : Table TrackEntry) (t : Option Nat) : Option Nat := t.filter fun t => (tracks.find t).isSome

/-- A READY composition that names a track that is not READY (R10). -/
def unsettle (tracks : Table TrackEntry) (c : Composition) : Composition :=
  { c with
    incomplete := some (if c.tracks.any fun t => (tracks.find t).isNone then .missing else .damaged)
    key := none
    reels := c.reels.map fun r => { r with
      picture := keepTrack tracks r.picture, sound := keepTrack tracks r.sound,
      subtitles := r.subtitles.map (keepTrack tracks) } }

/-- A track is not READY. -/
def notReady (tracks : Table TrackEntry) (t : Nat) : Bool :=
  match tracks.find t with
  | some e => !decide (e.status = .ready)
  | none => true

/-- READY compositions whose tracks are not all READY become INCOMPLETE (R10), each as its write is queued (R8). -/
def unsettleCompositions (s : State) : State :=
  (s.catalogue.compositions.filter fun p =>
      p.2.incomplete.isNone && p.2.tracks.any (notReady s.catalogue.tracks)).foldl (fun s p =>
    queueComposition p.1 (.enter (unsettle s.catalogue.tracks p.2) none) false false s) s

/-- Start-up begins (R16), or the store is not used (R1). -/
def beginStartUp (s : State) : State :=
  if s.store.size = 0 then raise .storeFault [] s else beginSweep .startup s

/-- A full reset (R10, R193). Of the writes of start-up the catalogue's stand first (R10), then the trim budget's (R59), then
the show log's (R177): no rule orders them across units (DESIGN CHOICE, assumption 44). -/
def fullReset (reported clockRan : Nat) (landed : Bool) (s : State) : State :=
  beginStartUp
    (startLog (testBudget false (unsettleCompositions (interruptFilling (loadNvm
      (resetUnits reported clockRan landed s))))))

/-- The full reset that follows the RESET FULL reply (R193): the port reports the size again, the part has kept its power,
and whether the write in progress is left whole is open (R10). -/
def resetAfterReply (s : State) : State :=
  fullReset s.store.reported 0 (Config.eitherWay s.freeUses) (useFree 1 s)

/-- FULL_RESET (R10). -/
def execFullReset (size clockRan : Nat) (landed : Bool) (s : State) : Result :=
  finish (fullReset size clockRan landed s)

/-! ### The show reset -/

/-- A show reset at the sequencer (R108). -/
def showResetSequencer (s : State) : State :=
  match s.seq.state with
  | .idle => s
  | .armed => enterIdle s
  | _ => endShow .showReset (endShowing .stopped s)

/-- A waiting frame becomes black, whichever showing it is of (R137). -/
def blackenLink (s : State) : State :=
  { s with frames := { s.frames with waiting := s.frames.waiting.map fun _ => .black } }

/-- The read run of the sound renderer is dropped (R143). -/
def dropReadRun (s : State) : State := { s with sound := { s.sound with run := none } }

/-- A show reset of every unit (R193): the show ends, a waiting frame becomes black (R129, R137), the sound renderer keeps no
portion and no read run (R143), the bindings and the counted mark clear (R75, R76), the compare units empty (R118) and the
outputs take their idle levels (R187). -/
def showReset (s : State) : State :=
  let t := dropReadRun (dropPreparedSound (dropPreparedFrames (showResetSequencer (blackenLink s))))
  let t := withdrawSequencerAsks (emptyUnits (fun _ => true) t)
  let t := updateKeys (fun k => { k with prepared := none, bound := none, counted := false }) t
  cutGather s { t with lines := t.lines.map Line.showReset }

end Machine
end Sys2Proof
end

