-- ==== Sys2Proof/Machine/Control.lean ====
section
/-!
DEFINITION. The control port and the notice unit (R188 to R197): the receiver, the requests of the port, and the frames the
part sends.
-/
namespace Sys2Proof
namespace Machine

open Layout

/-- The control port changed by `f`. -/
def updatePort (f : ControlPort → ControlPort) (s : State) : State := { s with port := f s.port }

/-! ### Frames the part sends (R188, R190, R195) -/

/-- The body of a reply frame. -/
def Reply.body' (r : Reply) : List Byte :=
  num 1 r.kind ++ code r.status.code ++ code ((r.reason.map Reason.code).getD 0) ++ r.body

/-- The notice body (R198). -/
def NoticeFrame.body (n : NoticeFrame) : List Byte :=
  num 1 (groupOf n.cause) ++ num 1 n.cause ++ num 1 n.count ++ flags [n.record.composition.isSome] ++
    num 4 n.record.time ++ num 1 (n.record.composition.getD 0) ++ num 1 0 ++ num 4 n.record.frame ++
    num 2 n.record.detail.length ++ n.record.detail

/-- The check of a frame: the sum, modulo 65,536, of its bytes from the length to the end of the body (R188). -/
def frameCheck (bytes : List Byte) : Nat := total (bytes.map (·.toNat)) % 65536

/-- A control frame (R188, R198). -/
def controlFrame (kind : Nat) (tag : Byte) (body : List Byte) : List Byte :=
  let inner := num 2 body.length ++ num 1 kind ++ [tag] ++ body
  0xA5#8 :: inner ++ num 2 (frameCheck inner)

/-- The bytes of a frame the part sends: reply 80h, notice 81h with tag 0. -/
def OutFrame.bytes : OutFrame → List Byte
  | .reply r => controlFrame 0x80 r.tag r.body'
  | .notice n => controlFrame 0x81 0#8 n.body

/-! ### The receiver (R188, R189) -/

/-- A frame in reception is discarded with the bytes `came` that arrive for it: it is counted by cause, and hunting resumes
in the bytes `again` (R188). In HUNTING there is no frame to discard. -/
def discardFrame (cause : Nat) (came again : List Byte) (s : State) : State :=
  if s.port.taking && s.port.inFrame then
    updatePort (fun p => ControlPort.hunting again { p.receive came with discards := bumpAt p.discards cause }) s
  else s

def DiscardCause.code : DiscardCause → Nat
  | .length _ => 0 | .check _ => 1

/-- The bytes that come with a discarding. -/
def DiscardCause.came : DiscardCause → List Byte
  | .length came => came | .check came => came

/-- CONTROL_FRAME_DISCARDED (R188): hunting resumes with the byte after the discarded frame's marker, in the bytes the
receiver holds and those that come with the command (DESIGN CHOICE, assumption 30). -/
def execControlFrameDiscarded (cause : DiscardCause) (s : State) : Result :=
  let came := DiscardCause.came cause
  finish (discardFrame (DiscardCause.code cause) came (s.port.held ++ came) s)

/-- FRAME_GAP_TIMEOUT (R188): 10 ms have passed between two bytes of a frame. Hunting resumes with the next byte received. -/
def execFrameGapTimeout (s : State) : Result := finish (discardFrame 2 [] [] s)

/-- The marker byte arrives: in HUNTING it puts the receiver IN FRAME with no byte after it yet, and IN FRAME it is a byte
of the frame in reception (R188). -/
def ControlPort.marker (p : ControlPort) : ControlPort :=
  if p.inFrame then p.receive [0xA5#8] else { p with inFrame := true, held := [], gapCycles := 0 }

/-- CONTROL_MARKER_FOUND (R188). -/
def execControlMarkerFound (s : State) : Result :=
  finish (if s.port.taking then updatePort ControlPort.marker s else s)

/-- UNKNOWN_REQUEST (R189): a taken frame of a kind the summary table does not assign. -/
def execUnknownRequest (kind : Nat) (tag : Byte) (s : State) : Result :=
  finish
    (if s.port.taking then
       immediateReply kind tag .unknown (updatePort ControlPort.taken s)
     else s)

/-- The completion of the frame being sent (R189, R191, R193): an owner's reply frees its slot, and the RESET FULL reply is
followed by a full reset. -/
def completeOutgoing (s : State) : State :=
  match s.port.sending with
  | none => s
  | some (.notice _) => updatePort (fun p => { p with sending := none }) s
  | some (.reply r) =>
    let s := updatePort (fun p => { p with
      sending := none
      slots := if r.immediate then p.slots else p.slots.filter fun x => !decide (x.tag = r.tag) }) s
    if r.kind = 52 && decide (r.status = .ok) then resetAfterReply s else s

/-- OUTGOING_SEND_COMPLETE (R191). -/
def execOutgoingSendComplete (s : State) : Result := finish (completeOutgoing s)

/-! ### Identity and status (R192) -/

/-- IDENTIFY (R192): the family name, the part number and the revision. -/
def serveIdentify (frame : Frame) (s : State) : State :=
  answerOk 50 frame ([0x57#8, 0x41#8, 0x4A#8, 0x47#8, 0x45#8, 0x4C#8] ++ num 2 2640 ++ [Config.revision]) s

/-- The store arbiter (R46): the clients that are waiting are six flags in one byte (DESIGN CHOICE, assumption 28). -/
def arbiterReport (a : Arbiter) : List Byte :=
  code (if a.current.isSome then 1 else 0) ++ opt (fun t => code (Client.code (StoreRequest.client (Transfer.request t)))) a.current ++
    opt (fun t => code (if Transfer.retry t then 1 else 0)) a.current ++
    flags ((List.range 6).map fun n => a.waiting.any fun r => decide (r.client.code = n)) ++ num 4 a.retries ++
    num 4 a.faults

/-- The window cache (R57). Its fills are listed in the order in which they were made (DESIGN CHOICE, assumption 19). One byte
counts them: by R52 three readers' fills and those of the sequencer's preparations for one PLAY can wait (assumption 27). -/
def cacheReport (c : Cache) : List Byte :=
  num 4 c.hits ++ num 4 c.misses ++ num 4 c.reads ++ num 4 c.replaced ++ c.ranges.flatMap (num 4) ++
    num 1 c.entries.length ++ rep 1 (fun f => num 2 (Fill.track f) ++ flag (Fill.stale f)) c.fills

/-- The number of causes due (R194). -/
def Notices.dueCount (n : Notices) : Nat :=
  ((List.range n.causes.length).filter fun k =>
    match n.causes[k]? with
    | some c => n.isDue k c
    | none => false).length

/-- The summary of every unit (R192). -/
def statusReport (s : State) : List Byte :=
  flag s.startUp ++ num 4 s.keys.clock ++ s.port.discards.flatMap (num 4) ++ num 4 s.port.unanswered ++
    num 1 s.port.slots.length ++ code s.seq.state.code ++ opt (num 1) (s.showing.map (·.play.id)) ++
    opt Pos.bytes s.seq.pos ++ code s.ingest.state.code ++ opt (fun p => num 4 (Prod.fst p)) s.ingest.package ++
    code (if s.free.sweep.isSome then 1 else 0) ++ num 3 (freeBlocks s.free.list) ++ num 1 s.queue.writes.length ++
    arbiterReport s.arbiter ++ cacheReport s.cache ++ code s.time.clock.code ++ code s.link.state.code ++
    flag s.interlocked ++ num 2 s.log.uncollected ++ num 1 (s.notices.causes.filter (·.pending)).length ++
    num 1 s.notices.dueCount

/-- STATUS (R192). -/
def serveStatus (frame : Frame) (s : State) : State := answerOk 51 frame (statusReport s) s

/-- RESET FULL (R193): the port takes no more frames, and the reset follows the reply. -/
def serveResetFull (frame : Frame) (s : State) : State :=
  answerOk 52 frame [] (updatePort (fun p => { p with taking := false }) s)

/-- RESET SHOW (R193). -/
def serveResetShow (frame : Frame) (s : State) : State := answerOk 53 frame [] (showReset s)

/-! ### The notice unit (R196, R197) -/

/-- The notice unit changed by `f`. -/
def updateNotices (f : Notices → Notices) (s : State) : State := { s with notices := f s.notices }

/-- The settings of NOTICE SETUP lie in their ranges (R197). -/
def setupFits (enables : BitVec 52) (levels : List Nat) (mask : Nat) : Bool :=
  (List.range 5).all (fun n => enables.getLsbD n) && decide (levels.length = 7) && levels.all (within 1 6) &&
    decide (mask ≤ 6)

/-- Every cause changed by a function of its number. -/
def mapCauses (f : Nat → Cause → Cause) (l : List Cause) : List Cause :=
  (List.range l.length).map fun n => f n (l.getD n (Cause.clear true))

/-- NOTICE SETUP (R197). -/
def serveNoticeSetup (frame : Frame) (enables : BitVec 52) (levels : List Nat) (mask : Nat) (s : State) : State :=
  if setupFits enables levels mask then
    answerOk 54 frame []
      (updateNotices (fun n => { n with
        causes := mapCauses (fun k c => { c with enabled := enables.getLsbD k }) n.causes
        levels := 7 :: levels
        mask := mask }) s)
  else refuse 54 frame .outOfRange s

/-- NOTICE CLEAR (R196): the reply carries, for each cause named, its count and its sent mark before the clear. -/
def serveNoticeClear (frame : Frame) (causes : BitVec 52) (s : State) : State :=
  let named := (List.range 52).filter fun k => causes.getLsbD k
  let held := named.filterMap fun k => s.notices.causes[k]?
  answerOk 55 frame (rep 1 (fun c => num 1 (Cause.count c) ++ flag (Cause.sent c)) held)
    (updateNotices (fun n => { n with
      causes := mapCauses (fun k c => if causes.getLsbD k then Cause.clear c.enabled else c) n.causes }) s)

/-- A latest record (R194). -/
def NoticeRecord.bytes (r : NoticeRecord) : List Byte :=
  num 4 r.time ++ opt (num 1) r.composition ++ num 3 r.frame ++ num 2 r.detail.length ++ r.detail

/-- NOTICE READ (R197). -/
def serveNoticeRead (frame : Frame) (s : State) : State :=
  answerOk 56 frame
    (s.notices.causes.flatMap (fun c =>
        flag c.pending ++ flag c.enabled ++ flag c.sent ++ num 1 c.count ++ opt NoticeRecord.bytes c.latest) ++
      s.notices.levels.flatMap (num 1) ++ num 1 s.notices.mask) s

/-! ### The commands -/

/-- IDENTIFY (R192). -/
def execIdentify (frame : Frame) (s : State) : Result :=
  request 50 frame (.identify frame) (serveIdentify frame) s

/-- STATUS (R192). -/
def execStatus (frame : Frame) (s : State) : Result := request 51 frame (.status frame) (serveStatus frame) s

/-- RESET FULL (R193). -/
def execResetFull (frame : Frame) (s : State) : Result :=
  request 52 frame (.resetFull frame) (serveResetFull frame) s

/-- RESET SHOW (R193). -/
def execResetShow (frame : Frame) (s : State) : Result :=
  request 53 frame (.resetShow frame) (serveResetShow frame) s

/-- NOTICE SETUP (R197). -/
def execNoticeSetup (frame : Frame) (enables : BitVec 52) (levels : List Nat) (mask : Nat) (s : State) : Result :=
  request 54 frame (.noticeSetup frame enables levels mask) (serveNoticeSetup frame enables levels mask) s

/-- NOTICE CLEAR (R196). -/
def execNoticeClear (frame : Frame) (causes : BitVec 52) (s : State) : Result :=
  request 55 frame (.noticeClear frame causes) (serveNoticeClear frame causes) s

/-- NOTICE READ (R197). -/
def execNoticeRead (frame : Frame) (s : State) : Result :=
  request 56 frame (.noticeRead frame) (serveNoticeRead frame) s

end Machine
end Sys2Proof
end

