-- ==== Sys2Proof/Machine/Requests.lean ====
section
/-!
DEFINITION. The write queue's events (R8, R9), and the requests that wait: behind another request of their owner (R189), or
for room in the queue (R8).
-/
namespace Sys2Proof
namespace Machine

open Layout

/-- What the owner of a request does with it. `turn`: it has waited for room, and its write can now be queued. -/
def serve (turn : Bool) : Instr → State → State
  | .trackList f first state => serveTrackList f first state
  | .trackDelete f track => serveTrackDelete turn f track
  | .compositionList f first => serveCompositionList f first
  | .compositionRead f id => serveCompositionRead f id
  | .compositionDelete f id => serveCompositionDelete turn f id
  | .storeStatus f => serveStoreStatus f
  | .storeSweep f => serveStoreSweep f
  | .ingestOpen f package mode => serveIngestOpen f package mode
  | .ingestClose f => serveIngestClose f
  | .ingestAbort f => serveIngestAbort f
  | .ingestStatus f => serveIngestStatus f
  | .clockRead f => serveClockRead f
  | .clockTrim f t => serveClockTrim turn f t
  | .grantLoad f key allowance start stop wrapped => serveGrantLoad turn f key allowance start stop wrapped
  | .grantList f => serveGrantList f
  | .grantRevoke f slot => serveGrantRevoke turn f slot
  | .grantPurge f slot => serveGrantPurge turn f slot
  | .grantCheck f => serveGrantCheck f
  | .checkInterval f n => serveCheckInterval f n
  | .listLoad f list part final entries => serveListLoad f list part final entries
  | .listRead f list first => serveListRead f list first
  | .showArm f list => serveShowArm f list
  | .showStart f => serveShowStart f
  | .pause f => answerTry 24 f tryPause
  | .resume f => answerTry 25 f tryResume
  | .go f => answerTry 26 f tryGo
  | .skip f => answerTry 27 f trySkip
  | .stop f => answerTry 28 f tryStop
  | .pauseLimit f n => servePauseLimit f n
  | .frameSource f source edge => serveFrameSource f source edge
  | .position f => servePosition f
  | .mark f => serveMark f
  | .captureRead f n => serveCaptureRead f n
  | .pair f projector => servePair turn f projector
  | .linkCheck f => serveLinkCheck f
  | .linkInterval f n => serveLinkInterval f n
  | .pictureStatus f => servePictureStatus f
  | .soundMapLoad f code routes => serveSoundMapLoad f code routes
  | .soundMapRead f code => serveSoundMapRead f code
  | .faderSet f target frames => serveFaderSet f target frames
  | .lipsyncSet f trim => serveLipsyncSet f trim
  | .soundStatus f => serveSoundStatus f
  | .streamSet f stream route offset => serveStreamSet f stream route offset
  | .subtitleStatus f => serveSubtitleStatus f
  | .logRead f first count => serveLogRead f first count
  | .logRelease f sequence => serveLogRelease f sequence
  | .lineSetup f line config => serveLineSetup f line config
  | .lineSet f mask values => serveLineSet f mask values
  | .lineRead f => serveLineRead f
  | .identify f => serveIdentify f
  | .status f => serveStatus f
  | .resetFull f => serveResetFull f
  | .resetShow f => serveResetShow f
  | .noticeSetup f enables levels mask => serveNoticeSetup f enables levels mask
  | .noticeClear f causes => serveNoticeClear f causes
  | .noticeRead f => serveNoticeRead f
  | _ => id

/-- The request with a tag is now taken by its owner. -/
def takeSlot (tag : Byte) (s : State) : State :=
  updatePort (fun p => { p with
    slots := p.slots.map fun r => if r.tag = tag then { r with phase := .waiting } else r }) s

/-- The first request not yet taken whose owner has nothing before it that waits (R189). -/
def nextDeferred (s : State) : Option (Byte × Instr) :=
  go s.port.slots []
where
  go : List RequestSlot → List Owner → Option (Byte × Instr)
    | [], _ => none
    | r :: rest, busy =>
      match r.phase with
      | .answered => go rest busy
      | .waiting => go rest (ownerOf r.kind :: busy)
      | .deferred c => if busy.contains (ownerOf r.kind) then go rest busy else some (r.tag, c)

/-- Owners take the requests that waited behind one now answered (R189); at most four slots are held. -/
def serveDeferred : Nat → State → State
  | 0, s => s
  | fuel + 1, s =>
    match nextDeferred s with
    | none => s
    | some (tag, c) => serveDeferred fuel (serve false c (takeSlot tag s))

/-- The end of a command that may have answered a request that waited. -/
def conclude (s : State) : Result := finish (serveDeferred 4 s)

/-- MAP_BLOCK_WRITE_COMPLETE (R2). -/
def execMapBlockWriteComplete (ok : Bool) (s : State) : Result := conclude (mapBlockWriteComplete ok s)

/-! ### The write queue (R8, R9) -/

/-- The place of a kind of write in the list of R8, and its identity (R9). -/
def Write.detail : Write → List Byte
  | .track id _ => code 0 ++ opt (num 4) (some id)
  | .composition id _ => code 1 ++ opt (num 4) (some id)
  | .grant slot _ => code 2 ++ opt (num 4) (some slot)
  | .log r => code 3 ++ opt (num 4) (some r.sequence)
  | .budget _ => code 4 ++ opt (num 4) none
  | .paired _ => code 5 ++ opt (num 4) none
  | .count _ => code 6 ++ opt (num 4) none

/-- The last queued write of a log record has completed (R172): none of it stands in the queue any more. -/
def completeLogWrite (w : Write) (s : State) : State :=
  match w with
  | .log r =>
    if s.queue.writes.any fun q =>
        match q.write with
        | .log x => decide (x.sequence = r.sequence)
        | _ => false
    then s
    else updateLog (fun l => { l with uncompleted := l.uncompleted.filter fun n => !decide (n = r.sequence) }) s
  | _ => s

/-- The head write has completed, with success or after its second failure (R8, R9). The count of NVM_FAULT events saturates
at 2^32 − 1 (DESIGN CHOICE, assumption 40). -/
def completeWrite (ok : Bool) (s : State) : State :=
  match s.queue.writes with
  | [] => s
  | w :: rest =>
    let s := { s with queue := { s.queue with writes := rest } }
    let s := completeLogWrite w.write s
    if ok then { s with nvm := s.nvm.apply w.write }
    else
      raise .nvmFault w.write.detail { s with queue := { s.queue with faults := bump max32 s.queue.faults } }

/-- NVM_WRITE_COMPLETE (R8, R9). -/
def execNvmWriteComplete (ok : Bool) (s : State) : Result := finish (completeWrite ok s)

/-- The longest-waiting requester queues its write (R8). A count that waits behind the write of its own showing's record is
queued after it, although that write then carries the closing too (DESIGN CHOICE, assumption 49). -/
def serveWaiter (w : Waiter) (s : State) : State :=
  match w with
  | .request c => serve true c s
  | .track id _ reply => releaseReply reply (pushTrack id s)
  | .composition id change _ closes =>
    let s := takeComposition id change s
    if closes then endPackage false s.ingest.resolved.1 s.ingest.resolved.2 s else s
  | .count c => performCount c s
  | .check => judgeGrants 33 true s
  | .budget => testBudget true s
  | .log => carryLog (queueLogHead s)

/-- A requester waits and the queue has room. -/
def State.waiterReady (s : State) : Bool := decide (s.queue.writes.length < 8) && !s.queue.waiters.isEmpty

/-- QUEUE_WAITING_WRITE (R8). -/
def queueWaiting (s : State) : State :=
  if s.waiterReady then
    match s.queue.waiters with
    | [] => s
    | w :: rest => pumpSegment (serveWaiter w { s with queue := { s.queue with waiters := rest } })
  else s

/-- QUEUE_WAITING_WRITE (R8). -/
def execQueueWaitingWrite (s : State) : Result := conclude (queueWaiting s)

end Machine
end Sys2Proof
end

