-- ==== Sys2Proof/Machine/Clock.lean ====
section
/-!
DEFINITION. What the part does of its own while no command waits (DESIGN CHOICE: the queue holds what comes from outside,
and an idle step lets the part go on by itself). An event whose conditions hold is taken, the first in a fixed order; with
none, one cycle of the 27 MHz reference passes, which moves every timer that runs on it (R34, R98, R101, R111, R133, R134,
R182, R188).
-/
namespace Sys2Proof
namespace Machine

/-- The picture reader can begin a frame (R125). -/
def State.canBeginFrame (s : State) : Bool :=
  decide (s.frames.places.length < 4) && !(s.frames.places.any fun p => decide (p.condition = .filling)) &&
    (nextFrame s).isSome

/-- The sound reader can begin a portion (R141). -/
def State.canBeginPortion (s : State) : Bool :=
  decide (s.sound.portions.length < 4) && !(s.sound.portions.any Portion.filling) && (nextPortion s).isSome

/-- The cache can begin a fill (R52). -/
def State.canBeginFill (s : State) : Bool := !(s.cache.fills.any (·.running)) && !s.cache.fills.isEmpty

/-- The generator's count has reached its limit: the divisor, or twice the divisor in LOCKED (R111, R113). A count already
past the divisor when FRAME SOURCE leaves LOCKED, or when a takeover brings a shorter period, is taken to have reached it
(DESIGN CHOICE, assumption 34). -/
def State.generatorDue (s : State) : Bool :=
  decide ((if s.time.clock = .locked then 2 else 1) * divisor s.time.rate ≤ s.time.count)

/-- The first input whose debounce timer has run for its whole debounce (R182). -/
def debounceDue (lines : List Line) : Option Nat :=
  (List.range lines.length).find? fun n =>
    match lines[n]? with
    | some l =>
      match l.timer with
      | some (_, cycles) => decide (l.debounce * Config.cyclesPerMs ≤ cycles)
      | none => false
    | none => false

/-- A timer has reached a number of milliseconds. -/
def msReached (timer : Option Nat) (ms : Nat) : Bool :=
  match timer with
  | some t => decide (ms * Config.cyclesPerMs ≤ t)
  | none => false

/-- The wait timer has reached the WAIT's timeout (R98). -/
def State.waitDue (s : State) : Bool :=
  decide (s.seq.state = .waiting) &&
    (match s.seq.waitLimit with
     | some limit => timerReached s.seq.waitTimer limit
     | none => false)

/-- The pause timer has reached a limit other than 0 (R101). -/
def State.pauseDue (s : State) : Bool :=
  decide (s.seq.state = .paused) && decide (s.seq.pauseLimit ≠ 0) && timerReached s.seq.pauseTimer s.seq.pauseLimit

/-- The link interval has run out (R134). -/
def State.linkIntervalDue (s : State) : Bool := decide (s.link.interval * Config.cyclesPerSecond ≤ s.link.counter)

/-- No segment has been taken for 1 ms while a gather is open (R34). -/
def State.gatherDue (s : State) : Bool := s.ingest.gather.isSome && decide (Config.cyclesPerMs ≤ s.ingest.idleCycles)

/-- What the bytes of the frame in reception come to: the request of a taken frame, or a discarding for the length or the
check; none while the frame is not whole (R188). -/
def State.frameRead (s : State) : Option Instr :=
  if s.port.taking && s.port.inFrame then decodeFrame s.port.held else none

/-- 10 ms have passed since the last byte of a frame in reception (R188). -/
def State.gapDue (s : State) : Bool :=
  s.port.taking && s.port.inFrame && decide (10 * Config.cyclesPerMs ≤ s.port.gapCycles)

/-- Events whose conditions hold in the state itself, without a timer. -/
def stateEvent (s : State) : Option Instr :=
  if s.waiterReady then some .queueWaitingWrite
  else if s.closeReady then some .packageCloseComplete
  else if s.canBeginFill then some .windowFillBegin
  else if s.canBeginFrame then some .pictureReaderBeginFrame
  else if s.canBeginPortion then some .soundReaderBeginPortion
  else if s.subs.loader.isNone && (nextLoad s).isSome then some .subtitleLoadBegin
  else if s.keys.requester = .pending && !s.countInFlight then some .windowCheckBegin
  else if s.checkDone then some .windowCheckEnd
  else if s.intervalDue then some .checkIntervalExpiry
  else if s.link.requester = .pending && s.frames.sending.isNone then some .linkCheckBegin
  else none

/-- Events of the timers that run on the reference clock. -/
def timerEvent (s : State) : Option Instr :=
  if s.generatorDue then some (if s.time.clock = .locked then .syncLoss else .generatorTick)
  else if s.gatherDue then some .gatherIdleTimeout
  else if s.gapDue then some .frameGapTimeout
  else if s.waitDue then some .waitTimeout
  else if s.pauseDue then some .pauseLimitExpiry
  else if msReached s.link.answerTimer 500 then some .answerTimeout
  else if s.linkIntervalDue then some .linkIntervalExpiry
  else
    match debounceDue s.lines with
    | some n => some (.debounceExpiry n)
    | none => none

/-- The event the part takes next by itself: what the bytes of the control link come to, an event whose conditions hold, or
one of a timer. -/
def ownEvent (s : State) : Option Instr := s.frameRead <|> stateEvent s <|> timerEvent s

/-- A running timer after one more cycle. -/
def runTimer (t : Option Nat) : Option Nat := t.map (· + 1)

/-- The debounce timer of a line after one more cycle. -/
def Line.runTimer (l : Line) : Line := { l with timer := l.timer.map fun t => (t.1, t.2 + 1) }

/-- One cycle of the 27 MHz reference passes. -/
def elapse (s : State) : State :=
  { s with
    time := { s.time with count := s.time.count + 1 }
    ingest := { s.ingest with idleCycles := if s.ingest.gather.isSome then s.ingest.idleCycles + 1 else 0 }
    seq := { s.seq with waitTimer := Machine.runTimer s.seq.waitTimer, pauseTimer := Machine.runTimer s.seq.pauseTimer }
    link := { s.link with answerTimer := Machine.runTimer s.link.answerTimer, counter := s.link.counter + 1 }
    port := { s.port with gapCycles := if s.port.taking && s.port.inFrame then s.port.gapCycles + 1 else 0 }
    lines := s.lines.map Line.runTimer }

end Machine
end Sys2Proof
end

