-- ==== Sys2Proof/Machine/Dispatch.lean ====
section
/-!
DEFINITION. The meaning of each command: one arm per row of the table.
-/
namespace Sys2Proof
namespace Machine

def exec (i : Instr) (s : State) : Host.Outcome State Fault Refusal :=
  match i with
  | .fullReset size clockRan landed => Sys2Proof.Machine.execFullReset size clockRan landed s
  | .segmentTaken segment => Sys2Proof.Machine.execSegmentTaken segment s
  | .gatherIdleTimeout => Sys2Proof.Machine.execGatherIdleTimeout s
  | .mapBlockWriteComplete ok => Sys2Proof.Machine.execMapBlockWriteComplete ok s
  | .ingestWriteComplete ok => Sys2Proof.Machine.execIngestWriteComplete ok s
  | .packageCloseComplete => Sys2Proof.Machine.execPackageCloseComplete s
  | .sweepReadComplete ok => Sys2Proof.Machine.execSweepReadComplete ok s
  | .storeRetry => Sys2Proof.Machine.execStoreRetry s
  | .pictureTransferComplete ok => Sys2Proof.Machine.execPictureTransferComplete ok s
  | .pictureReaderBeginFrame => Sys2Proof.Machine.execPictureReaderBeginFrame s
  | .windowFillBegin => Sys2Proof.Machine.execWindowFillBegin s
  | .windowFillComplete ok => Sys2Proof.Machine.execWindowFillComplete ok s
  | .soundReaderBeginPortion => Sys2Proof.Machine.execSoundReaderBeginPortion s
  | .soundTransferComplete ok => Sys2Proof.Machine.execSoundTransferComplete ok s
  | .subtitleLoadBegin => Sys2Proof.Machine.execSubtitleLoadBegin s
  | .subtitleTransferComplete ok => Sys2Proof.Machine.execSubtitleTransferComplete ok s
  | .nvmWriteComplete ok => Sys2Proof.Machine.execNvmWriteComplete ok s
  | .queueWaitingWrite => Sys2Proof.Machine.execQueueWaitingWrite s
  | .secondEvent => Sys2Proof.Machine.execSecondEvent s
  | .checkIntervalExpiry => Sys2Proof.Machine.execCheckIntervalExpiry s
  | .windowCheckBegin => Sys2Proof.Machine.execWindowCheckBegin s
  | .windowCheckEnd => Sys2Proof.Machine.execWindowCheckEnd s
  | .frameSyncEdge rising => Sys2Proof.Machine.execFrameSyncEdge rising s
  | .generatorTick => Sys2Proof.Machine.execGeneratorTick s
  | .syncLoss => Sys2Proof.Machine.execSyncLoss s
  | .lookahead => Sys2Proof.Machine.execLookahead s
  | .boundary => Sys2Proof.Machine.execBoundary s
  | .waitTimeout => Sys2Proof.Machine.execWaitTimeout s
  | .pauseLimitExpiry => Sys2Proof.Machine.execPauseLimitExpiry s
  | .repeatLimit => Sys2Proof.Machine.execRepeatLimit s
  | .fadeEnd => Sys2Proof.Machine.execFadeEnd s
  | .pulseEnd line => Sys2Proof.Machine.execPulseEnd line s
  | .linkSendComplete => Sys2Proof.Machine.execLinkSendComplete s
  | .linkCheckBegin => Sys2Proof.Machine.execLinkCheckBegin s
  | .projectorAnswer challenge projector => Sys2Proof.Machine.execProjectorAnswer challenge projector s
  | .answerTimeout => Sys2Proof.Machine.execAnswerTimeout s
  | .linkIntervalExpiry => Sys2Proof.Machine.execLinkIntervalExpiry s
  | .seatRecordComplete => Sys2Proof.Machine.execSeatRecordComplete s
  | .inputPinChange line high => Sys2Proof.Machine.execInputPinChange line high s
  | .debounceExpiry line => Sys2Proof.Machine.execDebounceExpiry line s
  | .controlFrameDiscarded cause => Sys2Proof.Machine.execControlFrameDiscarded cause s
  | .frameGapTimeout => Sys2Proof.Machine.execFrameGapTimeout s
  | .unknownRequest kind tag => Sys2Proof.Machine.execUnknownRequest kind tag s
  | .outgoingSendComplete => Sys2Proof.Machine.execOutgoingSendComplete s
  | .trackList frame first state => Sys2Proof.Machine.execTrackList frame first state s
  | .trackDelete frame track => Sys2Proof.Machine.execTrackDelete frame track s
  | .compositionList frame first => Sys2Proof.Machine.execCompositionList frame first s
  | .compositionRead frame composition => Sys2Proof.Machine.execCompositionRead frame composition s
  | .compositionDelete frame composition => Sys2Proof.Machine.execCompositionDelete frame composition s
  | .storeStatus frame => Sys2Proof.Machine.execStoreStatus frame s
  | .storeSweep frame => Sys2Proof.Machine.execStoreSweep frame s
  | .ingestOpen frame package mode => Sys2Proof.Machine.execIngestOpen frame package mode s
  | .ingestClose frame => Sys2Proof.Machine.execIngestClose frame s
  | .ingestAbort frame => Sys2Proof.Machine.execIngestAbort frame s
  | .ingestStatus frame => Sys2Proof.Machine.execIngestStatus frame s
  | .clockRead frame => Sys2Proof.Machine.execClockRead frame s
  | .clockTrim frame seconds => Sys2Proof.Machine.execClockTrim frame seconds s
  | .grantLoad frame key allowance start stop wrapped => Sys2Proof.Machine.execGrantLoad frame key allowance start stop wrapped s
  | .grantList frame => Sys2Proof.Machine.execGrantList frame s
  | .grantRevoke frame slot => Sys2Proof.Machine.execGrantRevoke frame slot s
  | .grantPurge frame slot => Sys2Proof.Machine.execGrantPurge frame slot s
  | .grantCheck frame => Sys2Proof.Machine.execGrantCheck frame s
  | .checkInterval frame seconds => Sys2Proof.Machine.execCheckInterval frame seconds s
  | .listLoad frame list part final entries => Sys2Proof.Machine.execListLoad frame list part final entries s
  | .listRead frame list first => Sys2Proof.Machine.execListRead frame list first s
  | .showArm frame list => Sys2Proof.Machine.execShowArm frame list s
  | .showStart frame => Sys2Proof.Machine.execShowStart frame s
  | .pause frame => Sys2Proof.Machine.execPause frame s
  | .resume frame => Sys2Proof.Machine.execResume frame s
  | .go frame => Sys2Proof.Machine.execGo frame s
  | .skip frame => Sys2Proof.Machine.execSkip frame s
  | .stop frame => Sys2Proof.Machine.execStop frame s
  | .pauseLimit frame seconds => Sys2Proof.Machine.execPauseLimit frame seconds s
  | .frameSource frame source edge => Sys2Proof.Machine.execFrameSource frame source edge s
  | .position frame => Sys2Proof.Machine.execPosition frame s
  | .mark frame => Sys2Proof.Machine.execMark frame s
  | .captureRead frame count => Sys2Proof.Machine.execCaptureRead frame count s
  | .pair frame projector => Sys2Proof.Machine.execPair frame projector s
  | .linkCheck frame => Sys2Proof.Machine.execLinkCheck frame s
  | .linkInterval frame seconds => Sys2Proof.Machine.execLinkInterval frame seconds s
  | .pictureStatus frame => Sys2Proof.Machine.execPictureStatus frame s
  | .soundMapLoad frame code routes => Sys2Proof.Machine.execSoundMapLoad frame code routes s
  | .soundMapRead frame code => Sys2Proof.Machine.execSoundMapRead frame code s
  | .faderSet frame target frames => Sys2Proof.Machine.execFaderSet frame target frames s
  | .lipsyncSet frame trim => Sys2Proof.Machine.execLipsyncSet frame trim s
  | .soundStatus frame => Sys2Proof.Machine.execSoundStatus frame s
  | .streamSet frame stream route offset => Sys2Proof.Machine.execStreamSet frame stream route offset s
  | .subtitleStatus frame => Sys2Proof.Machine.execSubtitleStatus frame s
  | .logRead frame first count => Sys2Proof.Machine.execLogRead frame first count s
  | .logRelease frame sequence => Sys2Proof.Machine.execLogRelease frame sequence s
  | .lineSetup frame line config => Sys2Proof.Machine.execLineSetup frame line config s
  | .lineSet frame mask values => Sys2Proof.Machine.execLineSet frame mask values s
  | .lineRead frame => Sys2Proof.Machine.execLineRead frame s
  | .identify frame => Sys2Proof.Machine.execIdentify frame s
  | .status frame => Sys2Proof.Machine.execStatus frame s
  | .resetFull frame => Sys2Proof.Machine.execResetFull frame s
  | .resetShow frame => Sys2Proof.Machine.execResetShow frame s
  | .noticeSetup frame enables levels mask => Sys2Proof.Machine.execNoticeSetup frame enables levels mask s
  | .noticeClear frame causes => Sys2Proof.Machine.execNoticeClear frame causes s
  | .noticeRead frame => Sys2Proof.Machine.execNoticeRead frame s
  | .controlMarkerFound => Sys2Proof.Machine.execControlMarkerFound s

end Machine
end Sys2Proof
end

