-- ==== Sys2Proof/Machine/Step.lean ====
section
/-!
DEFINITION. One step: the command at the front of the queue is executed; with none waiting the part goes on by itself.
-/
namespace Sys2Proof
namespace Machine

/-- A step with no command waiting: the event that is due in the part, or one cycle of the reference clock. -/
def idleStep (s : State) : Result :=
  match ownEvent s with
  | some c => exec c s
  | none => .next (elapse s)

/-- One step. -/
def step (s : State) : Host.Outcome State Fault Refusal :=
  match s.pending with
  | c :: rest => exec c { s with pending := rest }
  | [] => idleStep s

/-- The state with the command that a table word spells put at the front of its queue. The table gives no row any bits,
so no word spells a command. -/
def State.withFetchWord (s : State) (nbits w : Nat) : State :=
  match Sys2Proof.decodeTableWord nbits w with
  | some c => { s with pending := c :: s.pending }
  | none => s

end Machine
end Sys2Proof
end

