-- ==== Sys2Proof/WellFormed.lean ====
section
/-!
DEFINITION. Well-formed commands: every field has a value that its bytes can carry (R198), and a segment brings the payload
its length says (R26). A value outside a field's permitted range is well formed: the owning unit judges it.
-/
namespace Sys2Proof

/-- A number that `k` bytes can carry. -/
def holds (k n : Nat) : Bool := decide (n < 256 ^ k)

/-- A number that may be absent. -/
def holdsOpt (k : Nat) : Option Nat → Bool
  | some n => holds k n
  | none => true

/-- A two's complement number that `k` bytes can carry. -/
def holdsInt (k : Nat) (i : Int) : Bool := decide (-(256 ^ k : Nat) ≤ 2 * i) && decide (2 * i < (256 ^ k : Nat))

/-- A segment of the ingest port (R26): the fields of its header, and a payload of the length it gives. The payload of a
segment longer than one block is not kept. -/
def Segment.wellFormed (g : Segment) : Bool :=
  holds 4 g.package && holds 4 g.index && holds 4 g.length && holds 4 g.check && holds 1 g.track &&
    decide (g.payload.length = if Config.blockBytes < g.length then 0 else g.length)

/-- A cue action (R82). -/
def CueAction.wellFormed : CueAction → Bool
  | .setLines _ _ => true
  | .pulseLine line width => holds 1 line && holds 1 width
  | .fader target frames => holds 2 target && holds 2 frames
  | .notice number => holds 2 number

/-- The base of a cue record (R82). -/
def CueBase.wellFormed : CueBase → Bool
  | .fromStart | .fromEnd => true
  | .other code => holds 1 code && !decide (code < 2)

/-- A cue record (R82). -/
def CueRecord.wellFormed (c : CueRecord) : Bool := holds 3 c.offset && c.base.wellFormed && c.action.wellFormed

/-- An entry of a show list (R81). -/
def Entry.wellFormed : Entry → Bool
  | .play composition first last cues =>
    holds 1 composition && holdsOpt 1 first && holdsOpt 1 last && holds 1 cues.length && cues.all (·.wellFormed)
  | .black frames => holds 2 frames
  | .wait timeout => holdsOpt 2 timeout
  | .setLines _ _ => true
  | .incl list => holds 1 list

/-- The routes of SOUND MAP LOAD (R147): 24, or the remove flag. -/
def routesWellFormed : Option (List Route) → Bool
  | some routes => decide (routes.length = 24) && routes.all fun r => holdsOpt 1 r.source && holds 2 r.gain
  | none => true

/-- The configuration of LINE SETUP (R179). -/
def LineRequest.wellFormed : LineRequest → Bool
  | .output idle safe => holds 1 idle && holds 1 safe
  | .input condition debounce function => holds 1 condition && holds 1 debounce && holds 1 function
  | .other direction => holds 1 direction && !decide (direction < 2)

/-- A line number (R178). -/
def isLine (n : Nat) : Bool := decide (n < 16)

/-- A command is well formed. -/
def Instr.wellFormed : Instr → Bool
  | .fullReset _ _ _ | .gatherIdleTimeout | .mapBlockWriteComplete _ | .ingestWriteComplete _ | .packageCloseComplete
  | .sweepReadComplete _ | .storeRetry | .pictureTransferComplete _ | .pictureReaderBeginFrame | .windowFillBegin
  | .windowFillComplete _ | .soundReaderBeginPortion | .soundTransferComplete _ | .subtitleLoadBegin
  | .subtitleTransferComplete _ | .nvmWriteComplete _ | .queueWaitingWrite | .secondEvent | .checkIntervalExpiry
  | .windowCheckBegin | .windowCheckEnd | .frameSyncEdge _ | .generatorTick | .syncLoss | .lookahead | .boundary
  | .waitTimeout | .pauseLimitExpiry | .repeatLimit | .fadeEnd | .linkSendComplete | .linkCheckBegin | .answerTimeout
  | .linkIntervalExpiry | .seatRecordComplete | .controlFrameDiscarded _ | .frameGapTimeout | .outgoingSendComplete
  | .storeStatus _ | .storeSweep _ | .ingestClose _ | .ingestAbort _ | .ingestStatus _ | .clockRead _ | .grantList _
  | .grantCheck _ | .showStart _ | .pause _ | .resume _ | .go _ | .skip _ | .stop _ | .position _ | .mark _
  | .linkCheck _ | .pictureStatus _ | .soundStatus _ | .subtitleStatus _ | .lineSet _ _ _ | .lineRead _ | .identify _
  | .status _ | .resetFull _ | .resetShow _ | .noticeClear _ _ | .noticeRead _ | .controlMarkerFound => true
  | .segmentTaken g => g.wellFormed
  | .pulseEnd line => isLine line
  | .projectorAnswer challenge projector => holds 1 challenge && holds 4 projector
  | .inputPinChange line _ => isLine line
  | .debounceExpiry line => isLine line
  | .unknownRequest kind _ => holds 1 kind && (decide (kind = 0) || decide (56 < kind))
  | .trackList _ first state => holds 2 first && holdsOpt 1 state
  | .trackDelete _ track => holds 2 track
  | .compositionList _ first => holds 1 first
  | .compositionRead _ composition => holds 1 composition
  | .compositionDelete _ composition => holds 1 composition
  | .ingestOpen _ package mode => holds 4 package && holds 1 mode
  | .clockTrim _ seconds => holdsInt 4 seconds
  | .grantLoad _ key allowance opens closes wrapped =>
    holds 2 key && holds 2 allowance && holds 4 opens && holds 4 closes && decide (wrapped.length = 48)
  | .grantRevoke _ slot => holds 1 slot
  | .grantPurge _ slot => holds 1 slot
  | .checkInterval _ seconds => holds 2 seconds
  | .listLoad _ list part _ entries =>
    holds 1 list && holds 1 part && holds 1 entries.length && entries.all (·.wellFormed)
  | .listRead _ list first => holds 1 list && holds 2 first
  | .showArm _ list => holds 1 list
  | .pauseLimit _ seconds => holds 2 seconds
  | .frameSource _ source edge => holds 1 source && holdsOpt 1 edge
  | .captureRead _ count => holds 1 count
  | .pair _ projector => holds 4 projector
  | .linkInterval _ seconds => holds 2 seconds
  | .soundMapLoad _ code routes => holds 1 code && routesWellFormed routes
  | .soundMapRead _ code => holds 1 code
  | .faderSet _ target frames => holds 2 target && holds 2 frames
  | .lipsyncSet _ trim => holdsInt 2 trim
  | .streamSet _ stream route offset => holds 1 stream && holds 1 route && holdsInt 2 offset
  | .logRead _ first count => holds 4 first && holds 1 count
  | .logRelease _ sequence => holds 4 sequence
  | .lineSetup _ line config => holds 1 line && config.wellFormed
  | .noticeSetup _ _ levels mask => decide (levels.length = 7) && levels.all (holds 1) && holds 1 mask

end Sys2Proof
end

