-- ==== Sys2Proof/Safety.lean ====
section
/-!
DEFINITION. The terms in which claims about the part are made: when a request reaches its owner at once, the port a reply
leaves, the laws that every step keeps, and what counts as a safe run.
-/
namespace Sys2Proof
namespace Machine

/-! ### Requests -/

/-- The kind and the frame of a command that is a request of the summary table. -/
def requestOf : Instr → Option (Nat × Frame)
  | .trackList f _ _ => some (1, f)
  | .trackDelete f _ => some (2, f)
  | .compositionList f _ => some (3, f)
  | .compositionRead f _ => some (4, f)
  | .compositionDelete f _ => some (5, f)
  | .storeStatus f => some (6, f)
  | .storeSweep f => some (7, f)
  | .ingestOpen f _ _ => some (8, f)
  | .ingestClose f => some (9, f)
  | .ingestAbort f => some (10, f)
  | .ingestStatus f => some (11, f)
  | .clockRead f => some (12, f)
  | .clockTrim f _ => some (13, f)
  | .grantLoad f _ _ _ _ _ => some (14, f)
  | .grantList f => some (15, f)
  | .grantRevoke f _ => some (16, f)
  | .grantPurge f _ => some (17, f)
  | .grantCheck f => some (18, f)
  | .checkInterval f _ => some (19, f)
  | .listLoad f _ _ _ _ => some (20, f)
  | .listRead f _ _ => some (21, f)
  | .showArm f _ => some (22, f)
  | .showStart f => some (23, f)
  | .pause f => some (24, f)
  | .resume f => some (25, f)
  | .go f => some (26, f)
  | .skip f => some (27, f)
  | .stop f => some (28, f)
  | .pauseLimit f _ => some (29, f)
  | .frameSource f _ _ => some (30, f)
  | .position f => some (31, f)
  | .mark f => some (32, f)
  | .captureRead f _ => some (33, f)
  | .pair f _ => some (34, f)
  | .linkCheck f => some (35, f)
  | .linkInterval f _ => some (36, f)
  | .pictureStatus f => some (37, f)
  | .soundMapLoad f _ _ => some (38, f)
  | .soundMapRead f _ => some (39, f)
  | .faderSet f _ _ => some (40, f)
  | .lipsyncSet f _ => some (41, f)
  | .soundStatus f => some (42, f)
  | .streamSet f _ _ _ => some (43, f)
  | .subtitleStatus f => some (44, f)
  | .logRead f _ _ => some (45, f)
  | .logRelease f _ => some (46, f)
  | .lineSetup f _ _ => some (47, f)
  | .lineSet f _ _ => some (48, f)
  | .lineRead f => some (49, f)
  | .identify f => some (50, f)
  | .status f => some (51, f)
  | .resetFull f => some (52, f)
  | .resetShow f => some (53, f)
  | .noticeSetup f _ _ _ => some (54, f)
  | .noticeClear f _ => some (55, f)
  | .noticeRead f => some (56, f)
  | .fullReset _ _ _ | .segmentTaken _ | .gatherIdleTimeout | .mapBlockWriteComplete _ | .ingestWriteComplete _
  | .packageCloseComplete | .sweepReadComplete _ | .storeRetry | .pictureTransferComplete _ | .pictureReaderBeginFrame
  | .windowFillBegin | .windowFillComplete _ | .soundReaderBeginPortion | .soundTransferComplete _ | .subtitleLoadBegin
  | .subtitleTransferComplete _ | .nvmWriteComplete _ | .queueWaitingWrite | .secondEvent | .checkIntervalExpiry
  | .windowCheckBegin | .windowCheckEnd | .frameSyncEdge _ | .generatorTick | .syncLoss | .lookahead | .boundary
  | .waitTimeout | .pauseLimitExpiry | .repeatLimit | .fadeEnd | .pulseEnd _ | .linkSendComplete | .linkCheckBegin
  | .projectorAnswer _ _ | .answerTimeout | .linkIntervalExpiry | .seatRecordComplete | .inputPinChange _ _
  | .debounceExpiry _ | .controlFrameDiscarded _ | .frameGapTimeout | .unknownRequest _ _ | .outgoingSendComplete
  | .controlMarkerFound => none

/-- A frame of a request kind passes to its owner at once (R189): the port takes frames, fewer than four requests are
outstanding, none of them carries the tag, the body fits, start-up does not stand against it, and no earlier request of
the owner waits. -/
def State.accepts (kind : Nat) (f : Frame) (s : State) : Prop :=
  s.port.taking = true ∧ s.port.slots.length < 4 ∧ (∀ r ∈ s.port.slots, r.tag ≠ f.tag) ∧ f.fits = true ∧
    (s.startUp = true → storeUsing kind = false) ∧ ownerBusy kind s = false

/-- A request has been taken: the receiver has left its frame (R188) and the request holds a slot. -/
def State.received (kind : Nat) (f : Frame) (s : State) : State :=
  { s with port := { s.port.taken with
      slots := s.port.slots ++ [{ tag := f.tag, kind := kind, phase := .waiting }] } }

/-- The port after a reply has become ready and the outgoing direction has chosen (R191): the reply that became ready
first is sent. -/
def ControlPort.offer (r : Reply) (p : ControlPort) : ControlPort :=
  match p.sending, p.replies with
  | none, [] => { p with sending := some (.reply r) }
  | none, first :: rest => { p with sending := some (.reply first), replies := rest ++ [r] }
  | some _, l => { p with replies := l ++ [r] }

/-- The port after a request has been taken and answered by its owner. -/
def ControlPort.answers (kind : Nat) (f : Frame) (status : Status) (reason : Option Reason) (body : List Byte)
    (p : ControlPort) : ControlPort :=
  ControlPort.offer { tag := f.tag, kind := kind, status := status, reason := reason, body := body, immediate := false }
    { p.taken with slots := p.slots ++ [{ tag := f.tag, kind := kind, phase := .answered }] }

/-- The state with its request taken and answered. -/
def State.answering (kind : Nat) (f : Frame) (status : Status) (reason : Option Reason) (body : List Byte) (s : State) :
    State :=
  { s with port := s.port.answers kind f status reason body }

/-- Answered OK. -/
def State.ok (kind : Nat) (f : Frame) (body : List Byte) (s : State) : State := s.answering kind f .ok none body

/-- Refused. -/
def State.no (kind : Nat) (f : Frame) (reason : Reason) (s : State) : State :=
  s.answering kind f .refused (some reason) []

/-! ### Laws of the state -/

/-- The one form of the store's blocks: their numbers rise, and a listed data block ends in a byte that is not zero, so
that it differs from what an unlisted block reads as. -/
def StoreBlock.canonical : StoreBlock → Bool
  | .map _ => true
  | .data b =>
    match b.getLast? with
    | some x => !decide (x = 0#8)
    | none => false

/-- The store is in its one form. -/
def Store.wf (st : Store) : Bool := Table.rising st.blocks && st.blocks.all fun p => p.2.canonical

/-- The law of the write queue (R8): it holds up to 8 writes. -/
def State.queueBounded (s : State) : Prop := s.queue.writes.length ≤ 8

/-- The law of the control port (R189): at most four requests are outstanding, and no two carry one tag. -/
def State.slotsSound (s : State) : Prop := s.port.slots.length ≤ 4 ∧ (s.port.slots.map (·.tag)).Nodup

/-- The law of the free-extent list (R11): ordered by first block, none empty, no two overlapping or adjacent. -/
def freeListSound : List Run → Bool
  | [] => true
  | [r] => decide (0 < r.length)
  | r :: x :: rest => decide (0 < r.length) && decide (r.first + r.length < x.first) && freeListSound (x :: rest)

/-- Extents cover consecutive track blocks from one on, in ascending store order (R2). -/
def extentsFrom : Nat → Nat → List Extent → Bool
  | _, _, [] => true
  | block, store, e :: rest =>
    decide (e.block = block) && decide (store ≤ e.store) && decide (0 < e.length) &&
      extentsFrom (block + e.length) (e.store + e.length) rest

/-- An extent's run of store blocks. -/
def Extent.run (x : Extent) : Run := { first := x.store, length := x.length }

/-- Two runs share no block. -/
def Run.apart (a b : Run) : Prop := a.first + a.length ≤ b.first ∨ b.first + b.length ≤ a.first

/-- A block lies in one of the runs. -/
def inRuns (l : List Run) (block : Nat) : Prop := ∃ r ∈ l, r.first ≤ block ∧ block < r.first + r.length

/-- The law of the data area (R2, R11): the free list in its form, no block in two places of the free list and the tracks'
extents together, every extent of at least one block, and extents only of tracks that have some. -/
def State.accounts (s : State) : Prop :=
  freeListSound s.free.list = true ∧ s.catalogue.tracks.rising = true ∧ s.catalogue.extents.rising = true ∧
    ((s.catalogue.extents.flatMap (·.2)).map Extent.run ++ s.free.list).Pairwise Run.apart ∧
    ∀ p ∈ s.catalogue.extents, (∀ x ∈ p.2, 0 < x.length) ∧
      (p.2 = [] ∨ ∃ q ∈ s.catalogue.tracks, q.1 = p.1 ∧ 0 < q.2.extentCount)

/-- The law of the trim budget (R59): the magnitude used never exceeds 600 seconds, in the part, in nonvolatile memory and in
the writes on their way there. -/
def State.budgetWithin (s : State) : Prop :=
  s.keys.budget.used ≤ 600 ∧ s.nvm.budget.used ≤ 600 ∧ ∀ w ∈ s.queue.writes, ∀ b, w.write = .budget b → b.used ≤ 600

/-- The law of the grant table (R61): shows counted never exceeds the allowance. -/
def State.showsWithin (s : State) : Prop := ∀ p ∈ s.keys.grants, p.2.shows ≤ p.2.allowance

/-- The law of the lists (R80): all lists together hold at most 256 entries and 512 cue records. -/
def State.poolsBounded (s : State) : Prop := s.seq.lists.flatten.length ≤ 256 ∧ cueCount s.seq.lists.flatten ≤ 512

/-- The steps of a path acted on from a stack of `depth` positions keep it at 4 or fewer (R86). -/
def nestingFits : Nat → List PathStep → Bool
  | depth, [] => decide (depth ≤ 4)
  | depth, .push _ _ :: rest => decide (depth ≤ 4) && nestingFits (depth + 1) rest
  | depth, .pop _ :: rest => decide (depth ≤ 4) && nestingFits (depth - 1) rest
  | depth, _ :: rest => nestingFits depth rest

/-- The law of the nesting stack (R86): it never holds more than 4 positions, nor does the recorded path take it there. -/
def State.nestingBounded (s : State) : Prop :=
  nestingFits s.seq.stack.length ((s.seq.path.map (·.steps)).getD []) = true

/-- The laws that every step keeps. -/
def State.lawful (s : State) : Prop := s.queueBounded ∧ s.slotsSound ∧ s.store.wf = true

/-- A safe run: `k` steps that end neither in a fault nor in a refusal, in a state that keeps the laws. -/
def safeRun (k : Nat) (s : State) : Prop :=
  match Sys2Proof.core.run k s with
  | .next t => State.lawful t
  | .fault _ => False
  | .refused _ => False

end Machine
end Sys2Proof
end

