-- ==== Sys2Proof/Certificates/Slice0/Obligations.lean ====
section
/-!
DEFINITION. The statements for the provers. A statement about a request speaks of one that reaches its owner at once
(`State.accepts`, R189), and gives the whole next state: what it does not name is unchanged.
An assumption is a row of notes/assumptions; where a docstring names one, that part of the statement is the model's.
-/
open Sys2Proof Sys2Proof.Machine

/-! ### The queue of commands -/

/-- A step takes the command at the front of the queue and is `exec` of it on the state with the queue's rest. The model's
choices in it: assumption 1. -/
def Obligations.StepTakesTheFrontCommand : Prop :=
  ∀ (c : Instr) (rest : List Instr) (s : State), s.pending = c :: rest →
    Sys2Proof.Machine.step s = Sys2Proof.Machine.exec c { s with pending := rest }

/-- No command ends in a fault or a refusal, and none of them touches the queue of commands. The model's choices in it:
assumption 1. -/
def Obligations.CommandsLeaveTheQueue : Prop :=
  ∀ (c : Instr) (s : State), ∃ t, Sys2Proof.Machine.exec c s = .next t ∧ t.pending = s.pending

/-! ### Laws of every step -/

/-- Every step keeps the write queue at 8 writes or fewer (R8). The model's choices in it: assumption 3. -/
def Obligations.WriteQueueHoldsAtMostEight : Prop :=
  ∀ s t : State, s.queueBounded → Sys2Proof.Machine.step s = .next t → t.queueBounded

/-- Every step keeps at most four requests outstanding, each with a tag of its own (R189). The model's choices in it:
assumption 31. -/
def Obligations.OutstandingRequestsStaySound : Prop :=
  ∀ s t : State, s.slotsSound → Sys2Proof.Machine.step s = .next t → t.slotsSound

/-- Every step keeps the store's blocks in their one form. The form is the model's (assumption 6). -/
def Obligations.StoreKeepsItsForm : Prop :=
  ∀ s t : State, s.store.wf = true → Sys2Proof.Machine.step s = .next t → t.store.wf = true

/-- The state right after reset keeps the laws that every step keeps: the write queue (R8), the outstanding requests
(R189), the store's form, the accounts of the data area (R2, R11), the trim budget (R59), the shows counted (R61), the
entry pools (R80) and the nesting of lists (R86). The model's choices in it: assumptions 6, 10, 12. -/
def Obligations.ResetIsLawful : Prop :=
  State.reset.lawful ∧ State.reset.accounts ∧ State.reset.budgetWithin ∧ State.reset.showsWithin ∧
    State.reset.poolsBounded ∧ State.reset.nestingBounded

/-- Nonvolatile memory changes only where a queued write completes or a full reset leaves one (R8, R10), and the store's
contents only at the completion of a store write of the ingest writer, the one client that writes (R42), or where a full
reset abandons one (R48): no other command touches them. The model's choices in it: assumptions 3, 6. -/
def Obligations.MemoriesChangeOnlyByTheirWrites : Prop :=
  ∀ (c : Instr) (s t : State), Sys2Proof.Machine.exec c s = .next t →
    (∀ size ran landed, c ≠ .fullReset size ran landed) → c ≠ .outgoingSendComplete →
    ((∀ ok, c ≠ .nvmWriteComplete ok) → t.nvm = s.nvm) ∧
    ((∀ ok, c ≠ .ingestWriteComplete ok) → (∀ ok, c ≠ .mapBlockWriteComplete ok) → t.store = s.store)

/-! ### The control link -/

/-- The order of R189 for every request kind: BUSY with four outstanding, DUPLICATE TAG, MALFORMED, STARTING; the first
two through the immediate queue while it holds fewer than 4, and otherwise only the unanswered count rises. A request
whose owner has an earlier one that waits takes its slot and waits behind it; and once RESET FULL has been taken, no frame
is taken at all (R193). The model's choices in it: assumptions 30, 31. -/
def Obligations.RequestsAreTurnedAwayInOrder : Prop :=
  ∀ (c : Instr) (kind : Nat) (f : Frame) (s : State), requestOf c = some (kind, f) →
    (s.port.taking = false → Sys2Proof.Machine.exec c s = .next (settle s)) ∧
    (s.port.taking = true →
    let immediate := fun status : Status =>
      if (s.port.replies.filter (·.immediate)).length < 4 then
        { s with port := (ControlPort.offer
            { tag := f.tag, kind := kind, status := status, reason := none, body := [], immediate := true }
            s.port.taken) }
      else settle { s with port := { s.port.taken with unanswered := bump max32 s.port.unanswered } }
    (4 ≤ s.port.slots.length → Sys2Proof.Machine.exec c s = .next (immediate .busy)) ∧
    (s.port.slots.length < 4 → (∃ r ∈ s.port.slots, r.tag = f.tag) →
      Sys2Proof.Machine.exec c s = .next (immediate .duplicateTag)) ∧
    (s.port.slots.length < 4 → (∀ r ∈ s.port.slots, r.tag ≠ f.tag) → f.fits = false →
      Sys2Proof.Machine.exec c s = .next (s.answering kind f .malformed none [])) ∧
    (s.port.slots.length < 4 → (∀ r ∈ s.port.slots, r.tag ≠ f.tag) → f.fits = true → s.startUp = true →
      storeUsing kind = true → Sys2Proof.Machine.exec c s = .next (s.answering kind f .starting none [])) ∧
    (s.port.slots.length < 4 → (∀ r ∈ s.port.slots, r.tag ≠ f.tag) → f.fits = true →
      (s.startUp = true → storeUsing kind = false) → ownerBusy kind s = true →
      Sys2Proof.Machine.exec c s = .next (settle
        { s with port := { s.port.taken with
            slots := s.port.slots ++ [{ tag := f.tag, kind := kind, phase := .deferred c }] } })))

/-- A frame built by R188 is read back by R188: after its marker, the bytes of a control frame are the request of its
kind, tag and body. The model's choices in it: assumption 29. -/
def Obligations.ControlFrameIsReadBack : Prop :=
  ∀ (kind : Nat) (tag : Byte) (body : List Byte), kind < 256 → body.length ≤ 1024 →
    decodeFrame ((controlFrame kind tag body).drop 1) = some (decodeRequest kind tag body)

/-- The receiver (R188, R189): in HUNTING a marker puts it IN FRAME; a frame in reception is discarded by cause, and
hunting resumes with the byte after its marker, at the first marker among the bytes held and those that come with the
discarding; a gap of 10 ms discards it with all its bytes; none is in HUNTING; and a frame of a kind that is not assigned
is answered UNKNOWN. A step with no command waiting takes or discards the frame that the bytes held make up, by R188; and
10 ms after the last byte of a frame that is not whole, with nothing else due, it is discarded. A taken frame leaves the
bytes after it to be hunted through. The model's choices in it: assumptions 2, 30, 31. -/
def Obligations.ReceiverTakesAndDiscards : Prop :=
  (∀ s : State, s.port.taking = true →
    Sys2Proof.Machine.exec .controlMarkerFound s = .next (settle
      { s with port :=
          if s.port.inFrame then { s.port with held := s.port.held ++ [0xA5#8], gapCycles := 0 }
          else { s.port with inFrame := true, held := [], gapCycles := 0 } }) ∧
    (s.port.inFrame = true →
      (∀ (came : List Byte) (n : Nat) (cause : DiscardCause),
        (n = 0 ∧ cause = .length came) ∨ (n = 1 ∧ cause = .check came) →
        let counted := bumpAt s.port.discards n
        let gap := if came = [] then s.port.gapCycles else 0
        (0xA5#8 ∉ s.port.held ++ came → Sys2Proof.Machine.exec (.controlFrameDiscarded cause) s = .next (settle
          { s with port := { s.port with inFrame := false, held := [], gapCycles := gap, discards := counted } })) ∧
        (∀ before rest, 0xA5#8 ∉ before → s.port.held ++ came = before ++ 0xA5#8 :: rest →
          Sys2Proof.Machine.exec (.controlFrameDiscarded cause) s = .next (settle
            { s with port := { s.port with held := rest, gapCycles := gap, discards := counted } }))) ∧
      Sys2Proof.Machine.exec .frameGapTimeout s = .next (settle
        { s with port := { s.port with inFrame := false, held := [], discards := bumpAt s.port.discards 2 } })) ∧
    (s.port.inFrame = false →
      (∀ cause, Sys2Proof.Machine.exec (.controlFrameDiscarded cause) s = .next (settle s)) ∧
      Sys2Proof.Machine.exec .frameGapTimeout s = .next (settle s)) ∧
    (∀ (kind : Nat) (tag : Byte),
      ((s.port.replies.filter (·.immediate)).length < 4 →
        Sys2Proof.Machine.exec (.unknownRequest kind tag) s = .next
          { s with port := (ControlPort.offer
              { tag := tag, kind := kind, status := .unknown, reason := none, body := [], immediate := true }
              s.port.taken) }) ∧
      (4 ≤ (s.port.replies.filter (·.immediate)).length →
        Sys2Proof.Machine.exec (.unknownRequest kind tag) s = .next (settle
          { s with port := { s.port.taken with unanswered := bump max32 s.port.unanswered } }))) ∧
    (s.port.inFrame = true → s.pending = [] → ∀ (n kind : Nat) (tag : Byte) (body rest : List Byte),
      (1024 < n → s.port.held = Layout.num 2 n ++ rest → n < 65536 →
        Sys2Proof.Machine.step s = Sys2Proof.Machine.exec (.controlFrameDiscarded (.length [])) s) ∧
      (kind < 256 → body.length ≤ 1024 → s.port.held = (controlFrame kind tag body).drop 1 ++ rest →
        Sys2Proof.Machine.step s = Sys2Proof.Machine.exec (decodeRequest kind tag body) s) ∧
      (kind < 256 → body.length ≤ 1024 → n < 65536 →
        let inner := Layout.num 2 body.length ++ Layout.num 1 kind ++ [tag] ++ body
        n ≠ frameCheck inner → s.port.held = inner ++ Layout.num 2 n ++ rest →
        Sys2Proof.Machine.step s = Sys2Proof.Machine.exec (.controlFrameDiscarded (.check [])) s)) ∧
    (s.port.inFrame = true → s.pending = [] → decodeFrame s.port.held = none → stateEvent s = none →
      s.generatorDue = false → s.gatherDue = false → 270000 ≤ s.port.gapCycles →
      Sys2Proof.Machine.step s = Sys2Proof.Machine.exec .frameGapTimeout s) ∧
    (s.pending = [] → ownEvent s = none → ∃ t, Sys2Proof.Machine.step s = .next t ∧
      t.port = { s.port with gapCycles := if s.port.inFrame then s.port.gapCycles + 1 else 0 })) ∧
  (∀ (p : ControlPort) (kind : Nat) (tag : Byte) (body rest : List Byte), kind < 256 → body.length ≤ 1024 →
    p.held = (controlFrame kind tag body).drop 1 ++ rest →
    (0xA5#8 ∉ rest → p.taken = { p with inFrame := false, held := [] }) ∧
    (∀ before after, 0xA5#8 ∉ before → rest = before ++ 0xA5#8 :: after →
      p.taken = { p with inFrame := true, held := after }))

/-- The outgoing direction (R191): at the completion of a send the first reply that became ready begins, else the notice
that is chosen, else the direction is free; an owner's reply frees its slot. A RESET FULL reply is followed by a full
reset of the part (R193). The model's choices in it: assumptions 5, 8. -/
def Obligations.OutgoingDirectionSendsInOrder : Prop :=
  (∀ s : State,
    (∀ f, s.port.sending = some f → settle s = s) ∧
    (∀ r rest, s.port.sending = none → s.port.replies = r :: rest →
      settle s = { s with port := { s.port with sending := some (.reply r), replies := rest } }) ∧
    (s.port.sending = none → s.port.replies = [] →
      (∀ n, s.notices.choose = some n → settle s = beginNotice n s) ∧ (s.notices.choose = none → settle s = s))) ∧
  (∀ (s : State) (n : NoticeFrame), s.port.sending = some (.notice n) →
    Sys2Proof.Machine.exec .outgoingSendComplete s =
      .next (settle { s with port := { s.port with sending := none } })) ∧
  (∀ (s : State) (r : Reply), s.port.sending = some (.reply r) →
    (r.kind ≠ 52 ∨ r.status ≠ .ok →
      Sys2Proof.Machine.exec .outgoingSendComplete s = .next (settle
        { s with port := { s.port with
            sending := none
            slots := if r.immediate then s.port.slots else s.port.slots.filter fun x => !decide (x.tag = r.tag) } })) ∧
    (r.kind = 52 → r.status = .ok →
      ∃ t, Sys2Proof.Machine.exec .outgoingSendComplete s = .next t ∧ t.port.slots = [] ∧ t.port.replies = [] ∧
        t.port.taking = true ∧ t.seq = Sequencer.reset ∧ t.time = Timeline.reset ∧ t.ingest = Ingest.reset ∧
        t.keys.clock = min max32 s.keys.clock))

/-- The notice chosen is due, of the highest level among the due causes, and of equal levels the one of the lowest number,
which has the lowest group; none is chosen only when none is due. When its frame begins the cause is marked sent, and the frame,
of kind 81h with tag 0, has the notice body of its count and latest record at that moment. An occurrence during the send counts
and updates the latest record without a frame, and new settings are in force at the next choice (R195). -/
def Obligations.NoticeChoiceTakesTheHighestLevel : Prop :=
  (∀ n : Notices,
    (∀ k, n.choose = some k → ∃ c, n.causes[k]? = some c ∧ n.isDue k c = true ∧
      ∀ j d, n.causes[j]? = some d → n.isDue j d = true →
        n.levelOf j < n.levelOf k ∨ (n.levelOf j = n.levelOf k ∧ groupOf k ≤ groupOf j ∧ k ≤ j)) ∧
    (n.choose = none → ∀ j d, n.causes[j]? = some d → n.isDue j d = false)) ∧
  (∀ (s : State) (k : Nat) (c : Cause) (r : NoticeRecord), s.port.sending = none → s.port.replies = [] →
    s.notices.choose = some k → s.notices.causes[k]? = some c → c.latest = some r →
    (settle s).port = { s.port with sending := some (.notice { cause := k, count := c.count, record := r }) } ∧
    (settle s).notices.causes[k]? = some { c with sent := true } ∧
    (∀ j, j ≠ k → (settle s).notices.causes[j]? = s.notices.causes[j]?) ∧
    (settle s).notices.levels = s.notices.levels ∧ (settle s).notices.mask = s.notices.mask) ∧
  (∀ n : NoticeFrame, OutFrame.bytes (.notice n) = controlFrame 0x81 0#8 n.body) ∧
  (∀ (s : State) (c : NoticeCause) (detail : List Byte) (x : Cause) (f : OutFrame), s.port.sending = some f →
    s.notices.causes[c.number]? = some x →
    (settle (raise c detail s)).port = s.port ∧
    (settle (raise c detail s)).notices.causes[c.number]? =
      some { x with pending := true, count := bump 255 x.count, latest := some (noticeRecord s detail) })

/-- NOTICE SETUP is refused OUT_OF_RANGE, changing nothing, when a group-0 cause is given as disabled, a level lies
outside 1 to 6 or the mask outside 0 to 6; otherwise it replaces every setting at once and is answered OK, and the due
causes are those of the new settings. NOTICE READ reports every cause, the levels and the mask, and changes nothing.
Neither is store-using, so both are answered in start-up as well (R197). The model's choices in it: assumptions 26, 27. -/
def Obligations.NoticeSetupAndReadFollowTheirRule : Prop :=
  ∀ (f : Frame) (s : State),
    (∀ (enables : BitVec 52) (levels : List Nat) (mask : Nat), s.accepts 54 f → levels.length = 7 →
      let inRange := (∀ n < 5, enables.getLsbD n = true) ∧ (∀ l ∈ levels, 1 ≤ l ∧ l ≤ 6) ∧ mask ≤ 6
      let fresh : Notices :=
        { causes := mapCauses (fun k c => { c with enabled := enables.getLsbD k }) s.notices.causes
          levels := 7 :: levels
          mask := mask }
      (inRange → Sys2Proof.Machine.exec (.noticeSetup f enables levels mask) s = .next
        (State.ok 54 f [] { s with notices := fresh })) ∧
      (∀ k c, s.notices.causes[k]? = some c →
        fresh.causes[k]? = some { c with enabled := enables.getLsbD k } ∧
        (fresh.isDue k { c with enabled := enables.getLsbD k } = true ↔
          c.pending = true ∧ enables.getLsbD k = true ∧ c.sent = false ∧ mask < (7 :: levels).getD (groupOf k) 0)) ∧
      (¬ inRange → Sys2Proof.Machine.exec (.noticeSetup f enables levels mask) s = .next (s.no 54 f .outOfRange))) ∧
    (s.accepts 56 f → Sys2Proof.Machine.exec (.noticeRead f) s = .next (s.ok 56 f
      (s.notices.causes.flatMap (fun c =>
          Layout.flag c.pending ++ Layout.flag c.enabled ++ Layout.flag c.sent ++ Layout.num 1 c.count ++
            Layout.opt NoticeRecord.bytes c.latest) ++
        s.notices.levels.flatMap (Layout.num 1) ++ Layout.num 1 s.notices.mask))) ∧
    storeUsing 54 = false ∧ storeUsing 56 = false

/-- NOTICE CLEAR makes each cause it names clear, leaves the others, and reports for each one named its count and sent mark
from before, in start-up as well; a frame being sent runs on, and a named cause is due no more. An occurrence after it makes
the cause pending with count 1, due by its settings as any occurrence is (R196). -/
def Obligations.NoticeClearReportsAndClears : Prop :=
  storeUsing 55 = false ∧
  ∀ (f : Frame) (s : State) (causes : BitVec 52), s.accepts 55 f →
    let cleared : State := { s with notices := { s.notices with
      causes := mapCauses (fun k c => if causes.getLsbD k then Cause.clear c.enabled else c) s.notices.causes } }
    Sys2Proof.Machine.exec (.noticeClear f causes) s = .next
      (State.ok 55 f
        (Layout.rep 1 (fun c => Layout.num 1 (Cause.count c) ++ Layout.flag (Cause.sent c))
          (((List.range 52).filter fun k => causes.getLsbD k).filterMap fun k => s.notices.causes[k]?))
        cleared) ∧
    (∀ g, s.port.sending = some g → (State.ok 55 f
        (Layout.rep 1 (fun c => Layout.num 1 (Cause.count c) ++ Layout.flag (Cause.sent c))
          (((List.range 52).filter fun k => causes.getLsbD k).filterMap fun k => s.notices.causes[k]?))
        cleared).port.sending = some g) ∧
    (∀ k x, s.notices.causes[k]? = some x →
      (causes.getLsbD k = false → cleared.notices.causes[k]? = some x) ∧
      (causes.getLsbD k = true → cleared.notices.causes[k]? =
        some { pending := false, enabled := x.enabled, sent := false, count := 0, latest := none } ∧
        ∀ y, cleared.notices.causes[k]? = some y → cleared.notices.isDue k y = false)) ∧
    (∀ (c : NoticeCause) (detail : List Byte) (x : Cause), s.notices.causes[c.number]? = some x →
      causes.getLsbD c.number = true →
      let y : Cause := { pending := true, enabled := x.enabled, sent := false, count := 1,
                         latest := some (noticeRecord s detail) }
      (raise c detail cleared).notices.causes[c.number]? = some y ∧
      ((raise c detail cleared).notices.isDue c.number y = true ↔
        x.enabled = true ∧ s.notices.mask < s.notices.levelOf c.number))

/-- RESET FULL is answered OK and the port takes no more frames; RESET SHOW is answered OK and leaves the sequencer IDLE,
the units empty, the bindings clear and the outputs at their idle levels, with the tables, the store, nonvolatile memory
and the ingest engine's package as they were (R193, R108, R118, R187). The model's choices in it: assumption 31. -/
def Obligations.ResetRequestsAct : Prop :=
  ∀ (f : Frame) (s : State),
    (s.accepts 52 f → Sys2Proof.Machine.exec (.resetFull f) s = .next
      (State.ok 52 f [] { s with port := { s.port with taking := false } })) ∧
    (s.accepts 53 f → s.log.release = none → ∃ t, Sys2Proof.Machine.exec (.resetShow f) s = .next t ∧
      t.port = s.port.answers 53 f .ok none [] ∧ t.seq.state = .idle ∧ t.keys.bound = none ∧ t.keys.prepared = none ∧
      t.keys.counted = false ∧ (∀ u ∈ t.time.units, u = CompareUnit.empty) ∧
      t.lines = s.lines.map (fun l => { l with latch := if l.output then l.idle else l.latch, pulse := none }) ∧
      t.catalogue = s.catalogue ∧ t.nvm = s.nvm ∧ t.store = s.store ∧ t.keys.grants = s.keys.grants ∧
      t.ingest.package = s.ingest.package ∧ t.free = s.free ∧ t.link.paired = s.link.paired)

/-! ### Reports -/

/-- The requests that report answer OK with their report and change nothing: STORE STATUS, INGEST STATUS, CLOCK READ,
GRANT LIST, POSITION, PICTURE STATUS, SOUND STATUS, SUBTITLE STATUS, LINE READ, IDENTIFY and STATUS. GRANT LIST reports
all 32 slots, a free one as free, a held one with its fields except the key material and whether it is the prepared or the
bound grant (R65); LINE READ reports each line's direction, configuration and value and the rest by its direction, and the
interlock (R186); both are answered in start-up as well. The model's choices in it: assumptions 9, 19, 26, 27, 28, 29, 38,
40, 50, 51. -/
def Obligations.StatusRequestsChangeNothing : Prop :=
  ∀ (f : Frame) (s : State),
    (s.accepts 6 f → Sys2Proof.Machine.exec (.storeStatus f) s = .next (s.ok 6 f (storeReport s))) ∧
    (s.accepts 11 f → Sys2Proof.Machine.exec (.ingestStatus f) s = .next (s.ok 11 f (ingestReport s))) ∧
    (s.accepts 12 f → Sys2Proof.Machine.exec (.clockRead f) s = .next (s.ok 12 f
      (Layout.num 4 s.keys.clock ++ Layout.num 4 s.keys.budget.start ++ Layout.num 2 s.keys.budget.used ++
        Layout.num 2 (600 - s.keys.budget.used) ++ Layout.num 2 s.keys.interval ++
        Layout.num 2 (s.keys.interval - s.keys.counter) ++ Layout.code s.keys.requester.code ++
        Layout.flag s.keys.followOn))) ∧
    (s.accepts 15 f → Sys2Proof.Machine.exec (.grantList f) s = .next (s.ok 15 f
      ((List.range 32).flatMap fun slot => Layout.opt (fun g : Grant =>
          Layout.num 2 g.key ++ Layout.num 4 g.start ++ Layout.num 4 g.stop ++ Layout.num 2 g.allowance ++
            Layout.num 2 g.shows ++ Layout.code g.state.code ++ Layout.num 4 g.loaded ++
            Layout.flag (decide (s.keys.prepared = some slot)) ++ Layout.flag (decide (s.keys.bound = some slot)))
        (s.keys.grants.find slot)))) ∧
    (s.accepts 31 f → Sys2Proof.Machine.exec (.position f) s = .next (s.ok 31 f (positionReport s))) ∧
    (s.accepts 37 f → Sys2Proof.Machine.exec (.pictureStatus f) s = .next (s.ok 37 f (pictureReport s))) ∧
    (s.accepts 42 f → Sys2Proof.Machine.exec (.soundStatus f) s = .next (s.ok 42 f (soundReport s))) ∧
    (s.accepts 44 f → Sys2Proof.Machine.exec (.subtitleStatus f) s = .next (s.ok 44 f (subtitleReport s))) ∧
    (s.accepts 49 f → Sys2Proof.Machine.exec (.lineRead f) s = .next (s.ok 49 f
      (s.lines.flatMap (fun l =>
          if l.output then
            Layout.code 1 ++ Layout.flag l.idle ++ Layout.flag l.safe ++ Layout.flag l.latch ++
              Layout.flag (if s.interlocked then l.safe else l.latch) ++ Layout.flag s.interlocked ++
              Layout.opt (Layout.num 1) l.pulse
          else
            Layout.code 0 ++ Layout.code l.condition.code ++ Layout.num 1 l.debounce ++ Layout.code l.function.code ++
              Layout.flag l.wire ++ Layout.flag l.level ++ Layout.opt (fun t => Layout.flag (Prod.fst t)) l.timer ++
              Layout.flag l.holding ++ Layout.num 2 l.onsets) ++
        Layout.flag s.interlocked ++ Layout.flags (s.lines.map (·.holding))))) ∧
    (s.accepts 50 f → Sys2Proof.Machine.exec (.identify f) s = .next (s.ok 50 f
      ([0x57#8, 0x41#8, 0x4A#8, 0x47#8, 0x45#8, 0x4C#8] ++ [0x50#8, 0x0A#8] ++ [Config.revision]))) ∧
    (s.accepts 51 f → Sys2Proof.Machine.exec (.status f) s =
      .next (s.ok 51 f (statusReport (s.received 51 f)))) ∧
    storeUsing 15 = false ∧ storeUsing 49 = false

/-- The requests that read a table, a list, a map or the log answer OK with what they find, or are refused, and change
nothing: TRACK LIST, COMPOSITION LIST, COMPOSITION READ, LIST READ, SOUND MAP READ and LOG READ, whose every reply carries
the log's oldest and newest numbers, its mark, its count, its open record and its unwritten length (R174). The model's
choices in it: assumptions 26, 27, 28. -/
def Obligations.TableReadsChangeNothing : Prop :=
  ∀ (f : Frame) (s : State),
    (∀ first, s.accepts 1 f → Sys2Proof.Machine.exec (.trackList f first none) s = .next
      (if 511 < first then s.no 1 f .outOfRange
       else s.ok 1 f (page 2 trackReport (s.catalogue.tracks.filter fun p => decide (first ≤ p.1))))) ∧
    (∀ first n, s.accepts 1 f → Sys2Proof.Machine.exec (.trackList f first (some n)) s = .next
      (if 511 < first ∨ n = 0 ∨ 3 < n then s.no 1 f .outOfRange
       else s.ok 1 f (page 2 trackReport
        (s.catalogue.tracks.filter fun p => decide (first ≤ p.1) && decide (p.2.status.code = n))))) ∧
    (∀ first, s.accepts 3 f → Sys2Proof.Machine.exec (.compositionList f first) s = .next
      (if 63 < first then s.no 3 f .outOfRange
       else s.ok 3 f (page 1 (compositionReport s.catalogue.awaiting)
        (s.catalogue.compositions.filter fun p => decide (first ≤ p.1))))) ∧
    (∀ id, s.accepts 4 f → Sys2Proof.Machine.exec (.compositionRead f id) s = .next
      (if 63 < id then s.no 4 f .outOfRange
       else match s.catalogue.compositions.find id with
        | none => s.no 4 f .notFound
        | some c => s.ok 4 f (compositionBody c))) ∧
    (∀ list first, s.accepts 21 f → ∃ body, Sys2Proof.Machine.exec (.listRead f list first) s = .next
      (if 15 < list then s.no 21 f .outOfRange
       else s.ok 21 f (Layout.rep 1 Entry.bytes (((s.seq.lists.getD list []).drop first).take 8) ++ body))) ∧
    (∀ code, s.accepts 39 f → Sys2Proof.Machine.exec (.soundMapRead f code) s = .next
      (match s.sound.maps.find? (fun p => decide (p.2.code = code)) with
       | some (slot, m) => s.ok 39 f (Layout.num 1 slot ++ m.routes.flatMap Route.bytes)
       | none => s.no 39 f .notFound)) ∧
    (s.accepts 45 f →
      let trailer := Layout.opt (Layout.num 4) s.log.oldest ++ Layout.opt (Layout.num 4) s.log.newest ++
        Layout.opt (Layout.num 4) s.log.mark ++ Layout.num 2 s.log.uncollected ++
        Layout.opt (Layout.num 4) s.log.opened ++ Layout.num 2 s.log.unwritten.length
      ∀ first count,
        (count = 0 ∨ 8 < count → Sys2Proof.Machine.exec (.logRead f first count) s =
          .next (s.answering 45 f .refused (some .outOfRange) trailer)) ∧
        (1 ≤ count → count ≤ 8 → (∀ o, s.log.oldest = some o → first < o) →
          Sys2Proof.Machine.exec (.logRead f first count) s =
            .next (s.answering 45 f .refused (some .notFound) trailer)) ∧
        (∀ o, 1 ≤ count → count ≤ 8 → s.log.oldest = some o → o ≤ first →
          Sys2Proof.Machine.exec (.logRead f first count) s = .next (s.ok 45 f
            (Layout.rep 1 (recordBody s.log)
              ((s.log.records.filter fun r => decide (first ≤ r.sequence)).take count) ++ trailer))))

/-! ### Catalogue, write queue and free space -/

/-- The part right after power-on or the reset line (R1, R7, R10, R16, R21, R48, R49, R59, R176, R177, R189): the size is
taken, and every volatile piece of state has its reset value. Nonvolatile memory stands, the write in progress left whole
or not at all, and its tables are loaded: a FILLING track is DAMAGED (INTERRUPTED), a READY composition that names a track
that is not READY becomes INCOMPLETE as its write is queued, and no other track or composition is held. The write queue
holds only the changes of start-up. With a store in use the start-up sweep reads its first map block, or has ended when no
track has one; without a store start-up stays. The model's choices in it: assumptions 8, 10, 11, 12, 14, 25, 26, 44, 45.
-/
def Obligations.FullResetBeginsStartUp : Prop :=
  ∀ (size ran : Nat) (landed : Bool) (s : State), ∃ t,
    Sys2Proof.Machine.exec (.fullReset size ran landed) s = .next t ∧ t.pending = s.pending ∧
    t.nvm = (match s.queue.writes with
      | [] => s.nvm
      | w :: _ => if landed then s.nvm.apply w.write else s.nvm) ∧
    t.store.reported = size ∧ t.store.size = (if size < 4096 then 0 else min size 16777216) ∧
    ((∀ tr, s.arbiter.current = some tr → tr.request.writes = false) → t.store.blocks = s.store.blocks) ∧
    t.ingest = Ingest.reset ∧ t.cache = Cache.reset ∧ t.seq = Sequencer.reset ∧ t.time = Timeline.reset ∧
    t.frames = FrameSide.reset ∧ t.sound = Sound.reset ∧ t.subs = Subtitles.reset ∧
    t.link = { LinkSide.reset with paired := t.nvm.paired } ∧ t.lines = s.lines.map (fun l => Line.reset l.wire) ∧
    t.port = { ControlPort.reset with sending := t.port.sending } ∧ (∀ r, t.port.sending ≠ some (.reply r)) ∧
    t.notices.levels = Notices.reset.levels ∧ t.notices.mask = 0 ∧
    (∀ k c, t.notices.causes[k]? = some c → c.enabled = true ∧
      ((k = 0 ∧ size < 4096) ∨ (k = 33 ∧ 4096 ≤ size ∧ t.startUp = false) ∨ (k = 34 ∧ 960 ≤ t.log.uncollected) ∨
        (k = 35 ∧ t.log.uncollected = 1024) ∨ c = Cause.clear true)) ∧
    t.arbiter.waiting = [] ∧ t.arbiter.held = none ∧ t.arbiter.retries = 0 ∧ t.arbiter.faults = 0 ∧
    t.keys = { Keys.reset with
      clock := min max32 (s.keys.clock + ran), budget := t.keys.budget, grants := t.nvm.grants } ∧
    (t.keys.clock < t.nvm.budget.start + 31536000 → t.keys.budget = t.nvm.budget) ∧
    (t.nvm.budget.start + 31536000 ≤ t.keys.clock →
      (t.keys.budget =
          { start := t.nvm.budget.start + 31536000 * ((t.keys.clock - t.nvm.budget.start) / 31536000), used := 0 } ∧
        ∃ w ∈ t.queue.writes, w.write = .budget t.keys.budget) ∨
      (t.keys.budget = t.nvm.budget ∧ Waiter.budget ∈ t.queue.waiters)) ∧
    t.catalogue.extents = [] ∧ t.catalogue.awaiting = [] ∧ t.log.release = none ∧
    t.queue.writes.length ≤ 8 ∧ t.queue.faults = 0 ∧
    (∀ w ∈ t.queue.waiters, (∃ k, w = .track k false none) ∨ (∃ n v, w = .composition n (.enter v none) false false) ∨
      w = .budget ∨ w = .log) ∧
    (t.nvm.tracks.rising = true → t.nvm.compositions.rising = true →
      (∀ k, t.nvm.tracks.find k = none → t.catalogue.tracks.find k = none) ∧
      (∀ k e, t.nvm.tracks.find k = some e →
        t.catalogue.tracks.find k =
          some (if e.status = .filling then { e with status := .damaged .interrupted } else e) ∧
        (e.status = .filling →
          (∃ w ∈ t.queue.writes, w.write = .track k (some { e with status := .damaged .interrupted })) ∨
          Waiter.track k false none ∈ t.queue.waiters)) ∧
      (∀ n, t.nvm.compositions.find n = none → t.catalogue.compositions.find n = none) ∧
      (∀ n c, t.nvm.compositions.find n = some c →
        let named := c.reels.flatMap fun r => (r.picture :: r.sound :: r.subtitles).filterMap fun x => x
        let kept := fun x : Option Nat => x.filter fun k => (t.nvm.tracks.find k).isSome
        let unready := c.incomplete = none ∧ ∃ k ∈ named, (t.catalogue.tracks.find k).map (·.status) ≠ some .ready
        let unsettled : Composition := { c with
          incomplete := some (if named.any (fun k => (t.nvm.tracks.find k).isNone) then .missing else .damaged)
          key := none
          reels := c.reels.map fun r => { r with
            picture := kept r.picture, sound := kept r.sound, subtitles := r.subtitles.map kept } }
        (¬ unready → t.catalogue.compositions.find n = some c) ∧
        (unready →
          (t.catalogue.compositions.find n = some unsettled ∧
            ∃ w ∈ t.queue.writes, w.write = .composition n (some unsettled)) ∨
          (t.catalogue.compositions.find n = some c ∧
            Waiter.composition n (.enter unsettled none) false false ∈ t.queue.waiters))) ∧
      (∀ w ∈ t.queue.writes, w.forCheck = false ∧
        ((∃ k e, w.write = .track k (some e) ∧ t.catalogue.tracks.find k = some e ∧
            (t.nvm.tracks.find k).map (·.status) = some .filling ∧ e.status = .damaged .interrupted) ∨
          (∃ n c, w.write = .composition n (some c) ∧ t.catalogue.compositions.find n = some c ∧
            (t.nvm.compositions.find n).map (·.incomplete) = some none ∧ c.incomplete ≠ none) ∨
          (w.write = .budget t.keys.budget ∧ t.nvm.budget.start + 31536000 ≤ t.keys.clock) ∨
          (∃ r ∈ t.log.records, w.write = .log r ∧ t.nvm.log.find (r.sequence % 1024) ≠ some r)))) ∧
    (size < 4096 → t.startUp = true ∧ t.free = { list := [], stranded := 0, sweep := none } ∧
      t.arbiter.current = none) ∧
    (4096 ≤ size →
      let swept := (t.catalogue.tracks.filter fun p => decide (0 < p.2.extentCount)).map (·.1)
      (swept = [] → t.startUp = false ∧ t.arbiter.current = none ∧
        t.free = { list := [{ first := 512, length := min size 16777216 - 512 }], stranded := 0, sweep := none }) ∧
      (∀ first rest, swept = first :: rest → t.startUp = true ∧
        t.arbiter.current = some (Transfer.begin
          { client := .sweep, writes := false, first := first, count := 1, track := some first }) ∧
        t.free = { list := [], stranded := 0
                   sweep := some { kind := .startup, toRead := first :: rest, read := 0, taken := [] } }))

/-- The write queue's two events (R8, R9), also where a request that waits is served (R24, R67, R130) or a package is
closed by the last of its writes (R23, R38, R39). NVM_WRITE_COMPLETE: the head write leaves the queue; with success
nonvolatile memory takes the record; after a second failure it keeps the old one, NVM_FAULT is raised and counted; a log
record whose last queued write this was is reported as completed (R172). QUEUE_WAITING_WRITE, with room: the requester
that has waited longest queues its write, be it a track's, a composition's, which takes its change then, a count (R77),
the window check's (R70), the budget's (R59) or the log's; and a request makes its checks again. Without room or a
requester nothing comes about. The model's choices in it: assumptions 2, 3, 13, 14, 16, 24, 40, 45, 46. -/
def Obligations.QueuedWritesComplete : Prop :=
  (∀ (s : State) (ok : Bool), s.queue.writes = [] →
    Sys2Proof.Machine.exec (.nvmWriteComplete ok) s = .next (settle s)) ∧
  (∀ (w : QueuedWrite) (rest : List QueuedWrite) (s : State), s.queue.writes = w :: rest →
    let again := fun n : Nat => rest.any fun q =>
      match q.write with
      | .log x => decide (x.sequence = n)
      | _ => false
    let log : ShowLog :=
      match w.write with
      | .log r =>
        if again r.sequence then s.log
        else { s.log with uncompleted := s.log.uncompleted.filter fun n => !decide (n = r.sequence) }
      | _ => s.log
    Sys2Proof.Machine.exec (.nvmWriteComplete true) s = .next (settle
      { s with queue := { s.queue with writes := rest }, log := log, nvm := s.nvm.apply w.write }) ∧
    Sys2Proof.Machine.exec (.nvmWriteComplete false) s = .next (settle (raise .nvmFault w.write.detail
      { s with queue := { s.queue with writes := rest, faults := bump max32 s.queue.faults }, log := log }))) ∧
  (∀ m : Nvm,
    (∀ k e, (m.apply (.track k e)).tracks.find k = e) ∧ (∀ n c, (m.apply (.composition n c)).compositions.find n = c) ∧
    (∀ slot g, (m.apply (.grant slot g)).grants.find slot = g) ∧
    (∀ r, (m.apply (.log r)).log.find (r.sequence % 1024) = some r) ∧ (∀ b, (m.apply (.budget b)).budget = b) ∧
    (∀ p, (m.apply (.paired p)).paired = some p) ∧
    (∀ c : CountWrite,
      (∀ slot shows state g, c.grant = some (slot, shows, state) → m.grants.find slot = some g →
        (m.apply (.count c)).grants.find slot = some { g with shows := shows, state := state }) ∧
      (∀ x, m.compositions.find c.composition.1 = some x →
        (m.apply (.count c)).compositions.find c.composition.1 = some { x with shown := c.composition.2 }))) ∧
  (∀ s : State, (∀ r ∈ s.port.slots, ∀ c, r.phase ≠ .deferred c) → 8 ≤ s.queue.writes.length ∨ s.queue.waiters = [] →
    Sys2Proof.Machine.exec .queueWaitingWrite s = .next (settle s)) ∧
  (∀ (waiter : Waiter) (rest : List Waiter) (s : State), s.queue.writes.length < 8 → s.queue.waiters = waiter :: rest →
    s.ingest.received = none → (∀ r ∈ s.port.slots, ∀ c, r.phase ≠ .deferred c) →
    let run := Sys2Proof.Machine.exec .queueWaitingWrite s
    let queued := fun w : Write => { s.queue with
      waiters := rest, writes := s.queue.writes ++ [{ write := w, forCheck := false }] }
    (∀ k engine, waiter = .track k engine none →
      run = .next (settle { s with queue := queued (.track k (s.catalogue.tracks.find k)) })) ∧
    (∀ k engine reply, waiter = .track k engine (some reply) →
      run = .next (settle (sendReply reply { s with queue := queued (.track k (s.catalogue.tracks.find k)) }))) ∧
    (∀ n v awaiting engine, waiter = .composition n (.enter v awaiting) engine false →
      run = .next (settle
        { s with
          catalogue := { s.catalogue with
            compositions := s.catalogue.compositions.put n v, awaiting := s.catalogue.awaiting.set n awaiting }
          queue := queued (.composition n (some v)) })) ∧
    (∀ n numbers engine closes c, waiter = .composition n (.resolve numbers) engine closes →
      s.catalogue.compositions.find n = some c →
      let r := resolveComposition s.catalogue.tracks numbers c
      let resolved := if r.incomplete = none then (s.ingest.resolved.1 + 1, s.ingest.resolved.2)
        else (s.ingest.resolved.1, s.ingest.resolved.2 + 1)
      ∃ t, run = .next t ∧ t.queue = queued (.composition n (some r)) ∧
        t.catalogue = { s.catalogue with
          compositions := s.catalogue.compositions.put n r, awaiting := s.catalogue.awaiting.erase n } ∧
        (closes = false → t.ingest = { s.ingest with resolved := resolved }) ∧
        (closes = true → t.ingest.state = .idle ∧ t.ingest.package = none ∧ ∃ report, t.ingest.report = some report ∧
          report.aborted = false ∧ (report.resolvedReady, report.resolvedIncomplete) = resolved)) ∧
    (∀ count slot key g x, waiter = .count count → count.grant = some (slot, key) → s.keys.grants.find slot = some g →
      g.key = key → s.catalogue.compositions.find count.composition = some x →
      let charged : Grant := { g with
        shows := min g.allowance (g.shows + 1)
        state := if min g.allowance (g.shows + 1) = g.allowance ∧ g.state = .active then .spent else g.state }
      ∃ t, run = .next t ∧ t.queue = queued (.count
          { grant := some (slot, charged.shows, charged.state)
            composition := (count.composition, min 65535 (x.shown + 1)), record := (count.record, count.time) }) ∧
        t.keys = { s.keys with grants := s.keys.grants.put slot charged } ∧
        t.catalogue.compositions =
          s.catalogue.compositions.put count.composition { x with shown := min 65535 (x.shown + 1) } ∧
        (∀ r ∈ t.log.records, r.sequence = count.record → ∀ y, r.showing = some y → y.counted = some count.time)) ∧
    (waiter = .check → ∃ t, run = .next t ∧ s.keys.checkNext ≤ t.keys.checkNext ∧
      t.keys.checkTime = s.keys.checkTime ∧ (32 ≤ t.keys.checkNext ∨ Waiter.check ∈ t.queue.waiters) ∧
      t.queue.writes.take s.queue.writes.length = s.queue.writes ∧
      (∀ w ∈ t.queue.writes.drop s.queue.writes.length, w.forCheck = true ∧ ∃ p ∈ s.keys.grants,
        checkedState s.keys.checkTime p.2 ≠ p.2.state ∧
        w.write = .grant p.1 (some { p.2 with state := checkedState s.keys.checkTime p.2 }))) ∧
    (waiter = .budget →
      let fresh : Budget :=
        { start := s.keys.budget.start + 31536000 * ((s.keys.clock - s.keys.budget.start) / 31536000), used := 0 }
      (s.keys.budget.start + 31536000 ≤ s.keys.clock →
        run = .next (settle { s with keys := { s.keys with budget := fresh }, queue := queued (.budget fresh) })) ∧
      (s.keys.clock < s.keys.budget.start + 31536000 →
        run = .next (settle { s with queue := { s.queue with waiters := rest } }))) ∧
    (∀ q more r, waiter = .log → s.log.unwritten = q :: more → s.log.find q = some r → ∃ t, run = .next t ∧
      t.queue.writes.take (s.queue.writes.length + 1) = s.queue.writes ++ [{ write := .log r, forCheck := false }] ∧
      (more = [] → t.queue = queued (.log r) ∧ t.log.unwritten = [] ∧ q ∈ t.log.uncompleted)) ∧
    (∀ f projector, waiter = .request (.pair f projector) → 1 ≤ projector → projector ≤ max32 → s.seq.state = .idle →
      run = .next (settle (answerOk 34 f []
        { s with
          link := { s.link with
            paired := some projector, state := .unknown
            requester := if s.link.requester = .idle then .pending else s.link.requester }
          queue := queued (.paired projector) }))) ∧
    (∀ f slot, waiter = .request (.grantPurge f slot) → slot ≤ 31 → s.keys.grants.find slot = none →
      run = .next (settle (refuse 17 f .notFound { s with queue := { s.queue with waiters := rest } }))))

/-- An allocation of L blocks is first fit in address order (R12): refused when fewer than L are free or more than 4,000
extents would be taken; made, its extents are the lowest L free blocks and cover the track blocks 0 to L − 1 in ascending
store order; every other free block stays in the list, which gains no entry and stays in its form. -/
def Obligations.AllocationIsFirstFit : Prop :=
  ∀ (need : Nat) (l left : List Run) (extents : List Extent), 0 < need → freeListSound l = true →
    (allocate need l = none ↔ freeBlocks l < need ∨ 4000 < (takeRuns need 0 l).1.length) ∧
    (allocate need l = some (extents, left) →
      total (extents.map (·.length)) = need ∧ extentsFrom 0 0 extents = true ∧ freeBlocks left + need = freeBlocks l ∧
      left.length ≤ l.length ∧ freeListSound left = true ∧
      (∀ b, inRuns l b ↔ inRuns (extents.map Extent.run) b ∨ inRuns left b) ∧
      (∀ x ∈ extents, ∀ r ∈ left, x.store + x.length ≤ r.first))

/-- A release of a run that lies in no free extent (R13, R11): the list stays in its form, and the blocks released are
free or stranded. A run that merges with a neighbour, or finds fewer than 2,048 entries, leaves all of them free and the
stranded count as it was; else the smallest candidate, of equal ones the one with the lowest first block, is left out,
stranded and named by BLOCKS_STRANDED. Every step keeps the list at 2,048 entries or fewer; and every command but the end
of a sweep's read and a full reset keeps the accounts of the data area: the list in its form, and no block twice in the
list and the tracks' extents. The model's choices in it: assumptions 12, 26. -/
def Obligations.ReleaseKeepsTheAccounts : Prop :=
  (∀ (r : Run) (s : State), 0 < r.length → freeListSound s.free.list = true → s.free.list.length ≤ 2048 →
    (∀ x ∈ s.free.list, x.first + x.length ≤ r.first ∨ r.first + r.length ≤ x.first) →
    let u := releaseRun r s
    let merges := ∃ x ∈ s.free.list, x.first + x.length = r.first ∨ r.first + r.length = x.first
    freeListSound u.free.list = true ∧ u.free.list.length ≤ 2048 ∧
    freeBlocks u.free.list + u.free.stranded = freeBlocks s.free.list + s.free.stranded + r.length ∧
    freeBlocks s.free.list ≤ freeBlocks u.free.list ∧
    (merges ∨ s.free.list.length < 2048 → u.free.stranded = s.free.stranded ∧ u.notices = s.notices ∧
      ∀ b, inRuns u.free.list b ↔ inRuns s.free.list b ∨ (r.first ≤ b ∧ b < r.first + r.length)) ∧
    (¬ merges → s.free.list.length = 2048 → ∃ out, (out = r ∨ out ∈ s.free.list) ∧
      (∀ x, x = r ∨ x ∈ s.free.list → out.length < x.length ∨ (out.length = x.length ∧ out.first ≤ x.first)) ∧
      (∀ x, x ∈ u.free.list ↔ (x = r ∨ x ∈ s.free.list) ∧ x ≠ out) ∧
      u.free.stranded = s.free.stranded + out.length ∧
      u.notices = (raise .blocksStranded
        (Layout.num 3 out.length ++ Layout.opt (Layout.num 3) (some out.first)) s).notices)) ∧
  (∀ s t : State, s.free.list.length ≤ 2048 → Sys2Proof.Machine.step s = .next t → t.free.list.length ≤ 2048) ∧
  (∀ (c : Instr) (s t : State), s.accounts → (∀ ok, c ≠ .sweepReadComplete ok) →
    (∀ size ran landed, c ≠ .fullReset size ran landed) → c ≠ .outgoingSendComplete →
    Sys2Proof.Machine.exec c s = .next t → t.accounts)

/-- TRACK DELETE and COMPOSITION DELETE. With every check passed and room in the write queue (R18, R19) the entry is FREE,
its write is queued and the reply is OK; a track's blocks are released and the window cache holds nothing of it. Otherwise
the first check that fails, in the rule's order, decides the reply, and nothing changes. The model's choices in it:
assumptions 12, 33. -/
def Obligations.DeletesFreeOrAreRefused : Prop :=
  (∀ (f : Frame) (s : State), s.queue.writes.length < 8 → s.queue.waiters = [] →
     (∀ (track : Nat) (e : TrackEntry), s.accepts 2 f → s.free.sweep = none → track ≤ 511 →
       s.catalogue.tracks.find track = some e → e.status ≠ .filling → s.playsTrack track = false →
       (∀ p ∈ s.catalogue.compositions, p.2.references track = false) → s.cache.fills = [] →
       ∃ t, Sys2Proof.Machine.exec (.trackDelete f track) s = .next t ∧ t.port = s.port.answers 2 f .ok none [] ∧
         t.catalogue.tracks = s.catalogue.tracks.erase track ∧ t.catalogue.extents = s.catalogue.extents.erase track ∧
         t.catalogue.compositions = s.catalogue.compositions ∧
         t.queue = { s.queue with writes := s.queue.writes ++ [{ write := .track track none, forCheck := false }] } ∧
         t.free.list = (((s.catalogue.extents.find track).getD []).foldl
           (fun u x => releaseRun { first := x.store, length := x.length } u) s).free.list ∧
         (∀ p ∈ t.cache.entries, p.2.track ≠ track) ∧ t.nvm = s.nvm ∧ t.store = s.store ∧ t.seq = s.seq) ∧
     (∀ (id : Nat) (c : Composition), s.accepts 5 f → id ≤ 63 → s.catalogue.compositions.find id = some c →
       s.catalogue.awaiting.find id = none → s.plays id = false →
       Sys2Proof.Machine.exec (.compositionDelete f id) s = .next (State.ok 5 f []
         { s with
           catalogue := { s.catalogue with compositions := s.catalogue.compositions.erase id }
           queue := { s.queue with
             writes := s.queue.writes ++ [{ write := .composition id none, forCheck := false }] } }))) ∧
  (∀ (f : Frame) (s : State),
     (∀ track, s.accepts 2 f →
       (s.free.sweep.isSome = true → Sys2Proof.Machine.exec (.trackDelete f track) s =
         .next (s.answering 2 f .busy none [])) ∧
       (s.free.sweep = none →
         (511 < track → Sys2Proof.Machine.exec (.trackDelete f track) s = .next (s.no 2 f .outOfRange)) ∧
         (track ≤ 511 →
           (s.catalogue.tracks.find track = none →
             Sys2Proof.Machine.exec (.trackDelete f track) s = .next (s.no 2 f .notFound)) ∧
           (∀ e, s.catalogue.tracks.find track = some e →
             (e.status = .filling → Sys2Proof.Machine.exec (.trackDelete f track) s = .next (s.no 2 f .wrongState)) ∧
             (e.status ≠ .filling →
               (s.playsTrack track = true →
                 Sys2Proof.Machine.exec (.trackDelete f track) s = .next (s.no 2 f .inUse)) ∧
               (s.playsTrack track = false → (∃ p ∈ s.catalogue.compositions, p.2.references track = true) →
                 Sys2Proof.Machine.exec (.trackDelete f track) s = .next (s.no 2 f .referenced))))))) ∧
     (∀ id, s.accepts 5 f →
       (63 < id → Sys2Proof.Machine.exec (.compositionDelete f id) s = .next (s.no 5 f .outOfRange)) ∧
       (id ≤ 63 → s.catalogue.compositions.find id = none →
         Sys2Proof.Machine.exec (.compositionDelete f id) s = .next (s.no 5 f .notFound)) ∧
       (∀ c, id ≤ 63 → s.catalogue.compositions.find id = some c →
         ((s.catalogue.awaiting.find id).isSome = true →
           Sys2Proof.Machine.exec (.compositionDelete f id) s = .next (s.no 5 f .wrongState)) ∧
         (s.catalogue.awaiting.find id = none → s.plays id = true →
           Sys2Proof.Machine.exec (.compositionDelete f id) s = .next (s.no 5 f .inUse)))))

/-- A sweep (R14, R15): STORE SWEEP begins one when the engine is IDLE, none runs and no store write of the engine stands;
each map block read brings that track's extents and asks for the next; the list of a sweep's end holds the blocks of the
data area that lie in no extent read, in its form; a store fault on a read raises SWEEP_DONE with FAILED, and STORE_LOW
when the free blocks are below the low threshold (R11), ends a requested sweep with the old list in force, and begins a
start-up sweep again (R16). The model's choices in it: assumptions 3, 12, 26, 33. -/
def Obligations.SweepReadsMapBlocks : Prop :=
  (∀ (f : Frame) (s : State), s.accepts 7 f →
    (s.ingest.state ≠ .idle → Sys2Proof.Machine.exec (.storeSweep f) s = .next (s.no 7 f .wrongState)) ∧
    (s.ingest.state = .idle → s.free.sweep.isSome = true ∨ s.ingest.writing.isSome = true →
      Sys2Proof.Machine.exec (.storeSweep f) s = .next (s.answering 7 f .busy none [])) ∧
    (∀ track rest, s.ingest.state = .idle → s.free.sweep = none → s.ingest.writing = none →
      tracksToSweep s = track :: rest →
      Sys2Proof.Machine.exec (.storeSweep f) s = .next (State.ok 7 f []
        (askStore { client := .sweep, writes := false, first := track, count := 1, track := some track }
          { s with free := { s.free with
              sweep := some { kind := .requested, toRead := track :: rest, read := 0, taken := [] } } })))) ∧
  (∀ (s : State) (tr : Transfer) (sw : Sweep) (track next : Nat) (rest : List Nat) (m : MapBlock),
    s.arbiter.current = some tr → tr.request.client = .sweep → tr.dropped = false → tr.retry = false →
    s.free.sweep = some sw → sw.toRead = track :: next :: rest → s.store.read track = .map m →
    Sys2Proof.Machine.exec (.sweepReadComplete true) s = .next (settle (grantNext
      (askStore { client := .sweep, writes := false, first := next, count := 1, track := some next }
        { s with free := { s.free with sweep := some { sw with
            toRead := next :: rest, read := sw.read + 1, taken := sw.taken.put track m.extents } } })))) ∧
  (∀ (s : State) (tr : Transfer) (sw : Sweep) (track : Nat) (m : MapBlock),
    s.arbiter.current = some tr → tr.request.client = .sweep → tr.dropped = false →
    s.free.sweep = some sw → sw.toRead = [track] → s.store.read track = .map m →
    (complement s.store.size (sw.taken.put track m.extents)).length ≤ 2048 →
    ∃ t, Sys2Proof.Machine.exec (.sweepReadComplete true) s = .next t ∧
      t.free = { list := complement s.store.size (sw.taken.put track m.extents), stranded := 0, sweep := none } ∧
      t.startUp = (if sw.kind = .startup then false else s.startUp)) ∧
  (∀ (s : State) (tr : Transfer) (sw : Sweep),
    s.arbiter.current = some tr → tr.request.client = .sweep → tr.dropped = false → tr.retry = true →
    s.free.sweep = some sw → sw.kind = .requested → sw.toRead ≠ [] →
    ∃ t, Sys2Proof.Machine.exec (.sweepReadComplete false) s = .next t ∧ t.free = { s.free with sweep := none } ∧
      t.startUp = s.startUp ∧ t.arbiter.faults = bump max32 s.arbiter.faults) ∧
  (∀ (s : State) (tr : Transfer) (sw : Sweep) (first : Nat) (rest : List Nat),
    s.arbiter.current = some tr → tr.request.client = .sweep → tr.dropped = false → tr.retry = true →
    s.free.sweep = some sw → sw.kind = .startup → sw.toRead ≠ [] → tracksToSweep s = first :: rest →
    ∃ t, Sys2Proof.Machine.exec (.sweepReadComplete false) s = .next t ∧ t.startUp = s.startUp ∧
      t.free = { s.free with sweep := some { kind := .startup, toRead := first :: rest, read := 0, taken := [] } }) ∧
  (∀ (s : State) (tr : Transfer) (sw : Sweep) (x : Cause),
    s.arbiter.current = some tr → tr.request.client = .sweep → tr.dropped = false → tr.retry = true →
    s.free.sweep = some sw → sw.toRead ≠ [] → tracksToSweep s ≠ [] → s.notices.causes[33]? = some x →
    ∃ t y, Sys2Proof.Machine.exec (.sweepReadComplete false) s = .next t ∧ t.notices.causes[33]? = some y ∧
      y.pending = true ∧ y.count = bump 255 x.count ∧
      y.latest.map (·.detail) = some (Layout.code 1 ++ Layout.code sw.kind.code)) ∧
  (∀ (s : State) (tr : Transfer) (sw : Sweep) (x : Cause),
    s.arbiter.current = some tr → tr.request.client = .sweep → tr.dropped = false → tr.retry = true →
    s.free.sweep = some sw → sw.toRead ≠ [] → tracksToSweep s ≠ [] →
    freeBlocks s.free.list < s.dataBlocks / 32 → s.notices.causes[31]? = some x →
    ∃ t y, Sys2Proof.Machine.exec (.sweepReadComplete false) s = .next t ∧ t.notices.causes[31]? = some y ∧
      y.pending = true ∧ y.count = bump 255 x.count ∧
      y.latest.map (·.detail) = some (Layout.num 3 (freeBlocks s.free.list))) ∧
  (∀ (size : Nat) (taken : Table (List Extent)), (∀ p ∈ taken, ∀ x ∈ p.2, 0 < x.length) →
    freeListSound (complement size taken) = true ∧
    ∀ b, inRuns (complement size taken) b ↔
      512 ≤ b ∧ b < size ∧ ∀ p ∈ taken, ∀ x ∈ p.2, b < x.store ∨ x.store + x.length ≤ b)

/-! ### Ingest -/

/-- INGEST OPEN, CLOSE and ABORT (R22 to R24): their refusals, and what each does when its checks pass. A CLOSING package
whose close can complete is closed (R23, R39): the slots are free, its compositions are resolved (R38), the report stands,
and the engine is IDLE. A resolution maps each number to the READY track of the package with it, else to the lowest
DAMAGED one; a READY outcome names READY picture tracks of the composition's rate, long enough and of one key; MISSING
stands for a number that maps to nothing; a failed one has no key, and a count point not given is three quarters. The
model's choices in it: assumptions 24, 26, 28, 45. -/
def Obligations.PackagesOpenCloseAndAbort : Prop :=
  ∀ (f : Frame) (s : State),
    (∀ (package mode : Nat), s.accepts 8 f →
      (s.free.sweep.isSome = true → Sys2Proof.Machine.exec (.ingestOpen f package mode) s =
        .next (s.answering 8 f .busy none [])) ∧
      (s.free.sweep = none → s.ingest.state ≠ .idle →
        Sys2Proof.Machine.exec (.ingestOpen f package mode) s = .next (s.no 8 f .wrongState)) ∧
      (s.free.sweep = none → s.ingest.state = .idle → 1 < mode →
        Sys2Proof.Machine.exec (.ingestOpen f package mode) s = .next (s.no 8 f .outOfRange)) ∧
      (s.free.sweep = none → s.ingest.state = .idle → mode ≤ 1 →
        Sys2Proof.Machine.exec (.ingestOpen f package mode) s = .next (State.ok 8 f []
          { s with ingest := { s.ingest with
              state := .opened, package := some (package, if mode = 0 then .steal else .run),
              counters := PackageCounters.zero, slots := [none, none, none, none] } }))) ∧
    (s.accepts 9 f →
      (s.ingest.state ≠ .opened → Sys2Proof.Machine.exec (.ingestClose f) s = .next (s.no 9 f .wrongState)) ∧
      (s.ingest.state = .opened → s.ingest.gather = none →
        Sys2Proof.Machine.exec (.ingestClose f) s = .next (State.ok 9 f []
          { s with ingest := { s.ingest with state := .closing } })) ∧
      (∀ g, s.ingest.state = .opened → s.ingest.gather = some g →
        Sys2Proof.Machine.exec (.ingestClose f) s = .next (State.ok 9 f []
          (askStore { client := .ingest, writes := true, first := g.store, count := g.blocks.length,
                      track := some g.track }
            { s with ingest := { s.ingest with
                state := .closing, gather := none, idleCycles := 0, writing := some (.data g false) } })))) ∧
    (s.accepts 10 f →
      (s.ingest.package = none → Sys2Proof.Machine.exec (.ingestAbort f) s = .next (s.no 10 f .wrongState)) ∧
      (∀ package mode, s.ingest.package = some (package, mode) → ∃ t,
        Sys2Proof.Machine.exec (.ingestAbort f) s = .next t ∧ t.ingest.state = .idle ∧ t.ingest.package = none ∧
        t.ingest.slots = [none, none, none, none] ∧ t.ingest.received = none ∧ t.ingest.gather = none ∧
        (∃ r, t.ingest.report = some r ∧ r.package = package ∧ r.aborted = true ∧ r.resolvedReady = 0 ∧
          r.resolvedIncomplete = 0) ∧
        (∀ slot e, some slot ∈ s.ingest.slots → slot.mode = .filling → s.catalogue.tracks.find slot.track = some e →
          t.catalogue.tracks.find slot.track = some { e with status := .damaged .interrupted }) ∧
        t.catalogue.extents = s.catalogue.extents ∧ t.catalogue.compositions = s.catalogue.compositions ∧
        t.nvm = s.nvm ∧ t.store = s.store)) ∧
    (∀ package mode, s.closeReady = true → s.ingest.package = some (package, mode) →
      awaitingOf package s.catalogue = [] → ∃ t,
      Sys2Proof.Machine.exec .packageCloseComplete s = .next t ∧
      t.ingest = { s.ingest with
        state := .idle, package := none, slots := [none, none, none, none], resolved := (0, 0)
        report := some { package := package, aborted := false, counters := s.ingest.counters, resolvedReady := 0,
                         resolvedIncomplete := 0 } } ∧
      t.catalogue = s.catalogue ∧ t.queue = s.queue ∧ t.arbiter = s.arbiter ∧ t.free = s.free) ∧
    (∀ package mode n numbers c, s.closeReady = true → s.ingest.package = some (package, mode) →
      awaitingOf package s.catalogue = [(n, numbers)] → s.catalogue.compositions.find n = some c →
      s.queue.writes.length < 8 → s.queue.waiters = [] →
      let r := resolveComposition s.catalogue.tracks numbers c
      ∃ t, Sys2Proof.Machine.exec .packageCloseComplete s = .next t ∧
      t.catalogue = { s.catalogue with
        compositions := s.catalogue.compositions.put n r, awaiting := s.catalogue.awaiting.erase n } ∧
      t.queue = { s.queue with
        writes := s.queue.writes ++ [{ write := .composition n (some r), forCheck := false }] } ∧
      t.ingest = { s.ingest with
        state := .idle, package := none, slots := [none, none, none, none], resolved := (0, 0)
        report := some { package := package, aborted := false, counters := s.ingest.counters,
                         resolvedReady := if r.incomplete = none then 1 else 0,
                         resolvedIncomplete := if r.incomplete = none then 0 else 1 } }) ∧
    (∀ (tracks : Table TrackEntry) (package number : Nat), tracks.rising = true →
      (∀ k e, mapNumber tracks package number = some (k, e) →
        (k, e) ∈ tracks ∧ e.package = package ∧ e.number = number ∧ (e.status = .ready ∨
          ((∃ reason, e.status = .damaged reason) ∧ ∀ p ∈ tracks, p.2.package = package → p.2.number = number →
            p.2.status = .filling ∨ ((∃ reason, p.2.status = .damaged reason) ∧ k ≤ p.1)))) ∧
      (mapNumber tracks package number = none → ∀ p ∈ tracks, p.2.package = package → p.2.number = number →
        p.2.status = .filling)) ∧
    (∀ (tracks : Table TrackEntry) (numbers : List ReelNumbers) (c : Composition),
      let r := resolveComposition tracks numbers c
      let absent := fun n => mapNumber tracks c.package n = none
      r.package = c.package ∧ r.tag = c.tag ∧ r.rate = c.rate ∧ r.total = c.total ∧ r.shown = c.shown ∧
      r.countPoint = some (c.countPoint.getD (c.total * 3 / 4)) ∧
      r.reels.map (fun x => (x.entry, x.duration)) = numbers.map (fun x => (x.entry, x.duration)) ∧
      r.reels.map (·.picture) = numbers.map (fun x => (mapNumber tracks c.package x.picture).map (·.1)) ∧
      (r.incomplete = some .missing ↔ ∃ m ∈ numbers, absent m.picture ∨ (∃ n, m.sound = some n ∧ absent n) ∨
        ∃ n, some n ∈ m.subtitles ∧ absent n) ∧
      (r.incomplete ≠ none → r.key = none) ∧
      (r.incomplete = none → ∀ m ∈ r.reels, ∃ k e frames span, m.picture = some k ∧ (k, e) ∈ tracks ∧
        e.status = .ready ∧ e.header.info = .picture c.rate frames span ∧ m.entry + m.duration ≤ frames ∧
        (e.header.key = none ∨ e.header.key = r.key)))

/-- A segment taken while the engine is IDLE is discarded and counted; with a package open and the port not held, the
judgement of R27 refuses, drops or takes as a duplicate a segment that brings nothing, and changes only the engine's
counters. The next segment of a FILLING track (R30, R31): of the wrong length it is refused; with its check right its
block joins the open gather or begins one, which becomes a store write when it is full; a check mismatch, or a gap before
it, makes the track DAMAGED and drops the segment (R32). The model's choices in it: assumptions 22, 23, 41. -/
def Obligations.SegmentsAreJudgedInOrder : Prop :=
  ∀ (g : Segment) (s : State),
    (s.ingest.state = .idle → Sys2Proof.Machine.exec (.segmentTaken g) s = .next (settle
      { s with ingest := { s.ingest with idleForeign := bump max32 s.ingest.idleForeign } })) ∧
    (∀ package mode, s.ingest.state ≠ .idle → s.portHeld = false → s.ingest.package = some (package, mode) →
      let counted := fun (h : PackageCounters → PackageCounters) =>
        Host.Outcome.next (φ := Fault) (ρ := Refusal) (settle
          { s with ingest := { s.ingest with received := none, idleCycles := 0, counters := h s.ingest.counters } })
      let refused := fun (k : Nat) => counted fun c => { c with refused := bumpAt c.refused k }
      (g.package ≠ package → Sys2Proof.Machine.exec (.segmentTaken g) s = refused 0) ∧
      (g.package = package → Config.blockBytes < g.length →
        Sys2Proof.Machine.exec (.segmentTaken g) s = refused 1) ∧
      (g.package = package → g.length ≤ Config.blockBytes →
        (∀ n slot, findSlot (fun x => decide (x.number = g.track)) s.ingest.slots = some (n, slot) →
          (slot.mode = .damaged → Sys2Proof.Machine.exec (.segmentTaken g) s =
            counted fun c => { c with dropped := bump max32 c.dropped }) ∧
          (slot.mode = .held → g.index ≠ slot.length → Sys2Proof.Machine.exec (.segmentTaken g) s =
            counted fun c => { c with dropped := bump max32 c.dropped }) ∧
          (slot.mode = .filling →
            (slot.length < g.index → Sys2Proof.Machine.exec (.segmentTaken g) s = refused 8) ∧
            (g.index ≤ slot.length → g.index + 1 = slot.next → Sys2Proof.Machine.exec (.segmentTaken g) s =
              counted fun c => { c with duplicates := bump max32 c.duplicates }) ∧
            (g.index ≤ slot.length → g.index + 1 < slot.next →
              Sys2Proof.Machine.exec (.segmentTaken g) s = refused 7) ∧
            (g.index ≤ slot.length → g.index = slot.next →
              (if g.index < slot.length then g.length ≠ Config.blockBytes else g.length = 0) →
              Sys2Proof.Machine.exec (.segmentTaken g) s = refused 1) ∧
            (∀ e, g.index ≤ slot.length → s.catalogue.tracks.find slot.track = some e → s.ingest.gather = none →
              s.ingest.writing = none → s.queue.writes.length < 8 → s.queue.waiters = [] →
              let damaged := fun reason => ∃ t, Sys2Proof.Machine.exec (.segmentTaken g) s = .next t ∧
                t.catalogue = { s.catalogue with
                  tracks := s.catalogue.tracks.put slot.track { e with status := .damaged reason } } ∧
                t.ingest = { s.ingest with
                  received := none, idleCycles := 0
                  slots := replaceAt s.ingest.slots n (some { slot with mode := .damaged })
                  counters := { s.ingest.counters with
                    dropped := bump max32 s.ingest.counters.dropped
                    damaged := bump max32 s.ingest.counters.damaged } } ∧
                t.queue = { s.queue with writes := s.queue.writes ++
                  [{ write := .track slot.track (some { e with status := .damaged reason }), forCheck := false }] } ∧
                t.store = s.store ∧ t.free = s.free
              (slot.next < g.index → damaged .gap) ∧
              (g.index = slot.next → (if g.index < slot.length then g.length = Config.blockBytes else 1 ≤ g.length) →
                payloadCheck g.payload ≠ g.check → damaged .check)) ∧
            (g.index ≤ slot.length → g.index = slot.next →
              (if g.index < slot.length then g.length = Config.blockBytes else 1 ≤ g.length) →
              payloadCheck g.payload = g.check → isDescription slot.track s = false →
              let extents := (s.catalogue.extents.find slot.track).getD []
              let taken := fun gather : Gather => ∃ t, Sys2Proof.Machine.exec (.segmentTaken g) s = .next t ∧
                t.ingest = { s.ingest with
                  received := none, idleCycles := 0
                  slots := replaceAt s.ingest.slots n (some { slot with next := slot.next + 1 })
                  counters := { s.ingest.counters with written := bump max32 s.ingest.counters.written }
                  gather := if gatherFull gather extents then none else some gather
                  writing := if gatherFull gather extents then some (.data gather false) else s.ingest.writing } ∧
                (gatherFull gather extents = true → ∃ r : StoreRequest, r.client = .ingest ∧ r.writes = true ∧
                  r.first = gather.store ∧ r.count = gather.blocks.length ∧
                  (t.arbiter.current = some (Transfer.begin r) ∨ r ∈ t.arbiter.waiting ∨ t.arbiter.held = some r)) ∧
                t.catalogue = s.catalogue ∧ t.queue = s.queue ∧ t.store = s.store
              (∀ i x, s.ingest.gather = none → s.ingest.writing = none →
                extentAt extents (slot.next - 1) = some (i, x) →
                taken { track := slot.track, block := slot.next - 1, store := x.store + (slot.next - 1 - x.block)
                        blocks := [g.payload], room := s.gatherRoom }) ∧
              (∀ h, s.ingest.gather = some h → h.track = slot.track → slot.next - 1 = h.block + h.blocks.length →
                h.blocks.length < h.room → taken { h with blocks := h.blocks ++ [g.payload] })))) ∧
        (findSlot (fun x => decide (x.number = g.track)) s.ingest.slots = none →
          (g.index ≠ 0 → Sys2Proof.Machine.exec (.segmentTaken g) s = refused 3) ∧
          (g.index = 0 → s.ingest.state = .closing → Sys2Proof.Machine.exec (.segmentTaken g) s = refused 6) ∧
          (g.index = 0 → s.ingest.state ≠ .closing → payloadCheck g.payload ≠ g.check →
            Sys2Proof.Machine.exec (.segmentTaken g) s = refused 2))))

/-- A track header that passes its checks opens a slot (R27, R28): with an allocation made the track is FILLING and its
map block write is asked for; with the allocation refused the track is DAMAGED (STORE_FULL). A header that brings no valid
record is refused MALFORMED, one with all four slots busy NO_SLOT, and one with no FREE track id NO_ID (R26); one whose
track the package has READY opens a HELD slot in the lowest free slot, and is counted as held and as dropped; and a HELD
slot becomes free at the segment of its declared length (R29). The model's choices in it: assumptions 22, 24, 26. -/
def Obligations.HeadersOpenTracks : Prop :=
  (∀ (g : Segment) (s : State) (package : Nat) (mode : WriteMode) (h : TrackHeader) (n id : Nat),
    s.ingest.state = .opened → s.portHeld = false → s.ingest.package = some (package, mode) → g.package = package →
    g.index = 0 → g.length = 24 → payloadCheck g.payload = g.check → parseHeader g.payload = some h →
    findSlot (fun x => decide (x.number = g.track)) s.ingest.slots = none → freeSlot s.ingest.slots = some n →
    readyTrack s.catalogue.tracks package g.track = none → s.catalogue.tracks.lowestFree 512 = some id →
    s.ingest.gather = none → s.ingest.writing = none →
    (∀ extents left, allocate h.length s.free.list = some (extents, left) → ∃ t,
      Sys2Proof.Machine.exec (.segmentTaken g) s = .next t ∧
      t.catalogue.tracks = s.catalogue.tracks.put id
        { status := .filling, package := package, number := g.track, header := h, extentCount := extents.length } ∧
      t.catalogue.extents = s.catalogue.extents.put id extents ∧ t.free = { s.free with list := left } ∧
      t.ingest.slots = replaceAt s.ingest.slots n (some
        { number := g.track, mode := .filling, track := id, length := h.length, next := 1 }) ∧
      t.ingest.counters = s.ingest.counters ∧ t.ingest.received = none ∧
      t.ingest.writing = some (.map
        { track := id, package := package, number := g.track, header := h, extents := extents } none) ∧
      (∃ r : StoreRequest, r.client = .ingest ∧ r.writes = true ∧ r.first = id ∧ r.count = 1 ∧
        (t.arbiter.current = some (Transfer.begin r) ∨ r ∈ t.arbiter.waiting ∨ t.arbiter.held = some r)) ∧
      t.queue = s.queue ∧ t.nvm = s.nvm ∧ t.store = s.store) ∧
    (allocate h.length s.free.list = none → s.queue.writes.length < 8 → s.queue.waiters = [] → ∃ t,
      Sys2Proof.Machine.exec (.segmentTaken g) s = .next t ∧
      t.catalogue.tracks = s.catalogue.tracks.put id
        { status := .damaged .storeFull, package := package, number := g.track, header := h, extentCount := 0 } ∧
      t.catalogue.extents = s.catalogue.extents ∧ t.free = s.free ∧
      t.ingest.slots = replaceAt s.ingest.slots n (some
        { number := g.track, mode := .damaged, track := id, length := h.length, next := 1 }) ∧
      t.ingest.counters = { s.ingest.counters with damaged := bump max32 s.ingest.counters.damaged } ∧
      t.queue.writes.length = s.queue.writes.length + 1 ∧ t.arbiter = s.arbiter ∧ t.store = s.store)) ∧
  (∀ (g : Segment) (s : State) (package : Nat) (mode : WriteMode), s.ingest.state = .opened → s.portHeld = false →
    s.ingest.package = some (package, mode) → g.package = package → g.length ≤ Config.blockBytes →
    let leaves := fun (slots : List (Option TrackSlot)) (counters : PackageCounters) =>
      Sys2Proof.Machine.exec (.segmentTaken g) s = .next (settle
        { s with ingest := { s.ingest with
            received := none, idleCycles := 0, slots := slots, counters := counters } })
    let refused := fun kind : Nat => leaves s.ingest.slots
      { s.ingest.counters with refused := bumpAt s.ingest.counters.refused kind }
    (g.index = 0 → payloadCheck g.payload = g.check →
      findSlot (fun x => decide (x.number = g.track)) s.ingest.slots = none →
      (g.length ≠ 24 ∨ parseHeader g.payload = none → refused 1) ∧
      (∀ h, g.length = 24 → parseHeader g.payload = some h →
        (freeSlot s.ingest.slots = none → refused 4) ∧
        (∀ n, freeSlot s.ingest.slots = some n →
          (∀ id e, readyTrack s.catalogue.tracks package g.track = some (id, e) →
            leaves (replaceAt s.ingest.slots n (some
                { number := g.track, mode := .held, track := id, length := h.length, next := 0 }))
              { s.ingest.counters with
                held := bump max32 s.ingest.counters.held, dropped := bump max32 s.ingest.counters.dropped }) ∧
          (readyTrack s.catalogue.tracks package g.track = none → s.catalogue.tracks.lowestFree 512 = none →
            refused 5)))) ∧
    (∀ n slot, findSlot (fun x => decide (x.number = g.track)) s.ingest.slots = some (n, slot) → slot.mode = .held →
      g.index = slot.length →
      leaves (replaceAt s.ingest.slots n none)
        { s.ingest.counters with dropped := bump max32 s.ingest.counters.dropped }))

/-- The store writes of the ingest writer (R2, R33, R34): a gather idle for 1 ms becomes one store write; a written map
block stands in the store and its track's entry is queued; a written gather stands in the store, and the gather that holds
the track's last block makes it READY and frees its slot, a description then taking the lowest free composition id,
awaiting resolution, or being DAMAGED when none is free (R37). After a second failure the track is DAMAGED (STORE_FAULT)
(R36), and one whose map block could not be written holds no extents. The model's choices in it: assumptions 6, 22, 45. -/
def Obligations.IngestWritesReachTheStore : Prop :=
  ∀ (s : State),
    (∀ g, s.ingest.gather = some g → Sys2Proof.Machine.exec .gatherIdleTimeout s = .next (settle
      (askStore { client := .ingest, writes := true, first := g.store, count := g.blocks.length,
                  track := some g.track }
        { s with ingest := { s.ingest with
            gather := none, idleCycles := 0, writing := some (.data g false) } }))) ∧
    (∀ tr m e n slot, s.arbiter.current = some tr → tr.request.client = .ingest → tr.dropped = false →
      s.ingest.writing = some (.map m none) → s.ingest.received = none →
      (∀ r ∈ s.port.slots, ∀ c, r.phase ≠ .deferred c) → s.catalogue.tracks.find m.track = some e →
      s.catalogue.extents.find m.track = some m.extents →
      findSlot (fun x => decide (x.track = m.track) && decide (x.mode = .filling)) s.ingest.slots = some (n, slot) →
      s.queue.writes.length < 8 → s.queue.waiters = [] →
      (∃ t, Sys2Proof.Machine.exec (.mapBlockWriteComplete true) s = .next t ∧
        t.store.read m.track = .map m ∧ (∀ b, b ≠ m.track → t.store.read b = s.store.read b) ∧
        t.ingest.writing = none ∧ t.ingest.slots = s.ingest.slots ∧ t.catalogue = s.catalogue ∧
        t.queue = { s.queue with
          writes := s.queue.writes ++ [{ write := .track m.track (some e), forCheck := false }] } ∧ t.nvm = s.nvm) ∧
      (tr.retry = true → s.cache.fills = [] →
        let failed : TrackEntry := { e with status := .damaged .storeFault, extentCount := 0 }
        ∃ t, Sys2Proof.Machine.exec (.mapBlockWriteComplete false) s = .next t ∧
        (∀ b, b ≠ m.track → t.store.read b = s.store.read b) ∧ t.ingest.writing = none ∧
        t.ingest.slots = replaceAt s.ingest.slots n (some { slot with mode := .damaged }) ∧
        t.ingest.counters = { s.ingest.counters with damaged := bump max32 s.ingest.counters.damaged } ∧
        t.catalogue = { s.catalogue with
          tracks := s.catalogue.tracks.put m.track failed, extents := s.catalogue.extents.erase m.track } ∧
        t.free = (m.extents.foldl (fun u x => releaseRun { first := x.store, length := x.length } u) s).free ∧
        t.queue = { s.queue with
          writes := s.queue.writes ++ [{ write := .track m.track (some failed), forCheck := false }] } ∧
        t.arbiter.faults = bump max32 s.arbiter.faults ∧ t.nvm = s.nvm)) ∧
    (∀ tr g e n slot, s.arbiter.current = some tr → tr.request.client = .ingest → tr.dropped = false →
      s.ingest.writing = some (.data g false) → s.ingest.received = none →
      findSlot (fun x => decide (x.track = g.track) && decide (x.mode = .filling)) s.ingest.slots = some (n, slot) →
      s.catalogue.tracks.find slot.track = some e → e.header.info ≠ .description →
      s.queue.writes.length < 8 → s.queue.waiters = [] → ∃ t,
      Sys2Proof.Machine.exec (.ingestWriteComplete true) s = .next t ∧
      (∀ i b, g.blocks[i]? = some b → t.store.bytes (g.store + i) = trimZeros b) ∧
      (∀ b, b < g.store ∨ g.store + g.blocks.length ≤ b → t.store.read b = s.store.read b) ∧
      t.ingest.writing = none ∧ t.nvm = s.nvm ∧
      (g.block + g.blocks.length < slot.length → t.catalogue = s.catalogue ∧ t.ingest.slots = s.ingest.slots ∧
        t.queue = s.queue) ∧
      (slot.length ≤ g.block + g.blocks.length →
        t.catalogue.tracks = s.catalogue.tracks.put slot.track { e with status := .ready } ∧
        t.ingest.slots = replaceAt s.ingest.slots n none ∧
        t.ingest.counters = { s.ingest.counters with ready := bump max32 s.ingest.counters.ready } ∧
        t.queue = { s.queue with writes := s.queue.writes ++
          [{ write := .track slot.track (some { e with status := .ready }), forCheck := false }] })) ∧
    (∀ tr g e n slot, s.arbiter.current = some tr → tr.request.client = .ingest → tr.dropped = false →
      tr.retry = true → s.ingest.writing = some (.data g false) → s.ingest.received = none → s.ingest.gather = none →
      findSlot (fun x => decide (x.track = g.track) && decide (x.mode = .filling)) s.ingest.slots = some (n, slot) →
      s.catalogue.tracks.find slot.track = some e → s.cache.fills = [] →
      s.queue.writes.length < 8 → s.queue.waiters = [] → ∃ t,
      Sys2Proof.Machine.exec (.ingestWriteComplete false) s = .next t ∧
      (∀ b, b < g.store ∨ g.store + g.blocks.length ≤ b → t.store.read b = s.store.read b) ∧
      t.ingest = { s.ingest with
        writing := none, slots := replaceAt s.ingest.slots n (some { slot with mode := .damaged })
        counters := { s.ingest.counters with damaged := bump max32 s.ingest.counters.damaged } } ∧
      t.catalogue = { s.catalogue with
        tracks := s.catalogue.tracks.put slot.track { e with status := .damaged .storeFault } } ∧
      t.queue = { s.queue with writes := s.queue.writes ++
        [{ write := .track slot.track (some { e with status := .damaged .storeFault }), forCheck := false }] } ∧
      t.arbiter.faults = bump max32 s.arbiter.faults ∧ t.free = s.free ∧ t.nvm = s.nvm) ∧
    (∀ tr g e n slot block, s.arbiter.current = some tr → tr.request.client = .ingest → tr.dropped = false →
      s.ingest.writing = some (.data g false) → s.ingest.received = none → s.ingest.gather = none →
      findSlot (fun x => decide (x.track = g.track) && decide (x.mode = .filling)) s.ingest.slots = some (n, slot) →
      s.catalogue.tracks.find slot.track = some e → e.header.info = .description →
      slot.length ≤ g.block + g.blocks.length → g.blocks.getLast? = some block → s.cache.fills = [] →
      s.queue.writes.length < 7 → s.queue.waiters = [] →
      (∀ k d, s.catalogue.compositions.lowestFree 64 = some k →
        parseDescription block (24 + 16 * field block 17 1) = some d →
        let entry : Composition :=
          { incomplete := some .missing, package := e.package, tag := d.tag, rate := d.rate, key := none,
            total := total (d.reels.map (·.duration)), countPoint := d.countPoint, shown := 0,
            reels := d.reels.map fun r =>
              { picture := none, entry := r.entry, duration := r.duration, sound := none
                subtitles := [none, none, none, none] } }
        ∃ t, Sys2Proof.Machine.exec (.ingestWriteComplete true) s = .next t ∧
        t.catalogue = { s.catalogue with
          tracks := s.catalogue.tracks.put slot.track { e with status := .ready }
          compositions := s.catalogue.compositions.put k entry
          awaiting := s.catalogue.awaiting.put k d.reels } ∧
        t.ingest.slots = replaceAt s.ingest.slots n none ∧
        t.queue = { s.queue with writes := s.queue.writes ++
          [{ write := .track slot.track (some { e with status := .ready }), forCheck := false },
           { write := .composition k (some entry), forCheck := false }] }) ∧
      (s.catalogue.compositions.lowestFree 64 = none →
        ∃ t, Sys2Proof.Machine.exec (.ingestWriteComplete true) s = .next t ∧
        t.catalogue = { s.catalogue with
          tracks := s.catalogue.tracks.put slot.track { e with status := .damaged .check } } ∧
        t.ingest.slots = replaceAt s.ingest.slots n (some { slot with mode := .damaged }) ∧
        t.ingest.counters = { s.ingest.counters with
          noEntry := bump max32 s.ingest.counters.noEntry, damaged := bump max32 s.ingest.counters.damaged } ∧
        t.queue = { s.queue with writes := s.queue.writes ++
          [{ write := .track slot.track (some { e with status := .damaged .check }), forCheck := false }] }))

/-! ### Store access -/

/-- The arbiter grants by the fixed order of its clients (R43): of the waiting requests it takes one of the highest
priority, and none only when none waits. A first failure is tried again at once, with the port BUSY and the client not
told (R46), whichever client's transfer it is; and the event that stands for it alone does the same. The model's choices
in it: assumptions 3, 26. -/
def Obligations.ArbiterGrantsAndRetries : Prop :=
  (∀ l : List StoreRequest,
    (bestRequest l = none ↔ l = []) ∧
    (∀ r, bestRequest l = some r → r ∈ l ∧ ∀ x ∈ l, r.client.rank ≤ x.client.rank)) ∧
  ∀ (s : State) (tr : Transfer), s.arbiter.current = some tr → tr.retry = false →
    let again := Host.Outcome.next (φ := Fault) (ρ := Refusal) (settle
      { s with arbiter := { s.arbiter with current := some { tr with retry := true } } })
    Sys2Proof.Machine.exec .storeRetry s = again ∧
    (tr.request.client = .picture → Sys2Proof.Machine.exec (.pictureTransferComplete false) s = again) ∧
    (tr.request.client = .sound → Sys2Proof.Machine.exec (.soundTransferComplete false) s = again) ∧
    (tr.request.client = .windowFill → Sys2Proof.Machine.exec (.windowFillComplete false) s = again) ∧
    (tr.request.client = .subtitle → Sys2Proof.Machine.exec (.subtitleTransferComplete false) s = again) ∧
    (tr.request.client = .sweep → Sys2Proof.Machine.exec (.sweepReadComplete false) s = again) ∧
    (∀ g dropped, tr.request.client = .ingest → s.ingest.writing = some (.data g dropped) →
      Sys2Proof.Machine.exec (.ingestWriteComplete false) s = again)

/-- The picture reader (R45, R47, R125): it begins its next frame at the tail of the queue; a completed transfer brings
its blocks, unscrambled with the reading key when the track is scrambled, and asks for the next, which is granted at once,
or completes the frame's place with all of them; after a second failure the place is MISSING, and the fault is counted.
Every step keeps the queue at 4 places or fewer (R124). The model's choices in it: assumptions 3, 5, 9, 26. -/
def Obligations.PictureReaderReadsFrames : Prop :=
  (∀ (s : State) (play : Play) (f : Nat) (prepared : Bool), s.frames.places.length < 4 →
    (∀ p ∈ s.frames.places, p.condition ≠ .filling) → nextFrame s = some (prepared, play, f) → ∃ t c,
    Sys2Proof.Machine.exec .pictureReaderBeginFrame s = .next t ∧
    t.frames.places = s.frames.places ++ [{ prepared := prepared, frame := f, condition := c, blocks := [] }] ∧
    t.frames.nextCurrent = (if prepared then s.frames.nextCurrent else f + 1) ∧
    t.frames.nextPrepared = (if prepared then f + 1 else s.frames.nextPrepared) ∧
    t.catalogue = s.catalogue ∧ t.seq = s.seq ∧ t.sound = s.sound) ∧
  (∀ (s : State) (tr : Transfer) (j : FrameJob) (e : TrackEntry),
    s.arbiter.current = some tr → tr.request.client = .picture → tr.dropped = false → s.frames.job = some j →
    s.catalogue.tracks.find j.track = some e →
    let key := if e.header.key = none then none else if j.prepared then s.frames.keyPrepared else s.frames.keyCurrent
    let blocks := j.blocks ++ (List.range tr.request.count).map fun i =>
      let bytes := s.store.bytes (tr.request.first + i)
      match key with
      | some material =>
        Config.unscramble material j.track (j.stop - total (j.transfers.map (·.length)) + i) bytes
      | none => bytes
    (∀ a b rest, j.transfers = a :: b :: rest → (∀ r ∈ s.arbiter.waiting, r.client ≠ .picture) → ∃ t,
      Sys2Proof.Machine.exec (.pictureTransferComplete true) s = .next t ∧
      t.arbiter.current = some (Transfer.begin { client := .picture, writes := false, first := b.first,
                                                 count := b.length, track := some j.track }) ∧
      t.arbiter.waiting = s.arbiter.waiting ∧
      t.frames = { s.frames with job := some { j with transfers := b :: rest, blocks := blocks } }) ∧
    (∀ a, j.transfers = [a] → ∃ t,
      Sys2Proof.Machine.exec (.pictureTransferComplete true) s = .next t ∧
      t.frames = { s.frames with
        job := none
        places := s.frames.places.map fun p =>
          if p.condition = .filling then { p with condition := .complete, blocks := blocks } else p })) ∧
  (∀ (s : State) (tr : Transfer) (j : FrameJob),
    s.arbiter.current = some tr → tr.request.client = .picture → tr.dropped = false → tr.retry = true →
    s.frames.job = some j → ∃ t,
    Sys2Proof.Machine.exec (.pictureTransferComplete false) s = .next t ∧
    t.frames = { s.frames with
      job := none
      places := s.frames.places.map fun p =>
        if p.condition = .filling then { p with condition := .missing, blocks := [] } else p } ∧
    t.arbiter.faults = bump max32 s.arbiter.faults) ∧
  (∀ s t : State, s.frames.places.length ≤ 4 → Sys2Proof.Machine.step s = .next t → t.frames.places.length ≤ 4)

/-- The window cache (R50 to R53): a hit answers the store block and the blocks that remain; a lookup that fails a check
of R50 is a range fault with the cause of the first such check; a miss joins the fill of its track or makes one; the fill
that ranks highest begins; a completed fill that one preparation of the sequencer asked for loads its extent at the front
of the use order, into the lowest invalid entry or, with none, in place of the entry last in that order; one that a reader
asked for does the same, and the reader asks for its transfer from the store block that answers it; a stale one loads
nothing. A fill that ends in a store fault loads nothing and is a store fault of the reader that asked, as a block that no
extent covers is a range fault of cause MAP: the picture reader's frame is MISSING and the subtitle loader's idle bank
LOADED and empty (R54, R47). The model's choices in it: assumptions 5, 19, 26, 51. -/
def Obligations.WindowCacheFillsAndAnswers : Prop :=
  (∀ (s : State) (reader : Reader) (kind : AskKind) (track block n : Nat) (e : CacheEntry),
    judgeLookup reader track block s = none → findCovering s.cache.entries track block = some (n, e) →
    lookup reader kind track block s =
      (.hit (e.store + (block - e.block)) (e.count - (block - e.block)),
       { s with cache := { s.cache with
           hits := bump max32 s.cache.hits, order := n :: s.cache.order.filter (fun m => !decide (m = n)) } })) ∧
  (∀ (s : State) (f : Fill), (∀ g ∈ s.cache.fills, g.running = false) → bestFill s.cache.fills = some f →
    (∀ g ∈ s.cache.fills, f.rank ≤ g.rank) ∧
    Sys2Proof.Machine.exec .windowFillBegin s = .next (settle
      (askStore { client := .windowFill, writes := false, first := f.track, count := 1, track := some f.track }
        { s with cache := { s.cache with
            reads := bump max32 s.cache.reads
            fills := s.cache.fills.map fun g => if g.track = f.track then { g with running := true } else g } }))) ∧
  (∀ (s : State) (tr : Transfer) (f : Fill) (others : List Fill) (q : Ask) (m : MapBlock) (e : TrackEntry) (i free : Nat)
      (x : Extent),
    s.arbiter.current = some tr → tr.request.client = .windowFill → tr.dropped = false →
    s.cache.fills = f :: others → f.running = true → (∀ g ∈ others, g.running = false) → f.stale = false →
    f.asks = [q] → q.live = true → q.kind = .sequencerPreparation → s.store.read f.track = .map m → m.track = f.track →
    extentAt m.extents q.block = some (i, x) → s.catalogue.tracks.find f.track = some e →
    (∀ p ∈ s.cache.entries, p.2.track = f.track → p.2.index ≠ i) → Table.lowestFree s.cache.entries 8 = some free →
    s.cache.entries.rising = true → ∃ t,
    Sys2Proof.Machine.exec (.windowFillComplete true) s = .next t ∧ t.cache = { s.cache with
      fills := others
      entries := s.cache.entries.put free
        { track := f.track, index := i, block := x.block, count := x.length, store := x.store, kind := e.header.kind,
          key := e.header.key }
      order := free :: s.cache.order.filter (fun k => !decide (k = free)) }) ∧
  (∀ (s : State) (tr : Transfer) (f : Fill) (others : List Fill),
    s.arbiter.current = some tr → tr.request.client = .windowFill → tr.dropped = false →
    s.cache.fills = f :: others → f.running = true → (∀ g ∈ others, g.running = false) → f.stale = true → f.asks = [] →
    ∃ t, Sys2Proof.Machine.exec (.windowFillComplete true) s = .next t ∧
      t.cache = { s.cache with fills := others }) ∧
  (∀ (s : State) (reader : Reader) (kind : AskKind) (track block : Nat),
    (judgeLookup reader track block s = match s.catalogue.tracks.find track with
      | none => some .state
      | some e =>
        if e.status ≠ .ready then some .state
        else if e.header.length ≤ block then some .length
        else if e.header.kind ≠ (match reader with | .picture => .picture | .sound => .sound | .subtitle => .subtitle) then
          some .kind
        else none) ∧
    (∀ cause, judgeLookup reader track block s = some cause → lookup reader kind track block s =
      (.fault, raise .windowRange (Layout.num 1 (match reader with | .picture => 0 | .sound => 1 | .subtitle => 2) ++
          Layout.num 2 track ++ Layout.num 3 block ++ Layout.num 1 cause.code)
        { s with cache := { s.cache with ranges := bumpAt s.cache.ranges cause.code } })) ∧
    (judgeLookup reader track block s = none → findCovering s.cache.entries track block = none →
      let q : Ask := Ask.mk reader kind block true
      let waits := fun fills : List Fill => lookup reader kind track block s =
        (.waiting, { s with cache := { s.cache with misses := bump max32 s.cache.misses, fills := fills } })
      (∀ before f after, s.cache.fills = before ++ f :: after → (∀ g ∈ before, g.track ≠ track) → f.track = track →
        waits (before ++ { f with asks := f.asks ++ [q] } :: after)) ∧
      ((∀ g ∈ s.cache.fills, g.track ≠ track) → waits (s.cache.fills ++ [Fill.mk track false false [q]])))) ∧
  (∀ (s : State) (tr : Transfer) (f : Fill) (others : List Fill) (q : Ask) (m : MapBlock) (e : TrackEntry) (i n : Nat)
      (x : Extent),
    s.arbiter.current = some tr → tr.request.client = .windowFill → tr.dropped = false →
    s.cache.fills = f :: others → f.running = true → (∀ g ∈ others, g.running = false) → f.stale = false →
    f.asks = [q] → q.live = true → s.store.read f.track = .map m → m.track = f.track →
    extentAt m.extents q.block = some (i, x) → s.catalogue.tracks.find f.track = some e →
    (∀ p ∈ s.cache.entries, p.2.track = f.track → p.2.index ≠ i) → s.cache.entries.rising = true →
    let loaded := fun (t : State) (replaced : Nat) => t.cache = { s.cache with
      fills := others
      entries := s.cache.entries.put n
        { track := f.track, index := i, block := x.block, count := x.length, store := x.store, kind := e.header.kind,
          key := e.header.key }
      order := n :: s.cache.order.filter (fun k => !decide (k = n))
      replaced := replaced }
    (Table.lowestFree s.cache.entries 8 = none → s.cache.order.getLast? = some n → q.kind = .sequencerPreparation →
      ∃ t, Sys2Proof.Machine.exec (.windowFillComplete true) s = .next t ∧ loaded t (bump max32 s.cache.replaced)) ∧
    (Table.lowestFree s.cache.entries 8 = some n → q.kind ≠ .sequencerPreparation →
      (∀ r ∈ s.arbiter.waiting, r.client ≠ q.reader.client) →
      let remaining := x.length - (q.block - x.block)
      let asks := fun count : Nat => ∃ t, Sys2Proof.Machine.exec (.windowFillComplete true) s = .next t ∧
        loaded t s.cache.replaced ∧
        ∃ r : StoreRequest, r.client = q.reader.client ∧ r.writes = false ∧ r.first = x.store + (q.block - x.block) ∧
          r.count = count ∧
          (t.arbiter.current = some (Transfer.begin r) ∨ r ∈ t.arbiter.waiting ∨ t.arbiter.held = some r)
      (∀ j : FrameJob, q.reader = .picture → s.frames.job = some j → j.next = q.block → j.next < j.stop →
        j.stop ≤ x.block + x.length → j.pieces = [] → asks (min 8 (j.stop - j.next))) ∧
      (∀ (j : SoundJob) (portion : Portion) (p : Play) (k sample : Nat), q.reader = .sound → s.sound.job = some j →
        s.sound.portions.find? Portion.filling = some portion → playOf portion.prepared s = some p →
        firstAwaited portion.cells = some (k, sample) → asks (transferBlocks p k j.track j.block remaining s)) ∧
      (∀ l : Loader, q.reader = .subtitle → s.subs.loader = some l →
        asks (min 8 (min remaining (l.total - l.block)))))) ∧
  (∀ (s : State) (tr : Transfer) (f : Fill) (others : List Fill) (q : Ask) (ok : Bool),
    s.arbiter.current = some tr → tr.request.client = .windowFill → tr.dropped = false →
    s.cache.fills = f :: others → f.running = true → (∀ g ∈ others, g.running = false) → f.stale = false →
    f.asks = [q] → q.live = true →
    (if ok then ∃ m, s.store.read f.track = .map m ∧ (m.track ≠ f.track ∨ extentAt m.extents q.block = none)
      else tr.retry = true) →
    let cache := { s.cache with fills := others, ranges := if ok then bumpAt s.cache.ranges 3 else s.cache.ranges }
    let ends := Sys2Proof.Machine.exec (.windowFillComplete ok) s
    (q.kind = .sequencerPreparation → ∃ t, ends = .next t ∧ t.cache = cache ∧ t.frames = s.frames ∧ t.sound = s.sound ∧
      t.subs = s.subs) ∧
    (∀ j : FrameJob, q.kind ≠ .sequencerPreparation → q.reader = .picture → s.frames.job = some j →
      ∃ t, ends = .next t ∧ t.cache = cache ∧ t.frames = { s.frames with
        job := none
        places := s.frames.places.map fun p =>
          if p.condition = .filling then { p with condition := .missing, blocks := [] } else p }) ∧
    (∀ (l : Loader) (b : Bank) (st : Stream), q.kind ≠ .sequencerPreparation → q.reader = .subtitle →
      s.subs.loader = some l → s.subs.streams[l.stream]? = some st → st.banks[l.bank]? = some b →
      st.live ≠ some l.bank → ∃ t, ends = .next t ∧ t.cache = cache ∧ t.subs.loader = none ∧
        t.subs.streams = updateAt (fun x => { x with
          banks := replaceAt x.banks l.bank { b with state := .loaded, cues := [], text := 0 } })
          s.subs.streams l.stream))

/-- The sound reader (R141, R142): it begins its next portion at the tail of the buffer; a completed transfer that brings
all the portion awaits becomes the read run and completes the portion; after a second failure the positions it was to
bring are lost. Every step keeps the buffer at 4 portions or fewer (R140). The model's choices in it: assumptions 3, 5. -/
def Obligations.SoundReaderFillsPortions : Prop :=
  (∀ (s : State) (prepared : Bool) (p : Play) (f : Nat), s.sound.portions.length < 4 →
    (∀ q ∈ s.sound.portions, q.filling = false) → nextPortion s = some (prepared, p, f) → ∃ t cells,
    Sys2Proof.Machine.exec .soundReaderBeginPortion s = .next t ∧
    t.sound.portions = s.sound.portions ++ [{ prepared := prepared, frame := f, cells := cells }] ∧
    cells.length = samplesPerFrame p.composition.rate ∧
    t.sound.nextCurrent = (if prepared then s.sound.nextCurrent else f + 1) ∧
    t.sound.nextPrepared = (if prepared then f + 1 else s.sound.nextPrepared) ∧
    t.catalogue = s.catalogue ∧ t.seq = s.seq ∧ t.frames = s.frames) ∧
  (∀ (s : State) (tr : Transfer) (j : SoundJob) (portion : Portion) (p : Play),
    s.arbiter.current = some tr → tr.request.client = .sound → tr.dropped = false → s.sound.job = some j →
    fillingPortion s = some (portion, p) →
    let run : ReadRun :=
      { track := j.track, block := j.block,
        blocks := (List.range tr.request.count).map fun i => s.store.bytes (tr.request.first + i) }
    let cells := copyFromRun p { s with sound := { s.sound with run := some run } } portion.cells
    firstAwaited cells = none → ∃ t,
    Sys2Proof.Machine.exec (.soundTransferComplete true) s = .next t ∧ t.sound = { s.sound with
      job := none, run := some run
      portions := s.sound.portions.map fun x => if x.filling then { x with cells := cells } else x }) ∧
  (∀ (s : State) (tr : Transfer) (j : SoundJob) (portion : Portion) (p : Play),
    s.arbiter.current = some tr → tr.request.client = .sound → tr.dropped = false → tr.retry = true →
    s.sound.job = some j → fillingPortion s = some (portion, p) →
    let cells := loseBlocks p j.track j.block j.count s portion.cells
    firstAwaited cells = none → ∃ t,
    Sys2Proof.Machine.exec (.soundTransferComplete false) s = .next t ∧
    t.sound.portions = s.sound.portions.map (fun x => if x.filling then { x with cells := cells } else x) ∧
    t.sound.run = none ∧ t.arbiter.faults = bump max32 s.arbiter.faults) ∧
  (∀ s t : State, s.sound.portions.length ≤ 4 → Sys2Proof.Machine.step s = .next t → t.sound.portions.length ≤ 4)

/-- The subtitle loader (R156, R158): it takes the bank that is LOADING and asks for its first transfer, the read of up to
8 blocks from the store block that its lookup gives; a transfer that brings the last of the list leaves the bank of an
idle reel LOADED with the cues admitted; one that does not has the next transfer asked for, the cues it brought admitted;
after a second failure that bank is LOADED and empty. The model's choices in it: assumptions 3, 5, 35, 51. -/
def Obligations.SubtitleLoaderLoadsBanks : Prop :=
  (∀ (s : State) (k n t store remaining : Nat) (b : Bank) (p : Play) (u : State), s.subs.loader = none →
    nextLoad s = some (k, n) →
    (s.subs.streams[k]?).bind (fun st => st.banks[n]?) = some b → playOf b.prepared s = some p →
    subtitleTrack p b.reel k = some t →
    lookup .subtitle (if b.prepared then .readerPreparation else .lookup) t 0 s = (.hit store remaining, u) → ∃ v,
    Sys2Proof.Machine.exec .subtitleLoadBegin s = .next v ∧
    v.subs.loader = some
      { stream := k, bank := n, track := t, block := 0,
        total := ceilDiv (subtitleBytes t s) Config.blockBytes, left := subtitleBytes t s, buffer := [],
        ended := false, count := min 8 (min remaining (ceilDiv (subtitleBytes t s) Config.blockBytes)) } ∧
    (∃ r : StoreRequest, r.client = .subtitle ∧ r.writes = false ∧ r.first = store ∧
      r.count = min 8 (min remaining (ceilDiv (subtitleBytes t s) Config.blockBytes)) ∧
      (v.arbiter.current = some (Transfer.begin r) ∨ r ∈ v.arbiter.waiting ∨ v.arbiter.held = some r)) ∧
    v.subs.streams = s.subs.streams ∧ v.cache = u.cache ∧ v.seq = s.seq ∧ v.frames = s.frames) ∧
  (∀ (s : State) (tr : Transfer) (l : Loader) (b b' : Bank) (st : Stream) (rest : List Byte) (ended : Bool),
    s.arbiter.current = some tr → tr.request.client = .subtitle → tr.dropped = false → s.subs.loader = some l →
    s.subs.streams[l.stream]? = some st → st.banks[l.bank]? = some b → st.live ≠ some l.bank →
    l.total ≤ l.block + l.count →
    let fresh := listBytes ((List.range tr.request.count).map fun i => s.store.bytes (tr.request.first + i)) l.left
    takeRecords ((l.buffer ++ fresh).length + 1) (l.left - fresh.length) b (l.buffer ++ fresh) = (b', rest, ended) →
    ∃ t, Sys2Proof.Machine.exec (.subtitleTransferComplete true) s = .next t ∧ t.subs.loader = none ∧
      t.subs.streams = updateAt (fun x => { x with banks := replaceAt x.banks l.bank { b' with state := .loaded } })
        s.subs.streams l.stream) ∧
  (∀ (s : State) (tr : Transfer) (l : Loader) (b : Bank) (st : Stream),
    s.arbiter.current = some tr → tr.request.client = .subtitle → tr.dropped = false → tr.retry = true →
    s.subs.loader = some l → s.subs.streams[l.stream]? = some st → st.banks[l.bank]? = some b →
    st.live ≠ some l.bank →
    ∃ t, Sys2Proof.Machine.exec (.subtitleTransferComplete false) s = .next t ∧ t.subs.loader = none ∧
      t.subs.streams = updateAt (fun x => { x with
        banks := replaceAt x.banks l.bank { b with state := .loaded, cues := [], text := 0 } })
        s.subs.streams l.stream ∧
      t.subs.drops = addAt s.subs.drops 5 b.cues.length) ∧
  (∀ (s : State) (tr : Transfer) (l : Loader) (b b' : Bank) (st : Stream) (rest : List Byte) (n : Nat) (e : CacheEntry),
    s.arbiter.current = some tr → tr.request.client = .subtitle → tr.dropped = false → s.subs.loader = some l →
    s.subs.streams[l.stream]? = some st → st.banks[l.bank]? = some b → l.block + l.count < l.total →
    (∀ r ∈ s.arbiter.waiting, r.client ≠ .subtitle) →
    let fresh := listBytes ((List.range tr.request.count).map fun i => s.store.bytes (tr.request.first + i)) l.left
    takeRecords ((l.buffer ++ fresh).length + 1) (l.left - fresh.length) b (l.buffer ++ fresh) = (b', rest, false) →
    let next := l.block + l.count
    judgeLookup .subtitle l.track next s = none → findCovering s.cache.entries l.track next = some (n, e) →
    let count := min 8 (min (e.count - (next - e.block)) (l.total - next))
    ∃ t, Sys2Proof.Machine.exec (.subtitleTransferComplete true) s = .next t ∧
      t.subs.loader = some
        { l with block := next, left := l.left - fresh.length, buffer := rest, ended := false, count := count } ∧
      t.subs.streams = updateAt (fun x => { x with banks := replaceAt x.banks l.bank b' }) s.subs.streams l.stream ∧
      (∃ r : StoreRequest, r.client = .subtitle ∧ r.writes = false ∧ r.first = e.store + (next - e.block) ∧
        r.count = count ∧ (t.arbiter.current = some (Transfer.begin r) ∨ r ∈ t.arbiter.waiting)))

/-! ### Key unit -/

/-- The booth clock and the requests for a window check (R58, R68, R72): a second raises the clock, saturating, and the
interval counter; an interval that has run out restarts the counter and asks for a check, as GRANT CHECK and CHECK
INTERVAL do, the latter with its value brought to 10 to 3,600. The model's choices in it: assumptions 2, 15, 29. -/
def Obligations.SecondsAndCheckRequests : Prop :=
  ∀ s : State,
    (s.keys.counter < s.keys.interval → s.keys.budget.ended (bump max32 s.keys.clock) = false →
      Sys2Proof.Machine.exec .secondEvent s = .next (settle
        { s with keys := { s.keys with clock := bump max32 s.keys.clock, counter := s.keys.counter + 1 } })) ∧
    (s.keys.interval ≤ s.keys.counter → Sys2Proof.Machine.exec .checkIntervalExpiry s = .next (settle
      { s with keys := { s.keys with
          counter := 0
          requester := if s.keys.requester = .idle then .pending else s.keys.requester } })) ∧
    (∀ f : Frame, s.accepts 18 f → Sys2Proof.Machine.exec (.grantCheck f) s = .next (State.ok 18 f []
      { s with keys := { s.keys with
          requester := if s.keys.requester = .idle then .pending else s.keys.requester
          followOn := if s.keys.requester = .checking then true else s.keys.followOn } })) ∧
    (∀ (f : Frame) (seconds : Nat), s.accepts 19 f →
      let taken := if seconds < 10 then 10 else if 3600 < seconds then 3600 else seconds
      Sys2Proof.Machine.exec (.checkInterval f seconds) s = .next (State.answering 19 f
        (if taken = seconds then .ok else .clamped) none (if taken = seconds then [] else Layout.num 2 taken)
        { s with keys := { s.keys with
            interval := taken, counter := 0
            requester := if s.keys.requester = .idle then .pending else s.keys.requester
            followOn := if s.keys.requester = .checking then true else s.keys.followOn } }))

/-- A window check (R69 to R71): a PENDING requester with no count write in flight begins one at the clock's value; every
slot it has passed holds the state that value gives it; and a check whose slots are judged and whose writes have completed
ends, PENDING again when a follow-on was asked for. The model's choices in it: assumptions 2, 16. -/
def Obligations.WindowCheckJudgesEverySlot : Prop :=
  (∀ s : State, s.keys.requester = .pending → s.countInFlight = false → s.keys.grants.rising = true → ∃ t,
    Sys2Proof.Machine.exec .windowCheckBegin s = .next t ∧ t.keys.requester = .checking ∧ t.keys.followOn = false ∧
    t.keys.checkTime = s.keys.clock ∧ t.keys.clock = s.keys.clock ∧
    (∀ n g, s.keys.grants.find n = some g → n < 32 →
      t.keys.grants.find n = some (if n < t.keys.checkNext then { g with state := checkedState s.keys.clock g } else g)) ∧
    (32 ≤ t.keys.checkNext ∨ Waiter.check ∈ t.queue.waiters)) ∧
  (∀ s : State, s.keys.requester = .checking → 32 ≤ s.keys.checkNext →
    (∀ w ∈ s.queue.writes, w.forCheck = false) →
    Sys2Proof.Machine.exec .windowCheckEnd s = .next (settle
      { s with keys := { s.keys with requester := if s.keys.followOn then .pending else .idle } }))

/-- CLOCK TRIM (R59, R60), with the period test first. The applied amount is the asked one brought within the remaining
budget and then so that the clock stays in its range. When it is not 0 the clock moves by it, the budget loses its size,
the period is tested again at the new value, and a follow-on window check is asked for. When it is the asked amount the
reply is OK, else CLAMPED with it and TRIM_CLAMPED raised, an exhausted budget being CLAMPED with 0; an amount of 0 moves
nothing. A trim waits while the write queue has no room. A budget period that ends at a second event is renewed, or its
renewal waits; and every step keeps the magnitude used at 600 or less. The model's choices in it: assumptions 14, 27, 31.
-/
def Obligations.TrimMovesTheClock : Prop :=
  (∀ (f : Frame) (t : Int) (s : State), s.accepts 13 f → s.keys.clock ≤ max32 →
    let run := Sys2Proof.Machine.exec (.clockTrim f t) s
    let clock := s.keys.clock
    let ended := s.keys.budget.start + 31536000 ≤ clock
    let budget : Budget :=
      if ended then { start := s.keys.budget.start + 31536000 * ((clock - s.keys.budget.start) / 31536000), used := 0 }
      else s.keys.budget
    let left := 600 - budget.used
    let b : Int := if t < -left then -left else if left < t then left else t
    let a : Int := if b < -clock then -clock else if max32 - clock < b then max32 - clock else b
    let moved := ((clock : Int) + a).toNat
    let charged := { budget with used := budget.used + a.natAbs }
    let base : State :=
      if ended then
        { s with
          keys := { s.keys with budget := budget }
          queue := { s.queue with writes := s.queue.writes ++ [{ write := .budget budget, forCheck := false }] } }
      else s
    let trimmed : State :=
      { base with
        keys := { s.keys with
          clock := moved, budget := charged
          requester := if s.keys.requester = .idle then .pending else s.keys.requester
          followOn := if s.keys.requester = .checking then true else s.keys.followOn }
        queue := { base.queue with
          writes := base.queue.writes ++ [{ write := .budget charged, forCheck := false }] } }
    let fresh : Budget := { start := charged.start + 31536000 * ((moved - charged.start) / 31536000), used := 0 }
    let answered := fun (u : State) (remains : Nat) => State.answering 13 f (if a = t then .ok else .clamped) none
      (Layout.int 2 a)
      (if a = t then u
       else raise .trimClamped (Layout.int 4 t ++ Layout.int 2 a ++ Layout.num 2 remains) u)
    (s.queue.writes.length < 8 → s.queue.waiters = [] →
      (a = 0 → run = .next (answered base left)) ∧
      (a ≠ 0 → (ended → s.queue.writes.length < 7) → moved < charged.start + 31536000 →
        run = .next (answered trimmed (left - a.natAbs))) ∧
      (a ≠ 0 → ¬ ended → s.queue.writes.length < 7 → charged.start + 31536000 ≤ moved →
        run = .next (answered
          { trimmed with
            keys := { trimmed.keys with budget := fresh }
            queue := { trimmed.queue with
              writes := trimmed.queue.writes ++ [{ write := .budget fresh, forCheck := false }] } } 600))) ∧
    (8 ≤ s.queue.writes.length ∨ s.queue.waiters ≠ [] →
      run = .next (settle (awaitRoom (.request (.clockTrim f t)) (s.received 13 f))))) ∧
  (∀ s : State, s.keys.counter < s.keys.interval →
    let clock := bump max32 s.keys.clock
    let passed := { s.keys with clock := clock, counter := s.keys.counter + 1 }
    let fresh : Budget :=
      { start := s.keys.budget.start + 31536000 * ((clock - s.keys.budget.start) / 31536000), used := 0 }
    s.keys.budget.start + 31536000 ≤ clock →
    (s.queue.writes.length < 8 → s.queue.waiters = [] →
      Sys2Proof.Machine.exec .secondEvent s = .next (settle
        { s with
          keys := { passed with budget := fresh }
          queue := { s.queue with writes := s.queue.writes ++ [{ write := .budget fresh, forCheck := false }] } })) ∧
    (8 ≤ s.queue.writes.length ∨ s.queue.waiters ≠ [] →
      Sys2Proof.Machine.exec .secondEvent s = .next (settle
        { s with
          keys := passed
          queue := { s.queue with waiters :=
            if Waiter.budget ∈ s.queue.waiters then s.queue.waiters else s.queue.waiters ++ [.budget] } }))) ∧
  (∀ s t : State, s.budgetWithin → Sys2Proof.Machine.step s = .next t → t.budgetWithin)

/-- GRANT LOAD (R63, R64, R8), its checks in their order: the fields' ranges, the integrity of the wrapped key, the
window, a key conflict, a free slot; passed, the lowest free slot takes the grant in the state its window gives at the
clock, the slot's write is queued, or waited for while the queue has no room, and the reply is OK. GRANT REVOKE and GRANT
PURGE with their checks passed and room in the queue (R66, R67): a grant that is PENDING or ACTIVE and not bound becomes
REVOKED; one that is final and not bound leaves its slot free; the slot's write is queued and the reply is OK. A bound
grant that is revoked ends its showing at the end of the reel last presented (R105): the showing is marked, and frames and
portions beyond are dropped. The model's choices in it: assumptions 9, 17, 27, 28, 31, 48. -/
def Obligations.GrantRequestsChangeTheirSlot : Prop :=
  ∀ (f : Frame) (s : State),
    (∀ (key allowance start stop : Nat) (wrapped : List Byte), s.accepts 14 f →
      Sys2Proof.Machine.exec (.grantLoad f key allowance start stop wrapped) s = .next
        (if key = 0 ∨ 65535 < key ∨ allowance = 0 ∨ 65535 < allowance then s.no 14 f .outOfRange
         else match Config.unwrap wrapped with
         | none => s.no 14 f .badGrant
         | some material =>
           if stop ≤ start then s.no 14 f .badGrant
           else if s.keys.grants.any (fun p => decide (p.2.key = key ∧ p.2.material ≠ material)) then
             s.no 14 f .keyConflict
           else match s.keys.grants.lowestFree 32 with
           | none => s.no 14 f .tableFull
           | some slot =>
             let state : GrantState :=
               if stop ≤ s.keys.clock then .expired else if start ≤ s.keys.clock then .active else .pending
             let g : Grant := { key := key, material := material, start := start, stop := stop,
                                allowance := allowance, shows := 0, state := state, loaded := s.keys.clock }
             let u := { s with
               keys := { s.keys with grants := s.keys.grants.put slot g }
               queue := { s.queue with
                 writes := s.queue.writes ++ [{ write := .grant slot (some g), forCheck := false }] } }
             if s.hasRoom then
               State.ok 14 f (Layout.num 1 slot ++ Layout.code state.code)
                 (if state = .active then raise .grantActive (grantDetail slot g) u else u)
             else settle (awaitRoom (.request (.grantLoad f key allowance start stop wrapped)) (s.received 14 f)))) ∧
    (∀ (slot : Nat) (g : Grant), s.queue.writes.length < 8 → s.queue.waiters = [] → s.accepts 16 f → slot ≤ 31 →
      s.keys.grants.find slot = some g →
      g.state = .pending ∨ g.state = .active → s.keys.bound ≠ some slot →
      Sys2Proof.Machine.exec (.grantRevoke f slot) s = .next (State.ok 16 f []
        { s with
          keys := { s.keys with grants := s.keys.grants.put slot { g with state := .revoked } }
          queue := { s.queue with writes := s.queue.writes ++
            [{ write := .grant slot (some { g with state := .revoked }), forCheck := false }] } })) ∧
    (∀ (slot : Nat) (g : Grant), s.queue.writes.length < 8 → s.queue.waiters = [] → s.accepts 17 f → slot ≤ 31 →
      s.keys.grants.find slot = some g →
      g.state = .spent ∨ g.state = .expired ∨ g.state = .revoked → s.keys.bound ≠ some slot →
      Sys2Proof.Machine.exec (.grantPurge f slot) s = .next (State.ok 17 f []
        { s with
          keys := { s.keys with
            grants := s.keys.grants.erase slot
            prepared := if s.keys.prepared = some slot then none else s.keys.prepared }
          queue := { s.queue with
            writes := s.queue.writes ++ [{ write := .grant slot none, forCheck := false }] } })) ∧
    (∀ (slot : Nat) (g : Grant) (sh : Showing), s.queue.writes.length < 8 → s.queue.waiters = [] → s.accepts 16 f →
      slot ≤ 31 → s.keys.grants.find slot = some g → g.state = .pending ∨ g.state = .active →
      s.keys.bound = some slot → s.showing = some sh →
      let last := min sh.endFrame (reelStart sh.play.composition.reels (s.time.reel + 1) - 1)
      ∃ t, Sys2Proof.Machine.exec (.grantRevoke f slot) s = .next t ∧ t.port = s.port.answers 16 f .ok none [] ∧
        t.keys.grants = s.keys.grants.put slot { g with state := .revoked } ∧ t.keys.bound = some slot ∧
        t.queue = { s.queue with writes := s.queue.writes ++
          [{ write := .grant slot (some { g with state := .revoked }), forCheck := false }] } ∧
        t.showing = some { sh with revoked := true, endFrame := last, endReel := min sh.endReel s.time.reel } ∧
        t.frames.places = (s.frames.places.filter fun p => p.prepared || decide (p.frame ≤ last)) ∧
        t.sound.portions = (s.sound.portions.filter fun q => q.prepared || decide (q.frame ≤ last)) ∧
        t.seq.state = s.seq.state ∧ t.time = s.time ∧ t.log = s.log ∧ t.nvm = s.nvm)

/-- The checks of GRANT REVOKE and GRANT PURGE in their order (R66, R67): the first that fails decides the reply, and nothing
changes. -/
def Obligations.GrantRequestsAreRefusedInOrder : Prop :=
  ∀ (f : Frame) (s : State) (slot : Nat),
    (s.accepts 16 f →
      (31 < slot → Sys2Proof.Machine.exec (.grantRevoke f slot) s = .next (s.no 16 f .outOfRange)) ∧
      (slot ≤ 31 → s.keys.grants.find slot = none →
        Sys2Proof.Machine.exec (.grantRevoke f slot) s = .next (s.no 16 f .notFound)) ∧
      (∀ g, slot ≤ 31 → s.keys.grants.find slot = some g →
        g.state = .spent ∨ g.state = .expired ∨ g.state = .revoked →
        Sys2Proof.Machine.exec (.grantRevoke f slot) s = .next (s.no 16 f .wrongState))) ∧
    (s.accepts 17 f →
      (31 < slot → Sys2Proof.Machine.exec (.grantPurge f slot) s = .next (s.no 17 f .outOfRange)) ∧
      (slot ≤ 31 → s.keys.grants.find slot = none →
        Sys2Proof.Machine.exec (.grantPurge f slot) s = .next (s.no 17 f .notFound)) ∧
      (∀ g, slot ≤ 31 → s.keys.grants.find slot = some g →
        (g.state = .pending ∨ g.state = .active →
          Sys2Proof.Machine.exec (.grantPurge f slot) s = .next (s.no 17 f .wrongState)) ∧
        (g.state = .spent ∨ g.state = .expired ∨ g.state = .revoked → s.keys.bound = some slot →
          Sys2Proof.Machine.exec (.grantPurge f slot) s = .next (s.no 17 f .inUse))))

/-- Selection by key id (R74): the grant selected is eligible, no eligible one has an earlier window end, and among those with
its window end it has the lowest slot; none is selected only when none is eligible. -/
def Obligations.SelectionTakesTheEarliestEnd : Prop :=
  ∀ (key clock : Nat) (grants : Table Grant), grants.rising = true →
    (∀ slot g, bestGrant key clock grants = some (slot, g) → (slot, g) ∈ grants ∧ g.eligible key clock = true ∧
      ∀ n x, (n, x) ∈ grants → x.eligible key clock = true → g.stop < x.stop ∨ (g.stop = x.stop ∧ slot ≤ n)) ∧
    (bestGrant key clock grants = none → ∀ n x, (n, x) ∈ grants → x.eligible key clock = false)

/-- A showing is counted once (R76, R77): the first fire of its count point, with room in the queue, charges the bound
grant, the composition and the log record in one write; once the counted mark stands a fire changes nothing. Shows counted
never exceeds the allowance: every command but a full reset, which loads the table, keeps it so (R61). The model's choices
in it: assumption 13. -/
def Obligations.ShowingsAreCountedOnce : Prop :=
  (∀ (c : Instr) (s t : State), s.showsWithin → (∀ size ran landed, c ≠ .fullReset size ran landed) →
    c ≠ .outgoingSendComplete → Sys2Proof.Machine.exec c s = .next t → t.showsWithin) ∧
  ∀ (s : State) (sh : Showing), s.showing = some sh →
    (s.keys.counted = true → countShowing s = s) ∧
    (∀ slot g c, s.keys.counted = false → s.queue.writes.length < 8 → s.queue.waiters = [] →
      s.keys.bound = some slot → s.keys.grants.find slot = some g →
      s.catalogue.compositions.find sh.play.id = some c →
      g.shows < g.allowance →
      let charged : Grant := { g with
        shows := g.shows + 1
        state := if g.shows + 1 = g.allowance ∧ g.state = .active then .spent else g.state }
      let shown := min 65535 (c.shown + 1)
      (countShowing s).keys = { s.keys with counted := true, grants := s.keys.grants.put slot charged } ∧
      (countShowing s).catalogue.compositions = s.catalogue.compositions.put sh.play.id { c with shown := shown } ∧
      (countShowing s).queue = { s.queue with writes := s.queue.writes ++
        [{ write := .count { grant := some (slot, charged.shows, charged.state), composition := (sh.play.id, shown),
                             record := (sh.record, s.keys.clock) }, forCheck := false }] } ∧
      (∀ r ∈ (countShowing s).log.records, r.sequence = sh.record →
        ∀ x, r.showing = some x → x.counted = some s.keys.clock) ∧
      (countShowing s).nvm = s.nvm ∧ (countShowing s).seq = s.seq)

/-! ### Show sequencer -/

/-- LIST LOAD of a whole list in one part (R83, R84): with its fields in range, the list not in use and room for its
entries and cue records, the list is replaced and the others stay; otherwise it is refused and no list changes. In parts
(R83): part 0 empties the staging area and begins it anew; part k + 1 is taken only after part k of the same list, and
adds its entries, or is refused TABLE_FULL and empties the area when the entries or cue records gathered are too many; a
part out of order is refused WRONG_STATE with the area kept; the final part completes the load. Every step keeps all lists
together at 256 entries and 512 cue records or fewer (R80). The model's choices in it: assumption 29. -/
def Obligations.ListsAreReplacedWhole : Prop :=
  (∀ s t : State, s.poolsBounded → Sys2Proof.Machine.step s = .next t → t.poolsBounded) ∧
  (∀ (f : Frame) (list : Nat) (entries : List Entry) (s : State), s.accepts 20 f →
    let load := Sys2Proof.Machine.exec (.listLoad f list 0 true entries) s
    let others := otherEntries s.seq.lists list
    let fits := list ≤ 15 ∧ entries.length ≤ 8 ∧ (∀ e ∈ entries, Entry.fits e = true)
    let cleared := { s with seq := { s.seq with staging := none } }
    (¬ fits → load = .next (s.no 20 f .outOfRange)) ∧
    (fits → s.seq.uses list = true → load = .next (State.no 20 f .inUse cleared)) ∧
    (fits → s.seq.uses list = false →
      256 < entries.length + others.length ∨ 512 < cueCount entries + cueCount others →
      load = .next (State.no 20 f .tableFull cleared)) ∧
    (fits → s.seq.uses list = false → entries.length + others.length ≤ 256 →
      cueCount entries + cueCount others ≤ 512 →
      load = .next (State.ok 20 f []
        { s with seq := { s.seq with staging := none, lists := replaceAt s.seq.lists list entries } }))) ∧
  ∀ (f : Frame) (list part : Nat) (final : Bool) (entries : List Entry) (s : State), s.accepts 20 f →
    let load := Sys2Proof.Machine.exec (.listLoad f list part final entries) s
    let staged := fun (x : Option Staging) (lists : List (List Entry)) =>
      { s with seq := { s.seq with staging := x, lists := lists } }
    let others := otherEntries s.seq.lists list
    let fits := list ≤ 15 ∧ part ≤ 255 ∧ entries.length ≤ 8 ∧ (∀ e ∈ entries, Entry.fits e = true)
    (¬ fits → load = .next (s.no 20 f .outOfRange)) ∧
    (fits → part = 0 → final = false →
      load = .next (State.ok 20 f [] (staged (some { list := list, part := 0, entries := entries }) s.seq.lists))) ∧
    (fits → part ≠ 0 → s.seq.staging = none → load = .next (s.no 20 f .wrongState)) ∧
    (∀ x : Staging, fits → part ≠ 0 → s.seq.staging = some x →
      let gathered := x.entries ++ entries
      (x.list ≠ list ∨ part ≠ x.part + 1 → load = .next (s.no 20 f .wrongState)) ∧
      (x.list = list → part = x.part + 1 →
        (256 < gathered.length ∨ 512 < cueCount gathered →
          load = .next (State.no 20 f .tableFull (staged none s.seq.lists))) ∧
        (gathered.length ≤ 256 → cueCount gathered ≤ 512 →
          (final = false → load = .next (State.ok 20 f []
            (staged (some { list := list, part := part, entries := gathered }) s.seq.lists))) ∧
          (final = true → s.seq.uses list = true → load = .next (State.no 20 f .inUse (staged none s.seq.lists))) ∧
          (final = true → s.seq.uses list = false →
            load = .next
              (if 256 < gathered.length + others.length ∨ 512 < cueCount gathered + cueCount others then
                State.no 20 f .tableFull (staged none s.seq.lists)
              else State.ok 20 f [] (staged none (replaceAt s.seq.lists list gathered)))))))

/-- SHOW ARM and SHOW START (R90): arming an IDLE sequencer stands it at entry 0 of the list; starting an ARMED one raises
SHOW_STARTED and walks, so that a list that begins with BLACK runs it, one that begins with WAIT waits at it, and an empty
one ends the show, with SHOW_ENDED raised that names the list and COMPLETE (R103). A list that begins with a PLAY that
passes checks 1 to 4 goes to PREROLL (R91): the PLAY is the prepared entry, its grant the prepared grant, and the readers
begin at its first played frame (R75, R125, R141). The checks are made in their order (R88): READY, the reel range, a
grant and the pairing for a scrambled one. The model's choices in it: assumptions 17, 28. -/
def Obligations.ShowsArmAndStart : Prop :=
  (∀ (f : Frame) (s : State),
    (∀ list, s.accepts 22 f →
      (15 < list → Sys2Proof.Machine.exec (.showArm f list) s = .next (s.no 22 f .outOfRange)) ∧
      (list ≤ 15 → s.seq.state ≠ .idle → Sys2Proof.Machine.exec (.showArm f list) s = .next (s.no 22 f .wrongState)) ∧
      (list ≤ 15 → s.seq.state = .idle → Sys2Proof.Machine.exec (.showArm f list) s = .next (State.ok 22 f []
        { s with seq := { s.seq with
            state := .armed, stack := [], pos := some { list := list, entry := 0 }, startList := list } }))) ∧
    (s.accepts 23 f →
      (s.seq.state ≠ .armed → Sys2Proof.Machine.exec (.showStart f) s = .next (s.no 23 f .wrongState)) ∧
      (∀ list, s.seq.state = .armed → s.seq.pos = some { list := list, entry := 0 } → s.seq.stack = [] →
        (∀ n, (s.seq.lists.getD list [])[0]? = some (.black n) → ∃ t,
          Sys2Proof.Machine.exec (.showStart f) s = .next t ∧ t.port = s.port.answers 23 f .ok none [] ∧
          t.seq.state = (if s.interlocked then .paused else .running) ∧ t.seq.current = .black n false ∧
          t.seq.pos = some { list := list, entry := 0 } ∧ t.seq.stack = [] ∧ t.time = s.time ∧ t.keys = s.keys ∧
          t.notices = (raise .showStarted (Layout.num 1 s.seq.startList) s).notices) ∧
        (∀ limit, (s.seq.lists.getD list [])[0]? = some (.wait limit) → ∃ t,
          Sys2Proof.Machine.exec (.showStart f) s = .next t ∧ t.seq.state = .waiting ∧ t.seq.current = .wait ∧
          t.seq.waitReason = some .wait ∧ t.seq.waitTimer = limit.map (fun _ => 0) ∧
          t.seq.pos = some { list := list, entry := 0 }) ∧
        (s.seq.lists.getD list [] = [] → s.seq.current = .none → ∃ t,
          Sys2Proof.Machine.exec (.showStart f) s = .next t ∧ t.seq.state = .idle ∧ t.seq.pos = none ∧
          t.port = s.port.answers 23 f .ok none [] ∧
          ∀ x : Cause, s.notices.causes[6]? = some x → ∃ y : Cause, t.notices.causes[6]? = some y ∧ y.pending = true ∧
            y.count = bump 255 x.count ∧
            y.latest.map (·.detail) = some (Layout.num 1 s.seq.startList ++ Layout.code 0)) ∧
        (∀ (id : Nat) (first last : Option Nat) (cues : List CueRecord) (p : Play) (g : Option (Nat × Grant)) (u : State),
          (s.seq.lists.getD list [])[0]? = some (.play id first last cues) →
          s.seq.current = .none → checkPlay { list := list, entry := 0 } id first last cues s = (.pass p g, u) → ∃ t,
          Sys2Proof.Machine.exec (.showStart f) s = .next t ∧ t.port = s.port.answers 23 f .ok none [] ∧
          t.seq = { s.seq with
            state := .preroll, current := .none, prepared := some (.play p), path := none, waitReason := none
            waitLimit := none, waitTimer := none } ∧
          t.keys = { u.keys with prepared := g.map (·.1) } ∧
          t.frames = { s.frames with nextPrepared := p.firstFrame, keyPrepared := g.map (·.2.material) } ∧
          t.sound.nextPrepared = p.firstFrame ∧ t.time = s.time ∧ t.log = s.log ∧ t.catalogue = s.catalogue ∧
          t.lines = s.lines ∧ ∀ x : Cause, s.notices.causes[5]? = some x → ∃ y : Cause, t.notices.causes[5]? = some y ∧
            y.pending = true ∧ y.count = bump 255 x.count ∧
            y.latest.map (·.detail) = some (Layout.num 1 s.seq.startList))))) ∧
  ∀ (pos : Pos) (id : Nat) (first last : Option Nat) (cues : List CueRecord) (s : State),
    let check := checkPlay pos id first last cues s
    (s.catalogue.compositions.find id = none → check = (.skip .notReady, s)) ∧
    ∀ c : Composition, s.catalogue.compositions.find id = some c →
      let a := first.getD 1
      let b := last.getD c.reels.length
      (c.incomplete.isSome = true → check = (.skip .notReady, s)) ∧
      (c.incomplete = none → b < a ∨ c.reels.length < b → check = (.skip .range, s)) ∧
      (c.incomplete = none → a ≤ b → b ≤ c.reels.length →
        (c.key = none → check = (.pass (makePlay pos id c a b cues) none, s)) ∧
        (∀ (key : Nat) (u : State), c.key = some key → selectGrant key s = (none, u) → check = (.skip .noGrant, u)) ∧
        (∀ (key : Nat) (g : Nat × Grant) (u : State), c.key = some key → selectGrant key s = (some g, u) →
          check = (if s.link.state = .paired then .pass (makePlay pos id c a b cues) (some g) else .skip .unpaired, u)))

/-- PAUSE, RESUME, PAUSE LIMIT and the pause limit's expiry (R100, R101): RUNNING pauses with its timer at 0, PAUSED
resumes unless an interlock holds, the limit is brought to 3,600 s, and a pause that reaches a limit other than 0, or that
has reached it already when it is set in PAUSED, ends the show. The model's choices in it: assumptions 2, 17, 27, 29. -/
def Obligations.PausesHoldAndEndShows : Prop :=
  ∀ (f : Frame) (s : State),
    (s.accepts 24 f →
      (s.seq.state = .running → Sys2Proof.Machine.exec (.pause f) s = .next (State.ok 24 f []
        { s with seq := { s.seq with state := .paused, pauseTimer := some 0 } })) ∧
      (s.seq.state ≠ .running → Sys2Proof.Machine.exec (.pause f) s = .next (s.no 24 f .wrongState))) ∧
    (s.accepts 25 f →
      (s.seq.state ≠ .paused → Sys2Proof.Machine.exec (.resume f) s = .next (s.no 25 f .wrongState)) ∧
      (s.seq.state = .paused → s.interlocked = true →
        Sys2Proof.Machine.exec (.resume f) s = .next (s.no 25 f .interlock)) ∧
      (s.seq.state = .paused → s.interlocked = false →
        Sys2Proof.Machine.exec (.resume f) s = .next (State.ok 25 f []
          { s with seq := { s.seq with state := .running, pauseTimer := none } }))) ∧
    (∀ seconds, s.accepts 29 f →
      (s.seq.state = .paused → min seconds 3600 = 0 ∨
        s.seq.pauseTimer.all (fun c => decide (c < min seconds 3600 * 27000000)) = true) →
      Sys2Proof.Machine.exec (.pauseLimit f seconds) s = .next (State.answering 29 f
        (if seconds ≤ 3600 then .ok else .clamped) none (if seconds ≤ 3600 then [] else Layout.num 2 3600)
        { s with seq := { s.seq with pauseLimit := min seconds 3600 } })) ∧
    (s.seq.state = .paused → s.seq.pauseLimit ≠ 0 → ∃ t,
      Sys2Proof.Machine.exec .pauseLimitExpiry s = .next t ∧ t.seq.state = .idle ∧ t.seq.current = .none ∧
      t.seq.prepared = none ∧ t.seq.stack = [] ∧ t.keys.bound = (if s.showing.isSome then none else s.keys.bound) ∧
      t.catalogue = s.catalogue ∧ t.keys.grants = s.keys.grants ∧ t.lines = s.lines) ∧
    (∀ seconds cycles, s.accepts 29 f → s.seq.state = .paused → min seconds 3600 ≠ 0 →
      s.seq.pauseTimer = some cycles → min seconds 3600 * 27000000 ≤ cycles → ∃ t,
      Sys2Proof.Machine.exec (.pauseLimit f seconds) s = .next t ∧ t.seq.state = .idle ∧ t.seq.current = .none ∧
      t.seq.prepared = none ∧ t.seq.stack = [] ∧ t.seq.pauseLimit = min seconds 3600 ∧
      t.keys.bound = (if s.showing.isSome then none else s.keys.bound) ∧
      t.port = s.port.answers 29 f (if seconds ≤ 3600 then .ok else .clamped) none
        (if seconds ≤ 3600 then [] else Layout.num 2 3600))

/-- GO and the timeout of a WAIT (R98): refused outside WAITING and while an interlock holds; else, with a path that has
no steps, the prepared BLACK runs, the prepared PLAY goes to PREROLL, the prepared end of the show ends it, the prepared
WAIT is entered with its own timer, and the prepared walk limit halts the sequencer (R106). A timeout acts as GO, and
lapses while an interlock holds. GO in a LOG_FULL wait (R99) is refused while the log has no room; with room the PLAY
enters PREROLL when checks 1 to 4 pass, and is otherwise skipped and what it had prepared discarded, and a BLACK after it
runs. The model's choices in it: assumptions 2, 17, 27. -/
def Obligations.WaitsEndByGoOrTimeout : Prop :=
  ∀ (f : Frame) (s : State),
    (s.accepts 26 f →
      (s.seq.state ≠ .waiting → Sys2Proof.Machine.exec (.go f) s = .next (s.no 26 f .wrongState)) ∧
      (s.seq.state = .waiting → s.interlocked = true →
        Sys2Proof.Machine.exec (.go f) s = .next (s.no 26 f .interlock)) ∧
      (s.seq.state = .waiting → s.interlocked = false → s.seq.waitReason = some .logFull → s.log.hasRoom = false →
        Sys2Proof.Machine.exec (.go f) s = .next (s.no 26 f .logFull)) ∧
      (∀ p u, s.seq.state = .waiting → s.interlocked = false → s.seq.waitReason = some .logFull → s.log.hasRoom = true →
        s.seq.prepared = some (.play p) →
        (∀ fresh g, recheckPlay p (s.received 26 f) = (.pass fresh g, u) → ∃ t,
          Sys2Proof.Machine.exec (.go f) s = .next t ∧ t.seq.state = .preroll ∧ t.seq.prepared = some (.play p) ∧
          t.seq.current = .none ∧ t.seq.waitReason = none ∧ t.seq.pos = s.seq.pos ∧ t.keys = u.keys ∧
          t.frames = s.frames ∧ t.sound = s.sound ∧ t.log = s.log) ∧
        (∀ reason n, recheckPlay p (s.received 26 f) = (.skip reason, u) →
          (s.seq.lists.getD p.pos.list [])[p.pos.entry + 1]? = some (.black n) → ∃ t,
          Sys2Proof.Machine.exec (.go f) s = .next t ∧ t.seq.state = .running ∧ t.seq.current = .black n false ∧
          t.seq.pos = some p.pos.after ∧ t.seq.prepared = none ∧ t.seq.waitReason = none ∧ t.keys.prepared = none ∧
          (∀ x ∈ t.frames.places, x.prepared = false) ∧ (∀ q ∈ t.sound.portions, q.prepared = false) ∧
          t.time = s.time ∧ t.log = s.log ∧
          ∀ x : Cause, s.notices.causes[10]? = some x → ∃ y : Cause, t.notices.causes[10]? = some y ∧
            y.pending = true ∧ y.count = bump 255 x.count ∧ y.latest.map (·.detail) = some (Layout.num 1 p.pos.list ++
              Layout.num 1 p.pos.entry ++ Layout.num 1 p.id ++ Layout.code reason.code)))) ∧
    (s.seq.state = .waiting → s.seq.waitReason = some .wait →
      (∃ stack, s.seq.path = some { steps := [], stack := stack }) → ∀ (byHost : Bool),
      (if byHost then s.accepts 26 f else s.seq.waitLimit.isSome = true ∧ s.seq.waitTimer.isSome = true) →
      let ends := Sys2Proof.Machine.exec (if byHost then .go f else .waitTimeout) s
      (s.interlocked = true → byHost = false → ends = .next (settle
        { s with seq := { s.seq with waitTimer := none, waitLimit := none } })) ∧
      (s.interlocked = false →
        (∀ pos n, s.seq.prepared = some (.black pos n) → ∃ t, ends = .next t ∧ t.seq.state = .running ∧
          t.seq.pos = some pos ∧ t.seq.current = .black n false ∧ t.seq.prepared = none ∧ t.seq.waitTimer = none ∧
          t.keys = s.keys ∧ t.time = s.time) ∧
        (∀ p, s.seq.prepared = some (.play p) → ∃ t, ends = .next t ∧ t.seq.state = .preroll ∧
          t.seq.prepared = some (.play p) ∧ t.seq.current = .none ∧ t.seq.waitTimer = none ∧ t.keys = s.keys) ∧
        (s.seq.prepared = some .showEnd → ∃ t, ends = .next t ∧ t.seq.state = .idle ∧ t.seq.pos = none) ∧
        (∀ pos timeout, s.seq.prepared = some (.wait pos timeout) → ∃ t path, ends = .next t ∧ t.seq.state = .waiting ∧
          t.seq.pos = some pos ∧ t.seq.current = .wait ∧ t.seq.waitReason = some .wait ∧ t.seq.waitLimit = timeout ∧
          t.seq.waitTimer = timeout.map (fun _ => 0) ∧ t.seq.path = some path ∧ path.steps.length ≤ 64 ∧
          t.lines = s.lines ∧ t.log = s.log ∧ t.time = s.time ∧
          ∀ x : Cause, s.notices.causes[11]? = some x → ∃ y : Cause, t.notices.causes[11]? = some y ∧
            y.pending = true ∧ y.count = bump 255 x.count ∧ y.latest.map (·.detail) =
              some (Layout.num 1 pos.list ++ Layout.num 1 pos.entry ++ [0#8])) ∧
        (∀ pos, s.seq.prepared = some (.walkLimit pos) → ∃ t, ends = .next t ∧ t.seq.state = .halted ∧
          t.seq.halt = some .walkLimit ∧ t.seq.pos = some pos ∧ t.seq.current = .none ∧ t.seq.prepared = none ∧
          t.seq.waitTimer = none ∧ t.lines = s.lines ∧ t.log = s.log)))

/-- SKIP and STOP (R102, R103): refused in the states that do not take them; SKIP of a PLAY, whose showing ends STOPPED,
or of a BLACK goes, with a path that has no steps, to the prepared entry: a WAIT is entered and a show end ends the show
at once, and a PLAY or a BLACK stands prepared in a black gap. Before lookahead it is made at once. STOP from ARMED goes
to IDLE, and from any state of a show ends the showing STOPPED and the show. The model's choices in it: assumption 17. -/
def Obligations.SkipsAndStopsEndEntries : Prop :=
  ∀ (f : Frame) (s : State),
    (s.accepts 27 f →
      (s.seq.state ≠ .running → Sys2Proof.Machine.exec (.skip f) s = .next (s.no 27 f .wrongState)) ∧
      (s.seq.state = .running → s.seq.current = .none →
        Sys2Proof.Machine.exec (.skip f) s = .next (s.no 27 f .wrongState)) ∧
      (s.seq.state = .running → s.log.release = none → (∃ n begun, s.seq.current = .black n begun) ∨ s.showing ≠ none →
        ∃ t, Sys2Proof.Machine.exec (.skip f) s = .next t ∧ t.port = s.port.answers 27 f .ok none [] ∧
        (∀ sh, s.showing = some sh → t.keys.bound = none ∧ t.showing = none ∧ ∀ r ∈ t.log.records,
          r.sequence = sh.record → r.outcome = some .stopped ∧ ∀ x, r.showing = some x → x.stop = some s.keys.clock) ∧
        ((∃ stack, s.seq.path = some { steps := [], stack := stack }) →
          (∀ pos limit, s.seq.prepared = some (.wait pos limit) → t.seq.state = .waiting ∧ t.seq.current = .wait ∧
            t.seq.pos = some pos ∧ t.seq.waitReason = some .wait ∧ t.time.frame = s.time.frame) ∧
          (s.seq.prepared = some .showEnd → t.seq.state = .idle ∧ t.seq.pos = none ∧ t.seq.prepared = none) ∧
          (∀ p, s.seq.prepared = some p → (∃ play, p = .play play) ∨ (∃ pos n, p = .black pos n) →
            t.seq.state = .running ∧ t.seq.current = .none ∧ t.seq.prepared = some p ∧ t.seq.path = none ∧
            t.seq.stack = s.seq.stack ∧ t.seq.pos = s.seq.pos.map Pos.after ∧ t.keys.prepared = s.keys.prepared)) ∧
        (∀ pos n, s.seq.path = none → s.seq.pos = some pos →
          (s.seq.lists.getD pos.list [])[pos.entry + 1]? = some (.black n) →
          t.seq.state = .running ∧ t.seq.current = .none ∧ t.seq.prepared = some (.black pos.after n) ∧
          t.seq.path = none ∧ t.seq.pos = some pos.after))) ∧
    (s.accepts 28 f →
      (s.seq.state = .idle → Sys2Proof.Machine.exec (.stop f) s = .next (s.no 28 f .wrongState)) ∧
      (s.seq.state ≠ .idle → s.log.release = none → ∃ t, Sys2Proof.Machine.exec (.stop f) s = .next t ∧
        t.port = s.port.answers 28 f .ok none [] ∧ t.seq.state = .idle ∧ t.seq.pos = none ∧ t.seq.stack = [] ∧
        t.seq.current = .none ∧ t.time.rate = 24 ∧ t.catalogue = s.catalogue ∧ t.nvm = s.nvm ∧ t.lines = s.lines ∧
        (∀ sh, s.showing = some sh → s.seq.state ≠ .armed → t.keys.bound = none ∧
          ∀ r ∈ t.log.records, r.sequence = sh.record →
            r.outcome = some .stopped ∧ ∀ x, r.showing = some x → x.stop = some s.keys.clock)))

/-- A walk makes at most 64 steps, and never takes the nesting stack above 4 (R89, R86). No step does: neither the stack nor
the path recorded for the boundary ever takes it above 4 positions. -/
def Obligations.WalksAreBounded : Prop :=
  (∀ s t : State, s.nestingBounded → Sys2Proof.Machine.step s = .next t → t.nestingBounded) ∧
  ∀ (start : Pos) (stack : List Pos) (s : State), stack.length ≤ 4 →
    (scan 64 start stack s).1.steps.length ≤ 64 ∧ (scan 64 start stack s).1.stack.length ≤ 4 ∧
    (scan 64 start stack s).2.seq = s.seq ∧ (scan 64 start stack s).2.catalogue = s.catalogue ∧
    (scan 64 start stack s).2.lines = s.lines

/-- Lookahead, the boundary and the limit of repeats (R95 to R97, R106): lookahead that is due records a path and leaves
the current entry; the boundary of a BLACK with a prepared BLACK and a path of no steps makes that one current with its
frames to count; 48 consecutive repeats end the showing ABORTED_FAULT and halt the sequencer. A PLAY takes over (R93): in
PREROLL and in a black gap when it is ready, at the boundary ready or not. With the checks passed it is the current
showing, with its bound grant, its frame clock and counters, its count point and cues loaded and its log record opened
(R171); with the log full it waits (R99); a check failed skips it, and the walk goes on in a black gap (R96). The model's
choices in it: assumptions 2, 4, 17, 27, 28, 50. -/
def Obligations.BoundariesAndLimitsAct : Prop :=
  (∀ s : State, s.lookaheadDue = true → ∃ t path,
    Sys2Proof.Machine.exec .lookahead s = .next t ∧ t.seq.path = some path ∧ path.steps.length ≤ 64 ∧
    t.seq.current = s.seq.current ∧ t.seq.state = s.seq.state ∧ t.seq.stack = s.seq.stack ∧ t.seq.pos = s.seq.pos ∧
    t.lines = s.lines ∧ t.time = s.time ∧ t.log = s.log) ∧
  (∀ (s : State) (n m : Nat) (pos : Pos) (stack : List Pos), s.seq.state = .running → s.seq.current = .black n true →
    s.time.black ≤ 1 → s.seq.path = some { steps := [], stack := stack } →
    s.seq.prepared = some (.black pos m) → 96 < m → ∃ t,
    Sys2Proof.Machine.exec .boundary s = .next t ∧ t.seq.state = .running ∧ t.seq.current = .black m true ∧
    t.time.black = m ∧ t.seq.pos = some pos ∧ t.seq.prepared = none ∧ t.seq.path = none ∧ t.time.count = 0 ∧
    t.time.frame = s.time.frame ∧ t.time.edges = s.time.edges ∧ t.keys = s.keys ∧ t.log = s.log) ∧
  (∀ (s : State) (sh : Showing), s.seq.current = .play sh → 48 ≤ s.frames.consecutive → ∃ t,
    Sys2Proof.Machine.exec .repeatLimit s = .next t ∧ t.seq.state = .halted ∧ t.seq.halt = some .abortedFault ∧
    t.seq.current = .none ∧ t.keys.bound = none ∧ t.frames.consecutive = 0 ∧
    (∀ r ∈ t.log.records, r.sequence = sh.record → r.outcome = some .abortedFault)) ∧
  (∀ (s : State) (p : Play), s.seq.prepared = some (.play p) →
    (s.seq.state = .preroll ∨ (s.seq.state = .running ∧ s.seq.current = .none) →
      sequencerTick s = if playReady p s then takeOver p s else s) ∧
    (∀ n stack, s.seq.state = .running → s.seq.current = .black n true → s.time.black ≤ 1 →
      s.seq.path = some { steps := [], stack := stack } →
      sequencerTick s = takeOver p { s with seq := { s.seq with
        current := .none, path := none, pos := s.seq.pos.map Pos.after } })) ∧
  (∀ (s u : State) (p fresh : Play) (g : Option (Nat × Grant)), recheckPlay p s = (.pass fresh g, u) →
    (s.log.hasRoom = true →
      let t := takeOver p s
      let cues := resolveCues { fresh with cues := p.cues }
      t.seq.state = (if s.interlocked then .paused else .running) ∧ t.seq.pos = some fresh.pos ∧
      t.seq.prepared = none ∧ t.seq.path = none ∧
      t.showing = some
        { play := { fresh with cues := p.cues }, record := s.log.next, cues := cues, nextCue := min 2 cues.length,
          endFrame := fresh.lastFrame, endReel := fresh.lastReel, revoked := false, presented := 0, repeated := 0 } ∧
      t.keys = { u.keys with bound := g.map (·.1), prepared := none, counted := false } ∧
      t.time.rate = fresh.composition.rate ∧ t.time.frame = fresh.firstFrame ∧ t.time.reel = fresh.firstReel ∧
      t.time.reelFrame = 0 ∧ t.time.timecode = timecodeOf fresh.firstFrame fresh.composition.rate ∧
      (∀ x : CompareUnit, s.time.units[0]? = some x → t.time.units[0]? = some
        { armed := (cues[0]?).map fun c => { frame := c.1, tag := 0 }
          pending := (cues[1]?).map fun c => { frame := c.1, tag := 1 } }) ∧
      (∀ x : CompareUnit, s.time.units[1]? = some x → t.time.units[1]? = some
        { armed := fresh.composition.countPoint.map fun n => { frame := n, tag := 0 }, pending := none }) ∧
      t.log.records = (if 1024 ≤ s.log.records.length then s.log.records.drop 1 else s.log.records) ++
        [{ sequence := s.log.next, outcome := none, mark := false
           showing := some
             { composition := fresh.id, package := fresh.composition.package, tag := fresh.composition.tag
               grant := g.map fun x => (x.1, x.2.key), start := s.keys.clock, stop := none
               firstReel := fresh.firstReel, lastReel := fresh.firstReel, presented := 0, repeated := 0
               counted := none } }] ∧
      t.frames = { s.frames with
        places := s.frames.places.map fun x => { x with prepared := false }
        job := s.frames.job.map fun j => { j with prepared := false }
        nextCurrent := s.frames.nextPrepared, keyCurrent := s.frames.keyPrepared, keyPrepared := none
        last := none, carried := none, consecutive := 0 } ∧
      t.catalogue = s.catalogue ∧ t.nvm = s.nvm ∧ t.lines = s.lines ∧
      ∀ x : Cause, s.notices.causes[7]? = some x → ∃ y : Cause, t.notices.causes[7]? = some y ∧ y.pending = true ∧
        y.count = bump 255 x.count ∧ y.latest.map (·.detail) = some
          ((fresh.pos.list :: fresh.pos.entry :: fresh.id :: fresh.firstReel :: [fresh.lastReel]).flatMap
            (Layout.num 1) ++ Layout.opt (Layout.num 1) (g.map (·.1)))) ∧
    (s.log.hasRoom = false → takeOver p s = raise .waiting
      (Layout.num 1 p.pos.list ++ Layout.num 1 p.pos.entry ++ Layout.code 1)
      { u with seq := { u.seq with
          state := .waiting, pos := some p.pos, current := .none, path := none, waitReason := some .logFull
          waitLimit := none, waitTimer := none, pauseTimer := none } })) ∧
  (∀ (s u : State) (p : Play) (reason : SkipReason) (n : Nat), recheckPlay p s = (.skip reason, u) →
    s.seq.prepared = some (.play p) → (s.seq.lists.getD p.pos.list [])[p.pos.entry + 1]? = some (.black n) →
    let t := takeOver p s
    t.seq.state = (if s.interlocked then .paused else .running) ∧ t.seq.current = .none ∧ t.seq.path = none ∧
    t.seq.pos = some p.pos.after ∧ t.seq.prepared = some (.black p.pos.after n) ∧ t.keys.prepared = none ∧
    t.keys.bound = s.keys.bound ∧ (∀ x ∈ t.frames.places, x.prepared = false) ∧ t.frames.keyPrepared = none ∧
    (∀ q ∈ t.sound.portions, q.prepared = false) ∧ t.time = s.time ∧ t.log = s.log ∧
    ∀ x : Cause, s.notices.causes[10]? = some x → ∃ y : Cause, t.notices.causes[10]? = some y ∧ y.pending = true ∧
      y.count = bump 255 x.count ∧ y.latest.map (·.detail) = some (Layout.num 1 p.pos.list ++
        Layout.num 1 p.pos.entry ++ Layout.num 1 p.id ++ Layout.code reason.code))

/-! ### Timeline -/

/-- The frame clock and its ticks (R111 to R114). A selected edge makes a tick, at which every unit takes a frame tick,
and locks the clock; after COASTING SYNC_REGAINED is raised with the coasting ticks made since the loss. The generator
ticks in FREE, ACQUIRING and COASTING, the second tick of ACQUIRING losing sync, and in LOCKED it makes none until it
reaches twice its divisor, which loses sync; a loss ticks, raises SYNC_LOST with the rate in force and leaves the clock
COASTING. Every tick restarts the generator's count. What a tick is to the units: after it, with a current showing, no
compare unit holds an ARMED target at or below its counter (R119); fades and pulses move one step (R150, R181). In RUNNING
with a current PLAY short of its last frame, unit 1 fires to the key unit, which counts the showing (R76), unit 0 to the
sequencer, which performs the cue and loads the next (R94), and units 2 to 5 to the subtitle engine, which shows the cue
(R162), and PENDING moves up; the due frame is presented or the last one repeated (R128), and the 48th repeat halts the
sequencer at a tick whose sound is that of RUNNING (R106). The model's choices in it: assumptions 2, 4, 34, 38. -/
def Obligations.FrameClockFollowsItsSource : Prop :=
  ∀ s : State,
    let tick := fun time : Timeline => frameTick { s with time := { time with count := 0 } }
    let generated := bump max32 s.time.generated
    let lost := tick { s.time with
      clock := .coasting, generated := generated, losses := bump max32 s.time.losses, acquiring := 0, coasting := 1 }
    (∀ time : Timeline,
      let u := tick time
      u.time.clock = time.clock ∧ u.time.count = 0 ∧ u.time.source = time.source ∧ u.time.edges = time.edges ∧
      u.time.generated = time.generated ∧ u.time.losses = time.losses ∧ u.time.acquiring = time.acquiring ∧
      u.time.coasting = time.coasting ∧ u.notices.causes[23]? = s.notices.causes[23]? ∧
      u.notices.causes[24]? = s.notices.causes[24]?) ∧
    (∀ e rising, s.time.source = some e → e.takes rising = true →
      let u := tick { s.time with
        clock := .locked, edges := bump max32 s.time.edges, acquiring := 0, coasting := 0 }
      (s.time.clock ≠ .coasting → Sys2Proof.Machine.exec (.frameSyncEdge rising) s = .next (settle u)) ∧
      (s.time.clock = .coasting → Sys2Proof.Machine.exec (.frameSyncEdge rising) s =
        .next (settle (raise .syncRegained (Layout.num 4 s.time.coasting) u)))) ∧
    (∀ rising, s.time.source = none ∨ (∃ e, s.time.source = some e ∧ e.takes rising = false) →
      Sys2Proof.Machine.exec (.frameSyncEdge rising) s = .next (settle s)) ∧
    (s.time.clock = .free → Sys2Proof.Machine.exec .generatorTick s = .next (settle (tick s.time))) ∧
    (s.time.clock = .acquiring → s.time.acquiring = 0 → Sys2Proof.Machine.exec .generatorTick s =
      .next (settle (tick { s.time with generated := generated, acquiring := 1 }))) ∧
    (s.time.clock = .acquiring → 1 ≤ s.time.acquiring → Sys2Proof.Machine.exec .generatorTick s =
      .next (settle (raise .syncLost (Layout.num 1 s.time.rate) lost))) ∧
    (s.time.clock = .coasting → Sys2Proof.Machine.exec .generatorTick s =
      .next (settle (tick { s.time with generated := generated, coasting := bump max32 s.time.coasting }))) ∧
    (s.time.clock = .locked → Sys2Proof.Machine.exec .generatorTick s = .next (settle s)) ∧
    (s.time.clock = .locked → Sys2Proof.Machine.exec .syncLoss s =
      .next (settle (raise .syncLost (Layout.num 1 s.time.rate) lost))) ∧
    (s.time.clock ≠ .locked → Sys2Proof.Machine.exec .syncLoss s = .next (settle s)) ∧
    (let t := frameTick s
     t.showing.isSome = true → ∀ (n : Nat) (x : CompareUnit) (a : Target), n < 2 ∨ (n < 6 ∧ (t.subs.streams[n - 2]?).isSome = true) →
      t.time.units[n]? = some x → x.armed = some a → counterOf n t < a.frame) ∧
    (s.seq.state ≠ .running → s.seq.state ≠ .preroll → s.showing = none →
      (frameTick s).sound.fader = (stepFade s).sound.fader ∧ (frameTick s).sound.fade = (stepFade s).sound.fade ∧
      (frameTick s).lines = s.lines.map Line.stepPulse) ∧
    (∀ sh : Showing, s.seq.state = .running → s.seq.current = .play sh → s.time.frame < sh.endFrame →
      let t := frameTick s
      let due := s.time.frame + 1
      let resting := fun x : CompareUnit => ∀ b : Target, x.pending = some b → due < b.frame
      (s.frames.consecutive < 47 →
        (∀ (x : CompareUnit) (a : Target), s.time.units[1]? = some x → x.armed = some a →
          (due < a.frame → t.time.units[1]? = some x ∧ t.keys.counted = s.keys.counted) ∧
          (a.frame ≤ due → resting x →
            t.time.units[1]? = some x.moveUp ∧ t.keys.counted = true)) ∧
        (∀ (x : CompareUnit) (a : Target) (c : Nat × CueAction), s.time.units[0]? = some x → x.armed = some a → a.frame ≤ due → resting x →
          sh.cues[a.tag]? = some c → (∀ d : Nat × CueAction, sh.cues[sh.nextCue]? = some d → due < d.1) →
          let acted := performCue sh.play.pos c.2 (stepFade (stepPulses s))
          (sh.cues[sh.nextCue]? = none → t.time.units[0]? = some x.moveUp) ∧
          (∀ d : Nat × CueAction, sh.cues[sh.nextCue]? = some d →
            t.time.units[0]? = some (x.moveUp.load (Target.mk d.1 sh.nextCue))) ∧
          t.lines = acted.lines ∧ t.sound.fader = acted.sound.fader ∧ t.sound.fade = acted.sound.fade ∧
          (∀ number : Nat, c.2 = CueAction.notice number → ∀ y : Cause, s.notices.causes[27]? = some y → ∃ z,
            t.notices.causes[27]? = some z ∧ z.pending = true ∧ z.count = bump 255 y.count)) ∧
        ((∀ (x : CompareUnit) (a : Target), s.time.units[0]? = some x → x.armed = some a → due < a.frame) →
          t.sound.fader = (stepFade s).sound.fader ∧ t.sound.fade = (stepFade s).sound.fade ∧
          t.lines = s.lines.map Line.stepPulse)) ∧
      (∀ (pl : Place) (rest : List Place), s.seq.path.isSome = true → s.frames.sending = none → s.frames.places = pl :: rest →
        pl.frame = due → pl.prepared = false →
        (pl.condition = .complete → t.frames.places = rest ∧ t.frames.consecutive = 0 ∧
          t.frames.last = some (Picture.mk due pl.blocks) ∧
          t.frames.sending = some (Send.frame sh.record (Picture.mk due pl.blocks)) ∧
          t.showing.map Showing.presented = some (sh.presented + 1) ∧
          ∀ (k : Nat) (st : Stream) (x : CompareUnit) (a : Target) (cues : List TimedCue) (c : TimedCue), k ≤ 3 → due ∉ s.time.starts.drop 1 → s.subs.streams[k]? = some st →
            st.slots = [none, none] → st.timed = some cues → cues[a.tag]? = some c →
            s.time.units[2 + k]? = some x → x.armed = some a → x.pending = none →
            (∀ d ∈ cues.drop st.nextCue, s.time.reelFrame + 1 < d.inFrame) →
            (s.time.reelFrame + 1 < a.frame → (t.subs.streams[k]?).map Stream.slots = some [none, none]) ∧
            (a.frame ≤ s.time.reelFrame + 1 → s.time.reelFrame + 1 < c.outFrame →
              (t.subs.streams[k]?).map Stream.slots = some [some (Shown.mk a.tag c), none])) ∧
        (pl.condition = .missing → s.frames.consecutive < 47 → t.frames.places = rest ∧
          t.frames.consecutive = s.frames.consecutive + 1 ∧
          t.frames.sending = some (repeatSend sh s) ∧ t.showing.map Showing.repeated = some (sh.repeated + 1)) ∧
        (pl.condition = .missing → s.frames.consecutive = 47 → t.seq.state = .halted ∧
          t.seq.halt = some .abortedFault ∧ t.seq.current = .none ∧
          t.sound.mute = if s.interlocked then some MuteReason.interlock else none)))

/-- FRAME SOURCE takes INTERNAL, or SYNC with an edge, in every state and in start-up, and refuses any other value:
INTERNAL is FREE, a new source or edge is ACQUIRING with its count at 0, the same edge leaves the clock; the generator's
count stands, and the reply carries the clock state; a full reset leaves INTERNAL and FREE, a show reset leaves both
(R110). A mark joins a queue of fewer than 8 captures and is otherwise dropped and counted; CAPTURE READ takes the oldest
captures and clears the dropped count; every step keeps the queue at 8 captures or fewer (R121, R122). The model's choices
in it: assumptions 27, 28, 43. -/
def Obligations.SourcesAndCaptures : Prop :=
  (∀ s t : State, s.time.captures.length ≤ 8 → Sys2Proof.Machine.step s = .next t → t.time.captures.length ≤ 8) ∧
  (∀ source edge, sourceOf source edge =
    if source = 0 then some none
    else if source = 1 then
      (match edge with
       | some 0 => some (some .rising)
       | some 1 => some (some .falling)
       | some 2 => some (some .both)
       | _ => none)
    else none) ∧ storeUsing 30 = false ∧
  ∀ (f : Frame) (s : State),
    (∀ size ran landed, ∃ t, Sys2Proof.Machine.exec (.fullReset size ran landed) s = .next t ∧
      t.time.source = none ∧ t.time.clock = .free) ∧
    (s.accepts 53 f → ∃ t, Sys2Proof.Machine.exec (.resetShow f) s = .next t ∧
      t.time.source = s.time.source ∧ t.time.clock = s.time.clock) ∧
    (∀ source edge, s.accepts 30 f →
      (sourceOf source edge = none →
        Sys2Proof.Machine.exec (.frameSource f source edge) s = .next (s.no 30 f .outOfRange)) ∧
      (sourceOf source edge = some none →
        Sys2Proof.Machine.exec (.frameSource f source edge) s = .next (State.ok 30 f [0#8]
          { s with time := { s.time with source := none, clock := .free, acquiring := 0, coasting := 0 } })) ∧
      (∀ e, sourceOf source edge = some (some e) → s.time.source ≠ some e →
        Sys2Proof.Machine.exec (.frameSource f source edge) s = .next (State.ok 30 f [1#8]
          { s with time := { s.time with source := some e, clock := .acquiring, acquiring := 0, coasting := 0 } })) ∧
      (∀ e, sourceOf source edge = some (some e) → s.time.source = some e →
        Sys2Proof.Machine.exec (.frameSource f source edge) s =
          .next (s.ok 30 f (Layout.code s.time.clock.code)))) ∧
    (s.accepts 32 f →
      (s.time.captures.length < 8 → Sys2Proof.Machine.exec (.mark f) s = .next (State.ok 32 f [0#8]
        (raise .captureTaken ([0#8] ++ Layout.num 3 s.time.frame)
          { s with time := { s.time with captures := s.time.captures ++
            [{ line := none, composition := s.showing.map (·.play.id), reel := s.time.reel,
               reelFrame := s.time.reelFrame, frame := s.time.frame, timecode := s.time.timecode,
               time := s.keys.clock }] } }))) ∧
      (8 ≤ s.time.captures.length → Sys2Proof.Machine.exec (.mark f) s = .next (State.ok 32 f [1#8]
        (raise .captureOverrun [0#8]
          { s with time := { s.time with dropped := bump 65535 s.time.dropped } })))) ∧
    (∀ count, s.accepts 33 f →
      (count = 0 ∨ 8 < count → Sys2Proof.Machine.exec (.captureRead f count) s = .next (s.no 33 f .outOfRange)) ∧
      (1 ≤ count → count ≤ 8 → Sys2Proof.Machine.exec (.captureRead f count) s = .next (State.ok 33 f
        (Layout.rep 1 Capture.bytes (s.time.captures.take count) ++
          Layout.num 1 (s.time.captures.length - count) ++ Layout.num 2 s.time.dropped)
        { s with time := { s.time with captures := s.time.captures.drop count, dropped := 0 } })))

/-- The timecode cascade counts with the composition frame (R116): from the timecode of a frame, one tick at the rate in
force gives the timecode of the next frame. A frame tick moves the counters (R115): in RUNNING with a current showing
short of its boundary the composition frame rises by 1, the reel number rises at a reel start of the played range and the
reel frame becomes 0, and else the reel frame rises by 1, and the timecode ticks; a BLACK only counts its frames down
(R97); in a black gap and in every state other than RUNNING all of them stand, unless a PLAY takes over. The model's
choices in it: assumption 4. -/
def Obligations.TimecodeTicksWithTheFrame : Prop :=
  let stands := fun s t : State => t.time.frame = s.time.frame ∧ t.time.reel = s.time.reel ∧
    t.time.reelFrame = s.time.reelFrame ∧ t.time.timecode = s.time.timecode ∧ t.time.rate = s.time.rate
  (∀ f rate : Nat, 0 < rate → (timecodeOf f rate).tick rate = timecodeOf (f + 1) rate) ∧
  (∀ (s : State) (sh : Showing), s.seq.state = .running → s.seq.current = .play sh → s.time.frame < sh.endFrame →
    let t := (frameTick s).time
    t.frame = s.time.frame + 1 ∧ t.rate = s.time.rate ∧ t.black = s.time.black ∧
    (s.time.frame + 1 ∈ s.time.starts.drop 1 → t.reel = s.time.reel + 1 ∧ t.reelFrame = 0) ∧
    (s.time.frame + 1 ∉ s.time.starts.drop 1 → t.reel = s.time.reel ∧ t.reelFrame = s.time.reelFrame + 1) ∧
    (0 < s.time.rate → s.time.timecode = timecodeOf s.time.frame s.time.rate → t.timecode = timecodeOf t.frame t.rate)) ∧
  (∀ s : State, s.seq.state ≠ .running →
    (s.seq.state = .preroll → ∀ p, s.seq.prepared = some (.play p) → playReady p s = false) →
    stands s (frameTick s) ∧ (frameTick s).time.black = s.time.black) ∧
  (∀ (s : State) (n : Nat) (begun : Bool), s.seq.state = .running → s.seq.current = .black n begun →
    (begun = true → 1 < s.time.black) →
    stands s (frameTick s) ∧ (frameTick s).time.black = if begun then s.time.black - 1 else n) ∧
  (∀ s : State, s.seq.state = .running → s.seq.current = .none → (∀ pos n, s.seq.prepared ≠ some (.black pos n)) →
    (∀ p, s.seq.prepared = some (.play p) → playReady p s = false) →
    stands s (frameTick s) ∧ (frameTick s).time.black = s.time.black)

/-! ### Picture and the projector link -/

/-- The frame sent at a tick (R127, R128) with the link free: a due frame that is COMPLETE leaves the queue, is counted as
presented and is the last frame sent; one that is MISSING, or still FILLING (LATE), leaves the queue, the reader giving up
its work on a FILLING one, and with no place for the due frame (EMPTY) the reader's next frame moves past it: the last
frame sent goes again, or black with none, counted as a repeat, with PICTURE_UNDERRUN raised. PAUSED, other than at the
takeover tick, repeats the last frame sent and counts nothing; with no current showing black is sent. A portion still
FILLING at its tick leaves the sound buffer and is silence whole (LATE), and with no portion for the due frame the
reader's next portion moves past it (EMPTY), with SOUND_UNDERRUN raised when positions were to be read (R144); the number
of missing positions it carries is the model's reading (assumption 21). The model's choices in it: assumptions 20, 21, 27.
-/
def Obligations.FramesArePresentedOrRepeated : Prop :=
  (∀ (s : State) (takeover : Bool), s.frames.sending = none →
    (s.showing = none → presentPicture takeover s = beginSend .black s) ∧
    (∀ sh p rest, s.seq.current = .play sh →
      s.seq.state = .running ∨ (takeover = true ∧ s.seq.state = .paused) → s.frames.places = p :: rest →
      p.frame = s.time.frame → p.prepared = false →
      (p.condition = .complete →
        (presentPicture takeover s).frames = { s.frames with
          places := rest, consecutive := 0, last := some { frame := p.frame, blocks := p.blocks }
          sending := some (.frame sh.record { frame := p.frame, blocks := p.blocks })
          travelling := s.subs.overlay } ∧
        (presentPicture takeover s).seq = { s.seq with current := .play { sh with presented := sh.presented + 1 } } ∧
        (presentPicture takeover s).notices = s.notices)) ∧
    (∀ sh, s.seq.current = .play sh → s.seq.state = .running ∨ (takeover = true ∧ s.seq.state = .paused) →
      let again := match s.frames.last with
        | some f => Send.frame sh.record f
        | none => .black
      let repeats := fun (cause : Nat) (places : List Place) (job : Option FrameJob) (next : Nat) =>
        (presentPicture takeover s).frames = { s.frames with
          places := places, job := job, nextCurrent := next, consecutive := s.frames.consecutive + 1
          repeats := bumpAt s.frames.repeats cause, sending := some again, travelling := s.subs.overlay } ∧
        (presentPicture takeover s).seq = { s.seq with current := .play { sh with repeated := sh.repeated + 1 } } ∧
        ∀ c : Cause, s.notices.causes[17]? = some c → ∃ x : Cause,
          (presentPicture takeover s).notices.causes[17]? = some x ∧ x.pending = true ∧ x.count = bump 255 c.count ∧
          x.latest.map (·.detail) =
            some (Layout.num 3 s.time.frame ++ Layout.num 1 cause ++ Layout.num 1 (s.frames.consecutive + 1))
      (∀ p rest, s.frames.places = p :: rest → p.frame = s.time.frame → p.prepared = false →
        (p.condition = .missing → repeats 0 rest s.frames.job s.frames.nextCurrent) ∧
        (p.condition = .filling → repeats 1 rest none s.frames.nextCurrent ∧
          (∀ r ∈ (presentPicture takeover s).arbiter.waiting, r.client ≠ .picture) ∧
          (∀ f ∈ (presentPicture takeover s).cache.fills, ∀ q ∈ f.asks, q.reader = .picture →
            q.kind ≠ .sequencerPreparation → q.live = false))) ∧
      ((∀ p ∈ s.frames.places.take 1, p.frame ≠ s.time.frame ∨ p.prepared = true) →
        repeats 2 s.frames.places s.frames.job (max s.frames.nextCurrent (s.time.frame + 1)))) ∧
    (∀ sh, s.seq.current = .play sh → s.seq.state = .paused → takeover = false →
      presentPicture takeover s = beginSend (match s.frames.last with
        | some f => .frame sh.record f
        | none => .black) s)) ∧
  (∀ (s : State) (sh : Showing), s.seq.current = .play sh → s.seq.state = .running → s.interlocked = false →
    let silent := fun (cause missing : Nat) (portions : List Portion) (job : Option SoundJob) (next : Nat) =>
      (renderSound s).sound = { s.sound with
        mute := none, outputs := [], portions := portions, job := job, nextCurrent := next
        underruns := if missing = 0 then s.sound.underruns else bumpAt s.sound.underruns cause } ∧
      ((renderSound s).notices = if missing = 0 then s.notices else
        (raise .soundUnderrun (Layout.num 3 s.time.frame ++ Layout.num 1 cause ++ Layout.num 2 missing) s).notices)
    (∀ p rest, s.sound.portions = p :: rest → p.frame = s.time.frame → p.prepared = false → p.filling = true →
      (∀ q ∈ rest, q.prepared = true ∨ s.time.frame ≤ q.frame) →
      silent 1 (p.cells.filter Cell.isRead).length rest none s.sound.nextCurrent) ∧
    ((∀ q ∈ s.sound.portions, q.prepared = true ∨ s.time.frame < q.frame) →
      silent 2 ((resolveFrame sh.play s.time.frame s.sound.trimCurrent s).filter Cell.isRead).length
        s.sound.portions s.sound.job (max s.sound.nextCurrent (s.time.frame + 1))))


/-- The link check (R129, R131 to R134): a pending check begins on the free link with the next challenge number; when the
challenge has been sent the answer timer runs; an answer with the paired id makes the link PAIRED, one with another id
makes it UNPAIRED with LINK_UNPAIRED raised, and one that does not answer the challenge is stray; a timeout makes PAIRED
and UNKNOWN SUSPECT, with a second check at once, and SUSPECT UNPAIRED. A scrambled showing then ends ABORTED_LINK and the
sequencer is HALTED (R106, R135): its places, key and samples are gone, a send in flight of one of its frames is abandoned
with the records that travelled with it, and a waiting frame of it becomes black, with which the END CLEAR records leave
(R164). The model's choices in it: assumptions 2, 17, 20, 28, 38, 39. -/
def Obligations.LinkChecksDecideThePairing : Prop :=
  ∀ s : State,
    (s.link.requester = .pending → s.frames.sending = none →
      Sys2Proof.Machine.exec .linkCheckBegin s = .next (settle
        { s with
          link := { s.link with
            requester := .checking, retry := false, challenge := (s.link.challenge + 1) % 256
            begun := bump max32 s.link.begun }
          frames := { s.frames with
            sending := some (.challenge ((s.link.challenge + 1) % 256)), travelling := [] } })) ∧
    (∀ n, s.frames.sending = some (.challenge n) → s.link.requester ≠ .pending → s.frames.waiting = none →
      Sys2Proof.Machine.exec .linkSendComplete s = .next (settle
        { s with
          link := { s.link with answerTimer := some 0 }, frames := { s.frames with sending := none, travelling := [] } })) ∧
    (∀ challenge projector, s.link.answerTimer = none ∨ challenge ≠ s.link.challenge →
      Sys2Proof.Machine.exec (.projectorAnswer challenge projector) s = .next (settle
        { s with link := { s.link with strays := bump max32 s.link.strays } })) ∧
    (∀ projector, s.link.answerTimer.isSome = true → s.link.paired = some projector → s.link.retry = false →
      Sys2Proof.Machine.exec (.projectorAnswer s.link.challenge projector) s = .next (settle
        { s with link := { s.link with
            state := .paired, answerTimer := none, requester := .idle
            answersPaired := bump max32 s.link.answersPaired } })) ∧
    (∀ projector, s.link.answerTimer.isSome = true → s.link.paired ≠ some projector → s.link.retry = false →
      s.showing = none → s.link.state ≠ .unpaired →
      Sys2Proof.Machine.exec (.projectorAnswer s.link.challenge projector) s = .next (settle
        (raise .linkUnpaired
          (Layout.code s.link.state.code ++ Layout.code 1 ++ Layout.opt (Layout.num 4) s.link.paired ++
            Layout.opt (Layout.num 4) (some projector))
          { s with link := { s.link with
              state := .unpaired, answerTimer := none, requester := .idle
              answersOther := bump max32 s.link.answersOther } }))) ∧
    (s.link.answerTimer.isSome = true → s.link.state = .unknown ∨ s.link.state = .paired →
      Sys2Proof.Machine.exec .answerTimeout s = .next (settle
        { s with link := { s.link with
            state := .suspect, answerTimer := none, retry := true, requester := .pending
            timeouts := bump max32 s.link.timeouts } })) ∧
    (s.link.answerTimer.isSome = true → s.link.state = .suspect → s.showing = none → ∃ t,
      Sys2Proof.Machine.exec .answerTimeout s = .next t ∧ t.link.state = .unpaired ∧ t.link.answerTimer = none ∧
      t.link.timeouts = bump max32 s.link.timeouts ∧ t.seq = s.seq) ∧
    (∀ sh, s.link.answerTimer.isSome = true → s.link.state = .suspect → s.link.retry = false → s.showing = some sh →
      sh.play.composition.key ≠ none → ∃ t, Sys2Proof.Machine.exec .answerTimeout s = .next t ∧
      t.link.state = .unpaired ∧ t.seq.state = .halted ∧ t.seq.halt = some .abortedLink ∧ t.showing = none ∧
      t.seq.pos = s.seq.pos ∧ t.seq.stack = s.seq.stack ∧ t.keys.bound = none ∧
      (∀ p ∈ t.frames.places, p ∈ s.frames.places ∧ p.prepared = true) ∧
      (s.preparedPlay.isSome = true → t.frames.places = [] ∧ t.keys.prepared = none) ∧
      t.frames.keyCurrent = none ∧ t.frames.last = none ∧ t.sound.outputs = [] ∧ t.sound.mute = t.muteReason ∧
      (∀ r ∈ t.log.records, r.sequence = sh.record → r.outcome = some .abortedLink) ∧
      (∀ picture, s.frames.sending = some (.frame sh.record picture) →
        t.subs.lost = min max32 (s.subs.lost + s.frames.travelling.length) ∧ t.frames.waiting = none ∧
        (s.frames.waiting = none → t.frames.sending = none) ∧
        (∀ waiting, s.frames.waiting = some (.frame sh.record waiting) →
          t.frames.sending = some .black ∧ t.subs.overlay = [] ∧
          ∀ k n st shown, k ≤ 3 → n ≤ 1 → s.subs.overlay = [] → s.subs.streams[k]? = some st →
            st.route.toOverlay = true → st.slots[n]? = some (some shown) →
            .clear k shown.timed.cue.number .ended ∈ t.frames.travelling)) ∧
      ((∀ picture, s.frames.sending ≠ some (.frame sh.record picture)) → t.frames.sending = s.frames.sending ∧
        t.frames.waiting = s.frames.waiting.map
          (fun x => match x with
            | .frame record _ => if record = sh.record then .black else x
            | _ => x)))

/-- PAIR, LINK CHECK, LINK INTERVAL and the interval's expiry (R130, R134): an id of 0 is refused OUT_OF_RANGE and any
other outside IDLE WRONG_STATE; a pairing of an IDLE sequencer takes the id, makes the link UNKNOWN, queues the id's write
and asks for a check; the others ask for a check, and the interval is brought to 1 to 600 s. The model's choices in it:
assumptions 2, 17, 27, 29. -/
def Obligations.LinkRequestsAskForChecks : Prop :=
  ∀ (f : Frame) (s : State),
    let asked := if s.link.requester = .idle then Requester.pending else s.link.requester
    (∀ projector, s.accepts 34 f →
      (projector = 0 ∨ max32 < projector →
        Sys2Proof.Machine.exec (.pair f projector) s = .next (s.no 34 f .outOfRange)) ∧
      (1 ≤ projector → projector ≤ max32 → s.seq.state ≠ .idle →
        Sys2Proof.Machine.exec (.pair f projector) s = .next (s.no 34 f .wrongState)) ∧
      (1 ≤ projector → projector ≤ max32 → s.seq.state = .idle → s.queue.writes.length < 8 → s.queue.waiters = [] →
        Sys2Proof.Machine.exec (.pair f projector) s = .next (State.ok 34 f []
          { s with
            link := { s.link with paired := some projector, state := .unknown, requester := asked }
            queue := { s.queue with
              writes := s.queue.writes ++ [{ write := .paired projector, forCheck := false }] } }))) ∧
    (s.accepts 35 f → Sys2Proof.Machine.exec (.linkCheck f) s =
      .next (State.ok 35 f [] { s with link := { s.link with requester := asked } })) ∧
    (∀ seconds, s.accepts 36 f →
      let taken := if seconds < 1 then 1 else if 600 < seconds then 600 else seconds
      Sys2Proof.Machine.exec (.linkInterval f seconds) s = .next (State.answering 36 f
        (if taken = seconds then .ok else .clamped) none (if taken = seconds then [] else Layout.num 2 taken)
        { s with link := { s.link with interval := taken, counter := 0, requester := asked } })) ∧
    Sys2Proof.Machine.exec .linkIntervalExpiry s =
      .next (settle { s with link := { s.link with counter := 0, requester := asked } })

/-! ### Sound, subtitles and the log -/

/-- SOUND MAP LOAD and LIPSYNC SET (R147, R152): a map replaces the one of its code or takes the lowest free slot, and the
remove flag removes it; a code above 255, a list of other than 24 routes, or a route with a gain above 8,192 or a source
channel above 23 is refused OUT_OF_RANGE; a trim brought to −4,800 to 4,800 is the next trim, and at once the current one
in IDLE and ARMED, and a prepared PLAY takes it: its portions are discarded, the reader giving up its work on a FILLING
one, and begun again from its first played frame (R143). The model's choices in it: assumptions 27, 28. -/
def Obligations.SoundSettingsAreTaken : Prop :=
  ∀ (f : Frame) (s : State),
    (∀ code routes, s.accepts 38 f → code ≤ 255 → routes.length = 24 →
      (∀ r ∈ routes, r.gain ≤ 8192 ∧ ∀ ch, r.source = some ch → ch ≤ 23) →
      (∀ slot m, findMap s.sound.maps code = some (slot, m) →
        Sys2Proof.Machine.exec (.soundMapLoad f code (some routes)) s = .next (State.ok 38 f []
          { s with sound := { s.sound with
              maps := s.sound.maps.put slot { code := code, routes := routes } } })) ∧
      (findMap s.sound.maps code = none →
        (∀ slot, s.sound.maps.lowestFree 8 = some slot →
          Sys2Proof.Machine.exec (.soundMapLoad f code (some routes)) s = .next (State.ok 38 f []
            { s with sound := { s.sound with
                maps := s.sound.maps.put slot { code := code, routes := routes } } })) ∧
        (s.sound.maps.lowestFree 8 = none →
          Sys2Proof.Machine.exec (.soundMapLoad f code (some routes)) s = .next (s.no 38 f .tableFull)))) ∧
    (∀ code, s.accepts 38 f → code ≤ 255 →
      (∀ slot m, findMap s.sound.maps code = some (slot, m) →
        Sys2Proof.Machine.exec (.soundMapLoad f code none) s = .next (State.ok 38 f []
          { s with sound := { s.sound with maps := s.sound.maps.erase slot } })) ∧
      (findMap s.sound.maps code = none →
        Sys2Proof.Machine.exec (.soundMapLoad f code none) s = .next (s.no 38 f .notFound))) ∧
    (∀ trim, s.accepts 41 f → s.preparedPlay = none →
      let taken : Int := if trim < -4800 then -4800 else if 4800 < trim then 4800 else trim
      Sys2Proof.Machine.exec (.lipsyncSet f trim) s = .next (State.answering 41 f
        (if taken = trim then .ok else .clamped) none (if taken = trim then [] else Layout.int 2 taken)
        { s with sound := { s.sound with
            trimNext := taken
            trimCurrent := if s.seq.state = .idle ∨ s.seq.state = .armed then taken else s.sound.trimCurrent } })) ∧
    (∀ code routes, s.accepts 38 f → 255 < code →
      Sys2Proof.Machine.exec (.soundMapLoad f code routes) s = .next (s.no 38 f .outOfRange)) ∧
    (∀ code routes, s.accepts 38 f →
      (routes.length ≠ 24 ∨ ∃ r ∈ routes, 8192 < r.gain ∨ r.source.any (fun ch => decide (23 < ch)) = true) →
      Sys2Proof.Machine.exec (.soundMapLoad f code (some routes)) s = .next (s.no 38 f .outOfRange)) ∧
    (∀ trim p, s.accepts 41 f → s.preparedPlay = some p → ∃ t,
      let taken : Int := if trim < -4800 then -4800 else if 4800 < trim then 4800 else trim
      Sys2Proof.Machine.exec (.lipsyncSet f trim) s = .next t ∧
      t.port = s.port.answers 41 f (if taken = trim then .ok else .clamped) none
        (if taken = trim then [] else Layout.int 2 taken) ∧
      t.sound = { s.sound with
        trimNext := taken, trimPrepared := taken
        trimCurrent := if s.seq.state = .idle ∨ s.seq.state = .armed then taken else s.sound.trimCurrent
        portions := s.sound.portions.filter (fun q => !q.prepared), nextPrepared := p.firstFrame
        job := if s.sound.portions.any (fun q => q.filling && q.prepared) then none else s.sound.job } ∧
      (s.sound.portions.any (fun q => q.filling && q.prepared) = true →
        (∀ r ∈ t.arbiter.waiting, r.client ≠ .sound) ∧
        (∀ x ∈ t.cache.fills, ∀ q ∈ x.asks, q.reader = .sound → q.kind ≠ .sequencerPreparation → q.live = false)) ∧
      t.frames = s.frames ∧ t.seq = s.seq ∧ t.catalogue = s.catalogue)

/-- The value sent for a source sample is floor(s × r × h / 16,777,216), rounded toward negative infinity, and brought to −8,388,608
to 8,388,607; gain 4,096 on both passes the sample unchanged. Muted samples are 0 and are not computed. Each saturated sample adds
1 to the clip count, which saturates and starts at 0 after a full reset; saturation raises no notice (R146). -/
def Obligations.SamplesAreScaledAndSaturated : Prop :=
  (∀ (sample : Int) (gain fader : Nat),
    16777216 * scaled sample gain fader ≤ sample * gain * fader ∧
    sample * gain * fader < 16777216 * (scaled sample gain fader + 1) ∧ scaled sample 4096 4096 = sample) ∧
  (∀ v, saturate v = max (-8388608) (min 8388607 v)) ∧
  (∀ (sets : List RouteSet) (fader k : Nat) (samples : List Int) (o ch : Nat) (set : RouteSet) (route : Route),
    sets.find? (fun r => decide (r.reel = k)) = some set → set.routes[o]? = some route → route.source = some ch →
    ch < set.channels → outputValue sets fader k samples o = scaled (samples.getD ch 0) route.gain fader) ∧
  (∀ (s : State) (portion : Portion),
    let rows := portion.cells.map (outputRow s.sound.routesCurrent s.sound.fader)
    (outputPortion portion s).sound.outputs = rows.map (·.map saturate) ∧
    (outputPortion portion s).sound.clips =
      min max32 (s.sound.clips + (rows.flatten.filter fun v => !decide (saturate v = v)).length) ∧
    ((∀ c ∈ portion.cells, c ≠ .lost) → (outputPortion portion s).notices = s.notices)) ∧
  (∀ s : State, s.muted = true → renderSound s =
    { s with sound := { s.sound with outputs := [], mute := (renderSound s).sound.mute } }) ∧
  (∀ (size ran : Nat) (landed : Bool) (s : State), ∃ t,
    Sys2Proof.Machine.exec (.fullReset size ran landed) s = .next t ∧ t.sound.clips = 0)

/-- FADER SET, in every sequencer state and in start-up, begins a fade from the fader's value with its target and length brought
to their ranges, in place of any fade in progress, answered CLAMPED when either was brought; a FADER cue begins one in the same
way; a full reset leaves the fader at 4,096 with no fade, and a show reset leaves both as they are (R149). -/
def Obligations.FaderSetFollowsItsRule : Prop :=
  ∀ s : State,
    (∀ (f : Frame) (target frames : Nat), s.accepts 40 f →
      Sys2Proof.Machine.exec (.faderSet f target frames) s = .next (State.answering 40 f
        (if target ≤ 8192 ∧ frames ≤ 1200 then .ok else .clamped) none
        (if target ≤ 8192 ∧ frames ≤ 1200 then []
         else Layout.num 2 (min target 8192) ++ Layout.num 2 (min frames 1200))
        { s with sound := { s.sound with
            fade := some { start := s.sound.fader, target := min target 8192, length := min frames 1200,
                           taken := 0 } } })) ∧
    (∀ (pos : Pos) (target frames : Nat), performCue pos (.fader target frames) s =
      { s with sound := { s.sound with
          fade := some { start := s.sound.fader, target := min target 8192, length := min frames 1200,
                         taken := 0 } } }) ∧
    storeUsing 40 = false ∧
    (∀ size ran landed, ∃ t, Sys2Proof.Machine.exec (.fullReset size ran landed) s = .next t ∧
      t.sound.fader = 4096 ∧ t.sound.fade = none) ∧
    (∀ f, s.accepts 53 f → ∃ t, Sys2Proof.Machine.exec (.resetShow f) s = .next t ∧
      t.sound.fader = s.sound.fader ∧ t.sound.fade = s.sound.fade)

/-- A fade moves the house fader by whole frames (R150): after k of its L ticks the fader has gone trunc((target − start)
× k / L) from its start, never beyond either end, and the L-th tick, as FADE_END stands for it, leaves it at the target
with no fade. The model's choices in it: assumptions 2, 4. -/
def Obligations.FadesReachTheirTarget : Prop :=
  (∀ (x : Fade) (k : Nat), k ≤ x.length → 0 < x.length →
    min x.start x.target ≤ x.at k ∧ x.at k ≤ max x.start x.target ∧ x.at 0 = x.start ∧ x.at x.length = x.target) ∧
  (∀ (s : State) (x : Fade), s.sound.fade = some x →
    (x.taken + 1 < x.length →
      stepFade s = { s with sound := { s.sound with
        fader := x.at (x.taken + 1), fade := some { x with taken := x.taken + 1 } } }) ∧
    (x.length ≤ x.taken + 1 →
      Sys2Proof.Machine.exec .fadeEnd s =
        .next (settle { s with sound := { s.sound with fader := x.target, fade := none } })))

/-- STREAM SET, the conversion of cue times, the display slots, and the records (R154, R159, R162 to R165). A converted
cue lies in the reel and is on display for at least one frame; a route to the overlay is refused OVERLAY_FULL when two
other streams feed it; else the route is taken, each cue on display getting a SHOW to every output the route adds and a
CLEAR (ROUTE) to every one it removes, and the offset, brought to −10,000 to 10,000, is the next one. A tick clears the
cues whose out-frame it reaches (OUT), and a reel start and the end of a showing clear every cue (REEL_END, END); a CLEAR
whose SHOW has not left its outbox is withdrawn with it and counted as cancelled. A fired cue takes the lowest empty slot;
with both busy it displaces the cue with the earliest out-frame, of equal ones the lower, with CUE_DISPLACED; a cue
already over is dropped LATE. A sent record is counted, and the oldest one waiting begins. The model's choices in it:
assumptions 2, 27, 35, 39. -/
def Obligations.StreamsCuesAndSeatRecords : Prop :=
  (∀ (f : Frame) (s : State) (stream route : Nat) (offset : Int), s.accepts 43 f →
    let set := Sys2Proof.Machine.exec (.streamSet f stream route offset) s
    (3 < stream ∨ 3 < route → set = .next (s.no 43 f .outOfRange)) ∧
    (∀ r st, stream ≤ 3 → streamRouteOf route = some r → s.subs.streams[stream]? = some st →
      (r.toOverlay = true → overlayFree stream s = false → set = .next (s.no 43 f .overlayFull)) ∧
      (r.toOverlay = false ∨ overlayFree stream s = true → st.slots = [none, none] →
        let taken : Int := if offset < -10000 then -10000 else if 10000 < offset then 10000 else offset
        set = .next (State.answering 43 f
          (if taken = offset then .ok else .clamped) none (if taken = offset then [] else Layout.int 2 taken)
          { s with subs := { s.subs with
              streams := replaceAt s.subs.streams stream { st with route := r, next := taken } } })))) ∧
  (∀ (rate duration : Nat) (offset : Int) (c : Cue),
    (convertCue rate duration offset c = none ↔ duration ≤ cueFrame rate offset c.inTime) ∧
    (∀ x, convertCue rate duration offset c = some x → x.cue = c ∧ x.inFrame = cueFrame rate offset c.inTime ∧
      x.inFrame < x.outFrame ∧ x.outFrame ≤ duration)) ∧
  (∀ (s : State) (r : CaptionRecord), s.subs.transmitting = some r →
    Sys2Proof.Machine.exec .seatRecordComplete s = .next (settle
      { s with subs := { s.subs with
          transmitting := s.subs.seats.head?, seats := s.subs.seats.drop 1, sent := addAt s.subs.sent 1 1 } })) ∧
  (∀ (f : Frame) (s : State) (stream route : Nat) (offset : Int) (r : StreamRoute) (st : Stream) (x : CaptionRecord),
    s.accepts 43 f → stream ≤ 3 → streamRouteOf route = some r → s.subs.streams[stream]? = some st →
    r.toOverlay = false ∨ overlayFree stream s = true → s.subs.transmitting = some x →
    let taken : Int := if offset < -10000 then -10000 else if 10000 < offset then 10000 else offset
    let output := fun (before after : Bool) (box : List CaptionRecord × Nat) (shown : Shown) =>
      let number := shown.timed.cue.number
      if before && !after then
        (if box.1.any (CaptionRecord.presents stream number) then
          (box.1.filter (fun r => !r.presents stream number), bump max32 box.2)
        else (box.1 ++ [.clear stream number .route], box.2))
      else if after && !before then
        (box.1 ++ [.present stream ((s.showing.map (·.play.id)).getD 0) s.time.reel shown.timed.cue], box.2)
      else box
    ∀ c0 c1, s.subs.cancelled = [c0, c1] →
    let overlay := (st.slots.filterMap id).foldl (output st.route.toOverlay r.toOverlay) (s.subs.overlay, c0)
    let seats := (st.slots.filterMap id).foldl (output st.route.toSeats r.toSeats) (s.subs.seats, c1)
    Sys2Proof.Machine.exec (.streamSet f stream route offset) s = .next (State.answering 43 f
      (if taken = offset then .ok else .clamped) none (if taken = offset then [] else Layout.int 2 taken)
      { s with subs := { s.subs with
          streams := replaceAt s.subs.streams stream { st with route := r, next := taken }
          overlay := overlay.1, seats := seats.1, cancelled := [overlay.2, seats.2] } })) ∧
  (∀ (s : State) (k : Nat) (st : Stream) (a b : Option Shown), k ≤ 3 → s.subs.streams[k]? = some st → st.slots = [a, b] →
    let kept := fun x : Option Shown => x.filter fun y => decide (s.time.reelFrame < y.timed.outFrame)
    (clearAtTick s).subs.streams[k]? = some { st with slots := [kept a, kept b] } ∧
    ∀ reason, (clearAll reason s).subs.streams[k]? = some { st with slots := [none, none] }) ∧
  (∀ (s : State) (k c0 c1 : Nat) (st : Stream) (shown : Shown) (x : CaptionRecord), k ≤ 3 →
    s.subs.streams[k]? = some st → st.slots = [some shown, none] →
    (∀ y ∈ s.subs.streams.eraseIdx k, y.slots = [none, none]) →
    s.subs.transmitting = some x → s.subs.cancelled = [c0, c1] →
    let shows := CaptionRecord.presents k shown.timed.cue.number
    let leaves := fun (t : State) (reason : ClearReason) =>
      let output := fun (joins : Bool) (box : List CaptionRecord) (count : Nat) =>
        if !joins then (box, count)
        else if box.any shows then (box.filter (fun r => !shows r), bump max32 count)
        else (box ++ [.clear k shown.timed.cue.number reason], count)
      let overlay := output st.route.toOverlay s.subs.overlay c0
      let seats := output st.route.toSeats s.subs.seats c1
      t.subs.overlay = overlay.1 ∧ t.subs.seats = seats.1 ∧ t.subs.cancelled = [overlay.2, seats.2] ∧
      t.subs.transmitting = some x
    (shown.timed.outFrame ≤ s.time.reelFrame → leaves (clearAtTick s) .out) ∧
    (∀ reason, leaves (clearAll reason s) reason) ∧
    ((∀ y ∈ s.subs.streams, bankOf y s.time.reel = none) → leaves (reelStartCaptions s) .reelEnd)) ∧
  (∀ (s : State) (k tag c0 c1 : Nat) (st : Stream) (sh : Showing) (cue : TimedCue) (a b : Option Shown) (x : CaptionRecord),
    s.subs.streams[k]? = some st → s.showing = some sh → (st.timed.getD [])[tag]? = some cue → st.slots = [a, b] →
    (∀ y ∈ a.toList ++ b.toList, s.time.reelFrame < y.timed.outFrame) → s.subs.transmitting = some x →
    s.subs.cancelled = [c0, c1] →
    let t := showCue k tag s
    let placed := fun slots : List (Option Shown) => t.subs.streams[k]? = some { st with slots := slots }
    let record := CaptionRecord.present k sh.play.id s.time.reel cue.cue
    (cue.outFrame ≤ s.time.reelFrame →
      t = { s with subs := { s.subs with drops := addAt s.subs.drops 4 1 } }) ∧
    (s.time.reelFrame < cue.outFrame →
      (a = none → placed [some { tag := tag, timed := cue }, b]) ∧
      (a ≠ none → b = none → placed [a, some { tag := tag, timed := cue }]) ∧
      (a = none ∨ b = none → t.notices = s.notices ∧
        t.subs.overlay = (if st.route.toOverlay then s.subs.overlay ++ [record] else s.subs.overlay) ∧
        t.subs.seats = (if st.route.toSeats then s.subs.seats ++ [record] else s.subs.seats)) ∧
      (∀ y z, a = some y → b = some z →
        let old := if z.timed.outFrame < y.timed.outFrame then z else y
        let shows := CaptionRecord.presents k old.timed.cue.number
        let output := fun (joins : Bool) (box : List CaptionRecord) =>
          if !joins then box
          else (if box.any shows then box.filter (fun r => !shows r)
            else box ++ [.clear k old.timed.cue.number .displaced]) ++ [record]
        placed (if z.timed.outFrame < y.timed.outFrame then [a, some { tag := tag, timed := cue }]
          else [some { tag := tag, timed := cue }, b]) ∧
        t.subs.overlay = output st.route.toOverlay s.subs.overlay ∧ t.subs.seats = output st.route.toSeats s.subs.seats ∧
        t.subs.displaced = bump max32 s.subs.displaced ∧
        ∀ c : Cause, s.notices.causes[20]? = some c → ∃ d : Cause, t.notices.causes[20]? = some d ∧ d.pending = true ∧
          d.count = bump 255 c.count ∧ d.latest.map (·.detail) = some (Layout.num 1 k ++
            Layout.num 2 old.timed.cue.number ++ Layout.num 2 cue.cue.number))))

/-- LOG RELEASE (R175): with no CLOSED record it answers with the number given; a number beyond the newest CLOSED record
is brought to it; one at or below the collection mark changes nothing; else the record of that number takes its release
mark and its write is queued. The model's choices in it: assumptions 25, 27. -/
def Obligations.ReleasesMarkRecords : Prop :=
  ∀ (f : Frame) (n : Nat) (s : State), s.accepts 46 f →
    let release := Sys2Proof.Machine.exec (.logRelease f n) s
    (s.log.newestClosed = none → release = .next (s.ok 46 f (Layout.num 4 n))) ∧
    (∀ closed m, s.log.newestClosed = some closed → s.log.mark = some m → min n closed ≤ m →
      release = .next (State.answering 46 f (if n ≤ closed then .ok else .clamped) none (Layout.num 4 (min n closed)) s)) ∧
    (∀ closed oldest r, s.log.newestClosed = some closed → (∀ m, s.log.mark = some m → m < min n closed) →
      s.log.oldest = some oldest → oldest ≤ min n closed → s.log.find (min n closed) = some r →
      s.log.unwritten = [] → s.log.release = none → s.queue.writes.length < 8 → s.queue.waiters = [] → ∃ t,
      release = .next t ∧
      t.port = s.port.answers 46 f (if n ≤ closed then .ok else .clamped) none (Layout.num 4 (min n closed)) ∧
      t.log.records = s.log.records.map
        (fun x => if x.sequence = min n closed then { x with mark := true } else x) ∧
      t.log.unwritten = [] ∧ t.queue.writes = s.queue.writes ++
        [{ write := .log { r with mark := true }, forCheck := false }] ∧
      t.nvm = s.nvm ∧ t.seq = s.seq ∧ t.catalogue = s.catalogue)

/-! ### Automation lines -/

/-- LINE SET and LINE SETUP (R179, R180): every masked line's latch takes its value and its pulse stops, and the reply
names the masked inputs; a line set up as an output takes its idle level, and one set up as an input takes the pin's
level, with its onset at once when its level condition is met; settings out of range are refused and change nothing. The
model's choices in it: assumptions 28, 29, 32. -/
def Obligations.LinesAreSetAndSetUp : Prop :=
  ∀ (f : Frame) (s : State), s.lines.length = 16 →
    (∀ mask values : BitVec 16, s.accepts 48 f → ∃ t,
      Sys2Proof.Machine.exec (.lineSet f mask values) s = .next t ∧
      t = State.ok 48 f (Layout.flags ((List.range 16).map fun n =>
          mask.getLsbD n && !((s.lines[n]?).map (·.output)).getD false)) { s with lines := t.lines } ∧
      (∀ n l, s.lines[n]? = some l → t.lines[n]? =
        some (if mask.getLsbD n then { l with latch := values.getLsbD n, pulse := none } else l))) ∧
    (∀ line config, s.accepts 47 f →
      (15 < line → Sys2Proof.Machine.exec (.lineSetup f line config) s = .next (s.no 47 f .outOfRange)) ∧
      (∀ l idle safe, s.lines[line]? = some l → config = .output idle safe → idle ≤ 1 → safe ≤ 1 →
        Sys2Proof.Machine.exec (.lineSetup f line config) s = .next (State.ok 47 f []
          { s with lines := replaceAt s.lines line { l with
              output := true, idle := idle = 1, safe := safe = 1, latch := idle = 1, pulse := none, timer := none,
              holding := false } })) ∧
      (∀ l c debounce fn cond function, s.lines[line]? = some l → config = .input c debounce fn → debounce ≤ 255 →
        lineConditionOf c = some cond → lineFunctionOf fn = some function → (function = .interlock → 3 ≤ c) →
        let next : Line := { l with
          output := false, condition := cond, debounce := debounce, function := function, level := l.wire,
          pulse := none, timer := none, holding := false }
        (cond.met l.wire = false → Sys2Proof.Machine.exec (.lineSetup f line config) s = .next (State.ok 47 f []
          { s with lines := replaceAt s.lines line next })) ∧
        (cond.met l.wire = true → function = .none →
          Sys2Proof.Machine.exec (.lineSetup f line config) s = .next (State.ok 47 f []
            { s with lines := replaceAt s.lines line { next with onsets := bump 65535 l.onsets } }))) ∧
      (∀ c debounce fn, config = .input c debounce fn →
        4 < c ∨ 5 < fn ∨ 255 < debounce ∨ (fn = 5 ∧ c ≤ 2) →
        Sys2Proof.Machine.exec (.lineSetup f line config) s = .next (s.no 47 f .outOfRange)))

/-- Pulses, inputs and pins (R181 to R185): a pulse whose next step is its last leaves the line idle; a pin change of an
input with a debounce starts its timer with the new level as candidate; when the timer has run, the level is the
candidate, the onset is counted, and a NOTICE line raises its event; the level that ends a held interlock condition
releases the line; and an interlock that begins to hold pauses a RUNNING sequencer (R107), mutes the outputs (R151) and
puts every OUT line at its safe level (R185). The model's choices in it: assumptions 2, 4, 32. -/
def Obligations.PulsesEndAndInputsAct : Prop :=
  ∀ (s : State) (n : Nat) (l : Line), s.lines[n]? = some l →
    (l.pulse = some 1 → Sys2Proof.Machine.exec (.pulseEnd n) s = .next (settle
      { s with lines := replaceAt s.lines n { l with latch := l.idle, pulse := none } })) ∧
    (∀ high, l.output = false → l.wire ≠ high → l.level ≠ high → l.debounce ≠ 0 →
      Sys2Proof.Machine.exec (.inputPinChange n high) s = .next (settle
        { s with lines := replaceAt s.lines n { l with wire := high, timer := some (high, 0) } })) ∧
    (∀ high cycles, l.timer = some (high, cycles) → l.condition.begins high = true → l.function = .notice →
      Sys2Proof.Machine.exec (.debounceExpiry n) s = .next (settle
        (raise (.lineEvent n) (Layout.code l.condition.code ++ Layout.flag high)
          { s with lines := (replaceAt s.lines n
            { l with level := high, timer := none, onsets := bump 65535 l.onsets }) }))) ∧
    (∀ high cycles, l.timer = some (high, cycles) → l.condition.begins high = false → l.holding = true →
      Sys2Proof.Machine.exec (.debounceExpiry n) s = .next (settle
        { s with lines := replaceAt s.lines n { l with level := high, timer := none, holding := false } })) ∧
    (∀ high cycles, l.timer = some (high, cycles) → l.condition.begins high = true → l.function = .interlock →
      s.interlocked = false → s.seq.state = .running → ∃ t,
      Sys2Proof.Machine.exec (.debounceExpiry n) s = .next t ∧ t.interlocked = true ∧ t.seq.state = .paused ∧
      t.seq.pauseTimer = some 0 ∧ t.seq.current = s.seq.current ∧ t.sound.outputs = [] ∧ t.time = s.time ∧
      (∀ (k : Nat) (x : Line), t.lines[k]? = some x → x.output = true → x.pin t.interlocked = x.safe))
end

