-- ==== Sys2Proof/Laws/State.lean ====
section
/-!
SUPPORT. One lemma for each field of the state under each named update: the field an update changes, and the fields
it leaves. With them a proof need not unfold a record update.
-/
namespace Sys2Proof
namespace Machine

variable (s : State)

/-! ### `updateSeq` -/

section
variable (f : Sequencer → Sequencer)
@[simp] theorem updateSeq_pending : (updateSeq f s).pending = s.pending := rfl
@[simp] theorem updateSeq_startUp : (updateSeq f s).startUp = s.startUp := rfl
@[simp] theorem updateSeq_store : (updateSeq f s).store = s.store := rfl
@[simp] theorem updateSeq_nvm : (updateSeq f s).nvm = s.nvm := rfl
@[simp] theorem updateSeq_catalogue : (updateSeq f s).catalogue = s.catalogue := rfl
@[simp] theorem updateSeq_queue : (updateSeq f s).queue = s.queue := rfl
@[simp] theorem updateSeq_free : (updateSeq f s).free = s.free := rfl
@[simp] theorem updateSeq_ingest : (updateSeq f s).ingest = s.ingest := rfl
@[simp] theorem updateSeq_arbiter : (updateSeq f s).arbiter = s.arbiter := rfl
@[simp] theorem updateSeq_cache : (updateSeq f s).cache = s.cache := rfl
@[simp] theorem updateSeq_keys : (updateSeq f s).keys = s.keys := rfl
@[simp] theorem updateSeq_seq : (updateSeq f s).seq = f s.seq := rfl
@[simp] theorem updateSeq_time : (updateSeq f s).time = s.time := rfl
@[simp] theorem updateSeq_frames : (updateSeq f s).frames = s.frames := rfl
@[simp] theorem updateSeq_link : (updateSeq f s).link = s.link := rfl
@[simp] theorem updateSeq_sound : (updateSeq f s).sound = s.sound := rfl
@[simp] theorem updateSeq_subs : (updateSeq f s).subs = s.subs := rfl
@[simp] theorem updateSeq_log : (updateSeq f s).log = s.log := rfl
@[simp] theorem updateSeq_lines : (updateSeq f s).lines = s.lines := rfl
@[simp] theorem updateSeq_port : (updateSeq f s).port = s.port := rfl
@[simp] theorem updateSeq_notices : (updateSeq f s).notices = s.notices := rfl
@[simp] theorem updateSeq_freeUses : (updateSeq f s).freeUses = s.freeUses := rfl
end

/-! ### `updateTime` -/

section
variable (f : Timeline → Timeline)
@[simp] theorem updateTime_pending : (updateTime f s).pending = s.pending := rfl
@[simp] theorem updateTime_startUp : (updateTime f s).startUp = s.startUp := rfl
@[simp] theorem updateTime_store : (updateTime f s).store = s.store := rfl
@[simp] theorem updateTime_nvm : (updateTime f s).nvm = s.nvm := rfl
@[simp] theorem updateTime_catalogue : (updateTime f s).catalogue = s.catalogue := rfl
@[simp] theorem updateTime_queue : (updateTime f s).queue = s.queue := rfl
@[simp] theorem updateTime_free : (updateTime f s).free = s.free := rfl
@[simp] theorem updateTime_ingest : (updateTime f s).ingest = s.ingest := rfl
@[simp] theorem updateTime_arbiter : (updateTime f s).arbiter = s.arbiter := rfl
@[simp] theorem updateTime_cache : (updateTime f s).cache = s.cache := rfl
@[simp] theorem updateTime_keys : (updateTime f s).keys = s.keys := rfl
@[simp] theorem updateTime_seq : (updateTime f s).seq = s.seq := rfl
@[simp] theorem updateTime_time : (updateTime f s).time = f s.time := rfl
@[simp] theorem updateTime_frames : (updateTime f s).frames = s.frames := rfl
@[simp] theorem updateTime_link : (updateTime f s).link = s.link := rfl
@[simp] theorem updateTime_sound : (updateTime f s).sound = s.sound := rfl
@[simp] theorem updateTime_subs : (updateTime f s).subs = s.subs := rfl
@[simp] theorem updateTime_log : (updateTime f s).log = s.log := rfl
@[simp] theorem updateTime_lines : (updateTime f s).lines = s.lines := rfl
@[simp] theorem updateTime_port : (updateTime f s).port = s.port := rfl
@[simp] theorem updateTime_notices : (updateTime f s).notices = s.notices := rfl
@[simp] theorem updateTime_freeUses : (updateTime f s).freeUses = s.freeUses := rfl
end

/-! ### `updateKeys` -/

section
variable (f : Keys → Keys)
@[simp] theorem updateKeys_pending : (updateKeys f s).pending = s.pending := rfl
@[simp] theorem updateKeys_startUp : (updateKeys f s).startUp = s.startUp := rfl
@[simp] theorem updateKeys_store : (updateKeys f s).store = s.store := rfl
@[simp] theorem updateKeys_nvm : (updateKeys f s).nvm = s.nvm := rfl
@[simp] theorem updateKeys_catalogue : (updateKeys f s).catalogue = s.catalogue := rfl
@[simp] theorem updateKeys_queue : (updateKeys f s).queue = s.queue := rfl
@[simp] theorem updateKeys_free : (updateKeys f s).free = s.free := rfl
@[simp] theorem updateKeys_ingest : (updateKeys f s).ingest = s.ingest := rfl
@[simp] theorem updateKeys_arbiter : (updateKeys f s).arbiter = s.arbiter := rfl
@[simp] theorem updateKeys_cache : (updateKeys f s).cache = s.cache := rfl
@[simp] theorem updateKeys_keys : (updateKeys f s).keys = f s.keys := rfl
@[simp] theorem updateKeys_seq : (updateKeys f s).seq = s.seq := rfl
@[simp] theorem updateKeys_time : (updateKeys f s).time = s.time := rfl
@[simp] theorem updateKeys_frames : (updateKeys f s).frames = s.frames := rfl
@[simp] theorem updateKeys_link : (updateKeys f s).link = s.link := rfl
@[simp] theorem updateKeys_sound : (updateKeys f s).sound = s.sound := rfl
@[simp] theorem updateKeys_subs : (updateKeys f s).subs = s.subs := rfl
@[simp] theorem updateKeys_log : (updateKeys f s).log = s.log := rfl
@[simp] theorem updateKeys_lines : (updateKeys f s).lines = s.lines := rfl
@[simp] theorem updateKeys_port : (updateKeys f s).port = s.port := rfl
@[simp] theorem updateKeys_notices : (updateKeys f s).notices = s.notices := rfl
@[simp] theorem updateKeys_freeUses : (updateKeys f s).freeUses = s.freeUses := rfl
end

/-! ### `updateIngest` -/

section
variable (f : Ingest → Ingest)
@[simp] theorem updateIngest_pending : (updateIngest f s).pending = s.pending := rfl
@[simp] theorem updateIngest_startUp : (updateIngest f s).startUp = s.startUp := rfl
@[simp] theorem updateIngest_store : (updateIngest f s).store = s.store := rfl
@[simp] theorem updateIngest_nvm : (updateIngest f s).nvm = s.nvm := rfl
@[simp] theorem updateIngest_catalogue : (updateIngest f s).catalogue = s.catalogue := rfl
@[simp] theorem updateIngest_queue : (updateIngest f s).queue = s.queue := rfl
@[simp] theorem updateIngest_free : (updateIngest f s).free = s.free := rfl
@[simp] theorem updateIngest_ingest : (updateIngest f s).ingest = f s.ingest := rfl
@[simp] theorem updateIngest_arbiter : (updateIngest f s).arbiter = s.arbiter := rfl
@[simp] theorem updateIngest_cache : (updateIngest f s).cache = s.cache := rfl
@[simp] theorem updateIngest_keys : (updateIngest f s).keys = s.keys := rfl
@[simp] theorem updateIngest_seq : (updateIngest f s).seq = s.seq := rfl
@[simp] theorem updateIngest_time : (updateIngest f s).time = s.time := rfl
@[simp] theorem updateIngest_frames : (updateIngest f s).frames = s.frames := rfl
@[simp] theorem updateIngest_link : (updateIngest f s).link = s.link := rfl
@[simp] theorem updateIngest_sound : (updateIngest f s).sound = s.sound := rfl
@[simp] theorem updateIngest_subs : (updateIngest f s).subs = s.subs := rfl
@[simp] theorem updateIngest_log : (updateIngest f s).log = s.log := rfl
@[simp] theorem updateIngest_lines : (updateIngest f s).lines = s.lines := rfl
@[simp] theorem updateIngest_port : (updateIngest f s).port = s.port := rfl
@[simp] theorem updateIngest_notices : (updateIngest f s).notices = s.notices := rfl
@[simp] theorem updateIngest_freeUses : (updateIngest f s).freeUses = s.freeUses := rfl
end

/-! ### `updateLog` -/

section
variable (f : ShowLog → ShowLog)
@[simp] theorem updateLog_pending : (updateLog f s).pending = s.pending := rfl
@[simp] theorem updateLog_startUp : (updateLog f s).startUp = s.startUp := rfl
@[simp] theorem updateLog_store : (updateLog f s).store = s.store := rfl
@[simp] theorem updateLog_nvm : (updateLog f s).nvm = s.nvm := rfl
@[simp] theorem updateLog_catalogue : (updateLog f s).catalogue = s.catalogue := rfl
@[simp] theorem updateLog_queue : (updateLog f s).queue = s.queue := rfl
@[simp] theorem updateLog_free : (updateLog f s).free = s.free := rfl
@[simp] theorem updateLog_ingest : (updateLog f s).ingest = s.ingest := rfl
@[simp] theorem updateLog_arbiter : (updateLog f s).arbiter = s.arbiter := rfl
@[simp] theorem updateLog_cache : (updateLog f s).cache = s.cache := rfl
@[simp] theorem updateLog_keys : (updateLog f s).keys = s.keys := rfl
@[simp] theorem updateLog_seq : (updateLog f s).seq = s.seq := rfl
@[simp] theorem updateLog_time : (updateLog f s).time = s.time := rfl
@[simp] theorem updateLog_frames : (updateLog f s).frames = s.frames := rfl
@[simp] theorem updateLog_link : (updateLog f s).link = s.link := rfl
@[simp] theorem updateLog_sound : (updateLog f s).sound = s.sound := rfl
@[simp] theorem updateLog_subs : (updateLog f s).subs = s.subs := rfl
@[simp] theorem updateLog_log : (updateLog f s).log = f s.log := rfl
@[simp] theorem updateLog_lines : (updateLog f s).lines = s.lines := rfl
@[simp] theorem updateLog_port : (updateLog f s).port = s.port := rfl
@[simp] theorem updateLog_notices : (updateLog f s).notices = s.notices := rfl
@[simp] theorem updateLog_freeUses : (updateLog f s).freeUses = s.freeUses := rfl
end

/-! ### The receiver -/

/-- Hunting changes no more of the port than the receiver's own state. -/
@[simp] theorem receive_frame (came : List Byte) (p : ControlPort) :
    (p.receive came).slots = p.slots ∧ (p.receive came).replies = p.replies ∧ (p.receive came).sending = p.sending ∧
    (p.receive came).taking = p.taking ∧ (p.receive came).unanswered = p.unanswered ∧
    (p.receive came).discards = p.discards ∧ (p.receive came).inFrame = p.inFrame ∧
    (p.receive came).held = p.held ++ came := ⟨rfl, rfl, rfl, rfl, rfl, rfl, rfl, rfl⟩

@[simp] theorem hunting_frame (bytes : List Byte) (p : ControlPort) :
    (p.hunting bytes).slots = p.slots ∧ (p.hunting bytes).replies = p.replies ∧ (p.hunting bytes).sending = p.sending ∧
    (p.hunting bytes).taking = p.taking ∧ (p.hunting bytes).unanswered = p.unanswered ∧
    (p.hunting bytes).discards = p.discards ∧ (p.hunting bytes).gapCycles = p.gapCycles := by
  unfold ControlPort.hunting
  split <;> simp

/-- Without a marker among the bytes the receiver is HUNTING and holds none of them. -/
theorem hunting_none {bytes : List Byte} (h : hunt bytes = none) (p : ControlPort) :
    p.hunting bytes = { p with inFrame := false, held := [] } := by
  simp [ControlPort.hunting, h]

/-- With a marker among the bytes the receiver is IN FRAME with the bytes after it. -/
theorem hunting_some {bytes rest : List Byte} (h : hunt bytes = some rest) (p : ControlPort) :
    p.hunting bytes = { p with inFrame := true, held := rest } := by
  simp [ControlPort.hunting, h]

@[simp] theorem taken_frame (p : ControlPort) :
    p.taken.slots = p.slots ∧ p.taken.replies = p.replies ∧ p.taken.sending = p.sending ∧ p.taken.taking = p.taking ∧
    p.taken.unanswered = p.unanswered ∧ p.taken.discards = p.discards ∧ p.taken.gapCycles = p.gapCycles := by
  simp [ControlPort.taken]

/-! ### `updatePort` -/

section
variable (f : ControlPort → ControlPort)
@[simp] theorem updatePort_pending : (updatePort f s).pending = s.pending := rfl
@[simp] theorem updatePort_startUp : (updatePort f s).startUp = s.startUp := rfl
@[simp] theorem updatePort_store : (updatePort f s).store = s.store := rfl
@[simp] theorem updatePort_nvm : (updatePort f s).nvm = s.nvm := rfl
@[simp] theorem updatePort_catalogue : (updatePort f s).catalogue = s.catalogue := rfl
@[simp] theorem updatePort_queue : (updatePort f s).queue = s.queue := rfl
@[simp] theorem updatePort_free : (updatePort f s).free = s.free := rfl
@[simp] theorem updatePort_ingest : (updatePort f s).ingest = s.ingest := rfl
@[simp] theorem updatePort_arbiter : (updatePort f s).arbiter = s.arbiter := rfl
@[simp] theorem updatePort_cache : (updatePort f s).cache = s.cache := rfl
@[simp] theorem updatePort_keys : (updatePort f s).keys = s.keys := rfl
@[simp] theorem updatePort_seq : (updatePort f s).seq = s.seq := rfl
@[simp] theorem updatePort_time : (updatePort f s).time = s.time := rfl
@[simp] theorem updatePort_frames : (updatePort f s).frames = s.frames := rfl
@[simp] theorem updatePort_link : (updatePort f s).link = s.link := rfl
@[simp] theorem updatePort_sound : (updatePort f s).sound = s.sound := rfl
@[simp] theorem updatePort_subs : (updatePort f s).subs = s.subs := rfl
@[simp] theorem updatePort_log : (updatePort f s).log = s.log := rfl
@[simp] theorem updatePort_lines : (updatePort f s).lines = s.lines := rfl
@[simp] theorem updatePort_port : (updatePort f s).port = f s.port := rfl
@[simp] theorem updatePort_notices : (updatePort f s).notices = s.notices := rfl
@[simp] theorem updatePort_freeUses : (updatePort f s).freeUses = s.freeUses := rfl
end

/-! ### `updateNotices` -/

section
variable (f : Notices → Notices)
@[simp] theorem updateNotices_pending : (updateNotices f s).pending = s.pending := rfl
@[simp] theorem updateNotices_startUp : (updateNotices f s).startUp = s.startUp := rfl
@[simp] theorem updateNotices_store : (updateNotices f s).store = s.store := rfl
@[simp] theorem updateNotices_nvm : (updateNotices f s).nvm = s.nvm := rfl
@[simp] theorem updateNotices_catalogue : (updateNotices f s).catalogue = s.catalogue := rfl
@[simp] theorem updateNotices_queue : (updateNotices f s).queue = s.queue := rfl
@[simp] theorem updateNotices_free : (updateNotices f s).free = s.free := rfl
@[simp] theorem updateNotices_ingest : (updateNotices f s).ingest = s.ingest := rfl
@[simp] theorem updateNotices_arbiter : (updateNotices f s).arbiter = s.arbiter := rfl
@[simp] theorem updateNotices_cache : (updateNotices f s).cache = s.cache := rfl
@[simp] theorem updateNotices_keys : (updateNotices f s).keys = s.keys := rfl
@[simp] theorem updateNotices_seq : (updateNotices f s).seq = s.seq := rfl
@[simp] theorem updateNotices_time : (updateNotices f s).time = s.time := rfl
@[simp] theorem updateNotices_frames : (updateNotices f s).frames = s.frames := rfl
@[simp] theorem updateNotices_link : (updateNotices f s).link = s.link := rfl
@[simp] theorem updateNotices_sound : (updateNotices f s).sound = s.sound := rfl
@[simp] theorem updateNotices_subs : (updateNotices f s).subs = s.subs := rfl
@[simp] theorem updateNotices_log : (updateNotices f s).log = s.log := rfl
@[simp] theorem updateNotices_lines : (updateNotices f s).lines = s.lines := rfl
@[simp] theorem updateNotices_port : (updateNotices f s).port = s.port := rfl
@[simp] theorem updateNotices_notices : (updateNotices f s).notices = f s.notices := rfl
@[simp] theorem updateNotices_freeUses : (updateNotices f s).freeUses = s.freeUses := rfl
end

/-! ### `updateLink` -/

section
variable (f : LinkSide → LinkSide)
@[simp] theorem updateLink_pending : (updateLink f s).pending = s.pending := rfl
@[simp] theorem updateLink_startUp : (updateLink f s).startUp = s.startUp := rfl
@[simp] theorem updateLink_store : (updateLink f s).store = s.store := rfl
@[simp] theorem updateLink_nvm : (updateLink f s).nvm = s.nvm := rfl
@[simp] theorem updateLink_catalogue : (updateLink f s).catalogue = s.catalogue := rfl
@[simp] theorem updateLink_queue : (updateLink f s).queue = s.queue := rfl
@[simp] theorem updateLink_free : (updateLink f s).free = s.free := rfl
@[simp] theorem updateLink_ingest : (updateLink f s).ingest = s.ingest := rfl
@[simp] theorem updateLink_arbiter : (updateLink f s).arbiter = s.arbiter := rfl
@[simp] theorem updateLink_cache : (updateLink f s).cache = s.cache := rfl
@[simp] theorem updateLink_keys : (updateLink f s).keys = s.keys := rfl
@[simp] theorem updateLink_seq : (updateLink f s).seq = s.seq := rfl
@[simp] theorem updateLink_time : (updateLink f s).time = s.time := rfl
@[simp] theorem updateLink_frames : (updateLink f s).frames = s.frames := rfl
@[simp] theorem updateLink_link : (updateLink f s).link = f s.link := rfl
@[simp] theorem updateLink_sound : (updateLink f s).sound = s.sound := rfl
@[simp] theorem updateLink_subs : (updateLink f s).subs = s.subs := rfl
@[simp] theorem updateLink_log : (updateLink f s).log = s.log := rfl
@[simp] theorem updateLink_lines : (updateLink f s).lines = s.lines := rfl
@[simp] theorem updateLink_port : (updateLink f s).port = s.port := rfl
@[simp] theorem updateLink_notices : (updateLink f s).notices = s.notices := rfl
@[simp] theorem updateLink_freeUses : (updateLink f s).freeUses = s.freeUses := rfl
end

/-! ### `updateSound` -/

section
variable (f : Sound → Sound)
@[simp] theorem updateSound_pending : (updateSound f s).pending = s.pending := rfl
@[simp] theorem updateSound_startUp : (updateSound f s).startUp = s.startUp := rfl
@[simp] theorem updateSound_store : (updateSound f s).store = s.store := rfl
@[simp] theorem updateSound_nvm : (updateSound f s).nvm = s.nvm := rfl
@[simp] theorem updateSound_catalogue : (updateSound f s).catalogue = s.catalogue := rfl
@[simp] theorem updateSound_queue : (updateSound f s).queue = s.queue := rfl
@[simp] theorem updateSound_free : (updateSound f s).free = s.free := rfl
@[simp] theorem updateSound_ingest : (updateSound f s).ingest = s.ingest := rfl
@[simp] theorem updateSound_arbiter : (updateSound f s).arbiter = s.arbiter := rfl
@[simp] theorem updateSound_cache : (updateSound f s).cache = s.cache := rfl
@[simp] theorem updateSound_keys : (updateSound f s).keys = s.keys := rfl
@[simp] theorem updateSound_seq : (updateSound f s).seq = s.seq := rfl
@[simp] theorem updateSound_time : (updateSound f s).time = s.time := rfl
@[simp] theorem updateSound_frames : (updateSound f s).frames = s.frames := rfl
@[simp] theorem updateSound_link : (updateSound f s).link = s.link := rfl
@[simp] theorem updateSound_sound : (updateSound f s).sound = f s.sound := rfl
@[simp] theorem updateSound_subs : (updateSound f s).subs = s.subs := rfl
@[simp] theorem updateSound_log : (updateSound f s).log = s.log := rfl
@[simp] theorem updateSound_lines : (updateSound f s).lines = s.lines := rfl
@[simp] theorem updateSound_port : (updateSound f s).port = s.port := rfl
@[simp] theorem updateSound_notices : (updateSound f s).notices = s.notices := rfl
@[simp] theorem updateSound_freeUses : (updateSound f s).freeUses = s.freeUses := rfl
end

/-! ### `updateLine` -/

section
variable (n : Nat) (f : Line → Line)
@[simp] theorem updateLine_pending : (updateLine n f s).pending = s.pending := rfl
@[simp] theorem updateLine_startUp : (updateLine n f s).startUp = s.startUp := rfl
@[simp] theorem updateLine_store : (updateLine n f s).store = s.store := rfl
@[simp] theorem updateLine_nvm : (updateLine n f s).nvm = s.nvm := rfl
@[simp] theorem updateLine_catalogue : (updateLine n f s).catalogue = s.catalogue := rfl
@[simp] theorem updateLine_queue : (updateLine n f s).queue = s.queue := rfl
@[simp] theorem updateLine_free : (updateLine n f s).free = s.free := rfl
@[simp] theorem updateLine_ingest : (updateLine n f s).ingest = s.ingest := rfl
@[simp] theorem updateLine_arbiter : (updateLine n f s).arbiter = s.arbiter := rfl
@[simp] theorem updateLine_cache : (updateLine n f s).cache = s.cache := rfl
@[simp] theorem updateLine_keys : (updateLine n f s).keys = s.keys := rfl
@[simp] theorem updateLine_seq : (updateLine n f s).seq = s.seq := rfl
@[simp] theorem updateLine_time : (updateLine n f s).time = s.time := rfl
@[simp] theorem updateLine_frames : (updateLine n f s).frames = s.frames := rfl
@[simp] theorem updateLine_link : (updateLine n f s).link = s.link := rfl
@[simp] theorem updateLine_sound : (updateLine n f s).sound = s.sound := rfl
@[simp] theorem updateLine_subs : (updateLine n f s).subs = s.subs := rfl
@[simp] theorem updateLine_log : (updateLine n f s).log = s.log := rfl
@[simp] theorem updateLine_lines : (updateLine n f s).lines = updateAt f s.lines n := rfl
@[simp] theorem updateLine_port : (updateLine n f s).port = s.port := rfl
@[simp] theorem updateLine_notices : (updateLine n f s).notices = s.notices := rfl
@[simp] theorem updateLine_freeUses : (updateLine n f s).freeUses = s.freeUses := rfl
end

/-! ### `updateUnit` -/

section
variable (n : Nat) (f : CompareUnit → CompareUnit)
@[simp] theorem updateUnit_pending : (updateUnit n f s).pending = s.pending := rfl
@[simp] theorem updateUnit_startUp : (updateUnit n f s).startUp = s.startUp := rfl
@[simp] theorem updateUnit_store : (updateUnit n f s).store = s.store := rfl
@[simp] theorem updateUnit_nvm : (updateUnit n f s).nvm = s.nvm := rfl
@[simp] theorem updateUnit_catalogue : (updateUnit n f s).catalogue = s.catalogue := rfl
@[simp] theorem updateUnit_queue : (updateUnit n f s).queue = s.queue := rfl
@[simp] theorem updateUnit_free : (updateUnit n f s).free = s.free := rfl
@[simp] theorem updateUnit_ingest : (updateUnit n f s).ingest = s.ingest := rfl
@[simp] theorem updateUnit_arbiter : (updateUnit n f s).arbiter = s.arbiter := rfl
@[simp] theorem updateUnit_cache : (updateUnit n f s).cache = s.cache := rfl
@[simp] theorem updateUnit_keys : (updateUnit n f s).keys = s.keys := rfl
@[simp] theorem updateUnit_seq : (updateUnit n f s).seq = s.seq := rfl
@[simp] theorem updateUnit_time : (updateUnit n f s).time = { s.time with units := updateAt f s.time.units n } := rfl
@[simp] theorem updateUnit_frames : (updateUnit n f s).frames = s.frames := rfl
@[simp] theorem updateUnit_link : (updateUnit n f s).link = s.link := rfl
@[simp] theorem updateUnit_sound : (updateUnit n f s).sound = s.sound := rfl
@[simp] theorem updateUnit_subs : (updateUnit n f s).subs = s.subs := rfl
@[simp] theorem updateUnit_log : (updateUnit n f s).log = s.log := rfl
@[simp] theorem updateUnit_lines : (updateUnit n f s).lines = s.lines := rfl
@[simp] theorem updateUnit_port : (updateUnit n f s).port = s.port := rfl
@[simp] theorem updateUnit_notices : (updateUnit n f s).notices = s.notices := rfl
@[simp] theorem updateUnit_freeUses : (updateUnit n f s).freeUses = s.freeUses := rfl
end

/-! ### `updateStream` -/

section
variable (k : Nat) (f : Stream → Stream)
@[simp] theorem updateStream_pending : (updateStream k f s).pending = s.pending := rfl
@[simp] theorem updateStream_startUp : (updateStream k f s).startUp = s.startUp := rfl
@[simp] theorem updateStream_store : (updateStream k f s).store = s.store := rfl
@[simp] theorem updateStream_nvm : (updateStream k f s).nvm = s.nvm := rfl
@[simp] theorem updateStream_catalogue : (updateStream k f s).catalogue = s.catalogue := rfl
@[simp] theorem updateStream_queue : (updateStream k f s).queue = s.queue := rfl
@[simp] theorem updateStream_free : (updateStream k f s).free = s.free := rfl
@[simp] theorem updateStream_ingest : (updateStream k f s).ingest = s.ingest := rfl
@[simp] theorem updateStream_arbiter : (updateStream k f s).arbiter = s.arbiter := rfl
@[simp] theorem updateStream_cache : (updateStream k f s).cache = s.cache := rfl
@[simp] theorem updateStream_keys : (updateStream k f s).keys = s.keys := rfl
@[simp] theorem updateStream_seq : (updateStream k f s).seq = s.seq := rfl
@[simp] theorem updateStream_time : (updateStream k f s).time = s.time := rfl
@[simp] theorem updateStream_frames : (updateStream k f s).frames = s.frames := rfl
@[simp] theorem updateStream_link : (updateStream k f s).link = s.link := rfl
@[simp] theorem updateStream_sound : (updateStream k f s).sound = s.sound := rfl
@[simp] theorem updateStream_subs : (updateStream k f s).subs = { s.subs with streams := updateAt f s.subs.streams k } := rfl
@[simp] theorem updateStream_log : (updateStream k f s).log = s.log := rfl
@[simp] theorem updateStream_lines : (updateStream k f s).lines = s.lines := rfl
@[simp] theorem updateStream_port : (updateStream k f s).port = s.port := rfl
@[simp] theorem updateStream_notices : (updateStream k f s).notices = s.notices := rfl
@[simp] theorem updateStream_freeUses : (updateStream k f s).freeUses = s.freeUses := rfl
end

/-! ### `raise` -/

section
variable (c : NoticeCause) (detail : List Byte)
@[simp] theorem raise_pending : (raise c detail s).pending = s.pending := rfl
@[simp] theorem raise_startUp : (raise c detail s).startUp = s.startUp := rfl
@[simp] theorem raise_store : (raise c detail s).store = s.store := rfl
@[simp] theorem raise_nvm : (raise c detail s).nvm = s.nvm := rfl
@[simp] theorem raise_catalogue : (raise c detail s).catalogue = s.catalogue := rfl
@[simp] theorem raise_queue : (raise c detail s).queue = s.queue := rfl
@[simp] theorem raise_free : (raise c detail s).free = s.free := rfl
@[simp] theorem raise_ingest : (raise c detail s).ingest = s.ingest := rfl
@[simp] theorem raise_arbiter : (raise c detail s).arbiter = s.arbiter := rfl
@[simp] theorem raise_cache : (raise c detail s).cache = s.cache := rfl
@[simp] theorem raise_keys : (raise c detail s).keys = s.keys := rfl
@[simp] theorem raise_seq : (raise c detail s).seq = s.seq := rfl
@[simp] theorem raise_time : (raise c detail s).time = s.time := rfl
@[simp] theorem raise_frames : (raise c detail s).frames = s.frames := rfl
@[simp] theorem raise_link : (raise c detail s).link = s.link := rfl
@[simp] theorem raise_sound : (raise c detail s).sound = s.sound := rfl
@[simp] theorem raise_subs : (raise c detail s).subs = s.subs := rfl
@[simp] theorem raise_log : (raise c detail s).log = s.log := rfl
@[simp] theorem raise_lines : (raise c detail s).lines = s.lines := rfl
@[simp] theorem raise_port : (raise c detail s).port = s.port := rfl
@[simp] theorem raise_freeUses : (raise c detail s).freeUses = s.freeUses := rfl
end

/-! ### `sendReply` -/

section
variable (r : Reply)
@[simp] theorem sendReply_pending : (sendReply r s).pending = s.pending := rfl
@[simp] theorem sendReply_startUp : (sendReply r s).startUp = s.startUp := rfl
@[simp] theorem sendReply_store : (sendReply r s).store = s.store := rfl
@[simp] theorem sendReply_nvm : (sendReply r s).nvm = s.nvm := rfl
@[simp] theorem sendReply_catalogue : (sendReply r s).catalogue = s.catalogue := rfl
@[simp] theorem sendReply_queue : (sendReply r s).queue = s.queue := rfl
@[simp] theorem sendReply_free : (sendReply r s).free = s.free := rfl
@[simp] theorem sendReply_ingest : (sendReply r s).ingest = s.ingest := rfl
@[simp] theorem sendReply_arbiter : (sendReply r s).arbiter = s.arbiter := rfl
@[simp] theorem sendReply_cache : (sendReply r s).cache = s.cache := rfl
@[simp] theorem sendReply_keys : (sendReply r s).keys = s.keys := rfl
@[simp] theorem sendReply_seq : (sendReply r s).seq = s.seq := rfl
@[simp] theorem sendReply_time : (sendReply r s).time = s.time := rfl
@[simp] theorem sendReply_frames : (sendReply r s).frames = s.frames := rfl
@[simp] theorem sendReply_link : (sendReply r s).link = s.link := rfl
@[simp] theorem sendReply_sound : (sendReply r s).sound = s.sound := rfl
@[simp] theorem sendReply_subs : (sendReply r s).subs = s.subs := rfl
@[simp] theorem sendReply_log : (sendReply r s).log = s.log := rfl
@[simp] theorem sendReply_lines : (sendReply r s).lines = s.lines := rfl
@[simp] theorem sendReply_notices : (sendReply r s).notices = s.notices := rfl
@[simp] theorem sendReply_freeUses : (sendReply r s).freeUses = s.freeUses := rfl
end

/-! ### `holdSlot` -/

section
variable (kind : Nat) (tag : Byte) (phase : SlotPhase)
@[simp] theorem holdSlot_pending : (holdSlot kind tag phase s).pending = s.pending := rfl
@[simp] theorem holdSlot_startUp : (holdSlot kind tag phase s).startUp = s.startUp := rfl
@[simp] theorem holdSlot_store : (holdSlot kind tag phase s).store = s.store := rfl
@[simp] theorem holdSlot_nvm : (holdSlot kind tag phase s).nvm = s.nvm := rfl
@[simp] theorem holdSlot_catalogue : (holdSlot kind tag phase s).catalogue = s.catalogue := rfl
@[simp] theorem holdSlot_queue : (holdSlot kind tag phase s).queue = s.queue := rfl
@[simp] theorem holdSlot_free : (holdSlot kind tag phase s).free = s.free := rfl
@[simp] theorem holdSlot_ingest : (holdSlot kind tag phase s).ingest = s.ingest := rfl
@[simp] theorem holdSlot_arbiter : (holdSlot kind tag phase s).arbiter = s.arbiter := rfl
@[simp] theorem holdSlot_cache : (holdSlot kind tag phase s).cache = s.cache := rfl
@[simp] theorem holdSlot_keys : (holdSlot kind tag phase s).keys = s.keys := rfl
@[simp] theorem holdSlot_seq : (holdSlot kind tag phase s).seq = s.seq := rfl
@[simp] theorem holdSlot_time : (holdSlot kind tag phase s).time = s.time := rfl
@[simp] theorem holdSlot_frames : (holdSlot kind tag phase s).frames = s.frames := rfl
@[simp] theorem holdSlot_link : (holdSlot kind tag phase s).link = s.link := rfl
@[simp] theorem holdSlot_sound : (holdSlot kind tag phase s).sound = s.sound := rfl
@[simp] theorem holdSlot_subs : (holdSlot kind tag phase s).subs = s.subs := rfl
@[simp] theorem holdSlot_log : (holdSlot kind tag phase s).log = s.log := rfl
@[simp] theorem holdSlot_lines : (holdSlot kind tag phase s).lines = s.lines := rfl
@[simp] theorem holdSlot_notices : (holdSlot kind tag phase s).notices = s.notices := rfl
@[simp] theorem holdSlot_freeUses : (holdSlot kind tag phase s).freeUses = s.freeUses := rfl
end

/-! ### `pushWrite` -/

section
variable (w : Write) (forCheck : Bool)
@[simp] theorem pushWrite_pending : (pushWrite w forCheck s).pending = s.pending := rfl
@[simp] theorem pushWrite_startUp : (pushWrite w forCheck s).startUp = s.startUp := rfl
@[simp] theorem pushWrite_store : (pushWrite w forCheck s).store = s.store := rfl
@[simp] theorem pushWrite_nvm : (pushWrite w forCheck s).nvm = s.nvm := rfl
@[simp] theorem pushWrite_catalogue : (pushWrite w forCheck s).catalogue = s.catalogue := rfl
@[simp] theorem pushWrite_queue : (pushWrite w forCheck s).queue = { s.queue with writes := s.queue.writes ++ [{ write := w, forCheck := forCheck }] } := rfl
@[simp] theorem pushWrite_free : (pushWrite w forCheck s).free = s.free := rfl
@[simp] theorem pushWrite_ingest : (pushWrite w forCheck s).ingest = s.ingest := rfl
@[simp] theorem pushWrite_arbiter : (pushWrite w forCheck s).arbiter = s.arbiter := rfl
@[simp] theorem pushWrite_cache : (pushWrite w forCheck s).cache = s.cache := rfl
@[simp] theorem pushWrite_keys : (pushWrite w forCheck s).keys = s.keys := rfl
@[simp] theorem pushWrite_seq : (pushWrite w forCheck s).seq = s.seq := rfl
@[simp] theorem pushWrite_time : (pushWrite w forCheck s).time = s.time := rfl
@[simp] theorem pushWrite_frames : (pushWrite w forCheck s).frames = s.frames := rfl
@[simp] theorem pushWrite_link : (pushWrite w forCheck s).link = s.link := rfl
@[simp] theorem pushWrite_sound : (pushWrite w forCheck s).sound = s.sound := rfl
@[simp] theorem pushWrite_subs : (pushWrite w forCheck s).subs = s.subs := rfl
@[simp] theorem pushWrite_log : (pushWrite w forCheck s).log = s.log := rfl
@[simp] theorem pushWrite_lines : (pushWrite w forCheck s).lines = s.lines := rfl
@[simp] theorem pushWrite_port : (pushWrite w forCheck s).port = s.port := rfl
@[simp] theorem pushWrite_notices : (pushWrite w forCheck s).notices = s.notices := rfl
@[simp] theorem pushWrite_freeUses : (pushWrite w forCheck s).freeUses = s.freeUses := rfl
end

/-! ### `awaitRoom` -/

section
variable (w : Waiter)
@[simp] theorem awaitRoom_pending : (awaitRoom w s).pending = s.pending := rfl
@[simp] theorem awaitRoom_startUp : (awaitRoom w s).startUp = s.startUp := rfl
@[simp] theorem awaitRoom_store : (awaitRoom w s).store = s.store := rfl
@[simp] theorem awaitRoom_nvm : (awaitRoom w s).nvm = s.nvm := rfl
@[simp] theorem awaitRoom_catalogue : (awaitRoom w s).catalogue = s.catalogue := rfl
@[simp] theorem awaitRoom_queue : (awaitRoom w s).queue = { s.queue with waiters := s.queue.waiters ++ [w] } := rfl
@[simp] theorem awaitRoom_free : (awaitRoom w s).free = s.free := rfl
@[simp] theorem awaitRoom_ingest : (awaitRoom w s).ingest = s.ingest := rfl
@[simp] theorem awaitRoom_arbiter : (awaitRoom w s).arbiter = s.arbiter := rfl
@[simp] theorem awaitRoom_cache : (awaitRoom w s).cache = s.cache := rfl
@[simp] theorem awaitRoom_keys : (awaitRoom w s).keys = s.keys := rfl
@[simp] theorem awaitRoom_seq : (awaitRoom w s).seq = s.seq := rfl
@[simp] theorem awaitRoom_time : (awaitRoom w s).time = s.time := rfl
@[simp] theorem awaitRoom_frames : (awaitRoom w s).frames = s.frames := rfl
@[simp] theorem awaitRoom_link : (awaitRoom w s).link = s.link := rfl
@[simp] theorem awaitRoom_sound : (awaitRoom w s).sound = s.sound := rfl
@[simp] theorem awaitRoom_subs : (awaitRoom w s).subs = s.subs := rfl
@[simp] theorem awaitRoom_log : (awaitRoom w s).log = s.log := rfl
@[simp] theorem awaitRoom_lines : (awaitRoom w s).lines = s.lines := rfl
@[simp] theorem awaitRoom_port : (awaitRoom w s).port = s.port := rfl
@[simp] theorem awaitRoom_notices : (awaitRoom w s).notices = s.notices := rfl
@[simp] theorem awaitRoom_freeUses : (awaitRoom w s).freeUses = s.freeUses := rfl
end

/-! ### `setTrack` -/

section
variable (id : Nat) (e : Option TrackEntry)
@[simp] theorem setTrack_pending : (setTrack id e s).pending = s.pending := rfl
@[simp] theorem setTrack_startUp : (setTrack id e s).startUp = s.startUp := rfl
@[simp] theorem setTrack_store : (setTrack id e s).store = s.store := rfl
@[simp] theorem setTrack_nvm : (setTrack id e s).nvm = s.nvm := rfl
@[simp] theorem setTrack_catalogue : (setTrack id e s).catalogue = { s.catalogue with tracks := s.catalogue.tracks.set id e } := rfl
@[simp] theorem setTrack_queue : (setTrack id e s).queue = s.queue := rfl
@[simp] theorem setTrack_free : (setTrack id e s).free = s.free := rfl
@[simp] theorem setTrack_ingest : (setTrack id e s).ingest = s.ingest := rfl
@[simp] theorem setTrack_arbiter : (setTrack id e s).arbiter = s.arbiter := rfl
@[simp] theorem setTrack_cache : (setTrack id e s).cache = s.cache := rfl
@[simp] theorem setTrack_keys : (setTrack id e s).keys = s.keys := rfl
@[simp] theorem setTrack_seq : (setTrack id e s).seq = s.seq := rfl
@[simp] theorem setTrack_time : (setTrack id e s).time = s.time := rfl
@[simp] theorem setTrack_frames : (setTrack id e s).frames = s.frames := rfl
@[simp] theorem setTrack_link : (setTrack id e s).link = s.link := rfl
@[simp] theorem setTrack_sound : (setTrack id e s).sound = s.sound := rfl
@[simp] theorem setTrack_subs : (setTrack id e s).subs = s.subs := rfl
@[simp] theorem setTrack_log : (setTrack id e s).log = s.log := rfl
@[simp] theorem setTrack_lines : (setTrack id e s).lines = s.lines := rfl
@[simp] theorem setTrack_port : (setTrack id e s).port = s.port := rfl
@[simp] theorem setTrack_notices : (setTrack id e s).notices = s.notices := rfl
@[simp] theorem setTrack_freeUses : (setTrack id e s).freeUses = s.freeUses := rfl
end

/-! ### `setComposition` -/

section
variable (id : Nat) (c : Option Composition)
@[simp] theorem setComposition_pending : (setComposition id c s).pending = s.pending := rfl
@[simp] theorem setComposition_startUp : (setComposition id c s).startUp = s.startUp := rfl
@[simp] theorem setComposition_store : (setComposition id c s).store = s.store := rfl
@[simp] theorem setComposition_nvm : (setComposition id c s).nvm = s.nvm := rfl
@[simp] theorem setComposition_catalogue : (setComposition id c s).catalogue = { s.catalogue with compositions := s.catalogue.compositions.set id c } := rfl
@[simp] theorem setComposition_queue : (setComposition id c s).queue = s.queue := rfl
@[simp] theorem setComposition_free : (setComposition id c s).free = s.free := rfl
@[simp] theorem setComposition_ingest : (setComposition id c s).ingest = s.ingest := rfl
@[simp] theorem setComposition_arbiter : (setComposition id c s).arbiter = s.arbiter := rfl
@[simp] theorem setComposition_cache : (setComposition id c s).cache = s.cache := rfl
@[simp] theorem setComposition_keys : (setComposition id c s).keys = s.keys := rfl
@[simp] theorem setComposition_seq : (setComposition id c s).seq = s.seq := rfl
@[simp] theorem setComposition_time : (setComposition id c s).time = s.time := rfl
@[simp] theorem setComposition_frames : (setComposition id c s).frames = s.frames := rfl
@[simp] theorem setComposition_link : (setComposition id c s).link = s.link := rfl
@[simp] theorem setComposition_sound : (setComposition id c s).sound = s.sound := rfl
@[simp] theorem setComposition_subs : (setComposition id c s).subs = s.subs := rfl
@[simp] theorem setComposition_log : (setComposition id c s).log = s.log := rfl
@[simp] theorem setComposition_lines : (setComposition id c s).lines = s.lines := rfl
@[simp] theorem setComposition_port : (setComposition id c s).port = s.port := rfl
@[simp] theorem setComposition_notices : (setComposition id c s).notices = s.notices := rfl
@[simp] theorem setComposition_freeUses : (setComposition id c s).freeUses = s.freeUses := rfl
end

/-! ### `setExtents` -/

section
variable (id : Nat) (l : Option (List Extent))
@[simp] theorem setExtents_pending : (setExtents id l s).pending = s.pending := rfl
@[simp] theorem setExtents_startUp : (setExtents id l s).startUp = s.startUp := rfl
@[simp] theorem setExtents_store : (setExtents id l s).store = s.store := rfl
@[simp] theorem setExtents_nvm : (setExtents id l s).nvm = s.nvm := rfl
@[simp] theorem setExtents_catalogue : (setExtents id l s).catalogue = { s.catalogue with extents := s.catalogue.extents.set id l } := rfl
@[simp] theorem setExtents_queue : (setExtents id l s).queue = s.queue := rfl
@[simp] theorem setExtents_free : (setExtents id l s).free = s.free := rfl
@[simp] theorem setExtents_ingest : (setExtents id l s).ingest = s.ingest := rfl
@[simp] theorem setExtents_arbiter : (setExtents id l s).arbiter = s.arbiter := rfl
@[simp] theorem setExtents_cache : (setExtents id l s).cache = s.cache := rfl
@[simp] theorem setExtents_keys : (setExtents id l s).keys = s.keys := rfl
@[simp] theorem setExtents_seq : (setExtents id l s).seq = s.seq := rfl
@[simp] theorem setExtents_time : (setExtents id l s).time = s.time := rfl
@[simp] theorem setExtents_frames : (setExtents id l s).frames = s.frames := rfl
@[simp] theorem setExtents_link : (setExtents id l s).link = s.link := rfl
@[simp] theorem setExtents_sound : (setExtents id l s).sound = s.sound := rfl
@[simp] theorem setExtents_subs : (setExtents id l s).subs = s.subs := rfl
@[simp] theorem setExtents_log : (setExtents id l s).log = s.log := rfl
@[simp] theorem setExtents_lines : (setExtents id l s).lines = s.lines := rfl
@[simp] theorem setExtents_port : (setExtents id l s).port = s.port := rfl
@[simp] theorem setExtents_notices : (setExtents id l s).notices = s.notices := rfl
@[simp] theorem setExtents_freeUses : (setExtents id l s).freeUses = s.freeUses := rfl
end

/-! ### `setGrant` -/

section
variable (slot : Nat) (g : Option Grant)
@[simp] theorem setGrant_pending : (setGrant slot g s).pending = s.pending := rfl
@[simp] theorem setGrant_startUp : (setGrant slot g s).startUp = s.startUp := rfl
@[simp] theorem setGrant_store : (setGrant slot g s).store = s.store := rfl
@[simp] theorem setGrant_nvm : (setGrant slot g s).nvm = s.nvm := rfl
@[simp] theorem setGrant_catalogue : (setGrant slot g s).catalogue = s.catalogue := rfl
@[simp] theorem setGrant_queue : (setGrant slot g s).queue = s.queue := rfl
@[simp] theorem setGrant_free : (setGrant slot g s).free = s.free := rfl
@[simp] theorem setGrant_ingest : (setGrant slot g s).ingest = s.ingest := rfl
@[simp] theorem setGrant_arbiter : (setGrant slot g s).arbiter = s.arbiter := rfl
@[simp] theorem setGrant_cache : (setGrant slot g s).cache = s.cache := rfl
@[simp] theorem setGrant_keys : (setGrant slot g s).keys = { s.keys with grants := s.keys.grants.set slot g } := rfl
@[simp] theorem setGrant_seq : (setGrant slot g s).seq = s.seq := rfl
@[simp] theorem setGrant_time : (setGrant slot g s).time = s.time := rfl
@[simp] theorem setGrant_frames : (setGrant slot g s).frames = s.frames := rfl
@[simp] theorem setGrant_link : (setGrant slot g s).link = s.link := rfl
@[simp] theorem setGrant_sound : (setGrant slot g s).sound = s.sound := rfl
@[simp] theorem setGrant_subs : (setGrant slot g s).subs = s.subs := rfl
@[simp] theorem setGrant_log : (setGrant slot g s).log = s.log := rfl
@[simp] theorem setGrant_lines : (setGrant slot g s).lines = s.lines := rfl
@[simp] theorem setGrant_port : (setGrant slot g s).port = s.port := rfl
@[simp] theorem setGrant_notices : (setGrant slot g s).notices = s.notices := rfl
@[simp] theorem setGrant_freeUses : (setGrant slot g s).freeUses = s.freeUses := rfl
end

/-! ### `setFreeList` -/

section
variable (l : List Run)
@[simp] theorem setFreeList_pending : (setFreeList l s).pending = s.pending := rfl
@[simp] theorem setFreeList_startUp : (setFreeList l s).startUp = s.startUp := rfl
@[simp] theorem setFreeList_store : (setFreeList l s).store = s.store := rfl
@[simp] theorem setFreeList_nvm : (setFreeList l s).nvm = s.nvm := rfl
@[simp] theorem setFreeList_catalogue : (setFreeList l s).catalogue = s.catalogue := rfl
@[simp] theorem setFreeList_queue : (setFreeList l s).queue = s.queue := rfl
@[simp] theorem setFreeList_free : (setFreeList l s).free = { s.free with list := l } := rfl
@[simp] theorem setFreeList_ingest : (setFreeList l s).ingest = s.ingest := rfl
@[simp] theorem setFreeList_arbiter : (setFreeList l s).arbiter = s.arbiter := rfl
@[simp] theorem setFreeList_cache : (setFreeList l s).cache = s.cache := rfl
@[simp] theorem setFreeList_keys : (setFreeList l s).keys = s.keys := rfl
@[simp] theorem setFreeList_seq : (setFreeList l s).seq = s.seq := rfl
@[simp] theorem setFreeList_time : (setFreeList l s).time = s.time := rfl
@[simp] theorem setFreeList_frames : (setFreeList l s).frames = s.frames := rfl
@[simp] theorem setFreeList_link : (setFreeList l s).link = s.link := rfl
@[simp] theorem setFreeList_sound : (setFreeList l s).sound = s.sound := rfl
@[simp] theorem setFreeList_subs : (setFreeList l s).subs = s.subs := rfl
@[simp] theorem setFreeList_log : (setFreeList l s).log = s.log := rfl
@[simp] theorem setFreeList_lines : (setFreeList l s).lines = s.lines := rfl
@[simp] theorem setFreeList_port : (setFreeList l s).port = s.port := rfl
@[simp] theorem setFreeList_notices : (setFreeList l s).notices = s.notices := rfl
@[simp] theorem setFreeList_freeUses : (setFreeList l s).freeUses = s.freeUses := rfl
end

/-! ### `useFree` -/

section
variable (k : Nat)
@[simp] theorem useFree_pending : (useFree k s).pending = s.pending := rfl
@[simp] theorem useFree_startUp : (useFree k s).startUp = s.startUp := rfl
@[simp] theorem useFree_store : (useFree k s).store = s.store := rfl
@[simp] theorem useFree_nvm : (useFree k s).nvm = s.nvm := rfl
@[simp] theorem useFree_catalogue : (useFree k s).catalogue = s.catalogue := rfl
@[simp] theorem useFree_queue : (useFree k s).queue = s.queue := rfl
@[simp] theorem useFree_free : (useFree k s).free = s.free := rfl
@[simp] theorem useFree_ingest : (useFree k s).ingest = s.ingest := rfl
@[simp] theorem useFree_arbiter : (useFree k s).arbiter = s.arbiter := rfl
@[simp] theorem useFree_cache : (useFree k s).cache = s.cache := rfl
@[simp] theorem useFree_keys : (useFree k s).keys = s.keys := rfl
@[simp] theorem useFree_seq : (useFree k s).seq = s.seq := rfl
@[simp] theorem useFree_time : (useFree k s).time = s.time := rfl
@[simp] theorem useFree_frames : (useFree k s).frames = s.frames := rfl
@[simp] theorem useFree_link : (useFree k s).link = s.link := rfl
@[simp] theorem useFree_sound : (useFree k s).sound = s.sound := rfl
@[simp] theorem useFree_subs : (useFree k s).subs = s.subs := rfl
@[simp] theorem useFree_log : (useFree k s).log = s.log := rfl
@[simp] theorem useFree_lines : (useFree k s).lines = s.lines := rfl
@[simp] theorem useFree_port : (useFree k s).port = s.port := rfl
@[simp] theorem useFree_notices : (useFree k s).notices = s.notices := rfl
@[simp] theorem useFree_freeUses : (useFree k s).freeUses = s.freeUses + k := rfl
end

/-! ### `emptyUnits` -/

section
variable (p : Nat → Bool)
@[simp] theorem emptyUnits_pending : (emptyUnits p s).pending = s.pending := rfl
@[simp] theorem emptyUnits_startUp : (emptyUnits p s).startUp = s.startUp := rfl
@[simp] theorem emptyUnits_store : (emptyUnits p s).store = s.store := rfl
@[simp] theorem emptyUnits_nvm : (emptyUnits p s).nvm = s.nvm := rfl
@[simp] theorem emptyUnits_catalogue : (emptyUnits p s).catalogue = s.catalogue := rfl
@[simp] theorem emptyUnits_queue : (emptyUnits p s).queue = s.queue := rfl
@[simp] theorem emptyUnits_free : (emptyUnits p s).free = s.free := rfl
@[simp] theorem emptyUnits_ingest : (emptyUnits p s).ingest = s.ingest := rfl
@[simp] theorem emptyUnits_arbiter : (emptyUnits p s).arbiter = s.arbiter := rfl
@[simp] theorem emptyUnits_cache : (emptyUnits p s).cache = s.cache := rfl
@[simp] theorem emptyUnits_keys : (emptyUnits p s).keys = s.keys := rfl
@[simp] theorem emptyUnits_seq : (emptyUnits p s).seq = s.seq := rfl
@[simp] theorem emptyUnits_frames : (emptyUnits p s).frames = s.frames := rfl
@[simp] theorem emptyUnits_link : (emptyUnits p s).link = s.link := rfl
@[simp] theorem emptyUnits_sound : (emptyUnits p s).sound = s.sound := rfl
@[simp] theorem emptyUnits_subs : (emptyUnits p s).subs = s.subs := rfl
@[simp] theorem emptyUnits_log : (emptyUnits p s).log = s.log := rfl
@[simp] theorem emptyUnits_lines : (emptyUnits p s).lines = s.lines := rfl
@[simp] theorem emptyUnits_port : (emptyUnits p s).port = s.port := rfl
@[simp] theorem emptyUnits_notices : (emptyUnits p s).notices = s.notices := rfl
@[simp] theorem emptyUnits_freeUses : (emptyUnits p s).freeUses = s.freeUses := rfl
end

/-! ### `silenceOutputs` -/

@[simp] theorem silenceOutputs_pending : (silenceOutputs s).pending = s.pending := rfl
@[simp] theorem silenceOutputs_startUp : (silenceOutputs s).startUp = s.startUp := rfl
@[simp] theorem silenceOutputs_store : (silenceOutputs s).store = s.store := rfl
@[simp] theorem silenceOutputs_nvm : (silenceOutputs s).nvm = s.nvm := rfl
@[simp] theorem silenceOutputs_catalogue : (silenceOutputs s).catalogue = s.catalogue := rfl
@[simp] theorem silenceOutputs_queue : (silenceOutputs s).queue = s.queue := rfl
@[simp] theorem silenceOutputs_free : (silenceOutputs s).free = s.free := rfl
@[simp] theorem silenceOutputs_ingest : (silenceOutputs s).ingest = s.ingest := rfl
@[simp] theorem silenceOutputs_arbiter : (silenceOutputs s).arbiter = s.arbiter := rfl
@[simp] theorem silenceOutputs_cache : (silenceOutputs s).cache = s.cache := rfl
@[simp] theorem silenceOutputs_keys : (silenceOutputs s).keys = s.keys := rfl
@[simp] theorem silenceOutputs_seq : (silenceOutputs s).seq = s.seq := rfl
@[simp] theorem silenceOutputs_time : (silenceOutputs s).time = s.time := rfl
@[simp] theorem silenceOutputs_frames : (silenceOutputs s).frames = s.frames := rfl
@[simp] theorem silenceOutputs_link : (silenceOutputs s).link = s.link := rfl
@[simp] theorem silenceOutputs_sound : (silenceOutputs s).sound = { s.sound with outputs := [] } := rfl
@[simp] theorem silenceOutputs_subs : (silenceOutputs s).subs = s.subs := rfl
@[simp] theorem silenceOutputs_log : (silenceOutputs s).log = s.log := rfl
@[simp] theorem silenceOutputs_lines : (silenceOutputs s).lines = s.lines := rfl
@[simp] theorem silenceOutputs_port : (silenceOutputs s).port = s.port := rfl
@[simp] theorem silenceOutputs_notices : (silenceOutputs s).notices = s.notices := rfl
@[simp] theorem silenceOutputs_freeUses : (silenceOutputs s).freeUses = s.freeUses := rfl

/-! ### Fields changed by the smaller updates -/

@[simp] theorem releaseHeld_arbiter :
    (releaseHeld s).arbiter = { s.arbiter with waiting := s.arbiter.waiting ++ s.arbiter.held.toList, held := none } :=
  rfl
@[simp] theorem judgeMute_sound : (judgeMute s).sound = { s.sound with mute := s.muteReason } := rfl
@[simp] theorem dropReadRun_sound : (dropReadRun s).sound = { s.sound with run := none } := rfl
@[simp] theorem muteNow_sound : (muteNow s).sound = { s.sound with mute := s.muteReason, outputs := [] } := rfl
@[simp] theorem blackenLink_frames :
    (blackenLink s).frames = { s.frames with waiting := s.frames.waiting.map fun _ => .black } := rfl
@[simp] theorem setAwaiting_catalogue (id : Nat) (numbers : Option (List ReelNumbers)) :
    (setAwaiting id numbers s).catalogue = { s.catalogue with awaiting := s.catalogue.awaiting.set id numbers } := rfl
@[simp] theorem setLate_subs (n : Nat) :
    (setLate n s).subs = { s.subs with drops := replaceAt s.subs.drops 4 n } := rfl

end Machine
end Sys2Proof
end

