-- ==== Sys2Proof/Laws/Frames.lean ====
section
/-!
SUPPORT. What each operation leaves: one lemma for each operation,
  with the fields of the state that it does not touch.
-/
namespace Sys2Proof
namespace Machine

@[simp] theorem foldl_pending {α : Type} {act : State → α → State} {l : List α} {s : State}
    (h : ∀ u a, (act u a).pending = u.pending) :
    (l.foldl act s).pending = s.pending := by
  induction l generalizing s with
  | nil => rfl
  | cons a l ih => simp [ih, h]

@[simp] theorem foldl_startUp {α : Type} {act : State → α → State} {l : List α} {s : State}
    (h : ∀ u a, (act u a).startUp = u.startUp) :
    (l.foldl act s).startUp = s.startUp := by
  induction l generalizing s with
  | nil => rfl
  | cons a l ih => simp [ih, h]

@[simp] theorem foldl_store {α : Type} {act : State → α → State} {l : List α} {s : State}
    (h : ∀ u a, (act u a).store = u.store) :
    (l.foldl act s).store = s.store := by
  induction l generalizing s with
  | nil => rfl
  | cons a l ih => simp [ih, h]

@[simp] theorem foldl_nvm {α : Type} {act : State → α → State} {l : List α} {s : State}
    (h : ∀ u a, (act u a).nvm = u.nvm) :
    (l.foldl act s).nvm = s.nvm := by
  induction l generalizing s with
  | nil => rfl
  | cons a l ih => simp [ih, h]

@[simp] theorem foldl_catalogue {α : Type} {act : State → α → State} {l : List α} {s : State}
    (h : ∀ u a, (act u a).catalogue = u.catalogue) :
    (l.foldl act s).catalogue = s.catalogue := by
  induction l generalizing s with
  | nil => rfl
  | cons a l ih => simp [ih, h]

@[simp] theorem foldl_queue {α : Type} {act : State → α → State} {l : List α} {s : State}
    (h : ∀ u a, (act u a).queue = u.queue) :
    (l.foldl act s).queue = s.queue := by
  induction l generalizing s with
  | nil => rfl
  | cons a l ih => simp [ih, h]

@[simp] theorem foldl_free {α : Type} {act : State → α → State} {l : List α} {s : State}
    (h : ∀ u a, (act u a).free = u.free) :
    (l.foldl act s).free = s.free := by
  induction l generalizing s with
  | nil => rfl
  | cons a l ih => simp [ih, h]

@[simp] theorem foldl_ingest {α : Type} {act : State → α → State} {l : List α} {s : State}
    (h : ∀ u a, (act u a).ingest = u.ingest) :
    (l.foldl act s).ingest = s.ingest := by
  induction l generalizing s with
  | nil => rfl
  | cons a l ih => simp [ih, h]

@[simp] theorem foldl_arbiter {α : Type} {act : State → α → State} {l : List α} {s : State}
    (h : ∀ u a, (act u a).arbiter = u.arbiter) :
    (l.foldl act s).arbiter = s.arbiter := by
  induction l generalizing s with
  | nil => rfl
  | cons a l ih => simp [ih, h]

@[simp] theorem foldl_cache {α : Type} {act : State → α → State} {l : List α} {s : State}
    (h : ∀ u a, (act u a).cache = u.cache) :
    (l.foldl act s).cache = s.cache := by
  induction l generalizing s with
  | nil => rfl
  | cons a l ih => simp [ih, h]

@[simp] theorem foldl_keys {α : Type} {act : State → α → State} {l : List α} {s : State}
    (h : ∀ u a, (act u a).keys = u.keys) :
    (l.foldl act s).keys = s.keys := by
  induction l generalizing s with
  | nil => rfl
  | cons a l ih => simp [ih, h]

@[simp] theorem foldl_seq {α : Type} {act : State → α → State} {l : List α} {s : State}
    (h : ∀ u a, (act u a).seq = u.seq) :
    (l.foldl act s).seq = s.seq := by
  induction l generalizing s with
  | nil => rfl
  | cons a l ih => simp [ih, h]

@[simp] theorem foldl_time {α : Type} {act : State → α → State} {l : List α} {s : State}
    (h : ∀ u a, (act u a).time = u.time) :
    (l.foldl act s).time = s.time := by
  induction l generalizing s with
  | nil => rfl
  | cons a l ih => simp [ih, h]

@[simp] theorem foldl_frames {α : Type} {act : State → α → State} {l : List α} {s : State}
    (h : ∀ u a, (act u a).frames = u.frames) :
    (l.foldl act s).frames = s.frames := by
  induction l generalizing s with
  | nil => rfl
  | cons a l ih => simp [ih, h]

@[simp] theorem foldl_link {α : Type} {act : State → α → State} {l : List α} {s : State}
    (h : ∀ u a, (act u a).link = u.link) :
    (l.foldl act s).link = s.link := by
  induction l generalizing s with
  | nil => rfl
  | cons a l ih => simp [ih, h]

@[simp] theorem foldl_sound {α : Type} {act : State → α → State} {l : List α} {s : State}
    (h : ∀ u a, (act u a).sound = u.sound) :
    (l.foldl act s).sound = s.sound := by
  induction l generalizing s with
  | nil => rfl
  | cons a l ih => simp [ih, h]

@[simp] theorem foldl_subs {α : Type} {act : State → α → State} {l : List α} {s : State}
    (h : ∀ u a, (act u a).subs = u.subs) :
    (l.foldl act s).subs = s.subs := by
  induction l generalizing s with
  | nil => rfl
  | cons a l ih => simp [ih, h]

@[simp] theorem foldl_log {α : Type} {act : State → α → State} {l : List α} {s : State}
    (h : ∀ u a, (act u a).log = u.log) :
    (l.foldl act s).log = s.log := by
  induction l generalizing s with
  | nil => rfl
  | cons a l ih => simp [ih, h]

@[simp] theorem foldl_lines {α : Type} {act : State → α → State} {l : List α} {s : State}
    (h : ∀ u a, (act u a).lines = u.lines) :
    (l.foldl act s).lines = s.lines := by
  induction l generalizing s with
  | nil => rfl
  | cons a l ih => simp [ih, h]

@[simp] theorem foldl_port {α : Type} {act : State → α → State} {l : List α} {s : State}
    (h : ∀ u a, (act u a).port = u.port) :
    (l.foldl act s).port = s.port := by
  induction l generalizing s with
  | nil => rfl
  | cons a l ih => simp [ih, h]

@[simp] theorem foldl_notices {α : Type} {act : State → α → State} {l : List α} {s : State}
    (h : ∀ u a, (act u a).notices = u.notices) :
    (l.foldl act s).notices = s.notices := by
  induction l generalizing s with
  | nil => rfl
  | cons a l ih => simp [ih, h]

@[simp] theorem foldl_freeUses {α : Type} {act : State → α → State} {l : List α} {s : State}
    (h : ∀ u a, (act u a).freeUses = u.freeUses) :
    (l.foldl act s).freeUses = s.freeUses := by
  induction l generalizing s with
  | nil => rfl
  | cons a l ih => simp [ih, h]

/-! ### Flags -/

@[simp] theorem raise_frame (c : NoticeCause) (detail : List Byte) (s : State) :
    (raise c detail s).pending = s.pending ∧ (raise c detail s).startUp = s.startUp ∧
    (raise c detail s).store = s.store ∧ (raise c detail s).nvm = s.nvm ∧
    (raise c detail s).catalogue = s.catalogue ∧ (raise c detail s).queue = s.queue ∧
    (raise c detail s).free = s.free ∧ (raise c detail s).ingest = s.ingest ∧
    (raise c detail s).arbiter = s.arbiter ∧ (raise c detail s).cache = s.cache ∧ (raise c detail s).keys = s.keys ∧
    (raise c detail s).seq = s.seq ∧ (raise c detail s).time = s.time ∧ (raise c detail s).frames = s.frames ∧
    (raise c detail s).link = s.link ∧ (raise c detail s).sound = s.sound ∧ (raise c detail s).subs = s.subs ∧
    (raise c detail s).log = s.log ∧ (raise c detail s).lines = s.lines ∧ (raise c detail s).port = s.port ∧
    (raise c detail s).freeUses = s.freeUses := by
  unfold raise; (repeat' split) <;> simp

/-! ### Ops -/

@[simp] theorem sendReply_frame (r : Reply) (s : State) :
    (sendReply r s).pending = s.pending ∧ (sendReply r s).startUp = s.startUp ∧ (sendReply r s).store = s.store ∧
    (sendReply r s).nvm = s.nvm ∧ (sendReply r s).catalogue = s.catalogue ∧ (sendReply r s).queue = s.queue ∧
    (sendReply r s).free = s.free ∧ (sendReply r s).ingest = s.ingest ∧ (sendReply r s).arbiter = s.arbiter ∧
    (sendReply r s).cache = s.cache ∧ (sendReply r s).keys = s.keys ∧ (sendReply r s).seq = s.seq ∧
    (sendReply r s).time = s.time ∧ (sendReply r s).frames = s.frames ∧ (sendReply r s).link = s.link ∧
    (sendReply r s).sound = s.sound ∧ (sendReply r s).subs = s.subs ∧ (sendReply r s).log = s.log ∧
    (sendReply r s).lines = s.lines ∧ (sendReply r s).notices = s.notices ∧
    (sendReply r s).freeUses = s.freeUses := by
  unfold sendReply; (repeat' split) <;> simp

@[simp] theorem answerOk_frame (kind : Nat) (frame : Frame) (body : List Byte) (s : State) :
    (answerOk kind frame body s).pending = s.pending ∧ (answerOk kind frame body s).startUp = s.startUp ∧
    (answerOk kind frame body s).store = s.store ∧ (answerOk kind frame body s).nvm = s.nvm ∧
    (answerOk kind frame body s).catalogue = s.catalogue ∧ (answerOk kind frame body s).queue = s.queue ∧
    (answerOk kind frame body s).free = s.free ∧ (answerOk kind frame body s).ingest = s.ingest ∧
    (answerOk kind frame body s).arbiter = s.arbiter ∧ (answerOk kind frame body s).cache = s.cache ∧
    (answerOk kind frame body s).keys = s.keys ∧ (answerOk kind frame body s).seq = s.seq ∧
    (answerOk kind frame body s).time = s.time ∧ (answerOk kind frame body s).frames = s.frames ∧
    (answerOk kind frame body s).link = s.link ∧ (answerOk kind frame body s).sound = s.sound ∧
    (answerOk kind frame body s).subs = s.subs ∧ (answerOk kind frame body s).log = s.log ∧
    (answerOk kind frame body s).lines = s.lines ∧ (answerOk kind frame body s).notices = s.notices ∧
    (answerOk kind frame body s).freeUses = s.freeUses := by
  unfold answerOk; (repeat' split) <;> simp

@[simp] theorem answerClamped_frame (kind : Nat) (frame : Frame) (body : List Byte) (s : State) :
    (answerClamped kind frame body s).pending = s.pending ∧ (answerClamped kind frame body s).startUp = s.startUp ∧
    (answerClamped kind frame body s).store = s.store ∧ (answerClamped kind frame body s).nvm = s.nvm ∧
    (answerClamped kind frame body s).catalogue = s.catalogue ∧ (answerClamped kind frame body s).queue = s.queue ∧
    (answerClamped kind frame body s).free = s.free ∧ (answerClamped kind frame body s).ingest = s.ingest ∧
    (answerClamped kind frame body s).arbiter = s.arbiter ∧ (answerClamped kind frame body s).cache = s.cache ∧
    (answerClamped kind frame body s).keys = s.keys ∧ (answerClamped kind frame body s).seq = s.seq ∧
    (answerClamped kind frame body s).time = s.time ∧ (answerClamped kind frame body s).frames = s.frames ∧
    (answerClamped kind frame body s).link = s.link ∧ (answerClamped kind frame body s).sound = s.sound ∧
    (answerClamped kind frame body s).subs = s.subs ∧ (answerClamped kind frame body s).log = s.log ∧
    (answerClamped kind frame body s).lines = s.lines ∧ (answerClamped kind frame body s).notices = s.notices ∧
    (answerClamped kind frame body s).freeUses = s.freeUses := by
  unfold answerClamped; (repeat' split) <;> simp

@[simp] theorem refuse_frame (kind : Nat) (frame : Frame) (reason : Reason) (s : State) :
    (refuse kind frame reason s).pending = s.pending ∧ (refuse kind frame reason s).startUp = s.startUp ∧
    (refuse kind frame reason s).store = s.store ∧ (refuse kind frame reason s).nvm = s.nvm ∧
    (refuse kind frame reason s).catalogue = s.catalogue ∧ (refuse kind frame reason s).queue = s.queue ∧
    (refuse kind frame reason s).free = s.free ∧ (refuse kind frame reason s).ingest = s.ingest ∧
    (refuse kind frame reason s).arbiter = s.arbiter ∧ (refuse kind frame reason s).cache = s.cache ∧
    (refuse kind frame reason s).keys = s.keys ∧ (refuse kind frame reason s).seq = s.seq ∧
    (refuse kind frame reason s).time = s.time ∧ (refuse kind frame reason s).frames = s.frames ∧
    (refuse kind frame reason s).link = s.link ∧ (refuse kind frame reason s).sound = s.sound ∧
    (refuse kind frame reason s).subs = s.subs ∧ (refuse kind frame reason s).log = s.log ∧
    (refuse kind frame reason s).lines = s.lines ∧ (refuse kind frame reason s).notices = s.notices ∧
    (refuse kind frame reason s).freeUses = s.freeUses := by
  unfold refuse; (repeat' split) <;> simp

@[simp] theorem turnAway_frame (kind : Nat) (frame : Frame) (status : Status) (s : State) :
    (turnAway kind frame status s).pending = s.pending ∧ (turnAway kind frame status s).startUp = s.startUp ∧
    (turnAway kind frame status s).store = s.store ∧ (turnAway kind frame status s).nvm = s.nvm ∧
    (turnAway kind frame status s).catalogue = s.catalogue ∧ (turnAway kind frame status s).queue = s.queue ∧
    (turnAway kind frame status s).free = s.free ∧ (turnAway kind frame status s).ingest = s.ingest ∧
    (turnAway kind frame status s).arbiter = s.arbiter ∧ (turnAway kind frame status s).cache = s.cache ∧
    (turnAway kind frame status s).keys = s.keys ∧ (turnAway kind frame status s).seq = s.seq ∧
    (turnAway kind frame status s).time = s.time ∧ (turnAway kind frame status s).frames = s.frames ∧
    (turnAway kind frame status s).link = s.link ∧ (turnAway kind frame status s).sound = s.sound ∧
    (turnAway kind frame status s).subs = s.subs ∧ (turnAway kind frame status s).log = s.log ∧
    (turnAway kind frame status s).lines = s.lines ∧ (turnAway kind frame status s).notices = s.notices ∧
    (turnAway kind frame status s).freeUses = s.freeUses := by
  unfold turnAway; (repeat' split) <;> simp

@[simp] theorem immediateReply_frame (kind : Nat) (tag : Byte) (status : Status) (s : State) :
    (immediateReply kind tag status s).pending = s.pending ∧
    (immediateReply kind tag status s).startUp = s.startUp ∧ (immediateReply kind tag status s).store = s.store ∧
    (immediateReply kind tag status s).nvm = s.nvm ∧ (immediateReply kind tag status s).catalogue = s.catalogue ∧
    (immediateReply kind tag status s).queue = s.queue ∧ (immediateReply kind tag status s).free = s.free ∧
    (immediateReply kind tag status s).ingest = s.ingest ∧ (immediateReply kind tag status s).arbiter = s.arbiter ∧
    (immediateReply kind tag status s).cache = s.cache ∧ (immediateReply kind tag status s).keys = s.keys ∧
    (immediateReply kind tag status s).seq = s.seq ∧ (immediateReply kind tag status s).time = s.time ∧
    (immediateReply kind tag status s).frames = s.frames ∧ (immediateReply kind tag status s).link = s.link ∧
    (immediateReply kind tag status s).sound = s.sound ∧ (immediateReply kind tag status s).subs = s.subs ∧
    (immediateReply kind tag status s).log = s.log ∧ (immediateReply kind tag status s).lines = s.lines ∧
    (immediateReply kind tag status s).notices = s.notices ∧
    (immediateReply kind tag status s).freeUses = s.freeUses := by
  unfold immediateReply; (repeat' split) <;> simp

@[simp] theorem beginNotice_frame (number : Nat) (s : State) :
    (beginNotice number s).pending = s.pending ∧ (beginNotice number s).startUp = s.startUp ∧
    (beginNotice number s).store = s.store ∧ (beginNotice number s).nvm = s.nvm ∧
    (beginNotice number s).catalogue = s.catalogue ∧ (beginNotice number s).queue = s.queue ∧
    (beginNotice number s).free = s.free ∧ (beginNotice number s).ingest = s.ingest ∧
    (beginNotice number s).arbiter = s.arbiter ∧ (beginNotice number s).cache = s.cache ∧
    (beginNotice number s).keys = s.keys ∧ (beginNotice number s).seq = s.seq ∧
    (beginNotice number s).time = s.time ∧ (beginNotice number s).frames = s.frames ∧
    (beginNotice number s).link = s.link ∧ (beginNotice number s).sound = s.sound ∧
    (beginNotice number s).subs = s.subs ∧ (beginNotice number s).log = s.log ∧
    (beginNotice number s).lines = s.lines ∧ (beginNotice number s).freeUses = s.freeUses := by
  unfold beginNotice; (repeat' split) <;> simp

@[simp] theorem settle_frame (s : State) :
    (settle s).pending = s.pending ∧ (settle s).startUp = s.startUp ∧ (settle s).store = s.store ∧
    (settle s).nvm = s.nvm ∧ (settle s).catalogue = s.catalogue ∧ (settle s).queue = s.queue ∧
    (settle s).free = s.free ∧ (settle s).ingest = s.ingest ∧ (settle s).arbiter = s.arbiter ∧
    (settle s).cache = s.cache ∧ (settle s).keys = s.keys ∧ (settle s).seq = s.seq ∧ (settle s).time = s.time ∧
    (settle s).frames = s.frames ∧ (settle s).link = s.link ∧ (settle s).sound = s.sound ∧
    (settle s).subs = s.subs ∧ (settle s).log = s.log ∧ (settle s).lines = s.lines ∧
    (settle s).freeUses = s.freeUses := by
  unfold settle; (repeat' split) <;> simp

@[simp] theorem holdSlot_frame (kind : Nat) (tag : Byte) (phase : SlotPhase) (s : State) :
    (holdSlot kind tag phase s).pending = s.pending ∧ (holdSlot kind tag phase s).startUp = s.startUp ∧
    (holdSlot kind tag phase s).store = s.store ∧ (holdSlot kind tag phase s).nvm = s.nvm ∧
    (holdSlot kind tag phase s).catalogue = s.catalogue ∧ (holdSlot kind tag phase s).queue = s.queue ∧
    (holdSlot kind tag phase s).free = s.free ∧ (holdSlot kind tag phase s).ingest = s.ingest ∧
    (holdSlot kind tag phase s).arbiter = s.arbiter ∧ (holdSlot kind tag phase s).cache = s.cache ∧
    (holdSlot kind tag phase s).keys = s.keys ∧ (holdSlot kind tag phase s).seq = s.seq ∧
    (holdSlot kind tag phase s).time = s.time ∧ (holdSlot kind tag phase s).frames = s.frames ∧
    (holdSlot kind tag phase s).link = s.link ∧ (holdSlot kind tag phase s).sound = s.sound ∧
    (holdSlot kind tag phase s).subs = s.subs ∧ (holdSlot kind tag phase s).log = s.log ∧
    (holdSlot kind tag phase s).lines = s.lines ∧ (holdSlot kind tag phase s).notices = s.notices ∧
    (holdSlot kind tag phase s).freeUses = s.freeUses := by
  unfold holdSlot; (repeat' split) <;> simp

@[simp] theorem pushWrite_frame (w : Write) (forCheck : Bool) (s : State) :
    (pushWrite w forCheck s).pending = s.pending ∧ (pushWrite w forCheck s).startUp = s.startUp ∧
    (pushWrite w forCheck s).store = s.store ∧ (pushWrite w forCheck s).nvm = s.nvm ∧
    (pushWrite w forCheck s).catalogue = s.catalogue ∧ (pushWrite w forCheck s).free = s.free ∧
    (pushWrite w forCheck s).ingest = s.ingest ∧ (pushWrite w forCheck s).arbiter = s.arbiter ∧
    (pushWrite w forCheck s).cache = s.cache ∧ (pushWrite w forCheck s).keys = s.keys ∧
    (pushWrite w forCheck s).seq = s.seq ∧ (pushWrite w forCheck s).time = s.time ∧
    (pushWrite w forCheck s).frames = s.frames ∧ (pushWrite w forCheck s).link = s.link ∧
    (pushWrite w forCheck s).sound = s.sound ∧ (pushWrite w forCheck s).subs = s.subs ∧
    (pushWrite w forCheck s).log = s.log ∧ (pushWrite w forCheck s).lines = s.lines ∧
    (pushWrite w forCheck s).port = s.port ∧ (pushWrite w forCheck s).notices = s.notices ∧
    (pushWrite w forCheck s).freeUses = s.freeUses := by
  unfold pushWrite; (repeat' split) <;> simp

@[simp] theorem awaitRoom_frame (w : Waiter) (s : State) :
    (awaitRoom w s).pending = s.pending ∧ (awaitRoom w s).startUp = s.startUp ∧ (awaitRoom w s).store = s.store ∧
    (awaitRoom w s).nvm = s.nvm ∧ (awaitRoom w s).catalogue = s.catalogue ∧ (awaitRoom w s).free = s.free ∧
    (awaitRoom w s).ingest = s.ingest ∧ (awaitRoom w s).arbiter = s.arbiter ∧ (awaitRoom w s).cache = s.cache ∧
    (awaitRoom w s).keys = s.keys ∧ (awaitRoom w s).seq = s.seq ∧ (awaitRoom w s).time = s.time ∧
    (awaitRoom w s).frames = s.frames ∧ (awaitRoom w s).link = s.link ∧ (awaitRoom w s).sound = s.sound ∧
    (awaitRoom w s).subs = s.subs ∧ (awaitRoom w s).log = s.log ∧ (awaitRoom w s).lines = s.lines ∧
    (awaitRoom w s).port = s.port ∧ (awaitRoom w s).notices = s.notices ∧
    (awaitRoom w s).freeUses = s.freeUses := by
  unfold awaitRoom; (repeat' split) <;> simp

@[simp] theorem pushTrack_frame (id : Nat) (s : State) :
    (pushTrack id s).pending = s.pending ∧ (pushTrack id s).startUp = s.startUp ∧ (pushTrack id s).store = s.store ∧
    (pushTrack id s).nvm = s.nvm ∧ (pushTrack id s).catalogue = s.catalogue ∧ (pushTrack id s).free = s.free ∧
    (pushTrack id s).ingest = s.ingest ∧ (pushTrack id s).arbiter = s.arbiter ∧ (pushTrack id s).cache = s.cache ∧
    (pushTrack id s).keys = s.keys ∧ (pushTrack id s).seq = s.seq ∧ (pushTrack id s).time = s.time ∧
    (pushTrack id s).frames = s.frames ∧ (pushTrack id s).link = s.link ∧ (pushTrack id s).sound = s.sound ∧
    (pushTrack id s).subs = s.subs ∧ (pushTrack id s).log = s.log ∧ (pushTrack id s).lines = s.lines ∧
    (pushTrack id s).port = s.port ∧ (pushTrack id s).notices = s.notices ∧
    (pushTrack id s).freeUses = s.freeUses := by
  unfold pushTrack; (repeat' split) <;> simp

@[simp] theorem pushComposition_frame (id : Nat) (s : State) :
    (pushComposition id s).pending = s.pending ∧ (pushComposition id s).startUp = s.startUp ∧
    (pushComposition id s).store = s.store ∧ (pushComposition id s).nvm = s.nvm ∧
    (pushComposition id s).catalogue = s.catalogue ∧ (pushComposition id s).free = s.free ∧
    (pushComposition id s).ingest = s.ingest ∧ (pushComposition id s).arbiter = s.arbiter ∧
    (pushComposition id s).cache = s.cache ∧ (pushComposition id s).keys = s.keys ∧
    (pushComposition id s).seq = s.seq ∧ (pushComposition id s).time = s.time ∧
    (pushComposition id s).frames = s.frames ∧ (pushComposition id s).link = s.link ∧
    (pushComposition id s).sound = s.sound ∧ (pushComposition id s).subs = s.subs ∧
    (pushComposition id s).log = s.log ∧ (pushComposition id s).lines = s.lines ∧
    (pushComposition id s).port = s.port ∧ (pushComposition id s).notices = s.notices ∧
    (pushComposition id s).freeUses = s.freeUses := by
  unfold pushComposition; (repeat' split) <;> simp

@[simp] theorem pushGrant_frame (slot : Nat) (forCheck : Bool) (s : State) :
    (pushGrant slot forCheck s).pending = s.pending ∧ (pushGrant slot forCheck s).startUp = s.startUp ∧
    (pushGrant slot forCheck s).store = s.store ∧ (pushGrant slot forCheck s).nvm = s.nvm ∧
    (pushGrant slot forCheck s).catalogue = s.catalogue ∧ (pushGrant slot forCheck s).free = s.free ∧
    (pushGrant slot forCheck s).ingest = s.ingest ∧ (pushGrant slot forCheck s).arbiter = s.arbiter ∧
    (pushGrant slot forCheck s).cache = s.cache ∧ (pushGrant slot forCheck s).keys = s.keys ∧
    (pushGrant slot forCheck s).seq = s.seq ∧ (pushGrant slot forCheck s).time = s.time ∧
    (pushGrant slot forCheck s).frames = s.frames ∧ (pushGrant slot forCheck s).link = s.link ∧
    (pushGrant slot forCheck s).sound = s.sound ∧ (pushGrant slot forCheck s).subs = s.subs ∧
    (pushGrant slot forCheck s).log = s.log ∧ (pushGrant slot forCheck s).lines = s.lines ∧
    (pushGrant slot forCheck s).port = s.port ∧ (pushGrant slot forCheck s).notices = s.notices ∧
    (pushGrant slot forCheck s).freeUses = s.freeUses := by
  unfold pushGrant; (repeat' split) <;> simp

@[simp] theorem queueTrack_frame (id : Nat) (engine : Bool) (reply : Option Reply) (s : State) :
    (queueTrack id engine reply s).pending = s.pending ∧ (queueTrack id engine reply s).startUp = s.startUp ∧
    (queueTrack id engine reply s).store = s.store ∧ (queueTrack id engine reply s).nvm = s.nvm ∧
    (queueTrack id engine reply s).catalogue = s.catalogue ∧ (queueTrack id engine reply s).free = s.free ∧
    (queueTrack id engine reply s).ingest = s.ingest ∧ (queueTrack id engine reply s).arbiter = s.arbiter ∧
    (queueTrack id engine reply s).cache = s.cache ∧ (queueTrack id engine reply s).keys = s.keys ∧
    (queueTrack id engine reply s).seq = s.seq ∧ (queueTrack id engine reply s).time = s.time ∧
    (queueTrack id engine reply s).frames = s.frames ∧ (queueTrack id engine reply s).link = s.link ∧
    (queueTrack id engine reply s).sound = s.sound ∧ (queueTrack id engine reply s).subs = s.subs ∧
    (queueTrack id engine reply s).log = s.log ∧ (queueTrack id engine reply s).lines = s.lines ∧
    (queueTrack id engine reply s).notices = s.notices ∧ (queueTrack id engine reply s).freeUses = s.freeUses := by
  unfold queueTrack; (repeat' split) <;> simp

@[simp] theorem setTrack_frame (id : Nat) (e : Option TrackEntry) (s : State) :
    (setTrack id e s).pending = s.pending ∧ (setTrack id e s).startUp = s.startUp ∧
    (setTrack id e s).store = s.store ∧ (setTrack id e s).nvm = s.nvm ∧ (setTrack id e s).queue = s.queue ∧
    (setTrack id e s).free = s.free ∧ (setTrack id e s).ingest = s.ingest ∧ (setTrack id e s).arbiter = s.arbiter ∧
    (setTrack id e s).cache = s.cache ∧ (setTrack id e s).keys = s.keys ∧ (setTrack id e s).seq = s.seq ∧
    (setTrack id e s).time = s.time ∧ (setTrack id e s).frames = s.frames ∧ (setTrack id e s).link = s.link ∧
    (setTrack id e s).sound = s.sound ∧ (setTrack id e s).subs = s.subs ∧ (setTrack id e s).log = s.log ∧
    (setTrack id e s).lines = s.lines ∧ (setTrack id e s).port = s.port ∧ (setTrack id e s).notices = s.notices ∧
    (setTrack id e s).freeUses = s.freeUses := by
  unfold setTrack; (repeat' split) <;> simp

@[simp] theorem setComposition_frame (id : Nat) (c : Option Composition) (s : State) :
    (setComposition id c s).pending = s.pending ∧ (setComposition id c s).startUp = s.startUp ∧
    (setComposition id c s).store = s.store ∧ (setComposition id c s).nvm = s.nvm ∧
    (setComposition id c s).queue = s.queue ∧ (setComposition id c s).free = s.free ∧
    (setComposition id c s).ingest = s.ingest ∧ (setComposition id c s).arbiter = s.arbiter ∧
    (setComposition id c s).cache = s.cache ∧ (setComposition id c s).keys = s.keys ∧
    (setComposition id c s).seq = s.seq ∧ (setComposition id c s).time = s.time ∧
    (setComposition id c s).frames = s.frames ∧ (setComposition id c s).link = s.link ∧
    (setComposition id c s).sound = s.sound ∧ (setComposition id c s).subs = s.subs ∧
    (setComposition id c s).log = s.log ∧ (setComposition id c s).lines = s.lines ∧
    (setComposition id c s).port = s.port ∧ (setComposition id c s).notices = s.notices ∧
    (setComposition id c s).freeUses = s.freeUses := by
  unfold setComposition; (repeat' split) <;> simp

@[simp] theorem setExtents_frame (id : Nat) (l : Option (List Extent)) (s : State) :
    (setExtents id l s).pending = s.pending ∧ (setExtents id l s).startUp = s.startUp ∧
    (setExtents id l s).store = s.store ∧ (setExtents id l s).nvm = s.nvm ∧ (setExtents id l s).queue = s.queue ∧
    (setExtents id l s).free = s.free ∧ (setExtents id l s).ingest = s.ingest ∧
    (setExtents id l s).arbiter = s.arbiter ∧ (setExtents id l s).cache = s.cache ∧
    (setExtents id l s).keys = s.keys ∧ (setExtents id l s).seq = s.seq ∧ (setExtents id l s).time = s.time ∧
    (setExtents id l s).frames = s.frames ∧ (setExtents id l s).link = s.link ∧
    (setExtents id l s).sound = s.sound ∧ (setExtents id l s).subs = s.subs ∧ (setExtents id l s).log = s.log ∧
    (setExtents id l s).lines = s.lines ∧ (setExtents id l s).port = s.port ∧
    (setExtents id l s).notices = s.notices ∧ (setExtents id l s).freeUses = s.freeUses := by
  unfold setExtents; (repeat' split) <;> simp

@[simp] theorem setGrant_frame (slot : Nat) (g : Option Grant) (s : State) :
    (setGrant slot g s).pending = s.pending ∧ (setGrant slot g s).startUp = s.startUp ∧
    (setGrant slot g s).store = s.store ∧ (setGrant slot g s).nvm = s.nvm ∧
    (setGrant slot g s).catalogue = s.catalogue ∧ (setGrant slot g s).queue = s.queue ∧
    (setGrant slot g s).free = s.free ∧ (setGrant slot g s).ingest = s.ingest ∧
    (setGrant slot g s).arbiter = s.arbiter ∧ (setGrant slot g s).cache = s.cache ∧
    (setGrant slot g s).seq = s.seq ∧ (setGrant slot g s).time = s.time ∧ (setGrant slot g s).frames = s.frames ∧
    (setGrant slot g s).link = s.link ∧ (setGrant slot g s).sound = s.sound ∧ (setGrant slot g s).subs = s.subs ∧
    (setGrant slot g s).log = s.log ∧ (setGrant slot g s).lines = s.lines ∧ (setGrant slot g s).port = s.port ∧
    (setGrant slot g s).notices = s.notices ∧ (setGrant slot g s).freeUses = s.freeUses := by
  unfold setGrant; (repeat' split) <;> simp

@[simp] theorem askStore_frame (r : StoreRequest) (s : State) :
    (askStore r s).pending = s.pending ∧ (askStore r s).startUp = s.startUp ∧ (askStore r s).store = s.store ∧
    (askStore r s).nvm = s.nvm ∧ (askStore r s).catalogue = s.catalogue ∧ (askStore r s).queue = s.queue ∧
    (askStore r s).free = s.free ∧ (askStore r s).ingest = s.ingest ∧ (askStore r s).cache = s.cache ∧
    (askStore r s).keys = s.keys ∧ (askStore r s).seq = s.seq ∧ (askStore r s).time = s.time ∧
    (askStore r s).frames = s.frames ∧ (askStore r s).link = s.link ∧ (askStore r s).sound = s.sound ∧
    (askStore r s).subs = s.subs ∧ (askStore r s).log = s.log ∧ (askStore r s).lines = s.lines ∧
    (askStore r s).port = s.port ∧ (askStore r s).notices = s.notices ∧ (askStore r s).freeUses = s.freeUses := by
  unfold askStore; (repeat' split) <;> simp

@[simp] theorem releaseHeld_frame (s : State) :
    (releaseHeld s).pending = s.pending ∧ (releaseHeld s).startUp = s.startUp ∧ (releaseHeld s).store = s.store ∧
    (releaseHeld s).nvm = s.nvm ∧ (releaseHeld s).catalogue = s.catalogue ∧ (releaseHeld s).queue = s.queue ∧
    (releaseHeld s).free = s.free ∧ (releaseHeld s).ingest = s.ingest ∧ (releaseHeld s).cache = s.cache ∧
    (releaseHeld s).keys = s.keys ∧ (releaseHeld s).seq = s.seq ∧ (releaseHeld s).time = s.time ∧
    (releaseHeld s).frames = s.frames ∧ (releaseHeld s).link = s.link ∧ (releaseHeld s).sound = s.sound ∧
    (releaseHeld s).subs = s.subs ∧ (releaseHeld s).log = s.log ∧ (releaseHeld s).lines = s.lines ∧
    (releaseHeld s).port = s.port ∧ (releaseHeld s).notices = s.notices ∧
    (releaseHeld s).freeUses = s.freeUses := by
  unfold releaseHeld; (repeat' split) <;> simp

@[simp] theorem grantNext_frame (s : State) :
    (grantNext s).pending = s.pending ∧ (grantNext s).startUp = s.startUp ∧ (grantNext s).store = s.store ∧
    (grantNext s).nvm = s.nvm ∧ (grantNext s).catalogue = s.catalogue ∧ (grantNext s).queue = s.queue ∧
    (grantNext s).free = s.free ∧ (grantNext s).ingest = s.ingest ∧ (grantNext s).cache = s.cache ∧
    (grantNext s).keys = s.keys ∧ (grantNext s).seq = s.seq ∧ (grantNext s).time = s.time ∧
    (grantNext s).frames = s.frames ∧ (grantNext s).link = s.link ∧ (grantNext s).sound = s.sound ∧
    (grantNext s).subs = s.subs ∧ (grantNext s).log = s.log ∧ (grantNext s).lines = s.lines ∧
    (grantNext s).port = s.port ∧ (grantNext s).notices = s.notices ∧ (grantNext s).freeUses = s.freeUses := by
  unfold grantNext; (repeat' split) <;> simp

@[simp] theorem withdrawStore_frame (c : Client) (s : State) :
    (withdrawStore c s).pending = s.pending ∧ (withdrawStore c s).startUp = s.startUp ∧
    (withdrawStore c s).store = s.store ∧ (withdrawStore c s).nvm = s.nvm ∧
    (withdrawStore c s).catalogue = s.catalogue ∧ (withdrawStore c s).queue = s.queue ∧
    (withdrawStore c s).free = s.free ∧ (withdrawStore c s).ingest = s.ingest ∧
    (withdrawStore c s).cache = s.cache ∧ (withdrawStore c s).keys = s.keys ∧ (withdrawStore c s).seq = s.seq ∧
    (withdrawStore c s).time = s.time ∧ (withdrawStore c s).frames = s.frames ∧ (withdrawStore c s).link = s.link ∧
    (withdrawStore c s).sound = s.sound ∧ (withdrawStore c s).subs = s.subs ∧ (withdrawStore c s).log = s.log ∧
    (withdrawStore c s).lines = s.lines ∧ (withdrawStore c s).port = s.port ∧
    (withdrawStore c s).notices = s.notices ∧ (withdrawStore c s).freeUses = s.freeUses := by
  unfold withdrawStore; (repeat' split) <;> simp

@[simp] theorem useFree_frame (k : Nat) (s : State) :
    (useFree k s).pending = s.pending ∧ (useFree k s).startUp = s.startUp ∧ (useFree k s).store = s.store ∧
    (useFree k s).nvm = s.nvm ∧ (useFree k s).catalogue = s.catalogue ∧ (useFree k s).queue = s.queue ∧
    (useFree k s).free = s.free ∧ (useFree k s).ingest = s.ingest ∧ (useFree k s).arbiter = s.arbiter ∧
    (useFree k s).cache = s.cache ∧ (useFree k s).keys = s.keys ∧ (useFree k s).seq = s.seq ∧
    (useFree k s).time = s.time ∧ (useFree k s).frames = s.frames ∧ (useFree k s).link = s.link ∧
    (useFree k s).sound = s.sound ∧ (useFree k s).subs = s.subs ∧ (useFree k s).log = s.log ∧
    (useFree k s).lines = s.lines ∧ (useFree k s).port = s.port ∧ (useFree k s).notices = s.notices := by
  unfold useFree; (repeat' split) <;> simp

@[simp] theorem takeFrame_pending {kind : Nat} {frame : Frame} {command : Instr} {serve : State → State} {s : State}
    (h : ∀ u, (serve u).pending = u.pending) :
    (takeFrame kind frame command serve s).pending = s.pending := by
  unfold takeFrame; simp only []; (repeat' split) <;> simp [h]

@[simp] theorem takeFrame_startUp {kind : Nat} {frame : Frame} {command : Instr} {serve : State → State} {s : State}
    (h : ∀ u, (serve u).startUp = u.startUp) :
    (takeFrame kind frame command serve s).startUp = s.startUp := by
  unfold takeFrame; simp only []; (repeat' split) <;> simp [h]

@[simp] theorem takeFrame_store {kind : Nat} {frame : Frame} {command : Instr} {serve : State → State} {s : State}
    (h : ∀ u, (serve u).store = u.store) :
    (takeFrame kind frame command serve s).store = s.store := by
  unfold takeFrame; simp only []; (repeat' split) <;> simp [h]

@[simp] theorem takeFrame_nvm {kind : Nat} {frame : Frame} {command : Instr} {serve : State → State} {s : State}
    (h : ∀ u, (serve u).nvm = u.nvm) :
    (takeFrame kind frame command serve s).nvm = s.nvm := by
  unfold takeFrame; simp only []; (repeat' split) <;> simp [h]

@[simp] theorem takeFrame_catalogue {kind : Nat} {frame : Frame} {command : Instr} {serve : State → State} {s : State}
    (h : ∀ u, (serve u).catalogue = u.catalogue) :
    (takeFrame kind frame command serve s).catalogue = s.catalogue := by
  unfold takeFrame; simp only []; (repeat' split) <;> simp [h]

@[simp] theorem takeFrame_queue {kind : Nat} {frame : Frame} {command : Instr} {serve : State → State} {s : State}
    (h : ∀ u, (serve u).queue = u.queue) :
    (takeFrame kind frame command serve s).queue = s.queue := by
  unfold takeFrame; simp only []; (repeat' split) <;> simp [h]

@[simp] theorem takeFrame_free {kind : Nat} {frame : Frame} {command : Instr} {serve : State → State} {s : State}
    (h : ∀ u, (serve u).free = u.free) :
    (takeFrame kind frame command serve s).free = s.free := by
  unfold takeFrame; simp only []; (repeat' split) <;> simp [h]

@[simp] theorem takeFrame_ingest {kind : Nat} {frame : Frame} {command : Instr} {serve : State → State} {s : State}
    (h : ∀ u, (serve u).ingest = u.ingest) :
    (takeFrame kind frame command serve s).ingest = s.ingest := by
  unfold takeFrame; simp only []; (repeat' split) <;> simp [h]

@[simp] theorem takeFrame_arbiter {kind : Nat} {frame : Frame} {command : Instr} {serve : State → State} {s : State}
    (h : ∀ u, (serve u).arbiter = u.arbiter) :
    (takeFrame kind frame command serve s).arbiter = s.arbiter := by
  unfold takeFrame; simp only []; (repeat' split) <;> simp [h]

@[simp] theorem takeFrame_cache {kind : Nat} {frame : Frame} {command : Instr} {serve : State → State} {s : State}
    (h : ∀ u, (serve u).cache = u.cache) :
    (takeFrame kind frame command serve s).cache = s.cache := by
  unfold takeFrame; simp only []; (repeat' split) <;> simp [h]

@[simp] theorem takeFrame_keys {kind : Nat} {frame : Frame} {command : Instr} {serve : State → State} {s : State}
    (h : ∀ u, (serve u).keys = u.keys) :
    (takeFrame kind frame command serve s).keys = s.keys := by
  unfold takeFrame; simp only []; (repeat' split) <;> simp [h]

@[simp] theorem takeFrame_seq {kind : Nat} {frame : Frame} {command : Instr} {serve : State → State} {s : State}
    (h : ∀ u, (serve u).seq = u.seq) :
    (takeFrame kind frame command serve s).seq = s.seq := by
  unfold takeFrame; simp only []; (repeat' split) <;> simp [h]

@[simp] theorem takeFrame_time {kind : Nat} {frame : Frame} {command : Instr} {serve : State → State} {s : State}
    (h : ∀ u, (serve u).time = u.time) :
    (takeFrame kind frame command serve s).time = s.time := by
  unfold takeFrame; simp only []; (repeat' split) <;> simp [h]

@[simp] theorem takeFrame_frames {kind : Nat} {frame : Frame} {command : Instr} {serve : State → State} {s : State}
    (h : ∀ u, (serve u).frames = u.frames) :
    (takeFrame kind frame command serve s).frames = s.frames := by
  unfold takeFrame; simp only []; (repeat' split) <;> simp [h]

@[simp] theorem takeFrame_link {kind : Nat} {frame : Frame} {command : Instr} {serve : State → State} {s : State}
    (h : ∀ u, (serve u).link = u.link) :
    (takeFrame kind frame command serve s).link = s.link := by
  unfold takeFrame; simp only []; (repeat' split) <;> simp [h]

@[simp] theorem takeFrame_sound {kind : Nat} {frame : Frame} {command : Instr} {serve : State → State} {s : State}
    (h : ∀ u, (serve u).sound = u.sound) :
    (takeFrame kind frame command serve s).sound = s.sound := by
  unfold takeFrame; simp only []; (repeat' split) <;> simp [h]

@[simp] theorem takeFrame_subs {kind : Nat} {frame : Frame} {command : Instr} {serve : State → State} {s : State}
    (h : ∀ u, (serve u).subs = u.subs) :
    (takeFrame kind frame command serve s).subs = s.subs := by
  unfold takeFrame; simp only []; (repeat' split) <;> simp [h]

@[simp] theorem takeFrame_log {kind : Nat} {frame : Frame} {command : Instr} {serve : State → State} {s : State}
    (h : ∀ u, (serve u).log = u.log) :
    (takeFrame kind frame command serve s).log = s.log := by
  unfold takeFrame; simp only []; (repeat' split) <;> simp [h]

@[simp] theorem takeFrame_lines {kind : Nat} {frame : Frame} {command : Instr} {serve : State → State} {s : State}
    (h : ∀ u, (serve u).lines = u.lines) :
    (takeFrame kind frame command serve s).lines = s.lines := by
  unfold takeFrame; simp only []; (repeat' split) <;> simp [h]

@[simp] theorem takeFrame_notices {kind : Nat} {frame : Frame} {command : Instr} {serve : State → State} {s : State}
    (h : ∀ u, (serve u).notices = u.notices) :
    (takeFrame kind frame command serve s).notices = s.notices := by
  unfold takeFrame; simp only []; (repeat' split) <;> simp [h]

@[simp] theorem takeFrame_freeUses {kind : Nat} {frame : Frame} {command : Instr} {serve : State → State} {s : State}
    (h : ∀ u, (serve u).freeUses = u.freeUses) :
    (takeFrame kind frame command serve s).freeUses = s.freeUses := by
  unfold takeFrame; simp only []; (repeat' split) <;> simp [h]

@[simp] theorem completeTransfer_pending {c : Client} {ok : Bool} {act : Transfer → State → State} {s : State}
    (h : ∀ r u, (act r u).pending = u.pending) :
    (completeTransfer c ok act s).pending = s.pending := by
  unfold completeTransfer; simp only []; (repeat' split) <;> simp [h]

@[simp] theorem completeTransfer_startUp {c : Client} {ok : Bool} {act : Transfer → State → State} {s : State}
    (h : ∀ r u, (act r u).startUp = u.startUp) :
    (completeTransfer c ok act s).startUp = s.startUp := by
  unfold completeTransfer; simp only []; (repeat' split) <;> simp [h]

@[simp] theorem completeTransfer_store {c : Client} {ok : Bool} {act : Transfer → State → State} {s : State}
    (h : ∀ r u, (act r u).store = u.store) :
    (completeTransfer c ok act s).store = s.store := by
  unfold completeTransfer; simp only []; (repeat' split) <;> simp [h]

@[simp] theorem completeTransfer_nvm {c : Client} {ok : Bool} {act : Transfer → State → State} {s : State}
    (h : ∀ r u, (act r u).nvm = u.nvm) :
    (completeTransfer c ok act s).nvm = s.nvm := by
  unfold completeTransfer; simp only []; (repeat' split) <;> simp [h]

@[simp] theorem completeTransfer_catalogue {c : Client} {ok : Bool} {act : Transfer → State → State} {s : State}
    (h : ∀ r u, (act r u).catalogue = u.catalogue) :
    (completeTransfer c ok act s).catalogue = s.catalogue := by
  unfold completeTransfer; simp only []; (repeat' split) <;> simp [h]

@[simp] theorem completeTransfer_queue {c : Client} {ok : Bool} {act : Transfer → State → State} {s : State}
    (h : ∀ r u, (act r u).queue = u.queue) :
    (completeTransfer c ok act s).queue = s.queue := by
  unfold completeTransfer; simp only []; (repeat' split) <;> simp [h]

@[simp] theorem completeTransfer_free {c : Client} {ok : Bool} {act : Transfer → State → State} {s : State}
    (h : ∀ r u, (act r u).free = u.free) :
    (completeTransfer c ok act s).free = s.free := by
  unfold completeTransfer; simp only []; (repeat' split) <;> simp [h]

@[simp] theorem completeTransfer_ingest {c : Client} {ok : Bool} {act : Transfer → State → State} {s : State}
    (h : ∀ r u, (act r u).ingest = u.ingest) :
    (completeTransfer c ok act s).ingest = s.ingest := by
  unfold completeTransfer; simp only []; (repeat' split) <;> simp [h]

@[simp] theorem completeTransfer_cache {c : Client} {ok : Bool} {act : Transfer → State → State} {s : State}
    (h : ∀ r u, (act r u).cache = u.cache) :
    (completeTransfer c ok act s).cache = s.cache := by
  unfold completeTransfer; simp only []; (repeat' split) <;> simp [h]

@[simp] theorem completeTransfer_keys {c : Client} {ok : Bool} {act : Transfer → State → State} {s : State}
    (h : ∀ r u, (act r u).keys = u.keys) :
    (completeTransfer c ok act s).keys = s.keys := by
  unfold completeTransfer; simp only []; (repeat' split) <;> simp [h]

@[simp] theorem completeTransfer_seq {c : Client} {ok : Bool} {act : Transfer → State → State} {s : State}
    (h : ∀ r u, (act r u).seq = u.seq) :
    (completeTransfer c ok act s).seq = s.seq := by
  unfold completeTransfer; simp only []; (repeat' split) <;> simp [h]

@[simp] theorem completeTransfer_time {c : Client} {ok : Bool} {act : Transfer → State → State} {s : State}
    (h : ∀ r u, (act r u).time = u.time) :
    (completeTransfer c ok act s).time = s.time := by
  unfold completeTransfer; simp only []; (repeat' split) <;> simp [h]

@[simp] theorem completeTransfer_frames {c : Client} {ok : Bool} {act : Transfer → State → State} {s : State}
    (h : ∀ r u, (act r u).frames = u.frames) :
    (completeTransfer c ok act s).frames = s.frames := by
  unfold completeTransfer; simp only []; (repeat' split) <;> simp [h]

@[simp] theorem completeTransfer_link {c : Client} {ok : Bool} {act : Transfer → State → State} {s : State}
    (h : ∀ r u, (act r u).link = u.link) :
    (completeTransfer c ok act s).link = s.link := by
  unfold completeTransfer; simp only []; (repeat' split) <;> simp [h]

@[simp] theorem completeTransfer_sound {c : Client} {ok : Bool} {act : Transfer → State → State} {s : State}
    (h : ∀ r u, (act r u).sound = u.sound) :
    (completeTransfer c ok act s).sound = s.sound := by
  unfold completeTransfer; simp only []; (repeat' split) <;> simp [h]

@[simp] theorem completeTransfer_subs {c : Client} {ok : Bool} {act : Transfer → State → State} {s : State}
    (h : ∀ r u, (act r u).subs = u.subs) :
    (completeTransfer c ok act s).subs = s.subs := by
  unfold completeTransfer; simp only []; (repeat' split) <;> simp [h]

@[simp] theorem completeTransfer_log {c : Client} {ok : Bool} {act : Transfer → State → State} {s : State}
    (h : ∀ r u, (act r u).log = u.log) :
    (completeTransfer c ok act s).log = s.log := by
  unfold completeTransfer; simp only []; (repeat' split) <;> simp [h]

@[simp] theorem completeTransfer_lines {c : Client} {ok : Bool} {act : Transfer → State → State} {s : State}
    (h : ∀ r u, (act r u).lines = u.lines) :
    (completeTransfer c ok act s).lines = s.lines := by
  unfold completeTransfer; simp only []; (repeat' split) <;> simp [h]

@[simp] theorem completeTransfer_port {c : Client} {ok : Bool} {act : Transfer → State → State} {s : State}
    (h : ∀ r u, (act r u).port = u.port) :
    (completeTransfer c ok act s).port = s.port := by
  unfold completeTransfer; simp only []; (repeat' split) <;> simp [h]

@[simp] theorem completeTransfer_freeUses {c : Client} {ok : Bool} {act : Transfer → State → State} {s : State}
    (h : ∀ r u, (act r u).freeUses = u.freeUses) :
    (completeTransfer c ok act s).freeUses = s.freeUses := by
  unfold completeTransfer; simp only []; (repeat' split) <;> simp [h]

/-! ### Windows -/

@[simp] theorem rangeFault_frame (reader : Reader) (track block : Nat) (cause : RangeCause) (s : State) :
    (rangeFault reader track block cause s).pending = s.pending ∧
    (rangeFault reader track block cause s).startUp = s.startUp ∧
    (rangeFault reader track block cause s).store = s.store ∧ (rangeFault reader track block cause s).nvm = s.nvm ∧
    (rangeFault reader track block cause s).catalogue = s.catalogue ∧
    (rangeFault reader track block cause s).queue = s.queue ∧
    (rangeFault reader track block cause s).free = s.free ∧
    (rangeFault reader track block cause s).ingest = s.ingest ∧
    (rangeFault reader track block cause s).arbiter = s.arbiter ∧
    (rangeFault reader track block cause s).keys = s.keys ∧ (rangeFault reader track block cause s).seq = s.seq ∧
    (rangeFault reader track block cause s).time = s.time ∧
    (rangeFault reader track block cause s).frames = s.frames ∧
    (rangeFault reader track block cause s).link = s.link ∧
    (rangeFault reader track block cause s).sound = s.sound ∧
    (rangeFault reader track block cause s).subs = s.subs ∧ (rangeFault reader track block cause s).log = s.log ∧
    (rangeFault reader track block cause s).lines = s.lines ∧
    (rangeFault reader track block cause s).port = s.port ∧
    (rangeFault reader track block cause s).freeUses = s.freeUses := by
  unfold rangeFault; (repeat' split) <;> simp

@[simp] theorem lookup_frame (reader : Reader) (kind : AskKind) (track block : Nat) (s : State) :
    (lookup reader kind track block s).2.pending = s.pending ∧
    (lookup reader kind track block s).2.startUp = s.startUp ∧
    (lookup reader kind track block s).2.store = s.store ∧ (lookup reader kind track block s).2.nvm = s.nvm ∧
    (lookup reader kind track block s).2.catalogue = s.catalogue ∧
    (lookup reader kind track block s).2.queue = s.queue ∧ (lookup reader kind track block s).2.free = s.free ∧
    (lookup reader kind track block s).2.ingest = s.ingest ∧
    (lookup reader kind track block s).2.arbiter = s.arbiter ∧ (lookup reader kind track block s).2.keys = s.keys ∧
    (lookup reader kind track block s).2.seq = s.seq ∧ (lookup reader kind track block s).2.time = s.time ∧
    (lookup reader kind track block s).2.frames = s.frames ∧ (lookup reader kind track block s).2.link = s.link ∧
    (lookup reader kind track block s).2.sound = s.sound ∧ (lookup reader kind track block s).2.subs = s.subs ∧
    (lookup reader kind track block s).2.log = s.log ∧ (lookup reader kind track block s).2.lines = s.lines ∧
    (lookup reader kind track block s).2.port = s.port ∧
    (lookup reader kind track block s).2.freeUses = s.freeUses := by
  unfold lookup; (repeat' split) <;> simp

@[simp] theorem withdrawAsks_frame (p : Ask → Bool) (s : State) :
    (withdrawAsks p s).pending = s.pending ∧ (withdrawAsks p s).startUp = s.startUp ∧
    (withdrawAsks p s).store = s.store ∧ (withdrawAsks p s).nvm = s.nvm ∧
    (withdrawAsks p s).catalogue = s.catalogue ∧ (withdrawAsks p s).queue = s.queue ∧
    (withdrawAsks p s).free = s.free ∧ (withdrawAsks p s).ingest = s.ingest ∧
    (withdrawAsks p s).arbiter = s.arbiter ∧ (withdrawAsks p s).keys = s.keys ∧ (withdrawAsks p s).seq = s.seq ∧
    (withdrawAsks p s).time = s.time ∧ (withdrawAsks p s).frames = s.frames ∧ (withdrawAsks p s).link = s.link ∧
    (withdrawAsks p s).sound = s.sound ∧ (withdrawAsks p s).subs = s.subs ∧ (withdrawAsks p s).log = s.log ∧
    (withdrawAsks p s).lines = s.lines ∧ (withdrawAsks p s).port = s.port ∧ (withdrawAsks p s).notices = s.notices ∧
    (withdrawAsks p s).freeUses = s.freeUses := by
  unfold withdrawAsks; (repeat' split) <;> simp

@[simp] theorem withdrawReader_frame (r : Reader) (s : State) :
    (withdrawReader r s).pending = s.pending ∧ (withdrawReader r s).startUp = s.startUp ∧
    (withdrawReader r s).store = s.store ∧ (withdrawReader r s).nvm = s.nvm ∧
    (withdrawReader r s).catalogue = s.catalogue ∧ (withdrawReader r s).queue = s.queue ∧
    (withdrawReader r s).free = s.free ∧ (withdrawReader r s).ingest = s.ingest ∧
    (withdrawReader r s).keys = s.keys ∧ (withdrawReader r s).seq = s.seq ∧ (withdrawReader r s).time = s.time ∧
    (withdrawReader r s).frames = s.frames ∧ (withdrawReader r s).link = s.link ∧
    (withdrawReader r s).sound = s.sound ∧ (withdrawReader r s).subs = s.subs ∧ (withdrawReader r s).log = s.log ∧
    (withdrawReader r s).lines = s.lines ∧ (withdrawReader r s).port = s.port ∧
    (withdrawReader r s).notices = s.notices ∧ (withdrawReader r s).freeUses = s.freeUses := by
  unfold withdrawReader; (repeat' split) <;> simp

@[simp] theorem withdrawSequencerAsks_frame (s : State) :
    (withdrawSequencerAsks s).pending = s.pending ∧ (withdrawSequencerAsks s).startUp = s.startUp ∧
    (withdrawSequencerAsks s).store = s.store ∧ (withdrawSequencerAsks s).nvm = s.nvm ∧
    (withdrawSequencerAsks s).catalogue = s.catalogue ∧ (withdrawSequencerAsks s).queue = s.queue ∧
    (withdrawSequencerAsks s).free = s.free ∧ (withdrawSequencerAsks s).ingest = s.ingest ∧
    (withdrawSequencerAsks s).arbiter = s.arbiter ∧ (withdrawSequencerAsks s).keys = s.keys ∧
    (withdrawSequencerAsks s).seq = s.seq ∧ (withdrawSequencerAsks s).time = s.time ∧
    (withdrawSequencerAsks s).frames = s.frames ∧ (withdrawSequencerAsks s).link = s.link ∧
    (withdrawSequencerAsks s).sound = s.sound ∧ (withdrawSequencerAsks s).subs = s.subs ∧
    (withdrawSequencerAsks s).log = s.log ∧ (withdrawSequencerAsks s).lines = s.lines ∧
    (withdrawSequencerAsks s).port = s.port ∧ (withdrawSequencerAsks s).notices = s.notices ∧
    (withdrawSequencerAsks s).freeUses = s.freeUses := by
  unfold withdrawSequencerAsks; (repeat' split) <;> simp

@[simp] theorem beginFill_frame (s : State) :
    (beginFill s).pending = s.pending ∧ (beginFill s).startUp = s.startUp ∧ (beginFill s).store = s.store ∧
    (beginFill s).nvm = s.nvm ∧ (beginFill s).catalogue = s.catalogue ∧ (beginFill s).queue = s.queue ∧
    (beginFill s).free = s.free ∧ (beginFill s).ingest = s.ingest ∧ (beginFill s).keys = s.keys ∧
    (beginFill s).seq = s.seq ∧ (beginFill s).time = s.time ∧ (beginFill s).frames = s.frames ∧
    (beginFill s).link = s.link ∧ (beginFill s).sound = s.sound ∧ (beginFill s).subs = s.subs ∧
    (beginFill s).log = s.log ∧ (beginFill s).lines = s.lines ∧ (beginFill s).port = s.port ∧
    (beginFill s).notices = s.notices ∧ (beginFill s).freeUses = s.freeUses := by
  unfold beginFill; (repeat' split) <;> simp

@[simp] theorem invalidate_frame (track : Nat) (s : State) :
    (invalidate track s).pending = s.pending ∧ (invalidate track s).startUp = s.startUp ∧
    (invalidate track s).store = s.store ∧ (invalidate track s).nvm = s.nvm ∧
    (invalidate track s).catalogue = s.catalogue ∧ (invalidate track s).queue = s.queue ∧
    (invalidate track s).free = s.free ∧ (invalidate track s).ingest = s.ingest ∧
    (invalidate track s).arbiter = s.arbiter ∧ (invalidate track s).keys = s.keys ∧
    (invalidate track s).seq = s.seq ∧ (invalidate track s).time = s.time ∧ (invalidate track s).frames = s.frames ∧
    (invalidate track s).link = s.link ∧ (invalidate track s).sound = s.sound ∧ (invalidate track s).subs = s.subs ∧
    (invalidate track s).log = s.log ∧ (invalidate track s).lines = s.lines ∧ (invalidate track s).port = s.port ∧
    (invalidate track s).notices = s.notices ∧ (invalidate track s).freeUses = s.freeUses := by
  unfold invalidate; (repeat' split) <;> simp

/-! ### Picture -/

@[simp] theorem endFrameJob_frame (c : PlaceCondition) (blocks : List (List Byte)) (s : State) :
    (endFrameJob c blocks s).pending = s.pending ∧ (endFrameJob c blocks s).startUp = s.startUp ∧
    (endFrameJob c blocks s).store = s.store ∧ (endFrameJob c blocks s).nvm = s.nvm ∧
    (endFrameJob c blocks s).catalogue = s.catalogue ∧ (endFrameJob c blocks s).queue = s.queue ∧
    (endFrameJob c blocks s).free = s.free ∧ (endFrameJob c blocks s).ingest = s.ingest ∧
    (endFrameJob c blocks s).arbiter = s.arbiter ∧ (endFrameJob c blocks s).cache = s.cache ∧
    (endFrameJob c blocks s).keys = s.keys ∧ (endFrameJob c blocks s).seq = s.seq ∧
    (endFrameJob c blocks s).time = s.time ∧ (endFrameJob c blocks s).link = s.link ∧
    (endFrameJob c blocks s).sound = s.sound ∧ (endFrameJob c blocks s).subs = s.subs ∧
    (endFrameJob c blocks s).log = s.log ∧ (endFrameJob c blocks s).lines = s.lines ∧
    (endFrameJob c blocks s).port = s.port ∧ (endFrameJob c blocks s).notices = s.notices ∧
    (endFrameJob c blocks s).freeUses = s.freeUses := by
  unfold endFrameJob; (repeat' split) <;> simp

@[simp] theorem askPicture_frame (j : FrameJob) (s : State) :
    (askPicture j s).pending = s.pending ∧ (askPicture j s).startUp = s.startUp ∧ (askPicture j s).store = s.store ∧
    (askPicture j s).nvm = s.nvm ∧ (askPicture j s).catalogue = s.catalogue ∧ (askPicture j s).queue = s.queue ∧
    (askPicture j s).free = s.free ∧ (askPicture j s).ingest = s.ingest ∧ (askPicture j s).cache = s.cache ∧
    (askPicture j s).keys = s.keys ∧ (askPicture j s).seq = s.seq ∧ (askPicture j s).time = s.time ∧
    (askPicture j s).link = s.link ∧ (askPicture j s).sound = s.sound ∧ (askPicture j s).subs = s.subs ∧
    (askPicture j s).log = s.log ∧ (askPicture j s).lines = s.lines ∧ (askPicture j s).port = s.port ∧
    (askPicture j s).notices = s.notices ∧ (askPicture j s).freeUses = s.freeUses := by
  unfold askPicture; (repeat' split) <;> simp

@[simp] theorem lookUpFrame_frame (n : Nat) (j : FrameJob) (s : State) :
    (lookUpFrame n j s).pending = s.pending ∧ (lookUpFrame n j s).startUp = s.startUp ∧
    (lookUpFrame n j s).store = s.store ∧ (lookUpFrame n j s).nvm = s.nvm ∧
    (lookUpFrame n j s).catalogue = s.catalogue ∧ (lookUpFrame n j s).queue = s.queue ∧
    (lookUpFrame n j s).free = s.free ∧ (lookUpFrame n j s).ingest = s.ingest ∧ (lookUpFrame n j s).keys = s.keys ∧
    (lookUpFrame n j s).seq = s.seq ∧ (lookUpFrame n j s).time = s.time ∧ (lookUpFrame n j s).link = s.link ∧
    (lookUpFrame n j s).sound = s.sound ∧ (lookUpFrame n j s).subs = s.subs ∧ (lookUpFrame n j s).log = s.log ∧
    (lookUpFrame n j s).lines = s.lines ∧ (lookUpFrame n j s).port = s.port ∧
    (lookUpFrame n j s).freeUses = s.freeUses := by
  induction n generalizing j s with
  | zero => simp [lookUpFrame]
  | succ n ih =>
    unfold lookUpFrame; split
    · simp
    · have hf := lookup_frame .picture (if j.prepared then .readerPreparation else .lookup) j.track j.next s
      generalize lookup .picture (if j.prepared then .readerPreparation else .lookup) j.track j.next s = r at hf ⊢
      obtain ⟨a, u⟩ := r
      cases a <;> simp_all

@[simp] theorem beginFrame_frame (s : State) :
    (beginFrame s).pending = s.pending ∧ (beginFrame s).startUp = s.startUp ∧ (beginFrame s).store = s.store ∧
    (beginFrame s).nvm = s.nvm ∧ (beginFrame s).catalogue = s.catalogue ∧ (beginFrame s).queue = s.queue ∧
    (beginFrame s).free = s.free ∧ (beginFrame s).ingest = s.ingest ∧ (beginFrame s).keys = s.keys ∧
    (beginFrame s).seq = s.seq ∧ (beginFrame s).time = s.time ∧ (beginFrame s).link = s.link ∧
    (beginFrame s).sound = s.sound ∧ (beginFrame s).subs = s.subs ∧ (beginFrame s).log = s.log ∧
    (beginFrame s).lines = s.lines ∧ (beginFrame s).port = s.port ∧ (beginFrame s).freeUses = s.freeUses := by
  unfold beginFrame; (repeat' split) <;> simp

@[simp] theorem pictureAnswer_frame (a : Answer) (s : State) :
    (pictureAnswer a s).pending = s.pending ∧ (pictureAnswer a s).startUp = s.startUp ∧
    (pictureAnswer a s).store = s.store ∧ (pictureAnswer a s).nvm = s.nvm ∧
    (pictureAnswer a s).catalogue = s.catalogue ∧ (pictureAnswer a s).queue = s.queue ∧
    (pictureAnswer a s).free = s.free ∧ (pictureAnswer a s).ingest = s.ingest ∧ (pictureAnswer a s).keys = s.keys ∧
    (pictureAnswer a s).seq = s.seq ∧ (pictureAnswer a s).time = s.time ∧ (pictureAnswer a s).link = s.link ∧
    (pictureAnswer a s).sound = s.sound ∧ (pictureAnswer a s).subs = s.subs ∧ (pictureAnswer a s).log = s.log ∧
    (pictureAnswer a s).lines = s.lines ∧ (pictureAnswer a s).port = s.port ∧
    (pictureAnswer a s).freeUses = s.freeUses := by
  unfold pictureAnswer; (repeat' split) <;> simp

@[simp] theorem pictureTransfer_frame (ok : Bool) (t : Transfer) (s : State) :
    (pictureTransfer ok t s).pending = s.pending ∧ (pictureTransfer ok t s).startUp = s.startUp ∧
    (pictureTransfer ok t s).store = s.store ∧ (pictureTransfer ok t s).nvm = s.nvm ∧
    (pictureTransfer ok t s).catalogue = s.catalogue ∧ (pictureTransfer ok t s).queue = s.queue ∧
    (pictureTransfer ok t s).free = s.free ∧ (pictureTransfer ok t s).ingest = s.ingest ∧
    (pictureTransfer ok t s).cache = s.cache ∧ (pictureTransfer ok t s).keys = s.keys ∧
    (pictureTransfer ok t s).seq = s.seq ∧ (pictureTransfer ok t s).time = s.time ∧
    (pictureTransfer ok t s).link = s.link ∧ (pictureTransfer ok t s).sound = s.sound ∧
    (pictureTransfer ok t s).subs = s.subs ∧ (pictureTransfer ok t s).log = s.log ∧
    (pictureTransfer ok t s).lines = s.lines ∧ (pictureTransfer ok t s).port = s.port ∧
    (pictureTransfer ok t s).notices = s.notices ∧ (pictureTransfer ok t s).freeUses = s.freeUses := by
  unfold pictureTransfer; (repeat' split) <;> simp

@[simp] theorem keepPlaces_frame (keep : Place → Bool) (s : State) :
    (keepPlaces keep s).pending = s.pending ∧ (keepPlaces keep s).startUp = s.startUp ∧
    (keepPlaces keep s).store = s.store ∧ (keepPlaces keep s).nvm = s.nvm ∧
    (keepPlaces keep s).catalogue = s.catalogue ∧ (keepPlaces keep s).queue = s.queue ∧
    (keepPlaces keep s).free = s.free ∧ (keepPlaces keep s).ingest = s.ingest ∧ (keepPlaces keep s).keys = s.keys ∧
    (keepPlaces keep s).seq = s.seq ∧ (keepPlaces keep s).time = s.time ∧ (keepPlaces keep s).link = s.link ∧
    (keepPlaces keep s).sound = s.sound ∧ (keepPlaces keep s).subs = s.subs ∧ (keepPlaces keep s).log = s.log ∧
    (keepPlaces keep s).lines = s.lines ∧ (keepPlaces keep s).port = s.port ∧
    (keepPlaces keep s).notices = s.notices ∧ (keepPlaces keep s).freeUses = s.freeUses := by
  simp only [keepPlaces]; (repeat' split) <;> simp

@[simp] theorem dropCurrentFrames_frame (s : State) :
    (dropCurrentFrames s).pending = s.pending ∧ (dropCurrentFrames s).startUp = s.startUp ∧
    (dropCurrentFrames s).store = s.store ∧ (dropCurrentFrames s).nvm = s.nvm ∧
    (dropCurrentFrames s).catalogue = s.catalogue ∧ (dropCurrentFrames s).queue = s.queue ∧
    (dropCurrentFrames s).free = s.free ∧ (dropCurrentFrames s).ingest = s.ingest ∧
    (dropCurrentFrames s).keys = s.keys ∧ (dropCurrentFrames s).seq = s.seq ∧ (dropCurrentFrames s).time = s.time ∧
    (dropCurrentFrames s).link = s.link ∧ (dropCurrentFrames s).sound = s.sound ∧
    (dropCurrentFrames s).subs = s.subs ∧ (dropCurrentFrames s).log = s.log ∧
    (dropCurrentFrames s).lines = s.lines ∧ (dropCurrentFrames s).port = s.port ∧
    (dropCurrentFrames s).notices = s.notices ∧ (dropCurrentFrames s).freeUses = s.freeUses := by
  unfold dropCurrentFrames; (repeat' split) <;> simp

@[simp] theorem dropPreparedFrames_frame (s : State) :
    (dropPreparedFrames s).pending = s.pending ∧ (dropPreparedFrames s).startUp = s.startUp ∧
    (dropPreparedFrames s).store = s.store ∧ (dropPreparedFrames s).nvm = s.nvm ∧
    (dropPreparedFrames s).catalogue = s.catalogue ∧ (dropPreparedFrames s).queue = s.queue ∧
    (dropPreparedFrames s).free = s.free ∧ (dropPreparedFrames s).ingest = s.ingest ∧
    (dropPreparedFrames s).keys = s.keys ∧ (dropPreparedFrames s).seq = s.seq ∧
    (dropPreparedFrames s).time = s.time ∧ (dropPreparedFrames s).link = s.link ∧
    (dropPreparedFrames s).sound = s.sound ∧ (dropPreparedFrames s).subs = s.subs ∧
    (dropPreparedFrames s).log = s.log ∧ (dropPreparedFrames s).lines = s.lines ∧
    (dropPreparedFrames s).port = s.port ∧ (dropPreparedFrames s).notices = s.notices ∧
    (dropPreparedFrames s).freeUses = s.freeUses := by
  unfold dropPreparedFrames; (repeat' split) <;> simp

@[simp] theorem dropFramesBeyond_frame (last : Nat) (s : State) :
    (dropFramesBeyond last s).pending = s.pending ∧ (dropFramesBeyond last s).startUp = s.startUp ∧
    (dropFramesBeyond last s).store = s.store ∧ (dropFramesBeyond last s).nvm = s.nvm ∧
    (dropFramesBeyond last s).catalogue = s.catalogue ∧ (dropFramesBeyond last s).queue = s.queue ∧
    (dropFramesBeyond last s).free = s.free ∧ (dropFramesBeyond last s).ingest = s.ingest ∧
    (dropFramesBeyond last s).keys = s.keys ∧ (dropFramesBeyond last s).seq = s.seq ∧
    (dropFramesBeyond last s).time = s.time ∧ (dropFramesBeyond last s).link = s.link ∧
    (dropFramesBeyond last s).sound = s.sound ∧ (dropFramesBeyond last s).subs = s.subs ∧
    (dropFramesBeyond last s).log = s.log ∧ (dropFramesBeyond last s).lines = s.lines ∧
    (dropFramesBeyond last s).port = s.port ∧ (dropFramesBeyond last s).notices = s.notices ∧
    (dropFramesBeyond last s).freeUses = s.freeUses := by
  unfold dropFramesBeyond; (repeat' split) <;> simp

@[simp] theorem takeOverFrames_frame (s : State) :
    (takeOverFrames s).pending = s.pending ∧ (takeOverFrames s).startUp = s.startUp ∧
    (takeOverFrames s).store = s.store ∧ (takeOverFrames s).nvm = s.nvm ∧
    (takeOverFrames s).catalogue = s.catalogue ∧ (takeOverFrames s).queue = s.queue ∧
    (takeOverFrames s).free = s.free ∧ (takeOverFrames s).ingest = s.ingest ∧
    (takeOverFrames s).arbiter = s.arbiter ∧ (takeOverFrames s).cache = s.cache ∧ (takeOverFrames s).keys = s.keys ∧
    (takeOverFrames s).seq = s.seq ∧ (takeOverFrames s).time = s.time ∧ (takeOverFrames s).link = s.link ∧
    (takeOverFrames s).sound = s.sound ∧ (takeOverFrames s).subs = s.subs ∧ (takeOverFrames s).log = s.log ∧
    (takeOverFrames s).lines = s.lines ∧ (takeOverFrames s).port = s.port ∧ (takeOverFrames s).notices = s.notices ∧
    (takeOverFrames s).freeUses = s.freeUses := by
  unfold takeOverFrames; (repeat' split) <;> simp

@[simp] theorem beginSend_frame (f : Send) (s : State) :
    (beginSend f s).pending = s.pending ∧ (beginSend f s).startUp = s.startUp ∧ (beginSend f s).store = s.store ∧
    (beginSend f s).nvm = s.nvm ∧ (beginSend f s).catalogue = s.catalogue ∧ (beginSend f s).queue = s.queue ∧
    (beginSend f s).free = s.free ∧ (beginSend f s).ingest = s.ingest ∧ (beginSend f s).arbiter = s.arbiter ∧
    (beginSend f s).cache = s.cache ∧ (beginSend f s).keys = s.keys ∧ (beginSend f s).seq = s.seq ∧
    (beginSend f s).time = s.time ∧ (beginSend f s).link = s.link ∧ (beginSend f s).sound = s.sound ∧
    (beginSend f s).log = s.log ∧ (beginSend f s).lines = s.lines ∧ (beginSend f s).port = s.port ∧
    (beginSend f s).notices = s.notices ∧ (beginSend f s).freeUses = s.freeUses := by
  unfold beginSend; (repeat' split) <;> simp

@[simp] theorem putOnLink_frame (f : Send) (s : State) :
    (putOnLink f s).pending = s.pending ∧ (putOnLink f s).startUp = s.startUp ∧ (putOnLink f s).store = s.store ∧
    (putOnLink f s).nvm = s.nvm ∧ (putOnLink f s).catalogue = s.catalogue ∧ (putOnLink f s).queue = s.queue ∧
    (putOnLink f s).free = s.free ∧ (putOnLink f s).ingest = s.ingest ∧ (putOnLink f s).arbiter = s.arbiter ∧
    (putOnLink f s).cache = s.cache ∧ (putOnLink f s).keys = s.keys ∧ (putOnLink f s).seq = s.seq ∧
    (putOnLink f s).time = s.time ∧ (putOnLink f s).link = s.link ∧ (putOnLink f s).sound = s.sound ∧
    (putOnLink f s).log = s.log ∧ (putOnLink f s).lines = s.lines ∧ (putOnLink f s).port = s.port ∧
    (putOnLink f s).notices = s.notices ∧ (putOnLink f s).freeUses = s.freeUses := by
  unfold putOnLink; (repeat' split) <;> simp

@[simp] theorem updateShowing_frame (f : Showing → Showing) (s : State) :
    (updateShowing f s).pending = s.pending ∧ (updateShowing f s).startUp = s.startUp ∧
    (updateShowing f s).store = s.store ∧ (updateShowing f s).nvm = s.nvm ∧
    (updateShowing f s).catalogue = s.catalogue ∧ (updateShowing f s).queue = s.queue ∧
    (updateShowing f s).free = s.free ∧ (updateShowing f s).ingest = s.ingest ∧
    (updateShowing f s).arbiter = s.arbiter ∧ (updateShowing f s).cache = s.cache ∧
    (updateShowing f s).keys = s.keys ∧ (updateShowing f s).time = s.time ∧ (updateShowing f s).frames = s.frames ∧
    (updateShowing f s).link = s.link ∧ (updateShowing f s).sound = s.sound ∧ (updateShowing f s).subs = s.subs ∧
    (updateShowing f s).log = s.log ∧ (updateShowing f s).lines = s.lines ∧ (updateShowing f s).port = s.port ∧
    (updateShowing f s).notices = s.notices ∧ (updateShowing f s).freeUses = s.freeUses := by
  unfold updateShowing; (repeat' split) <;> simp

@[simp] theorem repeatFrame_frame (sh : Showing) (cause : RepeatCause) (s : State) :
    (repeatFrame sh cause s).pending = s.pending ∧ (repeatFrame sh cause s).startUp = s.startUp ∧
    (repeatFrame sh cause s).store = s.store ∧ (repeatFrame sh cause s).nvm = s.nvm ∧
    (repeatFrame sh cause s).catalogue = s.catalogue ∧ (repeatFrame sh cause s).queue = s.queue ∧
    (repeatFrame sh cause s).free = s.free ∧ (repeatFrame sh cause s).ingest = s.ingest ∧
    (repeatFrame sh cause s).arbiter = s.arbiter ∧ (repeatFrame sh cause s).cache = s.cache ∧
    (repeatFrame sh cause s).keys = s.keys ∧ (repeatFrame sh cause s).time = s.time ∧
    (repeatFrame sh cause s).link = s.link ∧ (repeatFrame sh cause s).sound = s.sound ∧
    (repeatFrame sh cause s).log = s.log ∧ (repeatFrame sh cause s).lines = s.lines ∧
    (repeatFrame sh cause s).port = s.port ∧ (repeatFrame sh cause s).freeUses = s.freeUses := by
  unfold repeatFrame; (repeat' split) <;> simp

@[simp] theorem presentDue_frame (sh : Showing) (s : State) :
    (presentDue sh s).pending = s.pending ∧ (presentDue sh s).startUp = s.startUp ∧
    (presentDue sh s).store = s.store ∧ (presentDue sh s).nvm = s.nvm ∧ (presentDue sh s).catalogue = s.catalogue ∧
    (presentDue sh s).queue = s.queue ∧ (presentDue sh s).free = s.free ∧ (presentDue sh s).ingest = s.ingest ∧
    (presentDue sh s).keys = s.keys ∧ (presentDue sh s).time = s.time ∧ (presentDue sh s).link = s.link ∧
    (presentDue sh s).sound = s.sound ∧ (presentDue sh s).log = s.log ∧ (presentDue sh s).lines = s.lines ∧
    (presentDue sh s).port = s.port ∧ (presentDue sh s).freeUses = s.freeUses := by
  simp only [presentDue]; (repeat' split) <;> simp

@[simp] theorem presentPicture_frame (takeover : Bool) (s : State) :
    (presentPicture takeover s).pending = s.pending ∧ (presentPicture takeover s).startUp = s.startUp ∧
    (presentPicture takeover s).store = s.store ∧ (presentPicture takeover s).nvm = s.nvm ∧
    (presentPicture takeover s).catalogue = s.catalogue ∧ (presentPicture takeover s).queue = s.queue ∧
    (presentPicture takeover s).free = s.free ∧ (presentPicture takeover s).ingest = s.ingest ∧
    (presentPicture takeover s).keys = s.keys ∧ (presentPicture takeover s).time = s.time ∧
    (presentPicture takeover s).link = s.link ∧ (presentPicture takeover s).sound = s.sound ∧
    (presentPicture takeover s).log = s.log ∧ (presentPicture takeover s).lines = s.lines ∧
    (presentPicture takeover s).port = s.port ∧ (presentPicture takeover s).freeUses = s.freeUses := by
  unfold presentPicture; (repeat' split) <;> simp

@[simp] theorem requestLinkCheck_frame (s : State) :
    (requestLinkCheck s).pending = s.pending ∧ (requestLinkCheck s).startUp = s.startUp ∧
    (requestLinkCheck s).store = s.store ∧ (requestLinkCheck s).nvm = s.nvm ∧
    (requestLinkCheck s).catalogue = s.catalogue ∧ (requestLinkCheck s).queue = s.queue ∧
    (requestLinkCheck s).free = s.free ∧ (requestLinkCheck s).ingest = s.ingest ∧
    (requestLinkCheck s).arbiter = s.arbiter ∧ (requestLinkCheck s).cache = s.cache ∧
    (requestLinkCheck s).keys = s.keys ∧ (requestLinkCheck s).seq = s.seq ∧ (requestLinkCheck s).time = s.time ∧
    (requestLinkCheck s).frames = s.frames ∧ (requestLinkCheck s).sound = s.sound ∧
    (requestLinkCheck s).subs = s.subs ∧ (requestLinkCheck s).log = s.log ∧ (requestLinkCheck s).lines = s.lines ∧
    (requestLinkCheck s).port = s.port ∧ (requestLinkCheck s).notices = s.notices ∧
    (requestLinkCheck s).freeUses = s.freeUses := by
  unfold requestLinkCheck; (repeat' split) <;> simp

@[simp] theorem beginLinkCheck_frame (s : State) :
    (beginLinkCheck s).pending = s.pending ∧ (beginLinkCheck s).startUp = s.startUp ∧
    (beginLinkCheck s).store = s.store ∧ (beginLinkCheck s).nvm = s.nvm ∧
    (beginLinkCheck s).catalogue = s.catalogue ∧ (beginLinkCheck s).queue = s.queue ∧
    (beginLinkCheck s).free = s.free ∧ (beginLinkCheck s).ingest = s.ingest ∧
    (beginLinkCheck s).arbiter = s.arbiter ∧ (beginLinkCheck s).cache = s.cache ∧ (beginLinkCheck s).keys = s.keys ∧
    (beginLinkCheck s).seq = s.seq ∧ (beginLinkCheck s).time = s.time ∧ (beginLinkCheck s).sound = s.sound ∧
    (beginLinkCheck s).log = s.log ∧ (beginLinkCheck s).lines = s.lines ∧ (beginLinkCheck s).port = s.port ∧
    (beginLinkCheck s).notices = s.notices ∧ (beginLinkCheck s).freeUses = s.freeUses := by
  unfold beginLinkCheck; (repeat' split) <;> simp

@[simp] theorem freeLink_frame (s : State) :
    (freeLink s).pending = s.pending ∧ (freeLink s).startUp = s.startUp ∧ (freeLink s).store = s.store ∧
    (freeLink s).nvm = s.nvm ∧ (freeLink s).catalogue = s.catalogue ∧ (freeLink s).queue = s.queue ∧
    (freeLink s).free = s.free ∧ (freeLink s).ingest = s.ingest ∧ (freeLink s).arbiter = s.arbiter ∧
    (freeLink s).cache = s.cache ∧ (freeLink s).keys = s.keys ∧ (freeLink s).seq = s.seq ∧
    (freeLink s).time = s.time ∧ (freeLink s).sound = s.sound ∧ (freeLink s).log = s.log ∧
    (freeLink s).lines = s.lines ∧ (freeLink s).port = s.port ∧ (freeLink s).notices = s.notices ∧
    (freeLink s).freeUses = s.freeUses := by
  simp only [freeLink]; (repeat' split) <;> simp

@[simp] theorem completeSend_frame (s : State) :
    (completeSend s).pending = s.pending ∧ (completeSend s).startUp = s.startUp ∧ (completeSend s).store = s.store ∧
    (completeSend s).nvm = s.nvm ∧ (completeSend s).catalogue = s.catalogue ∧ (completeSend s).queue = s.queue ∧
    (completeSend s).free = s.free ∧ (completeSend s).ingest = s.ingest ∧ (completeSend s).arbiter = s.arbiter ∧
    (completeSend s).cache = s.cache ∧ (completeSend s).keys = s.keys ∧ (completeSend s).seq = s.seq ∧
    (completeSend s).time = s.time ∧ (completeSend s).sound = s.sound ∧ (completeSend s).log = s.log ∧
    (completeSend s).lines = s.lines ∧ (completeSend s).port = s.port ∧ (completeSend s).notices = s.notices ∧
    (completeSend s).freeUses = s.freeUses := by
  unfold completeSend; (repeat' split) <;> simp

@[simp] theorem endLinkCheck_frame (outcome : CheckOutcome) (answered : Option Nat) (s : State) :
    (endLinkCheck outcome answered s).pending = s.pending ∧ (endLinkCheck outcome answered s).startUp = s.startUp ∧
    (endLinkCheck outcome answered s).store = s.store ∧ (endLinkCheck outcome answered s).nvm = s.nvm ∧
    (endLinkCheck outcome answered s).catalogue = s.catalogue ∧ (endLinkCheck outcome answered s).queue = s.queue ∧
    (endLinkCheck outcome answered s).free = s.free ∧ (endLinkCheck outcome answered s).ingest = s.ingest ∧
    (endLinkCheck outcome answered s).arbiter = s.arbiter ∧ (endLinkCheck outcome answered s).cache = s.cache ∧
    (endLinkCheck outcome answered s).keys = s.keys ∧ (endLinkCheck outcome answered s).seq = s.seq ∧
    (endLinkCheck outcome answered s).time = s.time ∧ (endLinkCheck outcome answered s).frames = s.frames ∧
    (endLinkCheck outcome answered s).sound = s.sound ∧ (endLinkCheck outcome answered s).subs = s.subs ∧
    (endLinkCheck outcome answered s).log = s.log ∧ (endLinkCheck outcome answered s).lines = s.lines ∧
    (endLinkCheck outcome answered s).port = s.port ∧ (endLinkCheck outcome answered s).freeUses = s.freeUses := by
  simp only [endLinkCheck]; (repeat' split) <;> simp

/-! ### SoundPath -/

@[simp] theorem setCells_frame (cells : List Cell) (s : State) :
    (setCells cells s).pending = s.pending ∧ (setCells cells s).startUp = s.startUp ∧
    (setCells cells s).store = s.store ∧ (setCells cells s).nvm = s.nvm ∧
    (setCells cells s).catalogue = s.catalogue ∧ (setCells cells s).queue = s.queue ∧
    (setCells cells s).free = s.free ∧ (setCells cells s).ingest = s.ingest ∧
    (setCells cells s).arbiter = s.arbiter ∧ (setCells cells s).cache = s.cache ∧ (setCells cells s).keys = s.keys ∧
    (setCells cells s).seq = s.seq ∧ (setCells cells s).time = s.time ∧ (setCells cells s).frames = s.frames ∧
    (setCells cells s).link = s.link ∧ (setCells cells s).subs = s.subs ∧ (setCells cells s).log = s.log ∧
    (setCells cells s).lines = s.lines ∧ (setCells cells s).port = s.port ∧ (setCells cells s).notices = s.notices ∧
    (setCells cells s).freeUses = s.freeUses := by
  unfold setCells; (repeat' split) <;> simp

@[simp] theorem askSound_frame (track block count store : Nat) (s : State) :
    (askSound track block count store s).pending = s.pending ∧
    (askSound track block count store s).startUp = s.startUp ∧
    (askSound track block count store s).store = s.store ∧ (askSound track block count store s).nvm = s.nvm ∧
    (askSound track block count store s).catalogue = s.catalogue ∧
    (askSound track block count store s).queue = s.queue ∧ (askSound track block count store s).free = s.free ∧
    (askSound track block count store s).ingest = s.ingest ∧ (askSound track block count store s).cache = s.cache ∧
    (askSound track block count store s).keys = s.keys ∧ (askSound track block count store s).seq = s.seq ∧
    (askSound track block count store s).time = s.time ∧ (askSound track block count store s).frames = s.frames ∧
    (askSound track block count store s).link = s.link ∧ (askSound track block count store s).subs = s.subs ∧
    (askSound track block count store s).log = s.log ∧ (askSound track block count store s).lines = s.lines ∧
    (askSound track block count store s).port = s.port ∧ (askSound track block count store s).notices = s.notices ∧
    (askSound track block count store s).freeUses = s.freeUses := by
  unfold askSound; (repeat' split) <;> simp

@[simp] theorem fillPortion_frame (n : Nat) (s : State) :
    (fillPortion n s).pending = s.pending ∧ (fillPortion n s).startUp = s.startUp ∧
    (fillPortion n s).store = s.store ∧ (fillPortion n s).nvm = s.nvm ∧ (fillPortion n s).catalogue = s.catalogue ∧
    (fillPortion n s).queue = s.queue ∧ (fillPortion n s).free = s.free ∧ (fillPortion n s).ingest = s.ingest ∧
    (fillPortion n s).keys = s.keys ∧ (fillPortion n s).seq = s.seq ∧ (fillPortion n s).time = s.time ∧
    (fillPortion n s).frames = s.frames ∧ (fillPortion n s).link = s.link ∧ (fillPortion n s).subs = s.subs ∧
    (fillPortion n s).log = s.log ∧ (fillPortion n s).lines = s.lines ∧ (fillPortion n s).port = s.port ∧
    (fillPortion n s).freeUses = s.freeUses := by
  induction n generalizing s with
  | zero => simp [fillPortion]
  | succ n ih =>
    unfold fillPortion; dsimp only; (repeat' split) <;> (try simp) <;>
    (rename_i heq; have hf := congrArg Prod.snd heq; subst hf; simp [ih])

@[simp] theorem beginPortion_frame (s : State) :
    (beginPortion s).pending = s.pending ∧ (beginPortion s).startUp = s.startUp ∧ (beginPortion s).store = s.store ∧
    (beginPortion s).nvm = s.nvm ∧ (beginPortion s).catalogue = s.catalogue ∧ (beginPortion s).queue = s.queue ∧
    (beginPortion s).free = s.free ∧ (beginPortion s).ingest = s.ingest ∧ (beginPortion s).keys = s.keys ∧
    (beginPortion s).seq = s.seq ∧ (beginPortion s).time = s.time ∧ (beginPortion s).frames = s.frames ∧
    (beginPortion s).link = s.link ∧ (beginPortion s).subs = s.subs ∧ (beginPortion s).log = s.log ∧
    (beginPortion s).lines = s.lines ∧ (beginPortion s).port = s.port ∧ (beginPortion s).freeUses = s.freeUses := by
  unfold beginPortion; (repeat' split) <;> simp

@[simp] theorem soundAnswer_frame (a : Answer) (s : State) :
    (soundAnswer a s).pending = s.pending ∧ (soundAnswer a s).startUp = s.startUp ∧
    (soundAnswer a s).store = s.store ∧ (soundAnswer a s).nvm = s.nvm ∧ (soundAnswer a s).catalogue = s.catalogue ∧
    (soundAnswer a s).queue = s.queue ∧ (soundAnswer a s).free = s.free ∧ (soundAnswer a s).ingest = s.ingest ∧
    (soundAnswer a s).keys = s.keys ∧ (soundAnswer a s).seq = s.seq ∧ (soundAnswer a s).time = s.time ∧
    (soundAnswer a s).frames = s.frames ∧ (soundAnswer a s).link = s.link ∧ (soundAnswer a s).subs = s.subs ∧
    (soundAnswer a s).log = s.log ∧ (soundAnswer a s).lines = s.lines ∧ (soundAnswer a s).port = s.port ∧
    (soundAnswer a s).freeUses = s.freeUses := by
  unfold soundAnswer; (repeat' split) <;> simp

@[simp] theorem soundTransfer_frame (ok : Bool) (t : Transfer) (s : State) :
    (soundTransfer ok t s).pending = s.pending ∧ (soundTransfer ok t s).startUp = s.startUp ∧
    (soundTransfer ok t s).store = s.store ∧ (soundTransfer ok t s).nvm = s.nvm ∧
    (soundTransfer ok t s).catalogue = s.catalogue ∧ (soundTransfer ok t s).queue = s.queue ∧
    (soundTransfer ok t s).free = s.free ∧ (soundTransfer ok t s).ingest = s.ingest ∧
    (soundTransfer ok t s).keys = s.keys ∧ (soundTransfer ok t s).seq = s.seq ∧
    (soundTransfer ok t s).time = s.time ∧ (soundTransfer ok t s).frames = s.frames ∧
    (soundTransfer ok t s).link = s.link ∧ (soundTransfer ok t s).subs = s.subs ∧
    (soundTransfer ok t s).log = s.log ∧ (soundTransfer ok t s).lines = s.lines ∧
    (soundTransfer ok t s).port = s.port ∧ (soundTransfer ok t s).freeUses = s.freeUses := by
  unfold soundTransfer; (repeat' split) <;> simp

@[simp] theorem keepPortions_frame (keep : Portion → Bool) (s : State) :
    (keepPortions keep s).pending = s.pending ∧ (keepPortions keep s).startUp = s.startUp ∧
    (keepPortions keep s).store = s.store ∧ (keepPortions keep s).nvm = s.nvm ∧
    (keepPortions keep s).catalogue = s.catalogue ∧ (keepPortions keep s).queue = s.queue ∧
    (keepPortions keep s).free = s.free ∧ (keepPortions keep s).ingest = s.ingest ∧
    (keepPortions keep s).keys = s.keys ∧ (keepPortions keep s).seq = s.seq ∧ (keepPortions keep s).time = s.time ∧
    (keepPortions keep s).frames = s.frames ∧ (keepPortions keep s).link = s.link ∧
    (keepPortions keep s).subs = s.subs ∧ (keepPortions keep s).log = s.log ∧
    (keepPortions keep s).lines = s.lines ∧ (keepPortions keep s).port = s.port ∧
    (keepPortions keep s).notices = s.notices ∧ (keepPortions keep s).freeUses = s.freeUses := by
  simp only [keepPortions]; (repeat' split) <;> simp

@[simp] theorem dropCurrentSound_frame (sh : Showing) (s : State) :
    (dropCurrentSound sh s).pending = s.pending ∧ (dropCurrentSound sh s).startUp = s.startUp ∧
    (dropCurrentSound sh s).store = s.store ∧ (dropCurrentSound sh s).nvm = s.nvm ∧
    (dropCurrentSound sh s).catalogue = s.catalogue ∧ (dropCurrentSound sh s).queue = s.queue ∧
    (dropCurrentSound sh s).free = s.free ∧ (dropCurrentSound sh s).ingest = s.ingest ∧
    (dropCurrentSound sh s).keys = s.keys ∧ (dropCurrentSound sh s).seq = s.seq ∧
    (dropCurrentSound sh s).time = s.time ∧ (dropCurrentSound sh s).frames = s.frames ∧
    (dropCurrentSound sh s).link = s.link ∧ (dropCurrentSound sh s).subs = s.subs ∧
    (dropCurrentSound sh s).log = s.log ∧ (dropCurrentSound sh s).lines = s.lines ∧
    (dropCurrentSound sh s).port = s.port ∧ (dropCurrentSound sh s).notices = s.notices ∧
    (dropCurrentSound sh s).freeUses = s.freeUses := by
  unfold dropCurrentSound; (repeat' split) <;> simp

@[simp] theorem dropPreparedSound_frame (s : State) :
    (dropPreparedSound s).pending = s.pending ∧ (dropPreparedSound s).startUp = s.startUp ∧
    (dropPreparedSound s).store = s.store ∧ (dropPreparedSound s).nvm = s.nvm ∧
    (dropPreparedSound s).catalogue = s.catalogue ∧ (dropPreparedSound s).queue = s.queue ∧
    (dropPreparedSound s).free = s.free ∧ (dropPreparedSound s).ingest = s.ingest ∧
    (dropPreparedSound s).keys = s.keys ∧ (dropPreparedSound s).seq = s.seq ∧ (dropPreparedSound s).time = s.time ∧
    (dropPreparedSound s).frames = s.frames ∧ (dropPreparedSound s).link = s.link ∧
    (dropPreparedSound s).subs = s.subs ∧ (dropPreparedSound s).log = s.log ∧
    (dropPreparedSound s).lines = s.lines ∧ (dropPreparedSound s).port = s.port ∧
    (dropPreparedSound s).notices = s.notices ∧ (dropPreparedSound s).freeUses = s.freeUses := by
  unfold dropPreparedSound; (repeat' split) <;> simp

@[simp] theorem dropSoundBeyond_frame (last : Nat) (s : State) :
    (dropSoundBeyond last s).pending = s.pending ∧ (dropSoundBeyond last s).startUp = s.startUp ∧
    (dropSoundBeyond last s).store = s.store ∧ (dropSoundBeyond last s).nvm = s.nvm ∧
    (dropSoundBeyond last s).catalogue = s.catalogue ∧ (dropSoundBeyond last s).queue = s.queue ∧
    (dropSoundBeyond last s).free = s.free ∧ (dropSoundBeyond last s).ingest = s.ingest ∧
    (dropSoundBeyond last s).keys = s.keys ∧ (dropSoundBeyond last s).seq = s.seq ∧
    (dropSoundBeyond last s).time = s.time ∧ (dropSoundBeyond last s).frames = s.frames ∧
    (dropSoundBeyond last s).link = s.link ∧ (dropSoundBeyond last s).subs = s.subs ∧
    (dropSoundBeyond last s).log = s.log ∧ (dropSoundBeyond last s).lines = s.lines ∧
    (dropSoundBeyond last s).port = s.port ∧ (dropSoundBeyond last s).notices = s.notices ∧
    (dropSoundBeyond last s).freeUses = s.freeUses := by
  unfold dropSoundBeyond; (repeat' split) <;> simp

@[simp] theorem takeOverSound_frame (s : State) :
    (takeOverSound s).pending = s.pending ∧ (takeOverSound s).startUp = s.startUp ∧
    (takeOverSound s).store = s.store ∧ (takeOverSound s).nvm = s.nvm ∧ (takeOverSound s).catalogue = s.catalogue ∧
    (takeOverSound s).queue = s.queue ∧ (takeOverSound s).free = s.free ∧ (takeOverSound s).ingest = s.ingest ∧
    (takeOverSound s).arbiter = s.arbiter ∧ (takeOverSound s).cache = s.cache ∧ (takeOverSound s).keys = s.keys ∧
    (takeOverSound s).seq = s.seq ∧ (takeOverSound s).time = s.time ∧ (takeOverSound s).frames = s.frames ∧
    (takeOverSound s).link = s.link ∧ (takeOverSound s).subs = s.subs ∧ (takeOverSound s).log = s.log ∧
    (takeOverSound s).lines = s.lines ∧ (takeOverSound s).port = s.port ∧ (takeOverSound s).notices = s.notices ∧
    (takeOverSound s).freeUses = s.freeUses := by
  unfold takeOverSound; (repeat' split) <;> simp

@[simp] theorem formRouteSets_frame (p : Play) (s : State) :
    (formRouteSets p s).pending = s.pending ∧ (formRouteSets p s).startUp = s.startUp ∧
    (formRouteSets p s).store = s.store ∧ (formRouteSets p s).nvm = s.nvm ∧
    (formRouteSets p s).catalogue = s.catalogue ∧ (formRouteSets p s).queue = s.queue ∧
    (formRouteSets p s).free = s.free ∧ (formRouteSets p s).ingest = s.ingest ∧
    (formRouteSets p s).arbiter = s.arbiter ∧ (formRouteSets p s).cache = s.cache ∧
    (formRouteSets p s).keys = s.keys ∧ (formRouteSets p s).seq = s.seq ∧ (formRouteSets p s).time = s.time ∧
    (formRouteSets p s).frames = s.frames ∧ (formRouteSets p s).link = s.link ∧ (formRouteSets p s).subs = s.subs ∧
    (formRouteSets p s).log = s.log ∧ (formRouteSets p s).lines = s.lines ∧ (formRouteSets p s).port = s.port ∧
    (formRouteSets p s).freeUses = s.freeUses := by
  simp [formRouteSets, apply_ite State.pending, apply_ite State.startUp, apply_ite State.store, apply_ite State.nvm,
    apply_ite State.catalogue, apply_ite State.queue, apply_ite State.free, apply_ite State.ingest,
    apply_ite State.arbiter, apply_ite State.cache, apply_ite State.keys, apply_ite State.seq, apply_ite State.time,
    apply_ite State.frames, apply_ite State.link, apply_ite State.subs, apply_ite State.log, apply_ite State.lines,
    apply_ite State.port, apply_ite State.freeUses]

@[simp] theorem soundUnderrun_frame (cause : UnderrunCause) (missing : Nat) (s : State) :
    (soundUnderrun cause missing s).pending = s.pending ∧ (soundUnderrun cause missing s).startUp = s.startUp ∧
    (soundUnderrun cause missing s).store = s.store ∧ (soundUnderrun cause missing s).nvm = s.nvm ∧
    (soundUnderrun cause missing s).catalogue = s.catalogue ∧ (soundUnderrun cause missing s).queue = s.queue ∧
    (soundUnderrun cause missing s).free = s.free ∧ (soundUnderrun cause missing s).ingest = s.ingest ∧
    (soundUnderrun cause missing s).arbiter = s.arbiter ∧ (soundUnderrun cause missing s).cache = s.cache ∧
    (soundUnderrun cause missing s).keys = s.keys ∧ (soundUnderrun cause missing s).seq = s.seq ∧
    (soundUnderrun cause missing s).time = s.time ∧ (soundUnderrun cause missing s).frames = s.frames ∧
    (soundUnderrun cause missing s).link = s.link ∧ (soundUnderrun cause missing s).subs = s.subs ∧
    (soundUnderrun cause missing s).log = s.log ∧ (soundUnderrun cause missing s).lines = s.lines ∧
    (soundUnderrun cause missing s).port = s.port ∧ (soundUnderrun cause missing s).freeUses = s.freeUses := by
  unfold soundUnderrun; (repeat' split) <;> simp

@[simp] theorem silenceOutputs_frame (s : State) :
    (silenceOutputs s).pending = s.pending ∧ (silenceOutputs s).startUp = s.startUp ∧
    (silenceOutputs s).store = s.store ∧ (silenceOutputs s).nvm = s.nvm ∧
    (silenceOutputs s).catalogue = s.catalogue ∧ (silenceOutputs s).queue = s.queue ∧
    (silenceOutputs s).free = s.free ∧ (silenceOutputs s).ingest = s.ingest ∧
    (silenceOutputs s).arbiter = s.arbiter ∧ (silenceOutputs s).cache = s.cache ∧ (silenceOutputs s).keys = s.keys ∧
    (silenceOutputs s).seq = s.seq ∧ (silenceOutputs s).time = s.time ∧ (silenceOutputs s).frames = s.frames ∧
    (silenceOutputs s).link = s.link ∧ (silenceOutputs s).subs = s.subs ∧ (silenceOutputs s).log = s.log ∧
    (silenceOutputs s).lines = s.lines ∧ (silenceOutputs s).port = s.port ∧ (silenceOutputs s).notices = s.notices ∧
    (silenceOutputs s).freeUses = s.freeUses := by
  unfold silenceOutputs; (repeat' split) <;> simp

@[simp] theorem outputPortion_frame (portion : Portion) (s : State) :
    (outputPortion portion s).pending = s.pending ∧ (outputPortion portion s).startUp = s.startUp ∧
    (outputPortion portion s).store = s.store ∧ (outputPortion portion s).nvm = s.nvm ∧
    (outputPortion portion s).catalogue = s.catalogue ∧ (outputPortion portion s).queue = s.queue ∧
    (outputPortion portion s).free = s.free ∧ (outputPortion portion s).ingest = s.ingest ∧
    (outputPortion portion s).arbiter = s.arbiter ∧ (outputPortion portion s).cache = s.cache ∧
    (outputPortion portion s).keys = s.keys ∧ (outputPortion portion s).seq = s.seq ∧
    (outputPortion portion s).time = s.time ∧ (outputPortion portion s).frames = s.frames ∧
    (outputPortion portion s).link = s.link ∧ (outputPortion portion s).subs = s.subs ∧
    (outputPortion portion s).log = s.log ∧ (outputPortion portion s).lines = s.lines ∧
    (outputPortion portion s).port = s.port ∧ (outputPortion portion s).freeUses = s.freeUses := by
  unfold outputPortion; (repeat' split) <;> simp

@[simp] theorem renderDue_frame (sh : Showing) (s : State) :
    (renderDue sh s).pending = s.pending ∧ (renderDue sh s).startUp = s.startUp ∧ (renderDue sh s).store = s.store ∧
    (renderDue sh s).nvm = s.nvm ∧ (renderDue sh s).catalogue = s.catalogue ∧ (renderDue sh s).queue = s.queue ∧
    (renderDue sh s).free = s.free ∧ (renderDue sh s).ingest = s.ingest ∧ (renderDue sh s).keys = s.keys ∧
    (renderDue sh s).seq = s.seq ∧ (renderDue sh s).time = s.time ∧ (renderDue sh s).frames = s.frames ∧
    (renderDue sh s).link = s.link ∧ (renderDue sh s).subs = s.subs ∧ (renderDue sh s).log = s.log ∧
    (renderDue sh s).lines = s.lines ∧ (renderDue sh s).port = s.port ∧ (renderDue sh s).freeUses = s.freeUses := by
  simp only [renderDue]; (repeat' split) <;> simp

@[simp] theorem judgeMute_frame (s : State) :
    (judgeMute s).pending = s.pending ∧ (judgeMute s).startUp = s.startUp ∧ (judgeMute s).store = s.store ∧
    (judgeMute s).nvm = s.nvm ∧ (judgeMute s).catalogue = s.catalogue ∧ (judgeMute s).queue = s.queue ∧
    (judgeMute s).free = s.free ∧ (judgeMute s).ingest = s.ingest ∧ (judgeMute s).arbiter = s.arbiter ∧
    (judgeMute s).cache = s.cache ∧ (judgeMute s).keys = s.keys ∧ (judgeMute s).seq = s.seq ∧
    (judgeMute s).time = s.time ∧ (judgeMute s).frames = s.frames ∧ (judgeMute s).link = s.link ∧
    (judgeMute s).subs = s.subs ∧ (judgeMute s).log = s.log ∧ (judgeMute s).lines = s.lines ∧
    (judgeMute s).port = s.port ∧ (judgeMute s).notices = s.notices ∧ (judgeMute s).freeUses = s.freeUses := by
  unfold judgeMute; (repeat' split) <;> simp

@[simp] theorem muteNow_frame (s : State) :
    (muteNow s).pending = s.pending ∧ (muteNow s).startUp = s.startUp ∧ (muteNow s).store = s.store ∧
    (muteNow s).nvm = s.nvm ∧ (muteNow s).catalogue = s.catalogue ∧ (muteNow s).queue = s.queue ∧
    (muteNow s).free = s.free ∧ (muteNow s).ingest = s.ingest ∧ (muteNow s).arbiter = s.arbiter ∧
    (muteNow s).cache = s.cache ∧ (muteNow s).keys = s.keys ∧ (muteNow s).seq = s.seq ∧ (muteNow s).time = s.time ∧
    (muteNow s).frames = s.frames ∧ (muteNow s).link = s.link ∧ (muteNow s).subs = s.subs ∧
    (muteNow s).log = s.log ∧ (muteNow s).lines = s.lines ∧ (muteNow s).port = s.port ∧
    (muteNow s).notices = s.notices ∧ (muteNow s).freeUses = s.freeUses := by
  unfold muteNow; (repeat' split) <;> simp

@[simp] theorem renderSound_frame (s : State) :
    (renderSound s).pending = s.pending ∧ (renderSound s).startUp = s.startUp ∧ (renderSound s).store = s.store ∧
    (renderSound s).nvm = s.nvm ∧ (renderSound s).catalogue = s.catalogue ∧ (renderSound s).queue = s.queue ∧
    (renderSound s).free = s.free ∧ (renderSound s).ingest = s.ingest ∧ (renderSound s).keys = s.keys ∧
    (renderSound s).seq = s.seq ∧ (renderSound s).time = s.time ∧ (renderSound s).frames = s.frames ∧
    (renderSound s).link = s.link ∧ (renderSound s).subs = s.subs ∧ (renderSound s).log = s.log ∧
    (renderSound s).lines = s.lines ∧ (renderSound s).port = s.port ∧ (renderSound s).freeUses = s.freeUses := by
  unfold renderSound; (repeat' split) <;> simp

@[simp] theorem takeFade_frame (target frames : Nat) (s : State) :
    (takeFade target frames s).pending = s.pending ∧ (takeFade target frames s).startUp = s.startUp ∧
    (takeFade target frames s).store = s.store ∧ (takeFade target frames s).nvm = s.nvm ∧
    (takeFade target frames s).catalogue = s.catalogue ∧ (takeFade target frames s).queue = s.queue ∧
    (takeFade target frames s).free = s.free ∧ (takeFade target frames s).ingest = s.ingest ∧
    (takeFade target frames s).arbiter = s.arbiter ∧ (takeFade target frames s).cache = s.cache ∧
    (takeFade target frames s).keys = s.keys ∧ (takeFade target frames s).seq = s.seq ∧
    (takeFade target frames s).time = s.time ∧ (takeFade target frames s).frames = s.frames ∧
    (takeFade target frames s).link = s.link ∧ (takeFade target frames s).subs = s.subs ∧
    (takeFade target frames s).log = s.log ∧ (takeFade target frames s).lines = s.lines ∧
    (takeFade target frames s).port = s.port ∧ (takeFade target frames s).notices = s.notices ∧
    (takeFade target frames s).freeUses = s.freeUses := by
  unfold takeFade; (repeat' split) <;> simp

@[simp] theorem stepFade_frame (s : State) :
    (stepFade s).pending = s.pending ∧ (stepFade s).startUp = s.startUp ∧ (stepFade s).store = s.store ∧
    (stepFade s).nvm = s.nvm ∧ (stepFade s).catalogue = s.catalogue ∧ (stepFade s).queue = s.queue ∧
    (stepFade s).free = s.free ∧ (stepFade s).ingest = s.ingest ∧ (stepFade s).arbiter = s.arbiter ∧
    (stepFade s).cache = s.cache ∧ (stepFade s).keys = s.keys ∧ (stepFade s).seq = s.seq ∧
    (stepFade s).time = s.time ∧ (stepFade s).frames = s.frames ∧ (stepFade s).link = s.link ∧
    (stepFade s).subs = s.subs ∧ (stepFade s).log = s.log ∧ (stepFade s).lines = s.lines ∧
    (stepFade s).port = s.port ∧ (stepFade s).notices = s.notices ∧ (stepFade s).freeUses = s.freeUses := by
  simp only [stepFade]; (repeat' split) <;> simp

/-! ### Compare -/

@[simp] theorem updateUnit_frame (n : Nat) (f : CompareUnit → CompareUnit) (s : State) :
    (updateUnit n f s).pending = s.pending ∧ (updateUnit n f s).startUp = s.startUp ∧
    (updateUnit n f s).store = s.store ∧ (updateUnit n f s).nvm = s.nvm ∧
    (updateUnit n f s).catalogue = s.catalogue ∧ (updateUnit n f s).queue = s.queue ∧
    (updateUnit n f s).free = s.free ∧ (updateUnit n f s).ingest = s.ingest ∧
    (updateUnit n f s).arbiter = s.arbiter ∧ (updateUnit n f s).cache = s.cache ∧ (updateUnit n f s).keys = s.keys ∧
    (updateUnit n f s).seq = s.seq ∧ (updateUnit n f s).frames = s.frames ∧ (updateUnit n f s).link = s.link ∧
    (updateUnit n f s).sound = s.sound ∧ (updateUnit n f s).subs = s.subs ∧ (updateUnit n f s).log = s.log ∧
    (updateUnit n f s).lines = s.lines ∧ (updateUnit n f s).port = s.port ∧ (updateUnit n f s).notices = s.notices ∧
    (updateUnit n f s).freeUses = s.freeUses := by
  unfold updateUnit; (repeat' split) <;> simp

@[simp] theorem emptyUnits_frame (p : Nat → Bool) (s : State) :
    (emptyUnits p s).pending = s.pending ∧ (emptyUnits p s).startUp = s.startUp ∧ (emptyUnits p s).store = s.store ∧
    (emptyUnits p s).nvm = s.nvm ∧ (emptyUnits p s).catalogue = s.catalogue ∧ (emptyUnits p s).queue = s.queue ∧
    (emptyUnits p s).free = s.free ∧ (emptyUnits p s).ingest = s.ingest ∧ (emptyUnits p s).arbiter = s.arbiter ∧
    (emptyUnits p s).cache = s.cache ∧ (emptyUnits p s).keys = s.keys ∧ (emptyUnits p s).seq = s.seq ∧
    (emptyUnits p s).frames = s.frames ∧ (emptyUnits p s).link = s.link ∧ (emptyUnits p s).sound = s.sound ∧
    (emptyUnits p s).subs = s.subs ∧ (emptyUnits p s).log = s.log ∧ (emptyUnits p s).lines = s.lines ∧
    (emptyUnits p s).port = s.port ∧ (emptyUnits p s).notices = s.notices ∧
    (emptyUnits p s).freeUses = s.freeUses := by
  unfold emptyUnits; (repeat' split) <;> simp

@[simp] theorem takeCapture_frame (line : Option Nat) (s : State) :
    (takeCapture line s).pending = s.pending ∧ (takeCapture line s).startUp = s.startUp ∧
    (takeCapture line s).store = s.store ∧ (takeCapture line s).nvm = s.nvm ∧
    (takeCapture line s).catalogue = s.catalogue ∧ (takeCapture line s).queue = s.queue ∧
    (takeCapture line s).free = s.free ∧ (takeCapture line s).ingest = s.ingest ∧
    (takeCapture line s).arbiter = s.arbiter ∧ (takeCapture line s).cache = s.cache ∧
    (takeCapture line s).keys = s.keys ∧ (takeCapture line s).seq = s.seq ∧ (takeCapture line s).frames = s.frames ∧
    (takeCapture line s).link = s.link ∧ (takeCapture line s).sound = s.sound ∧ (takeCapture line s).subs = s.subs ∧
    (takeCapture line s).log = s.log ∧ (takeCapture line s).lines = s.lines ∧ (takeCapture line s).port = s.port ∧
    (takeCapture line s).freeUses = s.freeUses := by
  unfold takeCapture; (repeat' split) <;> simp

/-! ### Captions -/

@[simp] theorem feedSeats_frame (s : State) :
    (feedSeats s).pending = s.pending ∧ (feedSeats s).startUp = s.startUp ∧ (feedSeats s).store = s.store ∧
    (feedSeats s).nvm = s.nvm ∧ (feedSeats s).catalogue = s.catalogue ∧ (feedSeats s).queue = s.queue ∧
    (feedSeats s).free = s.free ∧ (feedSeats s).ingest = s.ingest ∧ (feedSeats s).arbiter = s.arbiter ∧
    (feedSeats s).cache = s.cache ∧ (feedSeats s).keys = s.keys ∧ (feedSeats s).seq = s.seq ∧
    (feedSeats s).time = s.time ∧ (feedSeats s).frames = s.frames ∧ (feedSeats s).link = s.link ∧
    (feedSeats s).sound = s.sound ∧ (feedSeats s).log = s.log ∧ (feedSeats s).lines = s.lines ∧
    (feedSeats s).port = s.port ∧ (feedSeats s).notices = s.notices ∧ (feedSeats s).freeUses = s.freeUses := by
  unfold feedSeats; (repeat' split) <;> simp

@[simp] theorem sendShow_frame (overlay seats : Bool) (r : CaptionRecord) (s : State) :
    (sendShow overlay seats r s).pending = s.pending ∧ (sendShow overlay seats r s).startUp = s.startUp ∧
    (sendShow overlay seats r s).store = s.store ∧ (sendShow overlay seats r s).nvm = s.nvm ∧
    (sendShow overlay seats r s).catalogue = s.catalogue ∧ (sendShow overlay seats r s).queue = s.queue ∧
    (sendShow overlay seats r s).free = s.free ∧ (sendShow overlay seats r s).ingest = s.ingest ∧
    (sendShow overlay seats r s).arbiter = s.arbiter ∧ (sendShow overlay seats r s).cache = s.cache ∧
    (sendShow overlay seats r s).keys = s.keys ∧ (sendShow overlay seats r s).seq = s.seq ∧
    (sendShow overlay seats r s).time = s.time ∧ (sendShow overlay seats r s).frames = s.frames ∧
    (sendShow overlay seats r s).link = s.link ∧ (sendShow overlay seats r s).sound = s.sound ∧
    (sendShow overlay seats r s).log = s.log ∧ (sendShow overlay seats r s).lines = s.lines ∧
    (sendShow overlay seats r s).port = s.port ∧ (sendShow overlay seats r s).notices = s.notices ∧
    (sendShow overlay seats r s).freeUses = s.freeUses := by
  unfold sendShow; (repeat' split) <;> simp

@[simp] theorem sendClear_frame (overlay seats : Bool) (stream number : Nat) (reason : ClearReason) (s : State) :
    (sendClear overlay seats stream number reason s).pending = s.pending ∧
    (sendClear overlay seats stream number reason s).startUp = s.startUp ∧
    (sendClear overlay seats stream number reason s).store = s.store ∧
    (sendClear overlay seats stream number reason s).nvm = s.nvm ∧
    (sendClear overlay seats stream number reason s).catalogue = s.catalogue ∧
    (sendClear overlay seats stream number reason s).queue = s.queue ∧
    (sendClear overlay seats stream number reason s).free = s.free ∧
    (sendClear overlay seats stream number reason s).ingest = s.ingest ∧
    (sendClear overlay seats stream number reason s).arbiter = s.arbiter ∧
    (sendClear overlay seats stream number reason s).cache = s.cache ∧
    (sendClear overlay seats stream number reason s).keys = s.keys ∧
    (sendClear overlay seats stream number reason s).seq = s.seq ∧
    (sendClear overlay seats stream number reason s).time = s.time ∧
    (sendClear overlay seats stream number reason s).frames = s.frames ∧
    (sendClear overlay seats stream number reason s).link = s.link ∧
    (sendClear overlay seats stream number reason s).sound = s.sound ∧
    (sendClear overlay seats stream number reason s).log = s.log ∧
    (sendClear overlay seats stream number reason s).lines = s.lines ∧
    (sendClear overlay seats stream number reason s).port = s.port ∧
    (sendClear overlay seats stream number reason s).notices = s.notices ∧
    (sendClear overlay seats stream number reason s).freeUses = s.freeUses := by
  unfold sendClear; (repeat' split) <;> simp

@[simp] theorem updateStream_frame (k : Nat) (f : Stream → Stream) (s : State) :
    (updateStream k f s).pending = s.pending ∧ (updateStream k f s).startUp = s.startUp ∧
    (updateStream k f s).store = s.store ∧ (updateStream k f s).nvm = s.nvm ∧
    (updateStream k f s).catalogue = s.catalogue ∧ (updateStream k f s).queue = s.queue ∧
    (updateStream k f s).free = s.free ∧ (updateStream k f s).ingest = s.ingest ∧
    (updateStream k f s).arbiter = s.arbiter ∧ (updateStream k f s).cache = s.cache ∧
    (updateStream k f s).keys = s.keys ∧ (updateStream k f s).seq = s.seq ∧ (updateStream k f s).time = s.time ∧
    (updateStream k f s).frames = s.frames ∧ (updateStream k f s).link = s.link ∧
    (updateStream k f s).sound = s.sound ∧ (updateStream k f s).log = s.log ∧ (updateStream k f s).lines = s.lines ∧
    (updateStream k f s).port = s.port ∧ (updateStream k f s).notices = s.notices ∧
    (updateStream k f s).freeUses = s.freeUses := by
  unfold updateStream; (repeat' split) <;> simp

@[simp] theorem countDrops_frame (c : DropCause) (n : Nat) (s : State) :
    (countDrops c n s).pending = s.pending ∧ (countDrops c n s).startUp = s.startUp ∧
    (countDrops c n s).store = s.store ∧ (countDrops c n s).nvm = s.nvm ∧
    (countDrops c n s).catalogue = s.catalogue ∧ (countDrops c n s).queue = s.queue ∧
    (countDrops c n s).free = s.free ∧ (countDrops c n s).ingest = s.ingest ∧
    (countDrops c n s).arbiter = s.arbiter ∧ (countDrops c n s).cache = s.cache ∧ (countDrops c n s).keys = s.keys ∧
    (countDrops c n s).seq = s.seq ∧ (countDrops c n s).time = s.time ∧ (countDrops c n s).frames = s.frames ∧
    (countDrops c n s).link = s.link ∧ (countDrops c n s).sound = s.sound ∧ (countDrops c n s).log = s.log ∧
    (countDrops c n s).lines = s.lines ∧ (countDrops c n s).port = s.port ∧ (countDrops c n s).notices = s.notices ∧
    (countDrops c n s).freeUses = s.freeUses := by
  unfold countDrops; (repeat' split) <;> simp

@[simp] theorem raiseDropped_frame (stream composition reel : Nat) (counts : List Nat) (s : State) :
    (raiseDropped stream composition reel counts s).pending = s.pending ∧
    (raiseDropped stream composition reel counts s).startUp = s.startUp ∧
    (raiseDropped stream composition reel counts s).store = s.store ∧
    (raiseDropped stream composition reel counts s).nvm = s.nvm ∧
    (raiseDropped stream composition reel counts s).catalogue = s.catalogue ∧
    (raiseDropped stream composition reel counts s).queue = s.queue ∧
    (raiseDropped stream composition reel counts s).free = s.free ∧
    (raiseDropped stream composition reel counts s).ingest = s.ingest ∧
    (raiseDropped stream composition reel counts s).arbiter = s.arbiter ∧
    (raiseDropped stream composition reel counts s).cache = s.cache ∧
    (raiseDropped stream composition reel counts s).keys = s.keys ∧
    (raiseDropped stream composition reel counts s).seq = s.seq ∧
    (raiseDropped stream composition reel counts s).time = s.time ∧
    (raiseDropped stream composition reel counts s).frames = s.frames ∧
    (raiseDropped stream composition reel counts s).link = s.link ∧
    (raiseDropped stream composition reel counts s).sound = s.sound ∧
    (raiseDropped stream composition reel counts s).subs = s.subs ∧
    (raiseDropped stream composition reel counts s).log = s.log ∧
    (raiseDropped stream composition reel counts s).lines = s.lines ∧
    (raiseDropped stream composition reel counts s).port = s.port ∧
    (raiseDropped stream composition reel counts s).freeUses = s.freeUses := by
  unfold raiseDropped; (repeat' split) <;> simp

@[simp] theorem clearSlot_frame (k n : Nat) (reason : ClearReason) (s : State) :
    (clearSlot k n reason s).pending = s.pending ∧ (clearSlot k n reason s).startUp = s.startUp ∧
    (clearSlot k n reason s).store = s.store ∧ (clearSlot k n reason s).nvm = s.nvm ∧
    (clearSlot k n reason s).catalogue = s.catalogue ∧ (clearSlot k n reason s).queue = s.queue ∧
    (clearSlot k n reason s).free = s.free ∧ (clearSlot k n reason s).ingest = s.ingest ∧
    (clearSlot k n reason s).arbiter = s.arbiter ∧ (clearSlot k n reason s).cache = s.cache ∧
    (clearSlot k n reason s).keys = s.keys ∧ (clearSlot k n reason s).seq = s.seq ∧
    (clearSlot k n reason s).time = s.time ∧ (clearSlot k n reason s).frames = s.frames ∧
    (clearSlot k n reason s).link = s.link ∧ (clearSlot k n reason s).sound = s.sound ∧
    (clearSlot k n reason s).log = s.log ∧ (clearSlot k n reason s).lines = s.lines ∧
    (clearSlot k n reason s).port = s.port ∧ (clearSlot k n reason s).notices = s.notices ∧
    (clearSlot k n reason s).freeUses = s.freeUses := by
  unfold clearSlot; (repeat' split) <;> simp

@[simp] theorem clearWhere_frame (k : Nat) (p : Shown → Bool) (reason : ClearReason) (s : State) :
    (clearWhere k p reason s).pending = s.pending ∧ (clearWhere k p reason s).startUp = s.startUp ∧
    (clearWhere k p reason s).store = s.store ∧ (clearWhere k p reason s).nvm = s.nvm ∧
    (clearWhere k p reason s).catalogue = s.catalogue ∧ (clearWhere k p reason s).queue = s.queue ∧
    (clearWhere k p reason s).free = s.free ∧ (clearWhere k p reason s).ingest = s.ingest ∧
    (clearWhere k p reason s).arbiter = s.arbiter ∧ (clearWhere k p reason s).cache = s.cache ∧
    (clearWhere k p reason s).keys = s.keys ∧ (clearWhere k p reason s).seq = s.seq ∧
    (clearWhere k p reason s).time = s.time ∧ (clearWhere k p reason s).frames = s.frames ∧
    (clearWhere k p reason s).link = s.link ∧ (clearWhere k p reason s).sound = s.sound ∧
    (clearWhere k p reason s).log = s.log ∧ (clearWhere k p reason s).lines = s.lines ∧
    (clearWhere k p reason s).port = s.port ∧ (clearWhere k p reason s).notices = s.notices ∧
    (clearWhere k p reason s).freeUses = s.freeUses := by
  simp only [clearWhere, List.foldl]; (repeat' split) <;> simp

@[simp] theorem clearAll_frame (reason : ClearReason) (s : State) :
    (clearAll reason s).pending = s.pending ∧ (clearAll reason s).startUp = s.startUp ∧
    (clearAll reason s).store = s.store ∧ (clearAll reason s).nvm = s.nvm ∧
    (clearAll reason s).catalogue = s.catalogue ∧ (clearAll reason s).queue = s.queue ∧
    (clearAll reason s).free = s.free ∧ (clearAll reason s).ingest = s.ingest ∧
    (clearAll reason s).arbiter = s.arbiter ∧ (clearAll reason s).cache = s.cache ∧
    (clearAll reason s).keys = s.keys ∧ (clearAll reason s).seq = s.seq ∧ (clearAll reason s).time = s.time ∧
    (clearAll reason s).frames = s.frames ∧ (clearAll reason s).link = s.link ∧
    (clearAll reason s).sound = s.sound ∧ (clearAll reason s).log = s.log ∧ (clearAll reason s).lines = s.lines ∧
    (clearAll reason s).port = s.port ∧ (clearAll reason s).notices = s.notices ∧
    (clearAll reason s).freeUses = s.freeUses := by
  simp only [clearAll]; (repeat' split) <;> simp

@[simp] theorem clearPassed_frame (k : Nat) (s : State) :
    (clearPassed k s).pending = s.pending ∧ (clearPassed k s).startUp = s.startUp ∧
    (clearPassed k s).store = s.store ∧ (clearPassed k s).nvm = s.nvm ∧ (clearPassed k s).catalogue = s.catalogue ∧
    (clearPassed k s).queue = s.queue ∧ (clearPassed k s).free = s.free ∧ (clearPassed k s).ingest = s.ingest ∧
    (clearPassed k s).arbiter = s.arbiter ∧ (clearPassed k s).cache = s.cache ∧ (clearPassed k s).keys = s.keys ∧
    (clearPassed k s).seq = s.seq ∧ (clearPassed k s).time = s.time ∧ (clearPassed k s).frames = s.frames ∧
    (clearPassed k s).link = s.link ∧ (clearPassed k s).sound = s.sound ∧ (clearPassed k s).log = s.log ∧
    (clearPassed k s).lines = s.lines ∧ (clearPassed k s).port = s.port ∧ (clearPassed k s).notices = s.notices ∧
    (clearPassed k s).freeUses = s.freeUses := by
  unfold clearPassed; (repeat' split) <;> simp

@[simp] theorem clearAtTick_frame (s : State) :
    (clearAtTick s).pending = s.pending ∧ (clearAtTick s).startUp = s.startUp ∧ (clearAtTick s).store = s.store ∧
    (clearAtTick s).nvm = s.nvm ∧ (clearAtTick s).catalogue = s.catalogue ∧ (clearAtTick s).queue = s.queue ∧
    (clearAtTick s).free = s.free ∧ (clearAtTick s).ingest = s.ingest ∧ (clearAtTick s).arbiter = s.arbiter ∧
    (clearAtTick s).cache = s.cache ∧ (clearAtTick s).keys = s.keys ∧ (clearAtTick s).seq = s.seq ∧
    (clearAtTick s).time = s.time ∧ (clearAtTick s).frames = s.frames ∧ (clearAtTick s).link = s.link ∧
    (clearAtTick s).sound = s.sound ∧ (clearAtTick s).log = s.log ∧ (clearAtTick s).lines = s.lines ∧
    (clearAtTick s).port = s.port ∧ (clearAtTick s).notices = s.notices ∧
    (clearAtTick s).freeUses = s.freeUses := by
  simp only [clearAtTick]; (repeat' split) <;> simp

@[simp] theorem showCue_frame (k tag : Nat) (s : State) :
    (showCue k tag s).pending = s.pending ∧ (showCue k tag s).startUp = s.startUp ∧
    (showCue k tag s).store = s.store ∧ (showCue k tag s).nvm = s.nvm ∧ (showCue k tag s).catalogue = s.catalogue ∧
    (showCue k tag s).queue = s.queue ∧ (showCue k tag s).free = s.free ∧ (showCue k tag s).ingest = s.ingest ∧
    (showCue k tag s).arbiter = s.arbiter ∧ (showCue k tag s).cache = s.cache ∧ (showCue k tag s).keys = s.keys ∧
    (showCue k tag s).seq = s.seq ∧ (showCue k tag s).time = s.time ∧ (showCue k tag s).frames = s.frames ∧
    (showCue k tag s).link = s.link ∧ (showCue k tag s).sound = s.sound ∧ (showCue k tag s).log = s.log ∧
    (showCue k tag s).lines = s.lines ∧ (showCue k tag s).port = s.port ∧
    (showCue k tag s).freeUses = s.freeUses := by
  simp only [showCue]; (repeat' split) <;> simp

@[simp] theorem loadNextCue_frame (k : Nat) (s : State) :
    (loadNextCue k s).pending = s.pending ∧ (loadNextCue k s).startUp = s.startUp ∧
    (loadNextCue k s).store = s.store ∧ (loadNextCue k s).nvm = s.nvm ∧ (loadNextCue k s).catalogue = s.catalogue ∧
    (loadNextCue k s).queue = s.queue ∧ (loadNextCue k s).free = s.free ∧ (loadNextCue k s).ingest = s.ingest ∧
    (loadNextCue k s).arbiter = s.arbiter ∧ (loadNextCue k s).cache = s.cache ∧ (loadNextCue k s).keys = s.keys ∧
    (loadNextCue k s).seq = s.seq ∧ (loadNextCue k s).frames = s.frames ∧ (loadNextCue k s).link = s.link ∧
    (loadNextCue k s).sound = s.sound ∧ (loadNextCue k s).log = s.log ∧ (loadNextCue k s).lines = s.lines ∧
    (loadNextCue k s).port = s.port ∧ (loadNextCue k s).notices = s.notices ∧
    (loadNextCue k s).freeUses = s.freeUses := by
  unfold loadNextCue; (repeat' split) <;> simp

@[simp] theorem fireStream_frame (k : Nat) (n : Nat) (s : State) :
    (fireStream k n s).pending = s.pending ∧ (fireStream k n s).startUp = s.startUp ∧
    (fireStream k n s).store = s.store ∧ (fireStream k n s).nvm = s.nvm ∧
    (fireStream k n s).catalogue = s.catalogue ∧ (fireStream k n s).queue = s.queue ∧
    (fireStream k n s).free = s.free ∧ (fireStream k n s).ingest = s.ingest ∧
    (fireStream k n s).arbiter = s.arbiter ∧ (fireStream k n s).cache = s.cache ∧ (fireStream k n s).keys = s.keys ∧
    (fireStream k n s).seq = s.seq ∧ (fireStream k n s).frames = s.frames ∧ (fireStream k n s).link = s.link ∧
    (fireStream k n s).sound = s.sound ∧ (fireStream k n s).log = s.log ∧ (fireStream k n s).lines = s.lines ∧
    (fireStream k n s).port = s.port ∧ (fireStream k n s).freeUses = s.freeUses := by
  induction n generalizing s with
  | zero => simp [fireStream]
  | succ n ih => unfold fireStream; split <;> simp_all

@[simp] theorem judgeStreams_frame (s : State) :
    (judgeStreams s).pending = s.pending ∧ (judgeStreams s).startUp = s.startUp ∧ (judgeStreams s).store = s.store ∧
    (judgeStreams s).nvm = s.nvm ∧ (judgeStreams s).catalogue = s.catalogue ∧ (judgeStreams s).queue = s.queue ∧
    (judgeStreams s).free = s.free ∧ (judgeStreams s).ingest = s.ingest ∧ (judgeStreams s).arbiter = s.arbiter ∧
    (judgeStreams s).cache = s.cache ∧ (judgeStreams s).keys = s.keys ∧ (judgeStreams s).seq = s.seq ∧
    (judgeStreams s).frames = s.frames ∧ (judgeStreams s).link = s.link ∧ (judgeStreams s).sound = s.sound ∧
    (judgeStreams s).log = s.log ∧ (judgeStreams s).lines = s.lines ∧ (judgeStreams s).port = s.port ∧
    (judgeStreams s).freeUses = s.freeUses := by
  simp only [judgeStreams]; (repeat' split) <;> simp

@[simp] theorem feedUnit_frame (k : Nat) (s : State) :
    (feedUnit k s).pending = s.pending ∧ (feedUnit k s).startUp = s.startUp ∧ (feedUnit k s).store = s.store ∧
    (feedUnit k s).nvm = s.nvm ∧ (feedUnit k s).catalogue = s.catalogue ∧ (feedUnit k s).queue = s.queue ∧
    (feedUnit k s).free = s.free ∧ (feedUnit k s).ingest = s.ingest ∧ (feedUnit k s).arbiter = s.arbiter ∧
    (feedUnit k s).cache = s.cache ∧ (feedUnit k s).keys = s.keys ∧ (feedUnit k s).seq = s.seq ∧
    (feedUnit k s).frames = s.frames ∧ (feedUnit k s).link = s.link ∧ (feedUnit k s).sound = s.sound ∧
    (feedUnit k s).log = s.log ∧ (feedUnit k s).lines = s.lines ∧ (feedUnit k s).port = s.port ∧
    (feedUnit k s).freeUses = s.freeUses := by
  unfold feedUnit; (repeat' split) <;> simp

@[simp] theorem setLate_frame (n : Nat) (s : State) :
    (setLate n s).pending = s.pending ∧ (setLate n s).startUp = s.startUp ∧ (setLate n s).store = s.store ∧
    (setLate n s).nvm = s.nvm ∧ (setLate n s).catalogue = s.catalogue ∧ (setLate n s).queue = s.queue ∧
    (setLate n s).free = s.free ∧ (setLate n s).ingest = s.ingest ∧ (setLate n s).arbiter = s.arbiter ∧
    (setLate n s).cache = s.cache ∧ (setLate n s).keys = s.keys ∧ (setLate n s).seq = s.seq ∧
    (setLate n s).time = s.time ∧ (setLate n s).frames = s.frames ∧ (setLate n s).link = s.link ∧
    (setLate n s).sound = s.sound ∧ (setLate n s).log = s.log ∧ (setLate n s).lines = s.lines ∧
    (setLate n s).port = s.port ∧ (setLate n s).notices = s.notices ∧ (setLate n s).freeUses = s.freeUses := by
  unfold setLate; (repeat' split) <;> simp

@[simp] theorem countingLate_frame (k : Nat) (s : State) :
    (countingLate (feedUnit k) s).2.pending = s.pending ∧ (countingLate (feedUnit k) s).2.startUp = s.startUp ∧
    (countingLate (feedUnit k) s).2.store = s.store ∧ (countingLate (feedUnit k) s).2.nvm = s.nvm ∧
    (countingLate (feedUnit k) s).2.catalogue = s.catalogue ∧ (countingLate (feedUnit k) s).2.queue = s.queue ∧
    (countingLate (feedUnit k) s).2.free = s.free ∧ (countingLate (feedUnit k) s).2.ingest = s.ingest ∧
    (countingLate (feedUnit k) s).2.arbiter = s.arbiter ∧ (countingLate (feedUnit k) s).2.cache = s.cache ∧
    (countingLate (feedUnit k) s).2.keys = s.keys ∧ (countingLate (feedUnit k) s).2.seq = s.seq ∧
    (countingLate (feedUnit k) s).2.frames = s.frames ∧ (countingLate (feedUnit k) s).2.link = s.link ∧
    (countingLate (feedUnit k) s).2.sound = s.sound ∧ (countingLate (feedUnit k) s).2.log = s.log ∧
    (countingLate (feedUnit k) s).2.lines = s.lines ∧ (countingLate (feedUnit k) s).2.port = s.port ∧
    (countingLate (feedUnit k) s).2.freeUses = s.freeUses := by
  simp [countingLate]

@[simp] theorem convertLive_frame (k : Nat) (s : State) :
    (convertLive k s).pending = s.pending ∧ (convertLive k s).startUp = s.startUp ∧
    (convertLive k s).store = s.store ∧ (convertLive k s).nvm = s.nvm ∧ (convertLive k s).catalogue = s.catalogue ∧
    (convertLive k s).queue = s.queue ∧ (convertLive k s).free = s.free ∧ (convertLive k s).ingest = s.ingest ∧
    (convertLive k s).arbiter = s.arbiter ∧ (convertLive k s).cache = s.cache ∧ (convertLive k s).keys = s.keys ∧
    (convertLive k s).seq = s.seq ∧ (convertLive k s).frames = s.frames ∧ (convertLive k s).link = s.link ∧
    (convertLive k s).sound = s.sound ∧ (convertLive k s).log = s.log ∧ (convertLive k s).lines = s.lines ∧
    (convertLive k s).port = s.port ∧ (convertLive k s).freeUses = s.freeUses := by
  unfold convertLive; (repeat' split) <;> simp

@[simp] theorem abandonLoad_frame (k n : Nat) (s : State) :
    (abandonLoad k n s).pending = s.pending ∧ (abandonLoad k n s).startUp = s.startUp ∧
    (abandonLoad k n s).store = s.store ∧ (abandonLoad k n s).nvm = s.nvm ∧
    (abandonLoad k n s).catalogue = s.catalogue ∧ (abandonLoad k n s).queue = s.queue ∧
    (abandonLoad k n s).free = s.free ∧ (abandonLoad k n s).ingest = s.ingest ∧ (abandonLoad k n s).keys = s.keys ∧
    (abandonLoad k n s).seq = s.seq ∧ (abandonLoad k n s).time = s.time ∧ (abandonLoad k n s).frames = s.frames ∧
    (abandonLoad k n s).link = s.link ∧ (abandonLoad k n s).sound = s.sound ∧ (abandonLoad k n s).log = s.log ∧
    (abandonLoad k n s).lines = s.lines ∧ (abandonLoad k n s).port = s.port ∧
    (abandonLoad k n s).notices = s.notices ∧ (abandonLoad k n s).freeUses = s.freeUses := by
  unfold abandonLoad; (repeat' split) <;> simp

@[simp] theorem discardBank_frame (following : Option (Bool × Nat)) (k n : Nat) (s : State) :
    (discardBank following k n s).pending = s.pending ∧ (discardBank following k n s).startUp = s.startUp ∧
    (discardBank following k n s).store = s.store ∧ (discardBank following k n s).nvm = s.nvm ∧
    (discardBank following k n s).catalogue = s.catalogue ∧ (discardBank following k n s).queue = s.queue ∧
    (discardBank following k n s).free = s.free ∧ (discardBank following k n s).ingest = s.ingest ∧
    (discardBank following k n s).keys = s.keys ∧ (discardBank following k n s).seq = s.seq ∧
    (discardBank following k n s).time = s.time ∧ (discardBank following k n s).frames = s.frames ∧
    (discardBank following k n s).link = s.link ∧ (discardBank following k n s).sound = s.sound ∧
    (discardBank following k n s).log = s.log ∧ (discardBank following k n s).lines = s.lines ∧
    (discardBank following k n s).port = s.port ∧ (discardBank following k n s).notices = s.notices ∧
    (discardBank following k n s).freeUses = s.freeUses := by
  simp only [discardBank]; (repeat' split) <;> simp

@[simp] theorem beginBank_frame (prepared : Bool) (reel k : Nat) (s : State) :
    (beginBank prepared reel k s).pending = s.pending ∧ (beginBank prepared reel k s).startUp = s.startUp ∧
    (beginBank prepared reel k s).store = s.store ∧ (beginBank prepared reel k s).nvm = s.nvm ∧
    (beginBank prepared reel k s).catalogue = s.catalogue ∧ (beginBank prepared reel k s).queue = s.queue ∧
    (beginBank prepared reel k s).free = s.free ∧ (beginBank prepared reel k s).ingest = s.ingest ∧
    (beginBank prepared reel k s).arbiter = s.arbiter ∧ (beginBank prepared reel k s).cache = s.cache ∧
    (beginBank prepared reel k s).keys = s.keys ∧ (beginBank prepared reel k s).seq = s.seq ∧
    (beginBank prepared reel k s).time = s.time ∧ (beginBank prepared reel k s).frames = s.frames ∧
    (beginBank prepared reel k s).link = s.link ∧ (beginBank prepared reel k s).sound = s.sound ∧
    (beginBank prepared reel k s).log = s.log ∧ (beginBank prepared reel k s).lines = s.lines ∧
    (beginBank prepared reel k s).port = s.port ∧ (beginBank prepared reel k s).notices = s.notices ∧
    (beginBank prepared reel k s).freeUses = s.freeUses := by
  unfold beginBank; (repeat' split) <;> simp

@[simp] theorem judgeBanks_frame (s : State) :
    (judgeBanks s).pending = s.pending ∧ (judgeBanks s).startUp = s.startUp ∧ (judgeBanks s).store = s.store ∧
    (judgeBanks s).nvm = s.nvm ∧ (judgeBanks s).catalogue = s.catalogue ∧ (judgeBanks s).queue = s.queue ∧
    (judgeBanks s).free = s.free ∧ (judgeBanks s).ingest = s.ingest ∧ (judgeBanks s).keys = s.keys ∧
    (judgeBanks s).seq = s.seq ∧ (judgeBanks s).time = s.time ∧ (judgeBanks s).frames = s.frames ∧
    (judgeBanks s).link = s.link ∧ (judgeBanks s).sound = s.sound ∧ (judgeBanks s).log = s.log ∧
    (judgeBanks s).lines = s.lines ∧ (judgeBanks s).port = s.port ∧ (judgeBanks s).notices = s.notices ∧
    (judgeBanks s).freeUses = s.freeUses := by
  simp only [judgeBanks]; (repeat' split) <;> simp

@[simp] theorem takeOverBanks_frame (s : State) :
    (takeOverBanks s).pending = s.pending ∧ (takeOverBanks s).startUp = s.startUp ∧
    (takeOverBanks s).store = s.store ∧ (takeOverBanks s).nvm = s.nvm ∧ (takeOverBanks s).catalogue = s.catalogue ∧
    (takeOverBanks s).queue = s.queue ∧ (takeOverBanks s).free = s.free ∧ (takeOverBanks s).ingest = s.ingest ∧
    (takeOverBanks s).arbiter = s.arbiter ∧ (takeOverBanks s).cache = s.cache ∧ (takeOverBanks s).keys = s.keys ∧
    (takeOverBanks s).seq = s.seq ∧ (takeOverBanks s).time = s.time ∧ (takeOverBanks s).frames = s.frames ∧
    (takeOverBanks s).link = s.link ∧ (takeOverBanks s).sound = s.sound ∧ (takeOverBanks s).log = s.log ∧
    (takeOverBanks s).lines = s.lines ∧ (takeOverBanks s).port = s.port ∧ (takeOverBanks s).notices = s.notices ∧
    (takeOverBanks s).freeUses = s.freeUses := by
  unfold takeOverBanks; (repeat' split) <;> simp

@[simp] theorem reelStartCaptions_frame (s : State) :
    (reelStartCaptions s).pending = s.pending ∧ (reelStartCaptions s).startUp = s.startUp ∧
    (reelStartCaptions s).store = s.store ∧ (reelStartCaptions s).nvm = s.nvm ∧
    (reelStartCaptions s).catalogue = s.catalogue ∧ (reelStartCaptions s).queue = s.queue ∧
    (reelStartCaptions s).free = s.free ∧ (reelStartCaptions s).ingest = s.ingest ∧
    (reelStartCaptions s).keys = s.keys ∧ (reelStartCaptions s).seq = s.seq ∧
    (reelStartCaptions s).frames = s.frames ∧ (reelStartCaptions s).link = s.link ∧
    (reelStartCaptions s).sound = s.sound ∧ (reelStartCaptions s).log = s.log ∧
    (reelStartCaptions s).lines = s.lines ∧ (reelStartCaptions s).port = s.port ∧
    (reelStartCaptions s).freeUses = s.freeUses := by
  simp only [reelStartCaptions]; (repeat' split) <;> simp

@[simp] theorem dropCaptions_frame (s : State) :
    (dropCaptions s).pending = s.pending ∧ (dropCaptions s).startUp = s.startUp ∧ (dropCaptions s).store = s.store ∧
    (dropCaptions s).nvm = s.nvm ∧ (dropCaptions s).catalogue = s.catalogue ∧ (dropCaptions s).queue = s.queue ∧
    (dropCaptions s).free = s.free ∧ (dropCaptions s).ingest = s.ingest ∧ (dropCaptions s).arbiter = s.arbiter ∧
    (dropCaptions s).cache = s.cache ∧ (dropCaptions s).keys = s.keys ∧ (dropCaptions s).seq = s.seq ∧
    (dropCaptions s).time = s.time ∧ (dropCaptions s).frames = s.frames ∧ (dropCaptions s).link = s.link ∧
    (dropCaptions s).sound = s.sound ∧ (dropCaptions s).log = s.log ∧ (dropCaptions s).lines = s.lines ∧
    (dropCaptions s).port = s.port ∧ (dropCaptions s).notices = s.notices ∧
    (dropCaptions s).freeUses = s.freeUses := by
  unfold dropCaptions; (repeat' split) <;> simp

@[simp] theorem updateBank_frame (k n : Nat) (f : Bank → Bank) (s : State) :
    (updateBank k n f s).pending = s.pending ∧ (updateBank k n f s).startUp = s.startUp ∧
    (updateBank k n f s).store = s.store ∧ (updateBank k n f s).nvm = s.nvm ∧
    (updateBank k n f s).catalogue = s.catalogue ∧ (updateBank k n f s).queue = s.queue ∧
    (updateBank k n f s).free = s.free ∧ (updateBank k n f s).ingest = s.ingest ∧
    (updateBank k n f s).arbiter = s.arbiter ∧ (updateBank k n f s).cache = s.cache ∧
    (updateBank k n f s).keys = s.keys ∧ (updateBank k n f s).seq = s.seq ∧ (updateBank k n f s).time = s.time ∧
    (updateBank k n f s).frames = s.frames ∧ (updateBank k n f s).link = s.link ∧
    (updateBank k n f s).sound = s.sound ∧ (updateBank k n f s).log = s.log ∧ (updateBank k n f s).lines = s.lines ∧
    (updateBank k n f s).port = s.port ∧ (updateBank k n f s).notices = s.notices ∧
    (updateBank k n f s).freeUses = s.freeUses := by
  unfold updateBank; (repeat' split) <;> simp

@[simp] theorem finishLoad_frame (l : Loader) (s : State) :
    (finishLoad l s).pending = s.pending ∧ (finishLoad l s).startUp = s.startUp ∧ (finishLoad l s).store = s.store ∧
    (finishLoad l s).nvm = s.nvm ∧ (finishLoad l s).catalogue = s.catalogue ∧ (finishLoad l s).queue = s.queue ∧
    (finishLoad l s).free = s.free ∧ (finishLoad l s).ingest = s.ingest ∧ (finishLoad l s).arbiter = s.arbiter ∧
    (finishLoad l s).cache = s.cache ∧ (finishLoad l s).keys = s.keys ∧ (finishLoad l s).seq = s.seq ∧
    (finishLoad l s).frames = s.frames ∧ (finishLoad l s).link = s.link ∧ (finishLoad l s).sound = s.sound ∧
    (finishLoad l s).log = s.log ∧ (finishLoad l s).lines = s.lines ∧ (finishLoad l s).port = s.port ∧
    (finishLoad l s).freeUses = s.freeUses := by
  simp only [finishLoad]; (repeat' split) <;> simp

@[simp] theorem failLoad_frame (l : Loader) (s : State) :
    (failLoad l s).pending = s.pending ∧ (failLoad l s).startUp = s.startUp ∧ (failLoad l s).store = s.store ∧
    (failLoad l s).nvm = s.nvm ∧ (failLoad l s).catalogue = s.catalogue ∧ (failLoad l s).queue = s.queue ∧
    (failLoad l s).free = s.free ∧ (failLoad l s).ingest = s.ingest ∧ (failLoad l s).arbiter = s.arbiter ∧
    (failLoad l s).cache = s.cache ∧ (failLoad l s).keys = s.keys ∧ (failLoad l s).seq = s.seq ∧
    (failLoad l s).frames = s.frames ∧ (failLoad l s).link = s.link ∧ (failLoad l s).sound = s.sound ∧
    (failLoad l s).log = s.log ∧ (failLoad l s).lines = s.lines ∧ (failLoad l s).port = s.port ∧
    (failLoad l s).freeUses = s.freeUses := by
  simp only [failLoad]; (repeat' split) <;> simp

@[simp] theorem askSubtitle_frame (l : Loader) (store remaining : Nat) (s : State) :
    (askSubtitle l store remaining s).pending = s.pending ∧ (askSubtitle l store remaining s).startUp = s.startUp ∧
    (askSubtitle l store remaining s).store = s.store ∧ (askSubtitle l store remaining s).nvm = s.nvm ∧
    (askSubtitle l store remaining s).catalogue = s.catalogue ∧ (askSubtitle l store remaining s).queue = s.queue ∧
    (askSubtitle l store remaining s).free = s.free ∧ (askSubtitle l store remaining s).ingest = s.ingest ∧
    (askSubtitle l store remaining s).cache = s.cache ∧ (askSubtitle l store remaining s).keys = s.keys ∧
    (askSubtitle l store remaining s).seq = s.seq ∧ (askSubtitle l store remaining s).time = s.time ∧
    (askSubtitle l store remaining s).frames = s.frames ∧ (askSubtitle l store remaining s).link = s.link ∧
    (askSubtitle l store remaining s).sound = s.sound ∧ (askSubtitle l store remaining s).log = s.log ∧
    (askSubtitle l store remaining s).lines = s.lines ∧ (askSubtitle l store remaining s).port = s.port ∧
    (askSubtitle l store remaining s).notices = s.notices ∧
    (askSubtitle l store remaining s).freeUses = s.freeUses := by
  unfold askSubtitle; (repeat' split) <;> simp

@[simp] theorem lookUpCues_frame (l : Loader) (s : State) :
    (lookUpCues l s).pending = s.pending ∧ (lookUpCues l s).startUp = s.startUp ∧ (lookUpCues l s).store = s.store ∧
    (lookUpCues l s).nvm = s.nvm ∧ (lookUpCues l s).catalogue = s.catalogue ∧ (lookUpCues l s).queue = s.queue ∧
    (lookUpCues l s).free = s.free ∧ (lookUpCues l s).ingest = s.ingest ∧ (lookUpCues l s).keys = s.keys ∧
    (lookUpCues l s).seq = s.seq ∧ (lookUpCues l s).frames = s.frames ∧ (lookUpCues l s).link = s.link ∧
    (lookUpCues l s).sound = s.sound ∧ (lookUpCues l s).log = s.log ∧ (lookUpCues l s).lines = s.lines ∧
    (lookUpCues l s).port = s.port ∧ (lookUpCues l s).freeUses = s.freeUses := by
  unfold lookUpCues; dsimp only
  have hf := lookup_frame .subtitle (if ((loaderBank l s).map (·.prepared)).getD false then .readerPreparation else .lookup) l.track l.block s
  generalize lookup .subtitle (if ((loaderBank l s).map (·.prepared)).getD false then .readerPreparation else .lookup) l.track l.block s = r at hf ⊢
  obtain ⟨a, u⟩ := r
  cases a <;> simp_all

@[simp] theorem beginLoad_frame (s : State) :
    (beginLoad s).pending = s.pending ∧ (beginLoad s).startUp = s.startUp ∧ (beginLoad s).store = s.store ∧
    (beginLoad s).nvm = s.nvm ∧ (beginLoad s).catalogue = s.catalogue ∧ (beginLoad s).queue = s.queue ∧
    (beginLoad s).free = s.free ∧ (beginLoad s).ingest = s.ingest ∧ (beginLoad s).keys = s.keys ∧
    (beginLoad s).seq = s.seq ∧ (beginLoad s).frames = s.frames ∧ (beginLoad s).link = s.link ∧
    (beginLoad s).sound = s.sound ∧ (beginLoad s).log = s.log ∧ (beginLoad s).lines = s.lines ∧
    (beginLoad s).port = s.port ∧ (beginLoad s).freeUses = s.freeUses := by
  simp only [beginLoad]; (repeat' split) <;> simp

@[simp] theorem subtitleAnswer_frame (a : Answer) (s : State) :
    (subtitleAnswer a s).pending = s.pending ∧ (subtitleAnswer a s).startUp = s.startUp ∧
    (subtitleAnswer a s).store = s.store ∧ (subtitleAnswer a s).nvm = s.nvm ∧
    (subtitleAnswer a s).catalogue = s.catalogue ∧ (subtitleAnswer a s).queue = s.queue ∧
    (subtitleAnswer a s).free = s.free ∧ (subtitleAnswer a s).ingest = s.ingest ∧
    (subtitleAnswer a s).keys = s.keys ∧ (subtitleAnswer a s).seq = s.seq ∧ (subtitleAnswer a s).frames = s.frames ∧
    (subtitleAnswer a s).link = s.link ∧ (subtitleAnswer a s).sound = s.sound ∧ (subtitleAnswer a s).log = s.log ∧
    (subtitleAnswer a s).lines = s.lines ∧ (subtitleAnswer a s).port = s.port ∧
    (subtitleAnswer a s).freeUses = s.freeUses := by
  unfold subtitleAnswer; (repeat' split) <;> simp

@[simp] theorem subtitleTransfer_frame (ok : Bool) (t : Transfer) (s : State) :
    (subtitleTransfer ok t s).pending = s.pending ∧ (subtitleTransfer ok t s).startUp = s.startUp ∧
    (subtitleTransfer ok t s).store = s.store ∧ (subtitleTransfer ok t s).nvm = s.nvm ∧
    (subtitleTransfer ok t s).catalogue = s.catalogue ∧ (subtitleTransfer ok t s).queue = s.queue ∧
    (subtitleTransfer ok t s).free = s.free ∧ (subtitleTransfer ok t s).ingest = s.ingest ∧
    (subtitleTransfer ok t s).keys = s.keys ∧ (subtitleTransfer ok t s).seq = s.seq ∧
    (subtitleTransfer ok t s).frames = s.frames ∧ (subtitleTransfer ok t s).link = s.link ∧
    (subtitleTransfer ok t s).sound = s.sound ∧ (subtitleTransfer ok t s).log = s.log ∧
    (subtitleTransfer ok t s).lines = s.lines ∧ (subtitleTransfer ok t s).port = s.port ∧
    (subtitleTransfer ok t s).freeUses = s.freeUses := by
  simp only [subtitleTransfer]; (repeat' split) <;> simp

/-! ### Fills -/

@[simp] theorem readerAnswer_frame (r : Reader) (a : Answer) (s : State) :
    (readerAnswer r a s).pending = s.pending ∧ (readerAnswer r a s).startUp = s.startUp ∧
    (readerAnswer r a s).store = s.store ∧ (readerAnswer r a s).nvm = s.nvm ∧
    (readerAnswer r a s).catalogue = s.catalogue ∧ (readerAnswer r a s).queue = s.queue ∧
    (readerAnswer r a s).free = s.free ∧ (readerAnswer r a s).ingest = s.ingest ∧
    (readerAnswer r a s).keys = s.keys ∧ (readerAnswer r a s).seq = s.seq ∧ (readerAnswer r a s).link = s.link ∧
    (readerAnswer r a s).log = s.log ∧ (readerAnswer r a s).lines = s.lines ∧ (readerAnswer r a s).port = s.port ∧
    (readerAnswer r a s).freeUses = s.freeUses := by
  unfold readerAnswer; (repeat' split) <;> simp

@[simp] theorem answerAll_frame (a : Answer) (asks : List Ask) (s : State) :
    (answerAll a asks s).pending = s.pending ∧ (answerAll a asks s).startUp = s.startUp ∧
    (answerAll a asks s).store = s.store ∧ (answerAll a asks s).nvm = s.nvm ∧
    (answerAll a asks s).catalogue = s.catalogue ∧ (answerAll a asks s).queue = s.queue ∧
    (answerAll a asks s).free = s.free ∧ (answerAll a asks s).ingest = s.ingest ∧
    (answerAll a asks s).keys = s.keys ∧ (answerAll a asks s).seq = s.seq ∧ (answerAll a asks s).link = s.link ∧
    (answerAll a asks s).log = s.log ∧ (answerAll a asks s).lines = s.lines ∧ (answerAll a asks s).port = s.port ∧
    (answerAll a asks s).freeUses = s.freeUses := by
  simp [answerAll, apply_ite State.pending, apply_ite State.startUp, apply_ite State.store, apply_ite State.nvm,
    apply_ite State.catalogue, apply_ite State.queue, apply_ite State.free, apply_ite State.ingest,
    apply_ite State.keys, apply_ite State.seq, apply_ite State.link, apply_ite State.log, apply_ite State.lines,
    apply_ite State.port, apply_ite State.freeUses]

@[simp] theorem loadExtents_frame (track : Nat) (l : List (Nat × Extent)) (s : State) :
    (loadExtents track l s).pending = s.pending ∧ (loadExtents track l s).startUp = s.startUp ∧
    (loadExtents track l s).store = s.store ∧ (loadExtents track l s).nvm = s.nvm ∧
    (loadExtents track l s).catalogue = s.catalogue ∧ (loadExtents track l s).queue = s.queue ∧
    (loadExtents track l s).free = s.free ∧ (loadExtents track l s).ingest = s.ingest ∧
    (loadExtents track l s).arbiter = s.arbiter ∧ (loadExtents track l s).keys = s.keys ∧
    (loadExtents track l s).seq = s.seq ∧ (loadExtents track l s).time = s.time ∧
    (loadExtents track l s).frames = s.frames ∧ (loadExtents track l s).link = s.link ∧
    (loadExtents track l s).sound = s.sound ∧ (loadExtents track l s).subs = s.subs ∧
    (loadExtents track l s).log = s.log ∧ (loadExtents track l s).lines = s.lines ∧
    (loadExtents track l s).port = s.port ∧ (loadExtents track l s).notices = s.notices ∧
    (loadExtents track l s).freeUses = s.freeUses := by
  unfold loadExtents; (repeat' split) <;> simp

@[simp] theorem answerFromMap_frame (track : Nat) (extents : List Extent) (q : Ask) (s : State) :
    (answerFromMap track extents q s).pending = s.pending ∧ (answerFromMap track extents q s).startUp = s.startUp ∧
    (answerFromMap track extents q s).store = s.store ∧ (answerFromMap track extents q s).nvm = s.nvm ∧
    (answerFromMap track extents q s).catalogue = s.catalogue ∧ (answerFromMap track extents q s).queue = s.queue ∧
    (answerFromMap track extents q s).free = s.free ∧ (answerFromMap track extents q s).ingest = s.ingest ∧
    (answerFromMap track extents q s).keys = s.keys ∧ (answerFromMap track extents q s).seq = s.seq ∧
    (answerFromMap track extents q s).link = s.link ∧ (answerFromMap track extents q s).log = s.log ∧
    (answerFromMap track extents q s).lines = s.lines ∧ (answerFromMap track extents q s).port = s.port ∧
    (answerFromMap track extents q s).freeUses = s.freeUses := by
  unfold answerFromMap; (repeat' split) <;> simp

@[simp] theorem completeFill_frame (ok : Bool) (s : State) :
    (completeFill ok s).pending = s.pending ∧ (completeFill ok s).startUp = s.startUp ∧
    (completeFill ok s).store = s.store ∧ (completeFill ok s).nvm = s.nvm ∧
    (completeFill ok s).catalogue = s.catalogue ∧ (completeFill ok s).queue = s.queue ∧
    (completeFill ok s).free = s.free ∧ (completeFill ok s).ingest = s.ingest ∧ (completeFill ok s).keys = s.keys ∧
    (completeFill ok s).seq = s.seq ∧ (completeFill ok s).link = s.link ∧ (completeFill ok s).log = s.log ∧
    (completeFill ok s).lines = s.lines ∧ (completeFill ok s).port = s.port ∧
    (completeFill ok s).freeUses = s.freeUses := by
  simp only [completeFill]; (repeat' split) <;> simp

@[simp] theorem flushTrack_frame (track : Nat) (s : State) :
    (flushTrack track s).pending = s.pending ∧ (flushTrack track s).startUp = s.startUp ∧
    (flushTrack track s).store = s.store ∧ (flushTrack track s).nvm = s.nvm ∧
    (flushTrack track s).catalogue = s.catalogue ∧ (flushTrack track s).queue = s.queue ∧
    (flushTrack track s).free = s.free ∧ (flushTrack track s).ingest = s.ingest ∧
    (flushTrack track s).keys = s.keys ∧ (flushTrack track s).seq = s.seq ∧ (flushTrack track s).link = s.link ∧
    (flushTrack track s).log = s.log ∧ (flushTrack track s).lines = s.lines ∧ (flushTrack track s).port = s.port ∧
    (flushTrack track s).freeUses = s.freeUses := by
  unfold flushTrack; (repeat' split) <;> simp

/-! ### FreeSpace -/

@[simp] theorem setFreeList_frame (l : List Run) (s : State) :
    (setFreeList l s).pending = s.pending ∧ (setFreeList l s).startUp = s.startUp ∧
    (setFreeList l s).store = s.store ∧ (setFreeList l s).nvm = s.nvm ∧ (setFreeList l s).catalogue = s.catalogue ∧
    (setFreeList l s).queue = s.queue ∧ (setFreeList l s).ingest = s.ingest ∧
    (setFreeList l s).arbiter = s.arbiter ∧ (setFreeList l s).cache = s.cache ∧ (setFreeList l s).keys = s.keys ∧
    (setFreeList l s).seq = s.seq ∧ (setFreeList l s).time = s.time ∧ (setFreeList l s).frames = s.frames ∧
    (setFreeList l s).link = s.link ∧ (setFreeList l s).sound = s.sound ∧ (setFreeList l s).subs = s.subs ∧
    (setFreeList l s).log = s.log ∧ (setFreeList l s).lines = s.lines ∧ (setFreeList l s).port = s.port ∧
    (setFreeList l s).notices = s.notices ∧ (setFreeList l s).freeUses = s.freeUses := by
  unfold setFreeList; (repeat' split) <;> simp

@[simp] theorem takeAllocation_frame (left : List Run) (s : State) :
    (takeAllocation left s).pending = s.pending ∧ (takeAllocation left s).startUp = s.startUp ∧
    (takeAllocation left s).store = s.store ∧ (takeAllocation left s).nvm = s.nvm ∧
    (takeAllocation left s).catalogue = s.catalogue ∧ (takeAllocation left s).queue = s.queue ∧
    (takeAllocation left s).ingest = s.ingest ∧ (takeAllocation left s).arbiter = s.arbiter ∧
    (takeAllocation left s).cache = s.cache ∧ (takeAllocation left s).keys = s.keys ∧
    (takeAllocation left s).seq = s.seq ∧ (takeAllocation left s).time = s.time ∧
    (takeAllocation left s).frames = s.frames ∧ (takeAllocation left s).link = s.link ∧
    (takeAllocation left s).sound = s.sound ∧ (takeAllocation left s).subs = s.subs ∧
    (takeAllocation left s).log = s.log ∧ (takeAllocation left s).lines = s.lines ∧
    (takeAllocation left s).port = s.port ∧ (takeAllocation left s).freeUses = s.freeUses := by
  simp only [takeAllocation]; (repeat' split) <;> simp

@[simp] theorem raiseStranded_frame (blocks : Nat) (first : Option Nat) (s : State) :
    (raiseStranded blocks first s).pending = s.pending ∧ (raiseStranded blocks first s).startUp = s.startUp ∧
    (raiseStranded blocks first s).store = s.store ∧ (raiseStranded blocks first s).nvm = s.nvm ∧
    (raiseStranded blocks first s).catalogue = s.catalogue ∧ (raiseStranded blocks first s).queue = s.queue ∧
    (raiseStranded blocks first s).free = s.free ∧ (raiseStranded blocks first s).ingest = s.ingest ∧
    (raiseStranded blocks first s).arbiter = s.arbiter ∧ (raiseStranded blocks first s).cache = s.cache ∧
    (raiseStranded blocks first s).keys = s.keys ∧ (raiseStranded blocks first s).seq = s.seq ∧
    (raiseStranded blocks first s).time = s.time ∧ (raiseStranded blocks first s).frames = s.frames ∧
    (raiseStranded blocks first s).link = s.link ∧ (raiseStranded blocks first s).sound = s.sound ∧
    (raiseStranded blocks first s).subs = s.subs ∧ (raiseStranded blocks first s).log = s.log ∧
    (raiseStranded blocks first s).lines = s.lines ∧ (raiseStranded blocks first s).port = s.port ∧
    (raiseStranded blocks first s).freeUses = s.freeUses := by
  unfold raiseStranded; (repeat' split) <;> simp

@[simp] theorem raiseIfLow_frame (s : State) :
    (raiseIfLow s).pending = s.pending ∧ (raiseIfLow s).startUp = s.startUp ∧
    (raiseIfLow s).store = s.store ∧ (raiseIfLow s).nvm = s.nvm ∧
    (raiseIfLow s).catalogue = s.catalogue ∧ (raiseIfLow s).queue = s.queue ∧
    (raiseIfLow s).free = s.free ∧ (raiseIfLow s).ingest = s.ingest ∧
    (raiseIfLow s).arbiter = s.arbiter ∧ (raiseIfLow s).cache = s.cache ∧
    (raiseIfLow s).keys = s.keys ∧ (raiseIfLow s).seq = s.seq ∧
    (raiseIfLow s).time = s.time ∧ (raiseIfLow s).frames = s.frames ∧
    (raiseIfLow s).link = s.link ∧ (raiseIfLow s).sound = s.sound ∧
    (raiseIfLow s).subs = s.subs ∧ (raiseIfLow s).log = s.log ∧
    (raiseIfLow s).lines = s.lines ∧ (raiseIfLow s).port = s.port ∧
    (raiseIfLow s).freeUses = s.freeUses := by
  simp only [raiseIfLow]; (repeat' split) <;> simp

@[simp] theorem releaseRun_frame (r : Run) (s : State) :
    (releaseRun r s).pending = s.pending ∧ (releaseRun r s).startUp = s.startUp ∧ (releaseRun r s).store = s.store ∧
    (releaseRun r s).nvm = s.nvm ∧ (releaseRun r s).catalogue = s.catalogue ∧ (releaseRun r s).queue = s.queue ∧
    (releaseRun r s).ingest = s.ingest ∧ (releaseRun r s).arbiter = s.arbiter ∧ (releaseRun r s).cache = s.cache ∧
    (releaseRun r s).keys = s.keys ∧ (releaseRun r s).seq = s.seq ∧ (releaseRun r s).time = s.time ∧
    (releaseRun r s).frames = s.frames ∧ (releaseRun r s).link = s.link ∧ (releaseRun r s).sound = s.sound ∧
    (releaseRun r s).subs = s.subs ∧ (releaseRun r s).log = s.log ∧ (releaseRun r s).lines = s.lines ∧
    (releaseRun r s).port = s.port ∧ (releaseRun r s).freeUses = s.freeUses := by
  simp only [releaseRun]; (repeat' split) <;> simp

@[simp] theorem releaseTrack_frame (id : Nat) (s : State) :
    (releaseTrack id s).pending = s.pending ∧ (releaseTrack id s).startUp = s.startUp ∧
    (releaseTrack id s).store = s.store ∧ (releaseTrack id s).nvm = s.nvm ∧ (releaseTrack id s).queue = s.queue ∧
    (releaseTrack id s).ingest = s.ingest ∧ (releaseTrack id s).arbiter = s.arbiter ∧
    (releaseTrack id s).cache = s.cache ∧ (releaseTrack id s).keys = s.keys ∧ (releaseTrack id s).seq = s.seq ∧
    (releaseTrack id s).time = s.time ∧ (releaseTrack id s).frames = s.frames ∧ (releaseTrack id s).link = s.link ∧
    (releaseTrack id s).sound = s.sound ∧ (releaseTrack id s).subs = s.subs ∧ (releaseTrack id s).log = s.log ∧
    (releaseTrack id s).lines = s.lines ∧ (releaseTrack id s).port = s.port ∧
    (releaseTrack id s).freeUses = s.freeUses := by
  simp only [releaseTrack]; (repeat' split) <;> simp

@[simp] theorem askSweep_frame (track : Nat) (s : State) :
    (askSweep track s).pending = s.pending ∧ (askSweep track s).startUp = s.startUp ∧
    (askSweep track s).store = s.store ∧ (askSweep track s).nvm = s.nvm ∧
    (askSweep track s).catalogue = s.catalogue ∧ (askSweep track s).queue = s.queue ∧
    (askSweep track s).free = s.free ∧ (askSweep track s).ingest = s.ingest ∧ (askSweep track s).cache = s.cache ∧
    (askSweep track s).keys = s.keys ∧ (askSweep track s).seq = s.seq ∧ (askSweep track s).time = s.time ∧
    (askSweep track s).frames = s.frames ∧ (askSweep track s).link = s.link ∧ (askSweep track s).sound = s.sound ∧
    (askSweep track s).subs = s.subs ∧ (askSweep track s).log = s.log ∧ (askSweep track s).lines = s.lines ∧
    (askSweep track s).port = s.port ∧ (askSweep track s).notices = s.notices ∧
    (askSweep track s).freeUses = s.freeUses := by
  unfold askSweep; (repeat' split) <;> simp

@[simp] theorem endSweep_frame (sw : Sweep) (s : State) :
    (endSweep sw s).pending = s.pending ∧ (endSweep sw s).store = s.store ∧ (endSweep sw s).nvm = s.nvm ∧
    (endSweep sw s).queue = s.queue ∧ (endSweep sw s).ingest = s.ingest ∧ (endSweep sw s).arbiter = s.arbiter ∧
    (endSweep sw s).cache = s.cache ∧ (endSweep sw s).keys = s.keys ∧ (endSweep sw s).seq = s.seq ∧
    (endSweep sw s).time = s.time ∧ (endSweep sw s).frames = s.frames ∧ (endSweep sw s).link = s.link ∧
    (endSweep sw s).sound = s.sound ∧ (endSweep sw s).subs = s.subs ∧ (endSweep sw s).log = s.log ∧
    (endSweep sw s).lines = s.lines ∧ (endSweep sw s).port = s.port ∧ (endSweep sw s).freeUses = s.freeUses := by
  simp only [endSweep]; (repeat' split) <;> simp

@[simp] theorem beginSweep_frame (kind : SweepKind) (s : State) :
    (beginSweep kind s).pending = s.pending ∧ (beginSweep kind s).store = s.store ∧
    (beginSweep kind s).nvm = s.nvm ∧ (beginSweep kind s).queue = s.queue ∧ (beginSweep kind s).ingest = s.ingest ∧
    (beginSweep kind s).cache = s.cache ∧ (beginSweep kind s).keys = s.keys ∧ (beginSweep kind s).seq = s.seq ∧
    (beginSweep kind s).time = s.time ∧ (beginSweep kind s).frames = s.frames ∧ (beginSweep kind s).link = s.link ∧
    (beginSweep kind s).sound = s.sound ∧ (beginSweep kind s).subs = s.subs ∧ (beginSweep kind s).log = s.log ∧
    (beginSweep kind s).lines = s.lines ∧ (beginSweep kind s).port = s.port ∧
    (beginSweep kind s).freeUses = s.freeUses := by
  simp only [beginSweep]; (repeat' split) <;> simp

@[simp] theorem sweepRead_frame (ok : Bool) (s : State) :
    (sweepRead ok s).pending = s.pending ∧ (sweepRead ok s).store = s.store ∧ (sweepRead ok s).nvm = s.nvm ∧
    (sweepRead ok s).queue = s.queue ∧ (sweepRead ok s).ingest = s.ingest ∧ (sweepRead ok s).cache = s.cache ∧
    (sweepRead ok s).keys = s.keys ∧ (sweepRead ok s).seq = s.seq ∧ (sweepRead ok s).time = s.time ∧
    (sweepRead ok s).frames = s.frames ∧ (sweepRead ok s).link = s.link ∧ (sweepRead ok s).sound = s.sound ∧
    (sweepRead ok s).subs = s.subs ∧ (sweepRead ok s).log = s.log ∧ (sweepRead ok s).lines = s.lines ∧
    (sweepRead ok s).port = s.port ∧ (sweepRead ok s).freeUses = s.freeUses := by
  unfold sweepRead; (repeat' split) <;> simp

/-! ### Catalogue -/

@[simp] theorem whenRoom_pending {turn : Bool} {command : Instr} {act : State → State} {s : State}
    (h : ∀ u, (act u).pending = u.pending) :
    (whenRoom turn command act s).pending = s.pending := by
  unfold whenRoom; split <;> simp [h]

@[simp] theorem whenRoom_startUp {turn : Bool} {command : Instr} {act : State → State} {s : State}
    (h : ∀ u, (act u).startUp = u.startUp) :
    (whenRoom turn command act s).startUp = s.startUp := by
  unfold whenRoom; split <;> simp [h]

@[simp] theorem whenRoom_store {turn : Bool} {command : Instr} {act : State → State} {s : State}
    (h : ∀ u, (act u).store = u.store) :
    (whenRoom turn command act s).store = s.store := by
  unfold whenRoom; split <;> simp [h]

@[simp] theorem whenRoom_nvm {turn : Bool} {command : Instr} {act : State → State} {s : State}
    (h : ∀ u, (act u).nvm = u.nvm) :
    (whenRoom turn command act s).nvm = s.nvm := by
  unfold whenRoom; split <;> simp [h]

@[simp] theorem whenRoom_catalogue {turn : Bool} {command : Instr} {act : State → State} {s : State}
    (h : ∀ u, (act u).catalogue = u.catalogue) :
    (whenRoom turn command act s).catalogue = s.catalogue := by
  unfold whenRoom; split <;> simp [h]

@[simp] theorem whenRoom_free {turn : Bool} {command : Instr} {act : State → State} {s : State}
    (h : ∀ u, (act u).free = u.free) :
    (whenRoom turn command act s).free = s.free := by
  unfold whenRoom; split <;> simp [h]

@[simp] theorem whenRoom_ingest {turn : Bool} {command : Instr} {act : State → State} {s : State}
    (h : ∀ u, (act u).ingest = u.ingest) :
    (whenRoom turn command act s).ingest = s.ingest := by
  unfold whenRoom; split <;> simp [h]

@[simp] theorem whenRoom_arbiter {turn : Bool} {command : Instr} {act : State → State} {s : State}
    (h : ∀ u, (act u).arbiter = u.arbiter) :
    (whenRoom turn command act s).arbiter = s.arbiter := by
  unfold whenRoom; split <;> simp [h]

@[simp] theorem whenRoom_cache {turn : Bool} {command : Instr} {act : State → State} {s : State}
    (h : ∀ u, (act u).cache = u.cache) :
    (whenRoom turn command act s).cache = s.cache := by
  unfold whenRoom; split <;> simp [h]

@[simp] theorem whenRoom_keys {turn : Bool} {command : Instr} {act : State → State} {s : State}
    (h : ∀ u, (act u).keys = u.keys) :
    (whenRoom turn command act s).keys = s.keys := by
  unfold whenRoom; split <;> simp [h]

@[simp] theorem whenRoom_seq {turn : Bool} {command : Instr} {act : State → State} {s : State}
    (h : ∀ u, (act u).seq = u.seq) :
    (whenRoom turn command act s).seq = s.seq := by
  unfold whenRoom; split <;> simp [h]

@[simp] theorem whenRoom_time {turn : Bool} {command : Instr} {act : State → State} {s : State}
    (h : ∀ u, (act u).time = u.time) :
    (whenRoom turn command act s).time = s.time := by
  unfold whenRoom; split <;> simp [h]

@[simp] theorem whenRoom_frames {turn : Bool} {command : Instr} {act : State → State} {s : State}
    (h : ∀ u, (act u).frames = u.frames) :
    (whenRoom turn command act s).frames = s.frames := by
  unfold whenRoom; split <;> simp [h]

@[simp] theorem whenRoom_link {turn : Bool} {command : Instr} {act : State → State} {s : State}
    (h : ∀ u, (act u).link = u.link) :
    (whenRoom turn command act s).link = s.link := by
  unfold whenRoom; split <;> simp [h]

@[simp] theorem whenRoom_sound {turn : Bool} {command : Instr} {act : State → State} {s : State}
    (h : ∀ u, (act u).sound = u.sound) :
    (whenRoom turn command act s).sound = s.sound := by
  unfold whenRoom; split <;> simp [h]

@[simp] theorem whenRoom_subs {turn : Bool} {command : Instr} {act : State → State} {s : State}
    (h : ∀ u, (act u).subs = u.subs) :
    (whenRoom turn command act s).subs = s.subs := by
  unfold whenRoom; split <;> simp [h]

@[simp] theorem whenRoom_log {turn : Bool} {command : Instr} {act : State → State} {s : State}
    (h : ∀ u, (act u).log = u.log) :
    (whenRoom turn command act s).log = s.log := by
  unfold whenRoom; split <;> simp [h]

@[simp] theorem whenRoom_lines {turn : Bool} {command : Instr} {act : State → State} {s : State}
    (h : ∀ u, (act u).lines = u.lines) :
    (whenRoom turn command act s).lines = s.lines := by
  unfold whenRoom; split <;> simp [h]

@[simp] theorem whenRoom_port {turn : Bool} {command : Instr} {act : State → State} {s : State}
    (h : ∀ u, (act u).port = u.port) :
    (whenRoom turn command act s).port = s.port := by
  unfold whenRoom; split <;> simp [h]

@[simp] theorem whenRoom_notices {turn : Bool} {command : Instr} {act : State → State} {s : State}
    (h : ∀ u, (act u).notices = u.notices) :
    (whenRoom turn command act s).notices = s.notices := by
  unfold whenRoom; split <;> simp [h]

@[simp] theorem whenRoom_freeUses {turn : Bool} {command : Instr} {act : State → State} {s : State}
    (h : ∀ u, (act u).freeUses = u.freeUses) :
    (whenRoom turn command act s).freeUses = s.freeUses := by
  unfold whenRoom; split <;> simp [h]

@[simp] theorem serveTrackList_frame (frame : Frame) (first : Nat) (state : Option Nat) (s : State) :
    (serveTrackList frame first state s).pending = s.pending ∧
    (serveTrackList frame first state s).startUp = s.startUp ∧
    (serveTrackList frame first state s).store = s.store ∧ (serveTrackList frame first state s).nvm = s.nvm ∧
    (serveTrackList frame first state s).catalogue = s.catalogue ∧
    (serveTrackList frame first state s).queue = s.queue ∧ (serveTrackList frame first state s).free = s.free ∧
    (serveTrackList frame first state s).ingest = s.ingest ∧
    (serveTrackList frame first state s).arbiter = s.arbiter ∧
    (serveTrackList frame first state s).cache = s.cache ∧ (serveTrackList frame first state s).keys = s.keys ∧
    (serveTrackList frame first state s).seq = s.seq ∧ (serveTrackList frame first state s).time = s.time ∧
    (serveTrackList frame first state s).frames = s.frames ∧ (serveTrackList frame first state s).link = s.link ∧
    (serveTrackList frame first state s).sound = s.sound ∧ (serveTrackList frame first state s).subs = s.subs ∧
    (serveTrackList frame first state s).log = s.log ∧ (serveTrackList frame first state s).lines = s.lines ∧
    (serveTrackList frame first state s).notices = s.notices ∧
    (serveTrackList frame first state s).freeUses = s.freeUses := by
  unfold serveTrackList; (repeat' split) <;> simp

@[simp] theorem deleteTrack_frame (track : Nat) (s : State) :
    (deleteTrack track s).pending = s.pending ∧ (deleteTrack track s).startUp = s.startUp ∧
    (deleteTrack track s).store = s.store ∧ (deleteTrack track s).nvm = s.nvm ∧
    (deleteTrack track s).ingest = s.ingest ∧ (deleteTrack track s).keys = s.keys ∧
    (deleteTrack track s).seq = s.seq ∧ (deleteTrack track s).link = s.link ∧ (deleteTrack track s).log = s.log ∧
    (deleteTrack track s).lines = s.lines ∧ (deleteTrack track s).port = s.port ∧
    (deleteTrack track s).freeUses = s.freeUses := by
  unfold deleteTrack; (repeat' split) <;> simp

@[simp] theorem serveTrackDelete_frame (turn : Bool) (frame : Frame) (track : Nat) (s : State) :
    (serveTrackDelete turn frame track s).pending = s.pending ∧
    (serveTrackDelete turn frame track s).startUp = s.startUp ∧
    (serveTrackDelete turn frame track s).store = s.store ∧ (serveTrackDelete turn frame track s).nvm = s.nvm ∧
    (serveTrackDelete turn frame track s).ingest = s.ingest ∧ (serveTrackDelete turn frame track s).keys = s.keys ∧
    (serveTrackDelete turn frame track s).seq = s.seq ∧ (serveTrackDelete turn frame track s).link = s.link ∧
    (serveTrackDelete turn frame track s).log = s.log ∧ (serveTrackDelete turn frame track s).lines = s.lines ∧
    (serveTrackDelete turn frame track s).freeUses = s.freeUses := by
  simp only [serveTrackDelete]; (repeat' split) <;> simp

@[simp] theorem serveCompositionList_frame (frame : Frame) (first : Nat) (s : State) :
    (serveCompositionList frame first s).pending = s.pending ∧
    (serveCompositionList frame first s).startUp = s.startUp ∧
    (serveCompositionList frame first s).store = s.store ∧ (serveCompositionList frame first s).nvm = s.nvm ∧
    (serveCompositionList frame first s).catalogue = s.catalogue ∧
    (serveCompositionList frame first s).queue = s.queue ∧ (serveCompositionList frame first s).free = s.free ∧
    (serveCompositionList frame first s).ingest = s.ingest ∧
    (serveCompositionList frame first s).arbiter = s.arbiter ∧
    (serveCompositionList frame first s).cache = s.cache ∧ (serveCompositionList frame first s).keys = s.keys ∧
    (serveCompositionList frame first s).seq = s.seq ∧ (serveCompositionList frame first s).time = s.time ∧
    (serveCompositionList frame first s).frames = s.frames ∧ (serveCompositionList frame first s).link = s.link ∧
    (serveCompositionList frame first s).sound = s.sound ∧ (serveCompositionList frame first s).subs = s.subs ∧
    (serveCompositionList frame first s).log = s.log ∧ (serveCompositionList frame first s).lines = s.lines ∧
    (serveCompositionList frame first s).notices = s.notices ∧
    (serveCompositionList frame first s).freeUses = s.freeUses := by
  unfold serveCompositionList; (repeat' split) <;> simp

@[simp] theorem serveCompositionRead_frame (frame : Frame) (composition : Nat) (s : State) :
    (serveCompositionRead frame composition s).pending = s.pending ∧
    (serveCompositionRead frame composition s).startUp = s.startUp ∧
    (serveCompositionRead frame composition s).store = s.store ∧
    (serveCompositionRead frame composition s).nvm = s.nvm ∧
    (serveCompositionRead frame composition s).catalogue = s.catalogue ∧
    (serveCompositionRead frame composition s).queue = s.queue ∧
    (serveCompositionRead frame composition s).free = s.free ∧
    (serveCompositionRead frame composition s).ingest = s.ingest ∧
    (serveCompositionRead frame composition s).arbiter = s.arbiter ∧
    (serveCompositionRead frame composition s).cache = s.cache ∧
    (serveCompositionRead frame composition s).keys = s.keys ∧
    (serveCompositionRead frame composition s).seq = s.seq ∧
    (serveCompositionRead frame composition s).time = s.time ∧
    (serveCompositionRead frame composition s).frames = s.frames ∧
    (serveCompositionRead frame composition s).link = s.link ∧
    (serveCompositionRead frame composition s).sound = s.sound ∧
    (serveCompositionRead frame composition s).subs = s.subs ∧
    (serveCompositionRead frame composition s).log = s.log ∧
    (serveCompositionRead frame composition s).lines = s.lines ∧
    (serveCompositionRead frame composition s).notices = s.notices ∧
    (serveCompositionRead frame composition s).freeUses = s.freeUses := by
  unfold serveCompositionRead; (repeat' split) <;> simp

@[simp] theorem serveCompositionDelete_frame (turn : Bool) (frame : Frame) (composition : Nat) (s : State) :
    (serveCompositionDelete turn frame composition s).pending = s.pending ∧
    (serveCompositionDelete turn frame composition s).startUp = s.startUp ∧
    (serveCompositionDelete turn frame composition s).store = s.store ∧
    (serveCompositionDelete turn frame composition s).nvm = s.nvm ∧
    (serveCompositionDelete turn frame composition s).free = s.free ∧
    (serveCompositionDelete turn frame composition s).ingest = s.ingest ∧
    (serveCompositionDelete turn frame composition s).arbiter = s.arbiter ∧
    (serveCompositionDelete turn frame composition s).cache = s.cache ∧
    (serveCompositionDelete turn frame composition s).keys = s.keys ∧
    (serveCompositionDelete turn frame composition s).seq = s.seq ∧
    (serveCompositionDelete turn frame composition s).time = s.time ∧
    (serveCompositionDelete turn frame composition s).frames = s.frames ∧
    (serveCompositionDelete turn frame composition s).link = s.link ∧
    (serveCompositionDelete turn frame composition s).sound = s.sound ∧
    (serveCompositionDelete turn frame composition s).subs = s.subs ∧
    (serveCompositionDelete turn frame composition s).log = s.log ∧
    (serveCompositionDelete turn frame composition s).lines = s.lines ∧
    (serveCompositionDelete turn frame composition s).freeUses = s.freeUses := by
  simp only [serveCompositionDelete]; (repeat' split) <;> simp

@[simp] theorem serveStoreStatus_frame (frame : Frame) (s : State) :
    (serveStoreStatus frame s).pending = s.pending ∧ (serveStoreStatus frame s).startUp = s.startUp ∧
    (serveStoreStatus frame s).store = s.store ∧ (serveStoreStatus frame s).nvm = s.nvm ∧
    (serveStoreStatus frame s).catalogue = s.catalogue ∧ (serveStoreStatus frame s).queue = s.queue ∧
    (serveStoreStatus frame s).free = s.free ∧ (serveStoreStatus frame s).ingest = s.ingest ∧
    (serveStoreStatus frame s).arbiter = s.arbiter ∧ (serveStoreStatus frame s).cache = s.cache ∧
    (serveStoreStatus frame s).keys = s.keys ∧ (serveStoreStatus frame s).seq = s.seq ∧
    (serveStoreStatus frame s).time = s.time ∧ (serveStoreStatus frame s).frames = s.frames ∧
    (serveStoreStatus frame s).link = s.link ∧ (serveStoreStatus frame s).sound = s.sound ∧
    (serveStoreStatus frame s).subs = s.subs ∧ (serveStoreStatus frame s).log = s.log ∧
    (serveStoreStatus frame s).lines = s.lines ∧ (serveStoreStatus frame s).notices = s.notices ∧
    (serveStoreStatus frame s).freeUses = s.freeUses := by
  unfold serveStoreStatus; (repeat' split) <;> simp

@[simp] theorem serveStoreSweep_frame (frame : Frame) (s : State) :
    (serveStoreSweep frame s).pending = s.pending ∧ (serveStoreSweep frame s).store = s.store ∧
    (serveStoreSweep frame s).nvm = s.nvm ∧ (serveStoreSweep frame s).queue = s.queue ∧
    (serveStoreSweep frame s).ingest = s.ingest ∧ (serveStoreSweep frame s).cache = s.cache ∧
    (serveStoreSweep frame s).keys = s.keys ∧ (serveStoreSweep frame s).seq = s.seq ∧
    (serveStoreSweep frame s).time = s.time ∧ (serveStoreSweep frame s).frames = s.frames ∧
    (serveStoreSweep frame s).link = s.link ∧ (serveStoreSweep frame s).sound = s.sound ∧
    (serveStoreSweep frame s).subs = s.subs ∧ (serveStoreSweep frame s).log = s.log ∧
    (serveStoreSweep frame s).lines = s.lines ∧ (serveStoreSweep frame s).freeUses = s.freeUses := by
  unfold serveStoreSweep; (repeat' split) <;> simp

/-! ### Ingest -/

@[simp] theorem updateIngest_frame (f : Ingest → Ingest) (s : State) :
    (updateIngest f s).pending = s.pending ∧ (updateIngest f s).startUp = s.startUp ∧
    (updateIngest f s).store = s.store ∧ (updateIngest f s).nvm = s.nvm ∧
    (updateIngest f s).catalogue = s.catalogue ∧ (updateIngest f s).queue = s.queue ∧
    (updateIngest f s).free = s.free ∧ (updateIngest f s).arbiter = s.arbiter ∧ (updateIngest f s).cache = s.cache ∧
    (updateIngest f s).keys = s.keys ∧ (updateIngest f s).seq = s.seq ∧ (updateIngest f s).time = s.time ∧
    (updateIngest f s).frames = s.frames ∧ (updateIngest f s).link = s.link ∧ (updateIngest f s).sound = s.sound ∧
    (updateIngest f s).subs = s.subs ∧ (updateIngest f s).log = s.log ∧ (updateIngest f s).lines = s.lines ∧
    (updateIngest f s).port = s.port ∧ (updateIngest f s).notices = s.notices ∧
    (updateIngest f s).freeUses = s.freeUses := by
  unfold updateIngest; (repeat' split) <;> simp

@[simp] theorem countIngest_frame (f : PackageCounters → PackageCounters) (s : State) :
    (countIngest f s).pending = s.pending ∧ (countIngest f s).startUp = s.startUp ∧
    (countIngest f s).store = s.store ∧ (countIngest f s).nvm = s.nvm ∧ (countIngest f s).catalogue = s.catalogue ∧
    (countIngest f s).queue = s.queue ∧ (countIngest f s).free = s.free ∧ (countIngest f s).arbiter = s.arbiter ∧
    (countIngest f s).cache = s.cache ∧ (countIngest f s).keys = s.keys ∧ (countIngest f s).seq = s.seq ∧
    (countIngest f s).time = s.time ∧ (countIngest f s).frames = s.frames ∧ (countIngest f s).link = s.link ∧
    (countIngest f s).sound = s.sound ∧ (countIngest f s).subs = s.subs ∧ (countIngest f s).log = s.log ∧
    (countIngest f s).lines = s.lines ∧ (countIngest f s).port = s.port ∧ (countIngest f s).notices = s.notices ∧
    (countIngest f s).freeUses = s.freeUses := by
  unfold countIngest; (repeat' split) <;> simp

@[simp] theorem clearReceived_frame (s : State) :
    (clearReceived s).pending = s.pending ∧ (clearReceived s).startUp = s.startUp ∧
    (clearReceived s).store = s.store ∧ (clearReceived s).nvm = s.nvm ∧ (clearReceived s).catalogue = s.catalogue ∧
    (clearReceived s).queue = s.queue ∧ (clearReceived s).free = s.free ∧ (clearReceived s).arbiter = s.arbiter ∧
    (clearReceived s).cache = s.cache ∧ (clearReceived s).keys = s.keys ∧ (clearReceived s).seq = s.seq ∧
    (clearReceived s).time = s.time ∧ (clearReceived s).frames = s.frames ∧ (clearReceived s).link = s.link ∧
    (clearReceived s).sound = s.sound ∧ (clearReceived s).subs = s.subs ∧ (clearReceived s).log = s.log ∧
    (clearReceived s).lines = s.lines ∧ (clearReceived s).port = s.port ∧ (clearReceived s).notices = s.notices ∧
    (clearReceived s).freeUses = s.freeUses := by
  unfold clearReceived; (repeat' split) <;> simp

@[simp] theorem refuseSegment_frame (kind : SegmentRefusal) (s : State) :
    (refuseSegment kind s).pending = s.pending ∧ (refuseSegment kind s).startUp = s.startUp ∧
    (refuseSegment kind s).store = s.store ∧ (refuseSegment kind s).nvm = s.nvm ∧
    (refuseSegment kind s).catalogue = s.catalogue ∧ (refuseSegment kind s).queue = s.queue ∧
    (refuseSegment kind s).free = s.free ∧ (refuseSegment kind s).arbiter = s.arbiter ∧
    (refuseSegment kind s).cache = s.cache ∧ (refuseSegment kind s).keys = s.keys ∧
    (refuseSegment kind s).seq = s.seq ∧ (refuseSegment kind s).time = s.time ∧
    (refuseSegment kind s).frames = s.frames ∧ (refuseSegment kind s).link = s.link ∧
    (refuseSegment kind s).sound = s.sound ∧ (refuseSegment kind s).subs = s.subs ∧
    (refuseSegment kind s).log = s.log ∧ (refuseSegment kind s).lines = s.lines ∧
    (refuseSegment kind s).port = s.port ∧ (refuseSegment kind s).notices = s.notices ∧
    (refuseSegment kind s).freeUses = s.freeUses := by
  unfold refuseSegment; (repeat' split) <;> simp

@[simp] theorem dropSegment_frame (s : State) :
    (dropSegment s).pending = s.pending ∧ (dropSegment s).startUp = s.startUp ∧ (dropSegment s).store = s.store ∧
    (dropSegment s).nvm = s.nvm ∧ (dropSegment s).catalogue = s.catalogue ∧ (dropSegment s).queue = s.queue ∧
    (dropSegment s).free = s.free ∧ (dropSegment s).arbiter = s.arbiter ∧ (dropSegment s).cache = s.cache ∧
    (dropSegment s).keys = s.keys ∧ (dropSegment s).seq = s.seq ∧ (dropSegment s).time = s.time ∧
    (dropSegment s).frames = s.frames ∧ (dropSegment s).link = s.link ∧ (dropSegment s).sound = s.sound ∧
    (dropSegment s).subs = s.subs ∧ (dropSegment s).log = s.log ∧ (dropSegment s).lines = s.lines ∧
    (dropSegment s).port = s.port ∧ (dropSegment s).notices = s.notices ∧
    (dropSegment s).freeUses = s.freeUses := by
  unfold dropSegment; (repeat' split) <;> simp

@[simp] theorem setSlot_frame (n : Nat) (slot : Option TrackSlot) (s : State) :
    (setSlot n slot s).pending = s.pending ∧ (setSlot n slot s).startUp = s.startUp ∧
    (setSlot n slot s).store = s.store ∧ (setSlot n slot s).nvm = s.nvm ∧
    (setSlot n slot s).catalogue = s.catalogue ∧ (setSlot n slot s).queue = s.queue ∧
    (setSlot n slot s).free = s.free ∧ (setSlot n slot s).arbiter = s.arbiter ∧ (setSlot n slot s).cache = s.cache ∧
    (setSlot n slot s).keys = s.keys ∧ (setSlot n slot s).seq = s.seq ∧ (setSlot n slot s).time = s.time ∧
    (setSlot n slot s).frames = s.frames ∧ (setSlot n slot s).link = s.link ∧ (setSlot n slot s).sound = s.sound ∧
    (setSlot n slot s).subs = s.subs ∧ (setSlot n slot s).log = s.log ∧ (setSlot n slot s).lines = s.lines ∧
    (setSlot n slot s).port = s.port ∧ (setSlot n slot s).notices = s.notices ∧
    (setSlot n slot s).freeUses = s.freeUses := by
  unfold setSlot; (repeat' split) <;> simp

@[simp] theorem reportDamage_frame (id : Nat) (e : TrackEntry) (reason : DamageReason) (content : Option ContentCode) (s : State) :
    (reportDamage id e reason content s).pending = s.pending ∧
    (reportDamage id e reason content s).startUp = s.startUp ∧
    (reportDamage id e reason content s).store = s.store ∧ (reportDamage id e reason content s).nvm = s.nvm ∧
    (reportDamage id e reason content s).catalogue = s.catalogue ∧
    (reportDamage id e reason content s).queue = s.queue ∧ (reportDamage id e reason content s).free = s.free ∧
    (reportDamage id e reason content s).arbiter = s.arbiter ∧
    (reportDamage id e reason content s).cache = s.cache ∧ (reportDamage id e reason content s).keys = s.keys ∧
    (reportDamage id e reason content s).seq = s.seq ∧ (reportDamage id e reason content s).time = s.time ∧
    (reportDamage id e reason content s).frames = s.frames ∧ (reportDamage id e reason content s).link = s.link ∧
    (reportDamage id e reason content s).sound = s.sound ∧ (reportDamage id e reason content s).subs = s.subs ∧
    (reportDamage id e reason content s).log = s.log ∧ (reportDamage id e reason content s).lines = s.lines ∧
    (reportDamage id e reason content s).port = s.port ∧
    (reportDamage id e reason content s).freeUses = s.freeUses := by
  unfold reportDamage; (repeat' split) <;> simp

@[simp] theorem askIngest_frame (w : IngestWrite) (first count track : Nat) (s : State) :
    (askIngest w first count track s).pending = s.pending ∧ (askIngest w first count track s).startUp = s.startUp ∧
    (askIngest w first count track s).store = s.store ∧ (askIngest w first count track s).nvm = s.nvm ∧
    (askIngest w first count track s).catalogue = s.catalogue ∧ (askIngest w first count track s).queue = s.queue ∧
    (askIngest w first count track s).free = s.free ∧ (askIngest w first count track s).cache = s.cache ∧
    (askIngest w first count track s).keys = s.keys ∧ (askIngest w first count track s).seq = s.seq ∧
    (askIngest w first count track s).time = s.time ∧ (askIngest w first count track s).frames = s.frames ∧
    (askIngest w first count track s).link = s.link ∧ (askIngest w first count track s).sound = s.sound ∧
    (askIngest w first count track s).subs = s.subs ∧ (askIngest w first count track s).log = s.log ∧
    (askIngest w first count track s).lines = s.lines ∧ (askIngest w first count track s).port = s.port ∧
    (askIngest w first count track s).notices = s.notices ∧
    (askIngest w first count track s).freeUses = s.freeUses := by
  unfold askIngest; (repeat' split) <;> simp

@[simp] theorem closeGather_frame (s : State) :
    (closeGather s).pending = s.pending ∧ (closeGather s).startUp = s.startUp ∧ (closeGather s).store = s.store ∧
    (closeGather s).nvm = s.nvm ∧ (closeGather s).catalogue = s.catalogue ∧ (closeGather s).queue = s.queue ∧
    (closeGather s).free = s.free ∧ (closeGather s).cache = s.cache ∧ (closeGather s).keys = s.keys ∧
    (closeGather s).seq = s.seq ∧ (closeGather s).time = s.time ∧ (closeGather s).frames = s.frames ∧
    (closeGather s).link = s.link ∧ (closeGather s).sound = s.sound ∧ (closeGather s).subs = s.subs ∧
    (closeGather s).log = s.log ∧ (closeGather s).lines = s.lines ∧ (closeGather s).port = s.port ∧
    (closeGather s).notices = s.notices ∧ (closeGather s).freeUses = s.freeUses := by
  unfold closeGather; (repeat' split) <;> simp

/-- The cut of R35 leaves the state, or closes the open gather. -/
theorem cutGather_cases (before s : State) : cutGather before s = s ∨ cutGather before s = closeGather s := by
  unfold cutGather; (repeat' split) <;> simp

@[simp] theorem cutGather_frame (before : State) (s : State) :
    (cutGather before s).pending = s.pending ∧ (cutGather before s).startUp = s.startUp ∧
    (cutGather before s).store = s.store ∧ (cutGather before s).nvm = s.nvm ∧
    (cutGather before s).catalogue = s.catalogue ∧ (cutGather before s).queue = s.queue ∧
    (cutGather before s).free = s.free ∧ (cutGather before s).cache = s.cache ∧ (cutGather before s).keys = s.keys ∧
    (cutGather before s).seq = s.seq ∧ (cutGather before s).time = s.time ∧ (cutGather before s).frames = s.frames ∧
    (cutGather before s).link = s.link ∧ (cutGather before s).sound = s.sound ∧ (cutGather before s).subs = s.subs ∧
    (cutGather before s).log = s.log ∧ (cutGather before s).lines = s.lines ∧ (cutGather before s).port = s.port ∧
    (cutGather before s).notices = s.notices ∧ (cutGather before s).freeUses = s.freeUses := by
  unfold cutGather; (repeat' split) <;> simp

@[simp] theorem discardWrites_frame (track : Nat) (s : State) :
    (discardWrites track s).pending = s.pending ∧ (discardWrites track s).startUp = s.startUp ∧
    (discardWrites track s).store = s.store ∧ (discardWrites track s).nvm = s.nvm ∧
    (discardWrites track s).catalogue = s.catalogue ∧ (discardWrites track s).queue = s.queue ∧
    (discardWrites track s).free = s.free ∧ (discardWrites track s).cache = s.cache ∧
    (discardWrites track s).keys = s.keys ∧ (discardWrites track s).seq = s.seq ∧
    (discardWrites track s).time = s.time ∧ (discardWrites track s).frames = s.frames ∧
    (discardWrites track s).link = s.link ∧ (discardWrites track s).sound = s.sound ∧
    (discardWrites track s).subs = s.subs ∧ (discardWrites track s).log = s.log ∧
    (discardWrites track s).lines = s.lines ∧ (discardWrites track s).port = s.port ∧
    (discardWrites track s).notices = s.notices ∧ (discardWrites track s).freeUses = s.freeUses := by
  simp only [discardWrites]; (repeat' split) <;> simp

@[simp] theorem damageTrack_frame (n : Nat) (slot : TrackSlot) (reason : DamageReason) (content : Option ContentCode) (s : State) :
    (damageTrack n slot reason content s).pending = s.pending ∧
    (damageTrack n slot reason content s).startUp = s.startUp ∧
    (damageTrack n slot reason content s).store = s.store ∧ (damageTrack n slot reason content s).nvm = s.nvm ∧
    (damageTrack n slot reason content s).free = s.free ∧ (damageTrack n slot reason content s).keys = s.keys ∧
    (damageTrack n slot reason content s).seq = s.seq ∧ (damageTrack n slot reason content s).link = s.link ∧
    (damageTrack n slot reason content s).log = s.log ∧ (damageTrack n slot reason content s).lines = s.lines ∧
    (damageTrack n slot reason content s).freeUses = s.freeUses := by
  unfold damageTrack; (repeat' split) <;> simp

@[simp] theorem takeBlock_frame (n : Nat) (slot : TrackSlot) (g : Gather) (s : State) :
    (takeBlock n slot g s).pending = s.pending ∧ (takeBlock n slot g s).startUp = s.startUp ∧
    (takeBlock n slot g s).store = s.store ∧ (takeBlock n slot g s).nvm = s.nvm ∧
    (takeBlock n slot g s).catalogue = s.catalogue ∧ (takeBlock n slot g s).queue = s.queue ∧
    (takeBlock n slot g s).free = s.free ∧ (takeBlock n slot g s).cache = s.cache ∧
    (takeBlock n slot g s).keys = s.keys ∧ (takeBlock n slot g s).seq = s.seq ∧
    (takeBlock n slot g s).time = s.time ∧ (takeBlock n slot g s).frames = s.frames ∧
    (takeBlock n slot g s).link = s.link ∧ (takeBlock n slot g s).sound = s.sound ∧
    (takeBlock n slot g s).subs = s.subs ∧ (takeBlock n slot g s).log = s.log ∧
    (takeBlock n slot g s).lines = s.lines ∧ (takeBlock n slot g s).port = s.port ∧
    (takeBlock n slot g s).notices = s.notices ∧ (takeBlock n slot g s).freeUses = s.freeUses := by
  simp only [takeBlock]; (repeat' split) <;> simp

@[simp] theorem acceptData_frame (n : Nat) (slot : TrackSlot) (g : Segment) (s : State) :
    (acceptData n slot g s).pending = s.pending ∧ (acceptData n slot g s).startUp = s.startUp ∧
    (acceptData n slot g s).store = s.store ∧ (acceptData n slot g s).nvm = s.nvm ∧
    (acceptData n slot g s).catalogue = s.catalogue ∧ (acceptData n slot g s).queue = s.queue ∧
    (acceptData n slot g s).free = s.free ∧ (acceptData n slot g s).cache = s.cache ∧
    (acceptData n slot g s).keys = s.keys ∧ (acceptData n slot g s).seq = s.seq ∧
    (acceptData n slot g s).time = s.time ∧ (acceptData n slot g s).frames = s.frames ∧
    (acceptData n slot g s).link = s.link ∧ (acceptData n slot g s).sound = s.sound ∧
    (acceptData n slot g s).subs = s.subs ∧ (acceptData n slot g s).log = s.log ∧
    (acceptData n slot g s).lines = s.lines ∧ (acceptData n slot g s).port = s.port ∧
    (acceptData n slot g s).notices = s.notices ∧ (acceptData n slot g s).freeUses = s.freeUses := by
  simp only [acceptData]; (repeat' split) <;> simp

@[simp] theorem judgeData_frame (n : Nat) (slot : TrackSlot) (g : Segment) (s : State) :
    (judgeData n slot g s).pending = s.pending ∧ (judgeData n slot g s).startUp = s.startUp ∧
    (judgeData n slot g s).store = s.store ∧ (judgeData n slot g s).nvm = s.nvm ∧
    (judgeData n slot g s).free = s.free ∧ (judgeData n slot g s).keys = s.keys ∧
    (judgeData n slot g s).seq = s.seq ∧ (judgeData n slot g s).link = s.link ∧ (judgeData n slot g s).log = s.log ∧
    (judgeData n slot g s).lines = s.lines ∧ (judgeData n slot g s).freeUses = s.freeUses := by
  simp only [judgeData]; (repeat' split) <;> simp

@[simp] theorem openTrack_frame (n id : Nat) (g : Segment) (h : TrackHeader) (s : State) :
    (openTrack n id g h s).pending = s.pending ∧ (openTrack n id g h s).startUp = s.startUp ∧
    (openTrack n id g h s).store = s.store ∧ (openTrack n id g h s).nvm = s.nvm ∧
    (openTrack n id g h s).cache = s.cache ∧ (openTrack n id g h s).keys = s.keys ∧
    (openTrack n id g h s).seq = s.seq ∧ (openTrack n id g h s).time = s.time ∧
    (openTrack n id g h s).frames = s.frames ∧ (openTrack n id g h s).link = s.link ∧
    (openTrack n id g h s).sound = s.sound ∧ (openTrack n id g h s).subs = s.subs ∧
    (openTrack n id g h s).log = s.log ∧ (openTrack n id g h s).lines = s.lines ∧
    (openTrack n id g h s).freeUses = s.freeUses := by
  unfold openTrack; (repeat' split) <;> simp

@[simp] theorem judgeHeader_frame (g : Segment) (s : State) :
    (judgeHeader g s).pending = s.pending ∧ (judgeHeader g s).startUp = s.startUp ∧
    (judgeHeader g s).store = s.store ∧ (judgeHeader g s).nvm = s.nvm ∧ (judgeHeader g s).cache = s.cache ∧
    (judgeHeader g s).keys = s.keys ∧ (judgeHeader g s).seq = s.seq ∧ (judgeHeader g s).time = s.time ∧
    (judgeHeader g s).frames = s.frames ∧ (judgeHeader g s).link = s.link ∧ (judgeHeader g s).sound = s.sound ∧
    (judgeHeader g s).subs = s.subs ∧ (judgeHeader g s).log = s.log ∧ (judgeHeader g s).lines = s.lines ∧
    (judgeHeader g s).freeUses = s.freeUses := by
  unfold judgeHeader; (repeat' split) <;> simp

@[simp] theorem actOnSegment_frame (g : Segment) (s : State) :
    (actOnSegment g s).pending = s.pending ∧ (actOnSegment g s).startUp = s.startUp ∧
    (actOnSegment g s).store = s.store ∧ (actOnSegment g s).nvm = s.nvm ∧ (actOnSegment g s).keys = s.keys ∧
    (actOnSegment g s).seq = s.seq ∧ (actOnSegment g s).link = s.link ∧ (actOnSegment g s).log = s.log ∧
    (actOnSegment g s).lines = s.lines ∧ (actOnSegment g s).freeUses = s.freeUses := by
  unfold actOnSegment; (repeat' split) <;> simp

@[simp] theorem pumpSegment_frame (s : State) :
    (pumpSegment s).pending = s.pending ∧ (pumpSegment s).startUp = s.startUp ∧ (pumpSegment s).store = s.store ∧
    (pumpSegment s).nvm = s.nvm ∧ (pumpSegment s).keys = s.keys ∧ (pumpSegment s).seq = s.seq ∧
    (pumpSegment s).link = s.link ∧ (pumpSegment s).log = s.log ∧ (pumpSegment s).lines = s.lines ∧
    (pumpSegment s).freeUses = s.freeUses := by
  unfold pumpSegment; (repeat' split) <;> simp

@[simp] theorem setAwaiting_frame (id : Nat) (numbers : Option (List ReelNumbers)) (s : State) :
    (setAwaiting id numbers s).pending = s.pending ∧ (setAwaiting id numbers s).startUp = s.startUp ∧
    (setAwaiting id numbers s).store = s.store ∧ (setAwaiting id numbers s).nvm = s.nvm ∧
    (setAwaiting id numbers s).queue = s.queue ∧ (setAwaiting id numbers s).free = s.free ∧
    (setAwaiting id numbers s).ingest = s.ingest ∧ (setAwaiting id numbers s).arbiter = s.arbiter ∧
    (setAwaiting id numbers s).cache = s.cache ∧ (setAwaiting id numbers s).keys = s.keys ∧
    (setAwaiting id numbers s).seq = s.seq ∧ (setAwaiting id numbers s).time = s.time ∧
    (setAwaiting id numbers s).frames = s.frames ∧ (setAwaiting id numbers s).link = s.link ∧
    (setAwaiting id numbers s).sound = s.sound ∧ (setAwaiting id numbers s).subs = s.subs ∧
    (setAwaiting id numbers s).log = s.log ∧ (setAwaiting id numbers s).lines = s.lines ∧
    (setAwaiting id numbers s).port = s.port ∧ (setAwaiting id numbers s).notices = s.notices ∧
    (setAwaiting id numbers s).freeUses = s.freeUses := by
  unfold setAwaiting; (repeat' split) <;> simp

@[simp] theorem countResolved_frame (c : Composition) (s : State) :
    (countResolved c s).pending = s.pending ∧ (countResolved c s).startUp = s.startUp ∧
    (countResolved c s).store = s.store ∧ (countResolved c s).nvm = s.nvm ∧
    (countResolved c s).catalogue = s.catalogue ∧ (countResolved c s).queue = s.queue ∧
    (countResolved c s).free = s.free ∧ (countResolved c s).arbiter = s.arbiter ∧
    (countResolved c s).cache = s.cache ∧ (countResolved c s).keys = s.keys ∧ (countResolved c s).seq = s.seq ∧
    (countResolved c s).time = s.time ∧ (countResolved c s).frames = s.frames ∧ (countResolved c s).link = s.link ∧
    (countResolved c s).sound = s.sound ∧ (countResolved c s).subs = s.subs ∧ (countResolved c s).log = s.log ∧
    (countResolved c s).lines = s.lines ∧ (countResolved c s).port = s.port ∧
    (countResolved c s).notices = s.notices ∧ (countResolved c s).freeUses = s.freeUses := by
  unfold countResolved; (repeat' split) <;> simp

@[simp] theorem takeComposition_frame (id : Nat) (change : CompositionChange) (s : State) :
    (takeComposition id change s).pending = s.pending ∧ (takeComposition id change s).startUp = s.startUp ∧
    (takeComposition id change s).store = s.store ∧ (takeComposition id change s).nvm = s.nvm ∧
    (takeComposition id change s).free = s.free ∧ (takeComposition id change s).arbiter = s.arbiter ∧
    (takeComposition id change s).cache = s.cache ∧ (takeComposition id change s).keys = s.keys ∧
    (takeComposition id change s).seq = s.seq ∧ (takeComposition id change s).time = s.time ∧
    (takeComposition id change s).frames = s.frames ∧ (takeComposition id change s).link = s.link ∧
    (takeComposition id change s).sound = s.sound ∧ (takeComposition id change s).subs = s.subs ∧
    (takeComposition id change s).log = s.log ∧ (takeComposition id change s).lines = s.lines ∧
    (takeComposition id change s).port = s.port ∧ (takeComposition id change s).notices = s.notices ∧
    (takeComposition id change s).freeUses = s.freeUses := by
  unfold takeComposition; (repeat' split) <;> simp

@[simp] theorem queueComposition_frame (id : Nat) (change : CompositionChange) (engine closes : Bool) (s : State) :
    (queueComposition id change engine closes s).pending = s.pending ∧
    (queueComposition id change engine closes s).startUp = s.startUp ∧
    (queueComposition id change engine closes s).store = s.store ∧
    (queueComposition id change engine closes s).nvm = s.nvm ∧
    (queueComposition id change engine closes s).free = s.free ∧
    (queueComposition id change engine closes s).arbiter = s.arbiter ∧
    (queueComposition id change engine closes s).cache = s.cache ∧
    (queueComposition id change engine closes s).keys = s.keys ∧
    (queueComposition id change engine closes s).seq = s.seq ∧
    (queueComposition id change engine closes s).time = s.time ∧
    (queueComposition id change engine closes s).frames = s.frames ∧
    (queueComposition id change engine closes s).link = s.link ∧
    (queueComposition id change engine closes s).sound = s.sound ∧
    (queueComposition id change engine closes s).subs = s.subs ∧
    (queueComposition id change engine closes s).log = s.log ∧
    (queueComposition id change engine closes s).lines = s.lines ∧
    (queueComposition id change engine closes s).port = s.port ∧
    (queueComposition id change engine closes s).notices = s.notices ∧
    (queueComposition id change engine closes s).freeUses = s.freeUses := by
  unfold queueComposition; (repeat' split) <;> simp

@[simp] theorem completeTrack_frame (n : Nat) (slot : TrackSlot) (e : TrackEntry) (s : State) :
    (completeTrack n slot e s).pending = s.pending ∧ (completeTrack n slot e s).startUp = s.startUp ∧
    (completeTrack n slot e s).store = s.store ∧ (completeTrack n slot e s).nvm = s.nvm ∧
    (completeTrack n slot e s).free = s.free ∧ (completeTrack n slot e s).arbiter = s.arbiter ∧
    (completeTrack n slot e s).cache = s.cache ∧ (completeTrack n slot e s).keys = s.keys ∧
    (completeTrack n slot e s).seq = s.seq ∧ (completeTrack n slot e s).time = s.time ∧
    (completeTrack n slot e s).frames = s.frames ∧ (completeTrack n slot e s).link = s.link ∧
    (completeTrack n slot e s).sound = s.sound ∧ (completeTrack n slot e s).subs = s.subs ∧
    (completeTrack n slot e s).log = s.log ∧ (completeTrack n slot e s).lines = s.lines ∧
    (completeTrack n slot e s).freeUses = s.freeUses := by
  unfold completeTrack; (repeat' split) <;> simp

@[simp] theorem completeDescription_frame (n : Nat) (slot : TrackSlot) (e : TrackEntry) (block : List Byte) (s : State) :
    (completeDescription n slot e block s).pending = s.pending ∧
    (completeDescription n slot e block s).startUp = s.startUp ∧
    (completeDescription n slot e block s).store = s.store ∧ (completeDescription n slot e block s).nvm = s.nvm ∧
    (completeDescription n slot e block s).free = s.free ∧ (completeDescription n slot e block s).keys = s.keys ∧
    (completeDescription n slot e block s).seq = s.seq ∧ (completeDescription n slot e block s).link = s.link ∧
    (completeDescription n slot e block s).log = s.log ∧ (completeDescription n slot e block s).lines = s.lines ∧
    (completeDescription n slot e block s).freeUses = s.freeUses := by
  unfold completeDescription; (repeat' split) <;> simp

@[simp] theorem gatherWritten_frame (g : Gather) (s : State) :
    (gatherWritten g s).pending = s.pending ∧ (gatherWritten g s).startUp = s.startUp ∧
    (gatherWritten g s).store = s.store ∧ (gatherWritten g s).nvm = s.nvm ∧ (gatherWritten g s).free = s.free ∧
    (gatherWritten g s).keys = s.keys ∧ (gatherWritten g s).seq = s.seq ∧ (gatherWritten g s).link = s.link ∧
    (gatherWritten g s).log = s.log ∧ (gatherWritten g s).lines = s.lines ∧
    (gatherWritten g s).freeUses = s.freeUses := by
  unfold gatherWritten; (repeat' split) <;> simp

@[simp] theorem gatherFailed_frame (g : Gather) (s : State) :
    (gatherFailed g s).pending = s.pending ∧ (gatherFailed g s).startUp = s.startUp ∧
    (gatherFailed g s).store = s.store ∧ (gatherFailed g s).nvm = s.nvm ∧ (gatherFailed g s).free = s.free ∧
    (gatherFailed g s).keys = s.keys ∧ (gatherFailed g s).seq = s.seq ∧ (gatherFailed g s).link = s.link ∧
    (gatherFailed g s).log = s.log ∧ (gatherFailed g s).lines = s.lines ∧
    (gatherFailed g s).freeUses = s.freeUses := by
  unfold gatherFailed; (repeat' split) <;> simp

@[simp] theorem dataWritten_frame (ok : Bool) (g : Gather) (dropped : Bool) (s : State) :
    (dataWritten ok g dropped s).pending = s.pending ∧ (dataWritten ok g dropped s).startUp = s.startUp ∧
    (dataWritten ok g dropped s).nvm = s.nvm ∧ (dataWritten ok g dropped s).keys = s.keys ∧
    (dataWritten ok g dropped s).seq = s.seq ∧ (dataWritten ok g dropped s).link = s.link ∧
    (dataWritten ok g dropped s).log = s.log ∧ (dataWritten ok g dropped s).lines = s.lines := by
  unfold dataWritten; (repeat' split) <;> simp

@[simp] theorem releaseReply_frame (reply : Option Reply) (s : State) :
    (releaseReply reply s).pending = s.pending ∧ (releaseReply reply s).startUp = s.startUp ∧
    (releaseReply reply s).store = s.store ∧ (releaseReply reply s).nvm = s.nvm ∧
    (releaseReply reply s).catalogue = s.catalogue ∧ (releaseReply reply s).queue = s.queue ∧
    (releaseReply reply s).free = s.free ∧ (releaseReply reply s).ingest = s.ingest ∧
    (releaseReply reply s).arbiter = s.arbiter ∧ (releaseReply reply s).cache = s.cache ∧
    (releaseReply reply s).keys = s.keys ∧ (releaseReply reply s).seq = s.seq ∧
    (releaseReply reply s).time = s.time ∧ (releaseReply reply s).frames = s.frames ∧
    (releaseReply reply s).link = s.link ∧ (releaseReply reply s).sound = s.sound ∧
    (releaseReply reply s).subs = s.subs ∧ (releaseReply reply s).log = s.log ∧
    (releaseReply reply s).lines = s.lines ∧ (releaseReply reply s).notices = s.notices ∧
    (releaseReply reply s).freeUses = s.freeUses := by
  unfold releaseReply; (repeat' split) <;> simp

@[simp] theorem storeMap_frame (ok : Bool) (m : MapBlock) (s : State) :
    (storeMap ok m s).pending = s.pending ∧ (storeMap ok m s).startUp = s.startUp ∧ (storeMap ok m s).nvm = s.nvm ∧
    (storeMap ok m s).catalogue = s.catalogue ∧ (storeMap ok m s).queue = s.queue ∧
    (storeMap ok m s).free = s.free ∧ (storeMap ok m s).ingest = s.ingest ∧ (storeMap ok m s).arbiter = s.arbiter ∧
    (storeMap ok m s).cache = s.cache ∧ (storeMap ok m s).keys = s.keys ∧ (storeMap ok m s).seq = s.seq ∧
    (storeMap ok m s).time = s.time ∧ (storeMap ok m s).frames = s.frames ∧ (storeMap ok m s).link = s.link ∧
    (storeMap ok m s).sound = s.sound ∧ (storeMap ok m s).subs = s.subs ∧ (storeMap ok m s).log = s.log ∧
    (storeMap ok m s).lines = s.lines ∧ (storeMap ok m s).port = s.port ∧
    (storeMap ok m s).notices = s.notices := by
  unfold storeMap; (repeat' split) <;> simp

@[simp] theorem mapWritten_frame (ok : Bool) (m : MapBlock) (reply : Option Reply) (s : State) :
    (mapWritten ok m reply s).pending = s.pending ∧ (mapWritten ok m reply s).startUp = s.startUp ∧
    (mapWritten ok m reply s).nvm = s.nvm ∧ (mapWritten ok m reply s).keys = s.keys ∧
    (mapWritten ok m reply s).seq = s.seq ∧ (mapWritten ok m reply s).link = s.link ∧
    (mapWritten ok m reply s).log = s.log ∧ (mapWritten ok m reply s).lines = s.lines := by
  simp only [mapWritten]; (repeat' split) <;> simp

@[simp] theorem mapBlockWriteComplete_frame (ok : Bool) (s : State) :
    (mapBlockWriteComplete ok s).pending = s.pending ∧ (mapBlockWriteComplete ok s).startUp = s.startUp ∧
    (mapBlockWriteComplete ok s).nvm = s.nvm ∧ (mapBlockWriteComplete ok s).keys = s.keys ∧
    (mapBlockWriteComplete ok s).seq = s.seq ∧ (mapBlockWriteComplete ok s).link = s.link ∧
    (mapBlockWriteComplete ok s).log = s.log ∧ (mapBlockWriteComplete ok s).lines = s.lines := by
  simp only [mapBlockWriteComplete]; (repeat' split) <;> simp

@[simp] theorem endPackage_frame (aborted : Bool) (ready incomplete : Nat) (s : State) :
    (endPackage aborted ready incomplete s).pending = s.pending ∧
    (endPackage aborted ready incomplete s).startUp = s.startUp ∧
    (endPackage aborted ready incomplete s).store = s.store ∧ (endPackage aborted ready incomplete s).nvm = s.nvm ∧
    (endPackage aborted ready incomplete s).catalogue = s.catalogue ∧
    (endPackage aborted ready incomplete s).queue = s.queue ∧
    (endPackage aborted ready incomplete s).free = s.free ∧
    (endPackage aborted ready incomplete s).arbiter = s.arbiter ∧
    (endPackage aborted ready incomplete s).cache = s.cache ∧
    (endPackage aborted ready incomplete s).keys = s.keys ∧ (endPackage aborted ready incomplete s).seq = s.seq ∧
    (endPackage aborted ready incomplete s).time = s.time ∧
    (endPackage aborted ready incomplete s).frames = s.frames ∧
    (endPackage aborted ready incomplete s).link = s.link ∧
    (endPackage aborted ready incomplete s).sound = s.sound ∧
    (endPackage aborted ready incomplete s).subs = s.subs ∧ (endPackage aborted ready incomplete s).log = s.log ∧
    (endPackage aborted ready incomplete s).lines = s.lines ∧
    (endPackage aborted ready incomplete s).port = s.port ∧
    (endPackage aborted ready incomplete s).freeUses = s.freeUses := by
  unfold endPackage; (repeat' split) <;> simp

@[simp] theorem resolveAll_frame (l : List (Nat × List ReelNumbers)) (s : State) :
    (resolveAll l s).pending = s.pending ∧ (resolveAll l s).startUp = s.startUp ∧ (resolveAll l s).store = s.store ∧
    (resolveAll l s).nvm = s.nvm ∧ (resolveAll l s).free = s.free ∧ (resolveAll l s).arbiter = s.arbiter ∧
    (resolveAll l s).cache = s.cache ∧ (resolveAll l s).keys = s.keys ∧ (resolveAll l s).seq = s.seq ∧
    (resolveAll l s).time = s.time ∧ (resolveAll l s).frames = s.frames ∧ (resolveAll l s).link = s.link ∧
    (resolveAll l s).sound = s.sound ∧ (resolveAll l s).subs = s.subs ∧ (resolveAll l s).log = s.log ∧
    (resolveAll l s).lines = s.lines ∧ (resolveAll l s).port = s.port ∧ (resolveAll l s).notices = s.notices ∧
    (resolveAll l s).freeUses = s.freeUses := by
  induction l generalizing s with
  | nil => simp [resolveAll]
  | cons p l ih => simp [resolveAll, ih]

@[simp] theorem completeClose_frame (s : State) :
    (completeClose s).pending = s.pending ∧ (completeClose s).startUp = s.startUp ∧
    (completeClose s).store = s.store ∧ (completeClose s).nvm = s.nvm ∧ (completeClose s).free = s.free ∧
    (completeClose s).arbiter = s.arbiter ∧ (completeClose s).cache = s.cache ∧ (completeClose s).keys = s.keys ∧
    (completeClose s).seq = s.seq ∧ (completeClose s).time = s.time ∧ (completeClose s).frames = s.frames ∧
    (completeClose s).link = s.link ∧ (completeClose s).sound = s.sound ∧ (completeClose s).subs = s.subs ∧
    (completeClose s).log = s.log ∧ (completeClose s).lines = s.lines ∧ (completeClose s).port = s.port ∧
    (completeClose s).freeUses = s.freeUses := by
  simp only [completeClose]; (repeat' split) <;> simp

@[simp] theorem serveIngestOpen_frame (frame : Frame) (package mode : Nat) (s : State) :
    (serveIngestOpen frame package mode s).pending = s.pending ∧
    (serveIngestOpen frame package mode s).startUp = s.startUp ∧
    (serveIngestOpen frame package mode s).store = s.store ∧ (serveIngestOpen frame package mode s).nvm = s.nvm ∧
    (serveIngestOpen frame package mode s).catalogue = s.catalogue ∧
    (serveIngestOpen frame package mode s).queue = s.queue ∧ (serveIngestOpen frame package mode s).free = s.free ∧
    (serveIngestOpen frame package mode s).arbiter = s.arbiter ∧
    (serveIngestOpen frame package mode s).cache = s.cache ∧ (serveIngestOpen frame package mode s).keys = s.keys ∧
    (serveIngestOpen frame package mode s).seq = s.seq ∧ (serveIngestOpen frame package mode s).time = s.time ∧
    (serveIngestOpen frame package mode s).frames = s.frames ∧
    (serveIngestOpen frame package mode s).link = s.link ∧ (serveIngestOpen frame package mode s).sound = s.sound ∧
    (serveIngestOpen frame package mode s).subs = s.subs ∧ (serveIngestOpen frame package mode s).log = s.log ∧
    (serveIngestOpen frame package mode s).lines = s.lines ∧
    (serveIngestOpen frame package mode s).notices = s.notices ∧
    (serveIngestOpen frame package mode s).freeUses = s.freeUses := by
  unfold serveIngestOpen; (repeat' split) <;> simp

@[simp] theorem serveIngestClose_frame (frame : Frame) (s : State) :
    (serveIngestClose frame s).pending = s.pending ∧ (serveIngestClose frame s).startUp = s.startUp ∧
    (serveIngestClose frame s).store = s.store ∧ (serveIngestClose frame s).nvm = s.nvm ∧
    (serveIngestClose frame s).catalogue = s.catalogue ∧ (serveIngestClose frame s).queue = s.queue ∧
    (serveIngestClose frame s).free = s.free ∧ (serveIngestClose frame s).cache = s.cache ∧
    (serveIngestClose frame s).keys = s.keys ∧ (serveIngestClose frame s).seq = s.seq ∧
    (serveIngestClose frame s).time = s.time ∧ (serveIngestClose frame s).frames = s.frames ∧
    (serveIngestClose frame s).link = s.link ∧ (serveIngestClose frame s).sound = s.sound ∧
    (serveIngestClose frame s).subs = s.subs ∧ (serveIngestClose frame s).log = s.log ∧
    (serveIngestClose frame s).lines = s.lines ∧ (serveIngestClose frame s).notices = s.notices ∧
    (serveIngestClose frame s).freeUses = s.freeUses := by
  unfold serveIngestClose; (repeat' split) <;> simp

@[simp] theorem interruptTrack_frame (id : Nat) (s : State) :
    (interruptTrack id s).pending = s.pending ∧ (interruptTrack id s).startUp = s.startUp ∧
    (interruptTrack id s).store = s.store ∧ (interruptTrack id s).nvm = s.nvm ∧
    (interruptTrack id s).queue = s.queue ∧ (interruptTrack id s).free = s.free ∧
    (interruptTrack id s).keys = s.keys ∧ (interruptTrack id s).seq = s.seq ∧ (interruptTrack id s).link = s.link ∧
    (interruptTrack id s).log = s.log ∧ (interruptTrack id s).lines = s.lines ∧
    (interruptTrack id s).port = s.port ∧ (interruptTrack id s).freeUses = s.freeUses := by
  unfold interruptTrack; (repeat' split) <;> simp

@[simp] theorem queueInterrupted_frame (reply : Reply) (l : List Nat) (s : State) :
    (queueInterrupted reply l s).pending = s.pending ∧ (queueInterrupted reply l s).startUp = s.startUp ∧
    (queueInterrupted reply l s).store = s.store ∧ (queueInterrupted reply l s).nvm = s.nvm ∧
    (queueInterrupted reply l s).catalogue = s.catalogue ∧ (queueInterrupted reply l s).free = s.free ∧
    (queueInterrupted reply l s).ingest = s.ingest ∧ (queueInterrupted reply l s).arbiter = s.arbiter ∧
    (queueInterrupted reply l s).cache = s.cache ∧ (queueInterrupted reply l s).keys = s.keys ∧
    (queueInterrupted reply l s).seq = s.seq ∧ (queueInterrupted reply l s).time = s.time ∧
    (queueInterrupted reply l s).frames = s.frames ∧ (queueInterrupted reply l s).link = s.link ∧
    (queueInterrupted reply l s).sound = s.sound ∧ (queueInterrupted reply l s).subs = s.subs ∧
    (queueInterrupted reply l s).log = s.log ∧ (queueInterrupted reply l s).lines = s.lines ∧
    (queueInterrupted reply l s).notices = s.notices ∧ (queueInterrupted reply l s).freeUses = s.freeUses := by
  induction l generalizing s with
  | nil => simp [queueInterrupted]
  | cons p l ih => cases l <;> simp_all [queueInterrupted]

@[simp] theorem serveIngestAbort_frame (frame : Frame) (s : State) :
    (serveIngestAbort frame s).pending = s.pending ∧ (serveIngestAbort frame s).startUp = s.startUp ∧
    (serveIngestAbort frame s).store = s.store ∧ (serveIngestAbort frame s).nvm = s.nvm ∧
    (serveIngestAbort frame s).free = s.free ∧ (serveIngestAbort frame s).keys = s.keys ∧
    (serveIngestAbort frame s).seq = s.seq ∧ (serveIngestAbort frame s).link = s.link ∧
    (serveIngestAbort frame s).log = s.log ∧ (serveIngestAbort frame s).lines = s.lines ∧
    (serveIngestAbort frame s).freeUses = s.freeUses := by
  simp only [serveIngestAbort]; (repeat' split) <;> simp

@[simp] theorem serveIngestStatus_frame (frame : Frame) (s : State) :
    (serveIngestStatus frame s).pending = s.pending ∧ (serveIngestStatus frame s).startUp = s.startUp ∧
    (serveIngestStatus frame s).store = s.store ∧ (serveIngestStatus frame s).nvm = s.nvm ∧
    (serveIngestStatus frame s).catalogue = s.catalogue ∧ (serveIngestStatus frame s).queue = s.queue ∧
    (serveIngestStatus frame s).free = s.free ∧ (serveIngestStatus frame s).ingest = s.ingest ∧
    (serveIngestStatus frame s).arbiter = s.arbiter ∧ (serveIngestStatus frame s).cache = s.cache ∧
    (serveIngestStatus frame s).keys = s.keys ∧ (serveIngestStatus frame s).seq = s.seq ∧
    (serveIngestStatus frame s).time = s.time ∧ (serveIngestStatus frame s).frames = s.frames ∧
    (serveIngestStatus frame s).link = s.link ∧ (serveIngestStatus frame s).sound = s.sound ∧
    (serveIngestStatus frame s).subs = s.subs ∧ (serveIngestStatus frame s).log = s.log ∧
    (serveIngestStatus frame s).lines = s.lines ∧ (serveIngestStatus frame s).notices = s.notices ∧
    (serveIngestStatus frame s).freeUses = s.freeUses := by
  unfold serveIngestStatus; (repeat' split) <;> simp

/-! ### ShowLog -/

@[simp] theorem updateLog_frame (f : ShowLog → ShowLog) (s : State) :
    (updateLog f s).pending = s.pending ∧ (updateLog f s).startUp = s.startUp ∧ (updateLog f s).store = s.store ∧
    (updateLog f s).nvm = s.nvm ∧ (updateLog f s).catalogue = s.catalogue ∧ (updateLog f s).queue = s.queue ∧
    (updateLog f s).free = s.free ∧ (updateLog f s).ingest = s.ingest ∧ (updateLog f s).arbiter = s.arbiter ∧
    (updateLog f s).cache = s.cache ∧ (updateLog f s).keys = s.keys ∧ (updateLog f s).seq = s.seq ∧
    (updateLog f s).time = s.time ∧ (updateLog f s).frames = s.frames ∧ (updateLog f s).link = s.link ∧
    (updateLog f s).sound = s.sound ∧ (updateLog f s).subs = s.subs ∧ (updateLog f s).lines = s.lines ∧
    (updateLog f s).port = s.port ∧ (updateLog f s).notices = s.notices ∧
    (updateLog f s).freeUses = s.freeUses := by
  unfold updateLog; (repeat' split) <;> simp

@[simp] theorem queueLogHead_frame (s : State) :
    (queueLogHead s).pending = s.pending ∧ (queueLogHead s).startUp = s.startUp ∧ (queueLogHead s).store = s.store ∧
    (queueLogHead s).nvm = s.nvm ∧ (queueLogHead s).catalogue = s.catalogue ∧ (queueLogHead s).free = s.free ∧
    (queueLogHead s).ingest = s.ingest ∧ (queueLogHead s).arbiter = s.arbiter ∧ (queueLogHead s).cache = s.cache ∧
    (queueLogHead s).keys = s.keys ∧ (queueLogHead s).seq = s.seq ∧ (queueLogHead s).time = s.time ∧
    (queueLogHead s).frames = s.frames ∧ (queueLogHead s).link = s.link ∧ (queueLogHead s).sound = s.sound ∧
    (queueLogHead s).subs = s.subs ∧ (queueLogHead s).lines = s.lines ∧ (queueLogHead s).notices = s.notices ∧
    (queueLogHead s).freeUses = s.freeUses := by
  simp only [queueLogHead]; (repeat' split) <;> simp

@[simp] theorem pumpLog_frame (n : Nat) (s : State) :
    (pumpLog n s).pending = s.pending ∧ (pumpLog n s).startUp = s.startUp ∧ (pumpLog n s).store = s.store ∧
    (pumpLog n s).nvm = s.nvm ∧ (pumpLog n s).catalogue = s.catalogue ∧ (pumpLog n s).free = s.free ∧
    (pumpLog n s).ingest = s.ingest ∧ (pumpLog n s).arbiter = s.arbiter ∧ (pumpLog n s).cache = s.cache ∧
    (pumpLog n s).keys = s.keys ∧ (pumpLog n s).seq = s.seq ∧ (pumpLog n s).time = s.time ∧
    (pumpLog n s).frames = s.frames ∧ (pumpLog n s).link = s.link ∧ (pumpLog n s).sound = s.sound ∧
    (pumpLog n s).subs = s.subs ∧ (pumpLog n s).lines = s.lines ∧ (pumpLog n s).notices = s.notices ∧
    (pumpLog n s).freeUses = s.freeUses := by
  induction n generalizing s with
  | zero => simp [pumpLog]
  | succ n ih => unfold pumpLog; (repeat' split) <;> simp_all

@[simp] theorem carryLog_frame (s : State) :
    (carryLog s).pending = s.pending ∧ (carryLog s).startUp = s.startUp ∧ (carryLog s).store = s.store ∧
    (carryLog s).nvm = s.nvm ∧ (carryLog s).catalogue = s.catalogue ∧ (carryLog s).free = s.free ∧
    (carryLog s).ingest = s.ingest ∧ (carryLog s).arbiter = s.arbiter ∧ (carryLog s).cache = s.cache ∧
    (carryLog s).keys = s.keys ∧ (carryLog s).seq = s.seq ∧ (carryLog s).time = s.time ∧
    (carryLog s).frames = s.frames ∧ (carryLog s).link = s.link ∧ (carryLog s).sound = s.sound ∧
    (carryLog s).subs = s.subs ∧ (carryLog s).lines = s.lines ∧ (carryLog s).notices = s.notices ∧
    (carryLog s).freeUses = s.freeUses := by
  simp [carryLog]

/-- A write queued from the unwritten list takes its head off the list. -/
theorem queueLogHead_unwritten (s : State) : (queueLogHead s).log.unwritten = s.log.unwritten.tail := by
  unfold queueLogHead; split
  · simp_all
  · rename_i h; simp only [h, List.tail_cons]; (repeat' split) <;> simp [updateLog, sendReply, pushWrite]

/-- The log goes on until no record is left to queue, or it waits for room (R172). -/
theorem pumpLog_done (n : Nat) (s : State) (h : s.log.unwritten.length ≤ n) :
    (pumpLog n s).log.unwritten = [] ∨ (pumpLog n s).logWaits = true := by
  induction n generalizing s with
  | zero => left; simpa [pumpLog] using h
  | succ n ih =>
    unfold pumpLog; split
    · rename_i h'; simpa using h'
    · split
      · exact ih _ (by rw [queueLogHead_unwritten]; simp; omega)
      · right; simp [State.logWaits, awaitRoom]

/-- After every change no record of the log is left unqueued unless the log waits for room (R172). -/
theorem carryLog_done (s : State) : (carryLog s).log.unwritten = [] ∨ (carryLog s).logWaits = true :=
  pumpLog_done _ s (Nat.le_refl _)
@[simp] theorem writeRecord_frame (sequence : Nat) (s : State) :
    (writeRecord sequence s).pending = s.pending ∧ (writeRecord sequence s).startUp = s.startUp ∧
    (writeRecord sequence s).store = s.store ∧ (writeRecord sequence s).nvm = s.nvm ∧
    (writeRecord sequence s).catalogue = s.catalogue ∧ (writeRecord sequence s).free = s.free ∧
    (writeRecord sequence s).ingest = s.ingest ∧ (writeRecord sequence s).arbiter = s.arbiter ∧
    (writeRecord sequence s).cache = s.cache ∧ (writeRecord sequence s).keys = s.keys ∧
    (writeRecord sequence s).seq = s.seq ∧ (writeRecord sequence s).time = s.time ∧
    (writeRecord sequence s).frames = s.frames ∧ (writeRecord sequence s).link = s.link ∧
    (writeRecord sequence s).sound = s.sound ∧ (writeRecord sequence s).subs = s.subs ∧
    (writeRecord sequence s).lines = s.lines ∧ (writeRecord sequence s).notices = s.notices ∧
    (writeRecord sequence s).freeUses = s.freeUses := by
  unfold writeRecord; (repeat' split) <;> simp

@[simp] theorem openRecord_frame (p : Play) (grant : Option (Nat × Nat)) (s : State) :
    (openRecord p grant s).pending = s.pending ∧ (openRecord p grant s).startUp = s.startUp ∧
    (openRecord p grant s).store = s.store ∧ (openRecord p grant s).nvm = s.nvm ∧
    (openRecord p grant s).catalogue = s.catalogue ∧ (openRecord p grant s).free = s.free ∧
    (openRecord p grant s).ingest = s.ingest ∧ (openRecord p grant s).arbiter = s.arbiter ∧
    (openRecord p grant s).cache = s.cache ∧ (openRecord p grant s).keys = s.keys ∧
    (openRecord p grant s).seq = s.seq ∧ (openRecord p grant s).time = s.time ∧
    (openRecord p grant s).frames = s.frames ∧ (openRecord p grant s).link = s.link ∧
    (openRecord p grant s).sound = s.sound ∧ (openRecord p grant s).subs = s.subs ∧
    (openRecord p grant s).lines = s.lines ∧ (openRecord p grant s).freeUses = s.freeUses := by
  simp only [openRecord]; (repeat' split) <;> simp

@[simp] theorem closeRecord_frame (sh : Showing) (outcome : ShowingOutcome) (s : State) :
    (closeRecord sh outcome s).pending = s.pending ∧ (closeRecord sh outcome s).startUp = s.startUp ∧
    (closeRecord sh outcome s).store = s.store ∧ (closeRecord sh outcome s).nvm = s.nvm ∧
    (closeRecord sh outcome s).catalogue = s.catalogue ∧ (closeRecord sh outcome s).free = s.free ∧
    (closeRecord sh outcome s).ingest = s.ingest ∧ (closeRecord sh outcome s).arbiter = s.arbiter ∧
    (closeRecord sh outcome s).cache = s.cache ∧ (closeRecord sh outcome s).keys = s.keys ∧
    (closeRecord sh outcome s).seq = s.seq ∧ (closeRecord sh outcome s).time = s.time ∧
    (closeRecord sh outcome s).frames = s.frames ∧ (closeRecord sh outcome s).link = s.link ∧
    (closeRecord sh outcome s).sound = s.sound ∧ (closeRecord sh outcome s).subs = s.subs ∧
    (closeRecord sh outcome s).lines = s.lines ∧ (closeRecord sh outcome s).notices = s.notices ∧
    (closeRecord sh outcome s).freeUses = s.freeUses := by
  unfold closeRecord; (repeat' split) <;> simp

@[simp] theorem startLog_frame (s : State) :
    (startLog s).pending = s.pending ∧ (startLog s).startUp = s.startUp ∧ (startLog s).store = s.store ∧
    (startLog s).nvm = s.nvm ∧ (startLog s).catalogue = s.catalogue ∧ (startLog s).free = s.free ∧
    (startLog s).ingest = s.ingest ∧ (startLog s).arbiter = s.arbiter ∧ (startLog s).cache = s.cache ∧
    (startLog s).keys = s.keys ∧ (startLog s).seq = s.seq ∧ (startLog s).time = s.time ∧
    (startLog s).frames = s.frames ∧ (startLog s).link = s.link ∧ (startLog s).sound = s.sound ∧
    (startLog s).subs = s.subs ∧ (startLog s).lines = s.lines ∧ (startLog s).freeUses = s.freeUses := by
  simp only [startLog]; (repeat' split) <;> simp

@[simp] theorem refuseLogRead_frame (frame : Frame) (reason : Reason) (s : State) :
    (refuseLogRead frame reason s).pending = s.pending ∧ (refuseLogRead frame reason s).startUp = s.startUp ∧
    (refuseLogRead frame reason s).store = s.store ∧ (refuseLogRead frame reason s).nvm = s.nvm ∧
    (refuseLogRead frame reason s).catalogue = s.catalogue ∧ (refuseLogRead frame reason s).queue = s.queue ∧
    (refuseLogRead frame reason s).free = s.free ∧ (refuseLogRead frame reason s).ingest = s.ingest ∧
    (refuseLogRead frame reason s).arbiter = s.arbiter ∧ (refuseLogRead frame reason s).cache = s.cache ∧
    (refuseLogRead frame reason s).keys = s.keys ∧ (refuseLogRead frame reason s).seq = s.seq ∧
    (refuseLogRead frame reason s).time = s.time ∧ (refuseLogRead frame reason s).frames = s.frames ∧
    (refuseLogRead frame reason s).link = s.link ∧ (refuseLogRead frame reason s).sound = s.sound ∧
    (refuseLogRead frame reason s).subs = s.subs ∧ (refuseLogRead frame reason s).log = s.log ∧
    (refuseLogRead frame reason s).lines = s.lines ∧ (refuseLogRead frame reason s).notices = s.notices ∧
    (refuseLogRead frame reason s).freeUses = s.freeUses := by
  unfold refuseLogRead; (repeat' split) <;> simp

@[simp] theorem serveLogRead_frame (frame : Frame) (first count : Nat) (s : State) :
    (serveLogRead frame first count s).pending = s.pending ∧
    (serveLogRead frame first count s).startUp = s.startUp ∧ (serveLogRead frame first count s).store = s.store ∧
    (serveLogRead frame first count s).nvm = s.nvm ∧ (serveLogRead frame first count s).catalogue = s.catalogue ∧
    (serveLogRead frame first count s).queue = s.queue ∧ (serveLogRead frame first count s).free = s.free ∧
    (serveLogRead frame first count s).ingest = s.ingest ∧ (serveLogRead frame first count s).arbiter = s.arbiter ∧
    (serveLogRead frame first count s).cache = s.cache ∧ (serveLogRead frame first count s).keys = s.keys ∧
    (serveLogRead frame first count s).seq = s.seq ∧ (serveLogRead frame first count s).time = s.time ∧
    (serveLogRead frame first count s).frames = s.frames ∧ (serveLogRead frame first count s).link = s.link ∧
    (serveLogRead frame first count s).sound = s.sound ∧ (serveLogRead frame first count s).subs = s.subs ∧
    (serveLogRead frame first count s).log = s.log ∧ (serveLogRead frame first count s).lines = s.lines ∧
    (serveLogRead frame first count s).notices = s.notices ∧
    (serveLogRead frame first count s).freeUses = s.freeUses := by
  simp only [serveLogRead]; (repeat' split) <;> simp

@[simp] theorem serveLogRelease_frame (frame : Frame) (sequence : Nat) (s : State) :
    (serveLogRelease frame sequence s).pending = s.pending ∧
    (serveLogRelease frame sequence s).startUp = s.startUp ∧ (serveLogRelease frame sequence s).store = s.store ∧
    (serveLogRelease frame sequence s).nvm = s.nvm ∧ (serveLogRelease frame sequence s).catalogue = s.catalogue ∧
    (serveLogRelease frame sequence s).free = s.free ∧ (serveLogRelease frame sequence s).ingest = s.ingest ∧
    (serveLogRelease frame sequence s).arbiter = s.arbiter ∧ (serveLogRelease frame sequence s).cache = s.cache ∧
    (serveLogRelease frame sequence s).keys = s.keys ∧ (serveLogRelease frame sequence s).seq = s.seq ∧
    (serveLogRelease frame sequence s).time = s.time ∧ (serveLogRelease frame sequence s).frames = s.frames ∧
    (serveLogRelease frame sequence s).link = s.link ∧ (serveLogRelease frame sequence s).sound = s.sound ∧
    (serveLogRelease frame sequence s).subs = s.subs ∧ (serveLogRelease frame sequence s).lines = s.lines ∧
    (serveLogRelease frame sequence s).notices = s.notices ∧
    (serveLogRelease frame sequence s).freeUses = s.freeUses := by
  simp only [serveLogRelease]; (repeat' split) <;> simp

/-! ### Keys -/

@[simp] theorem updateKeys_frame (f : Keys → Keys) (s : State) :
    (updateKeys f s).pending = s.pending ∧ (updateKeys f s).startUp = s.startUp ∧ (updateKeys f s).store = s.store ∧
    (updateKeys f s).nvm = s.nvm ∧ (updateKeys f s).catalogue = s.catalogue ∧ (updateKeys f s).queue = s.queue ∧
    (updateKeys f s).free = s.free ∧ (updateKeys f s).ingest = s.ingest ∧ (updateKeys f s).arbiter = s.arbiter ∧
    (updateKeys f s).cache = s.cache ∧ (updateKeys f s).seq = s.seq ∧ (updateKeys f s).time = s.time ∧
    (updateKeys f s).frames = s.frames ∧ (updateKeys f s).link = s.link ∧ (updateKeys f s).sound = s.sound ∧
    (updateKeys f s).subs = s.subs ∧ (updateKeys f s).log = s.log ∧ (updateKeys f s).lines = s.lines ∧
    (updateKeys f s).port = s.port ∧ (updateKeys f s).notices = s.notices ∧
    (updateKeys f s).freeUses = s.freeUses := by
  unfold updateKeys; (repeat' split) <;> simp

@[simp] theorem requestCheck_frame (followOn : Bool) (s : State) :
    (requestCheck followOn s).pending = s.pending ∧ (requestCheck followOn s).startUp = s.startUp ∧
    (requestCheck followOn s).store = s.store ∧ (requestCheck followOn s).nvm = s.nvm ∧
    (requestCheck followOn s).catalogue = s.catalogue ∧ (requestCheck followOn s).queue = s.queue ∧
    (requestCheck followOn s).free = s.free ∧ (requestCheck followOn s).ingest = s.ingest ∧
    (requestCheck followOn s).arbiter = s.arbiter ∧ (requestCheck followOn s).cache = s.cache ∧
    (requestCheck followOn s).seq = s.seq ∧ (requestCheck followOn s).time = s.time ∧
    (requestCheck followOn s).frames = s.frames ∧ (requestCheck followOn s).link = s.link ∧
    (requestCheck followOn s).sound = s.sound ∧ (requestCheck followOn s).subs = s.subs ∧
    (requestCheck followOn s).log = s.log ∧ (requestCheck followOn s).lines = s.lines ∧
    (requestCheck followOn s).port = s.port ∧ (requestCheck followOn s).notices = s.notices ∧
    (requestCheck followOn s).freeUses = s.freeUses := by
  unfold requestCheck; (repeat' split) <;> simp

@[simp] theorem pushBudget_frame (b : Budget) (s : State) :
    (pushBudget b s).pending = s.pending ∧ (pushBudget b s).startUp = s.startUp ∧ (pushBudget b s).store = s.store ∧
    (pushBudget b s).nvm = s.nvm ∧ (pushBudget b s).catalogue = s.catalogue ∧ (pushBudget b s).free = s.free ∧
    (pushBudget b s).ingest = s.ingest ∧ (pushBudget b s).arbiter = s.arbiter ∧ (pushBudget b s).cache = s.cache ∧
    (pushBudget b s).seq = s.seq ∧ (pushBudget b s).time = s.time ∧ (pushBudget b s).frames = s.frames ∧
    (pushBudget b s).link = s.link ∧ (pushBudget b s).sound = s.sound ∧ (pushBudget b s).subs = s.subs ∧
    (pushBudget b s).log = s.log ∧ (pushBudget b s).lines = s.lines ∧ (pushBudget b s).port = s.port ∧
    (pushBudget b s).notices = s.notices ∧ (pushBudget b s).freeUses = s.freeUses := by
  unfold pushBudget; (repeat' split) <;> simp

@[simp] theorem testBudget_frame (turn : Bool) (s : State) :
    (testBudget turn s).pending = s.pending ∧ (testBudget turn s).startUp = s.startUp ∧
    (testBudget turn s).store = s.store ∧ (testBudget turn s).nvm = s.nvm ∧
    (testBudget turn s).catalogue = s.catalogue ∧ (testBudget turn s).free = s.free ∧
    (testBudget turn s).ingest = s.ingest ∧ (testBudget turn s).arbiter = s.arbiter ∧
    (testBudget turn s).cache = s.cache ∧ (testBudget turn s).seq = s.seq ∧ (testBudget turn s).time = s.time ∧
    (testBudget turn s).frames = s.frames ∧ (testBudget turn s).link = s.link ∧
    (testBudget turn s).sound = s.sound ∧ (testBudget turn s).subs = s.subs ∧ (testBudget turn s).log = s.log ∧
    (testBudget turn s).lines = s.lines ∧ (testBudget turn s).port = s.port ∧
    (testBudget turn s).notices = s.notices ∧ (testBudget turn s).freeUses = s.freeUses := by
  unfold testBudget; (repeat' split) <;> simp

@[simp] theorem renewForTrim_frame (renewed : Budget) (a : Int) (s : State) :
    (renewForTrim renewed a s).pending = s.pending ∧ (renewForTrim renewed a s).startUp = s.startUp ∧
    (renewForTrim renewed a s).store = s.store ∧ (renewForTrim renewed a s).nvm = s.nvm ∧
    (renewForTrim renewed a s).catalogue = s.catalogue ∧ (renewForTrim renewed a s).free = s.free ∧
    (renewForTrim renewed a s).ingest = s.ingest ∧ (renewForTrim renewed a s).arbiter = s.arbiter ∧
    (renewForTrim renewed a s).cache = s.cache ∧ (renewForTrim renewed a s).seq = s.seq ∧
    (renewForTrim renewed a s).time = s.time ∧ (renewForTrim renewed a s).frames = s.frames ∧
    (renewForTrim renewed a s).link = s.link ∧ (renewForTrim renewed a s).sound = s.sound ∧
    (renewForTrim renewed a s).subs = s.subs ∧ (renewForTrim renewed a s).log = s.log ∧
    (renewForTrim renewed a s).lines = s.lines ∧ (renewForTrim renewed a s).port = s.port ∧
    (renewForTrim renewed a s).notices = s.notices ∧ (renewForTrim renewed a s).freeUses = s.freeUses := by
  unfold renewForTrim; (repeat' split) <;> simp

@[simp] theorem moveClock_frame (renewed : Budget) (a : Int) (s : State) :
    (moveClock renewed a s).pending = s.pending ∧ (moveClock renewed a s).startUp = s.startUp ∧
    (moveClock renewed a s).store = s.store ∧ (moveClock renewed a s).nvm = s.nvm ∧
    (moveClock renewed a s).catalogue = s.catalogue ∧ (moveClock renewed a s).free = s.free ∧
    (moveClock renewed a s).ingest = s.ingest ∧ (moveClock renewed a s).arbiter = s.arbiter ∧
    (moveClock renewed a s).cache = s.cache ∧ (moveClock renewed a s).seq = s.seq ∧
    (moveClock renewed a s).time = s.time ∧ (moveClock renewed a s).frames = s.frames ∧
    (moveClock renewed a s).link = s.link ∧ (moveClock renewed a s).sound = s.sound ∧
    (moveClock renewed a s).subs = s.subs ∧ (moveClock renewed a s).log = s.log ∧
    (moveClock renewed a s).lines = s.lines ∧ (moveClock renewed a s).port = s.port ∧
    (moveClock renewed a s).notices = s.notices ∧ (moveClock renewed a s).freeUses = s.freeUses := by
  unfold moveClock; (repeat' split) <;> simp

@[simp] theorem answerTrim_frame (frame : Frame) (t a : Int) (s : State) :
    (answerTrim frame t a s).pending = s.pending ∧ (answerTrim frame t a s).startUp = s.startUp ∧
    (answerTrim frame t a s).store = s.store ∧ (answerTrim frame t a s).nvm = s.nvm ∧
    (answerTrim frame t a s).catalogue = s.catalogue ∧ (answerTrim frame t a s).queue = s.queue ∧
    (answerTrim frame t a s).free = s.free ∧ (answerTrim frame t a s).ingest = s.ingest ∧
    (answerTrim frame t a s).arbiter = s.arbiter ∧ (answerTrim frame t a s).cache = s.cache ∧
    (answerTrim frame t a s).keys = s.keys ∧ (answerTrim frame t a s).seq = s.seq ∧
    (answerTrim frame t a s).time = s.time ∧ (answerTrim frame t a s).frames = s.frames ∧
    (answerTrim frame t a s).link = s.link ∧ (answerTrim frame t a s).sound = s.sound ∧
    (answerTrim frame t a s).subs = s.subs ∧ (answerTrim frame t a s).log = s.log ∧
    (answerTrim frame t a s).lines = s.lines ∧ (answerTrim frame t a s).freeUses = s.freeUses := by
  unfold answerTrim; (repeat' split) <;> simp

@[simp] theorem applyTrim_frame (frame : Frame) (t : Int) (s : State) :
    (applyTrim frame t s).pending = s.pending ∧ (applyTrim frame t s).startUp = s.startUp ∧
    (applyTrim frame t s).store = s.store ∧ (applyTrim frame t s).nvm = s.nvm ∧
    (applyTrim frame t s).catalogue = s.catalogue ∧ (applyTrim frame t s).free = s.free ∧
    (applyTrim frame t s).ingest = s.ingest ∧ (applyTrim frame t s).arbiter = s.arbiter ∧
    (applyTrim frame t s).cache = s.cache ∧ (applyTrim frame t s).seq = s.seq ∧
    (applyTrim frame t s).time = s.time ∧ (applyTrim frame t s).frames = s.frames ∧
    (applyTrim frame t s).link = s.link ∧ (applyTrim frame t s).sound = s.sound ∧
    (applyTrim frame t s).subs = s.subs ∧ (applyTrim frame t s).log = s.log ∧
    (applyTrim frame t s).lines = s.lines ∧ (applyTrim frame t s).freeUses = s.freeUses := by
  simp only [applyTrim]; (repeat' split) <;> simp

@[simp] theorem loadGrant_frame (frame : Frame) (slot : Nat) (g : Grant) (s : State) :
    (loadGrant frame slot g s).pending = s.pending ∧ (loadGrant frame slot g s).startUp = s.startUp ∧
    (loadGrant frame slot g s).store = s.store ∧ (loadGrant frame slot g s).nvm = s.nvm ∧
    (loadGrant frame slot g s).catalogue = s.catalogue ∧ (loadGrant frame slot g s).free = s.free ∧
    (loadGrant frame slot g s).ingest = s.ingest ∧ (loadGrant frame slot g s).arbiter = s.arbiter ∧
    (loadGrant frame slot g s).cache = s.cache ∧ (loadGrant frame slot g s).seq = s.seq ∧
    (loadGrant frame slot g s).time = s.time ∧ (loadGrant frame slot g s).frames = s.frames ∧
    (loadGrant frame slot g s).link = s.link ∧ (loadGrant frame slot g s).sound = s.sound ∧
    (loadGrant frame slot g s).subs = s.subs ∧ (loadGrant frame slot g s).log = s.log ∧
    (loadGrant frame slot g s).lines = s.lines ∧ (loadGrant frame slot g s).freeUses = s.freeUses := by
  unfold loadGrant; (repeat' split) <;> simp

@[simp] theorem serveGrantLoad_frame (turn : Bool) (frame : Frame) (key allowance start stop : Nat) (wrapped : List Byte) (s : State) :
    (serveGrantLoad turn frame key allowance start stop wrapped s).pending = s.pending ∧
    (serveGrantLoad turn frame key allowance start stop wrapped s).startUp = s.startUp ∧
    (serveGrantLoad turn frame key allowance start stop wrapped s).store = s.store ∧
    (serveGrantLoad turn frame key allowance start stop wrapped s).nvm = s.nvm ∧
    (serveGrantLoad turn frame key allowance start stop wrapped s).catalogue = s.catalogue ∧
    (serveGrantLoad turn frame key allowance start stop wrapped s).free = s.free ∧
    (serveGrantLoad turn frame key allowance start stop wrapped s).ingest = s.ingest ∧
    (serveGrantLoad turn frame key allowance start stop wrapped s).arbiter = s.arbiter ∧
    (serveGrantLoad turn frame key allowance start stop wrapped s).cache = s.cache ∧
    (serveGrantLoad turn frame key allowance start stop wrapped s).seq = s.seq ∧
    (serveGrantLoad turn frame key allowance start stop wrapped s).time = s.time ∧
    (serveGrantLoad turn frame key allowance start stop wrapped s).frames = s.frames ∧
    (serveGrantLoad turn frame key allowance start stop wrapped s).link = s.link ∧
    (serveGrantLoad turn frame key allowance start stop wrapped s).sound = s.sound ∧
    (serveGrantLoad turn frame key allowance start stop wrapped s).subs = s.subs ∧
    (serveGrantLoad turn frame key allowance start stop wrapped s).log = s.log ∧
    (serveGrantLoad turn frame key allowance start stop wrapped s).lines = s.lines ∧
    (serveGrantLoad turn frame key allowance start stop wrapped s).freeUses = s.freeUses := by
  simp only [serveGrantLoad]; (repeat' split) <;> simp

@[simp] theorem serveGrantList_frame (frame : Frame) (s : State) :
    (serveGrantList frame s).pending = s.pending ∧ (serveGrantList frame s).startUp = s.startUp ∧
    (serveGrantList frame s).store = s.store ∧ (serveGrantList frame s).nvm = s.nvm ∧
    (serveGrantList frame s).catalogue = s.catalogue ∧ (serveGrantList frame s).queue = s.queue ∧
    (serveGrantList frame s).free = s.free ∧ (serveGrantList frame s).ingest = s.ingest ∧
    (serveGrantList frame s).arbiter = s.arbiter ∧ (serveGrantList frame s).cache = s.cache ∧
    (serveGrantList frame s).keys = s.keys ∧ (serveGrantList frame s).seq = s.seq ∧
    (serveGrantList frame s).time = s.time ∧ (serveGrantList frame s).frames = s.frames ∧
    (serveGrantList frame s).link = s.link ∧ (serveGrantList frame s).sound = s.sound ∧
    (serveGrantList frame s).subs = s.subs ∧ (serveGrantList frame s).log = s.log ∧
    (serveGrantList frame s).lines = s.lines ∧ (serveGrantList frame s).notices = s.notices ∧
    (serveGrantList frame s).freeUses = s.freeUses := by
  unfold serveGrantList; (repeat' split) <;> simp

@[simp] theorem serveGrantPurge_frame (turn : Bool) (frame : Frame) (slot : Nat) (s : State) :
    (serveGrantPurge turn frame slot s).pending = s.pending ∧
    (serveGrantPurge turn frame slot s).startUp = s.startUp ∧ (serveGrantPurge turn frame slot s).store = s.store ∧
    (serveGrantPurge turn frame slot s).nvm = s.nvm ∧ (serveGrantPurge turn frame slot s).catalogue = s.catalogue ∧
    (serveGrantPurge turn frame slot s).free = s.free ∧ (serveGrantPurge turn frame slot s).ingest = s.ingest ∧
    (serveGrantPurge turn frame slot s).arbiter = s.arbiter ∧ (serveGrantPurge turn frame slot s).cache = s.cache ∧
    (serveGrantPurge turn frame slot s).seq = s.seq ∧ (serveGrantPurge turn frame slot s).time = s.time ∧
    (serveGrantPurge turn frame slot s).frames = s.frames ∧ (serveGrantPurge turn frame slot s).link = s.link ∧
    (serveGrantPurge turn frame slot s).sound = s.sound ∧ (serveGrantPurge turn frame slot s).subs = s.subs ∧
    (serveGrantPurge turn frame slot s).log = s.log ∧ (serveGrantPurge turn frame slot s).lines = s.lines ∧
    (serveGrantPurge turn frame slot s).freeUses = s.freeUses := by
  simp only [serveGrantPurge]; (repeat' split) <;> simp

@[simp] theorem changeGrant_frame (slot : Nat) (g : Grant) (target : GrantState) (s : State) :
    (changeGrant slot g target s).pending = s.pending ∧ (changeGrant slot g target s).startUp = s.startUp ∧
    (changeGrant slot g target s).store = s.store ∧ (changeGrant slot g target s).nvm = s.nvm ∧
    (changeGrant slot g target s).catalogue = s.catalogue ∧ (changeGrant slot g target s).free = s.free ∧
    (changeGrant slot g target s).ingest = s.ingest ∧ (changeGrant slot g target s).arbiter = s.arbiter ∧
    (changeGrant slot g target s).cache = s.cache ∧ (changeGrant slot g target s).seq = s.seq ∧
    (changeGrant slot g target s).time = s.time ∧ (changeGrant slot g target s).frames = s.frames ∧
    (changeGrant slot g target s).link = s.link ∧ (changeGrant slot g target s).sound = s.sound ∧
    (changeGrant slot g target s).subs = s.subs ∧ (changeGrant slot g target s).log = s.log ∧
    (changeGrant slot g target s).lines = s.lines ∧ (changeGrant slot g target s).port = s.port ∧
    (changeGrant slot g target s).freeUses = s.freeUses := by
  unfold changeGrant; (repeat' split) <;> simp

@[simp] theorem judgeGrants_frame (n : Nat) (turn : Bool) (s : State) :
    (judgeGrants n turn s).pending = s.pending ∧ (judgeGrants n turn s).startUp = s.startUp ∧
    (judgeGrants n turn s).store = s.store ∧ (judgeGrants n turn s).nvm = s.nvm ∧
    (judgeGrants n turn s).catalogue = s.catalogue ∧ (judgeGrants n turn s).free = s.free ∧
    (judgeGrants n turn s).ingest = s.ingest ∧ (judgeGrants n turn s).arbiter = s.arbiter ∧
    (judgeGrants n turn s).cache = s.cache ∧ (judgeGrants n turn s).seq = s.seq ∧
    (judgeGrants n turn s).time = s.time ∧ (judgeGrants n turn s).frames = s.frames ∧
    (judgeGrants n turn s).link = s.link ∧ (judgeGrants n turn s).sound = s.sound ∧
    (judgeGrants n turn s).subs = s.subs ∧ (judgeGrants n turn s).log = s.log ∧
    (judgeGrants n turn s).lines = s.lines ∧ (judgeGrants n turn s).port = s.port ∧
    (judgeGrants n turn s).freeUses = s.freeUses := by
  induction n generalizing turn s with
  | zero => simp [judgeGrants]
  | succ n ih =>
    simp only [judgeGrants]; split
    · simp
    · split
      · simp [ih]
      · split
        · simp [ih]
        · split <;> simp [ih]

@[simp] theorem beginCheck_frame (s : State) :
    (beginCheck s).pending = s.pending ∧ (beginCheck s).startUp = s.startUp ∧ (beginCheck s).store = s.store ∧
    (beginCheck s).nvm = s.nvm ∧ (beginCheck s).catalogue = s.catalogue ∧ (beginCheck s).free = s.free ∧
    (beginCheck s).ingest = s.ingest ∧ (beginCheck s).arbiter = s.arbiter ∧ (beginCheck s).cache = s.cache ∧
    (beginCheck s).seq = s.seq ∧ (beginCheck s).time = s.time ∧ (beginCheck s).frames = s.frames ∧
    (beginCheck s).link = s.link ∧ (beginCheck s).sound = s.sound ∧ (beginCheck s).subs = s.subs ∧
    (beginCheck s).log = s.log ∧ (beginCheck s).lines = s.lines ∧ (beginCheck s).port = s.port ∧
    (beginCheck s).freeUses = s.freeUses := by
  unfold beginCheck; (repeat' split) <;> simp

@[simp] theorem endCheck_frame (s : State) :
    (endCheck s).pending = s.pending ∧ (endCheck s).startUp = s.startUp ∧ (endCheck s).store = s.store ∧
    (endCheck s).nvm = s.nvm ∧ (endCheck s).catalogue = s.catalogue ∧ (endCheck s).queue = s.queue ∧
    (endCheck s).free = s.free ∧ (endCheck s).ingest = s.ingest ∧ (endCheck s).arbiter = s.arbiter ∧
    (endCheck s).cache = s.cache ∧ (endCheck s).seq = s.seq ∧ (endCheck s).time = s.time ∧
    (endCheck s).frames = s.frames ∧ (endCheck s).link = s.link ∧ (endCheck s).sound = s.sound ∧
    (endCheck s).subs = s.subs ∧ (endCheck s).log = s.log ∧ (endCheck s).lines = s.lines ∧
    (endCheck s).port = s.port ∧ (endCheck s).notices = s.notices ∧ (endCheck s).freeUses = s.freeUses := by
  unfold endCheck; (repeat' split) <;> simp

@[simp] theorem expireInterval_frame (s : State) :
    (expireInterval s).pending = s.pending ∧ (expireInterval s).startUp = s.startUp ∧
    (expireInterval s).store = s.store ∧ (expireInterval s).nvm = s.nvm ∧
    (expireInterval s).catalogue = s.catalogue ∧ (expireInterval s).queue = s.queue ∧
    (expireInterval s).free = s.free ∧ (expireInterval s).ingest = s.ingest ∧
    (expireInterval s).arbiter = s.arbiter ∧ (expireInterval s).cache = s.cache ∧ (expireInterval s).seq = s.seq ∧
    (expireInterval s).time = s.time ∧ (expireInterval s).frames = s.frames ∧ (expireInterval s).link = s.link ∧
    (expireInterval s).sound = s.sound ∧ (expireInterval s).subs = s.subs ∧ (expireInterval s).log = s.log ∧
    (expireInterval s).lines = s.lines ∧ (expireInterval s).port = s.port ∧ (expireInterval s).notices = s.notices ∧
    (expireInterval s).freeUses = s.freeUses := by
  unfold expireInterval; (repeat' split) <;> simp

@[simp] theorem secondPasses_frame (s : State) :
    (secondPasses s).pending = s.pending ∧ (secondPasses s).startUp = s.startUp ∧ (secondPasses s).store = s.store ∧
    (secondPasses s).nvm = s.nvm ∧ (secondPasses s).catalogue = s.catalogue ∧ (secondPasses s).free = s.free ∧
    (secondPasses s).ingest = s.ingest ∧ (secondPasses s).arbiter = s.arbiter ∧ (secondPasses s).cache = s.cache ∧
    (secondPasses s).seq = s.seq ∧ (secondPasses s).time = s.time ∧ (secondPasses s).frames = s.frames ∧
    (secondPasses s).link = s.link ∧ (secondPasses s).sound = s.sound ∧ (secondPasses s).subs = s.subs ∧
    (secondPasses s).log = s.log ∧ (secondPasses s).lines = s.lines ∧ (secondPasses s).port = s.port ∧
    (secondPasses s).notices = s.notices ∧ (secondPasses s).freeUses = s.freeUses := by
  unfold secondPasses; (repeat' split) <;> simp

@[simp] theorem selectGrant_frame (key : Nat) (s : State) :
    (selectGrant key s).2.pending = s.pending ∧ (selectGrant key s).2.startUp = s.startUp ∧
    (selectGrant key s).2.store = s.store ∧ (selectGrant key s).2.nvm = s.nvm ∧
    (selectGrant key s).2.catalogue = s.catalogue ∧ (selectGrant key s).2.queue = s.queue ∧
    (selectGrant key s).2.free = s.free ∧ (selectGrant key s).2.ingest = s.ingest ∧
    (selectGrant key s).2.arbiter = s.arbiter ∧ (selectGrant key s).2.cache = s.cache ∧
    (selectGrant key s).2.seq = s.seq ∧ (selectGrant key s).2.time = s.time ∧
    (selectGrant key s).2.frames = s.frames ∧ (selectGrant key s).2.link = s.link ∧
    (selectGrant key s).2.sound = s.sound ∧ (selectGrant key s).2.subs = s.subs ∧
    (selectGrant key s).2.log = s.log ∧ (selectGrant key s).2.lines = s.lines ∧
    (selectGrant key s).2.port = s.port ∧ (selectGrant key s).2.notices = s.notices ∧
    (selectGrant key s).2.freeUses = s.freeUses := by
  unfold selectGrant; (repeat' split) <;> simp

@[simp] theorem setCharged_frame (after : Option (Nat × Grant)) (s : State) :
    (setCharged after s).pending = s.pending ∧ (setCharged after s).startUp = s.startUp ∧
    (setCharged after s).store = s.store ∧ (setCharged after s).nvm = s.nvm ∧
    (setCharged after s).catalogue = s.catalogue ∧ (setCharged after s).queue = s.queue ∧
    (setCharged after s).free = s.free ∧ (setCharged after s).ingest = s.ingest ∧
    (setCharged after s).arbiter = s.arbiter ∧ (setCharged after s).cache = s.cache ∧
    (setCharged after s).seq = s.seq ∧ (setCharged after s).time = s.time ∧ (setCharged after s).frames = s.frames ∧
    (setCharged after s).link = s.link ∧ (setCharged after s).sound = s.sound ∧ (setCharged after s).subs = s.subs ∧
    (setCharged after s).log = s.log ∧ (setCharged after s).lines = s.lines ∧ (setCharged after s).port = s.port ∧
    (setCharged after s).notices = s.notices ∧ (setCharged after s).freeUses = s.freeUses := by
  unfold setCharged; (repeat' split) <;> simp

@[simp] theorem setShown_frame (id shown : Nat) (s : State) :
    (setShown id shown s).pending = s.pending ∧ (setShown id shown s).startUp = s.startUp ∧
    (setShown id shown s).store = s.store ∧ (setShown id shown s).nvm = s.nvm ∧
    (setShown id shown s).queue = s.queue ∧ (setShown id shown s).free = s.free ∧
    (setShown id shown s).ingest = s.ingest ∧ (setShown id shown s).arbiter = s.arbiter ∧
    (setShown id shown s).cache = s.cache ∧ (setShown id shown s).keys = s.keys ∧
    (setShown id shown s).seq = s.seq ∧ (setShown id shown s).time = s.time ∧
    (setShown id shown s).frames = s.frames ∧ (setShown id shown s).link = s.link ∧
    (setShown id shown s).sound = s.sound ∧ (setShown id shown s).subs = s.subs ∧
    (setShown id shown s).log = s.log ∧ (setShown id shown s).lines = s.lines ∧
    (setShown id shown s).port = s.port ∧ (setShown id shown s).notices = s.notices ∧
    (setShown id shown s).freeUses = s.freeUses := by
  unfold setShown; (repeat' split) <;> simp

@[simp] theorem raiseCount_frame (c : Count) (before after : Option (Nat × Grant)) (s : State) :
    (raiseCount c before after s).pending = s.pending ∧ (raiseCount c before after s).startUp = s.startUp ∧
    (raiseCount c before after s).store = s.store ∧ (raiseCount c before after s).nvm = s.nvm ∧
    (raiseCount c before after s).catalogue = s.catalogue ∧ (raiseCount c before after s).queue = s.queue ∧
    (raiseCount c before after s).free = s.free ∧ (raiseCount c before after s).ingest = s.ingest ∧
    (raiseCount c before after s).arbiter = s.arbiter ∧ (raiseCount c before after s).cache = s.cache ∧
    (raiseCount c before after s).keys = s.keys ∧ (raiseCount c before after s).seq = s.seq ∧
    (raiseCount c before after s).time = s.time ∧ (raiseCount c before after s).frames = s.frames ∧
    (raiseCount c before after s).link = s.link ∧ (raiseCount c before after s).sound = s.sound ∧
    (raiseCount c before after s).subs = s.subs ∧ (raiseCount c before after s).log = s.log ∧
    (raiseCount c before after s).lines = s.lines ∧ (raiseCount c before after s).port = s.port ∧
    (raiseCount c before after s).freeUses = s.freeUses := by
  unfold raiseCount; (repeat' split) <;> simp

@[simp] theorem performCount_frame (c : Count) (s : State) :
    (performCount c s).pending = s.pending ∧ (performCount c s).startUp = s.startUp ∧
    (performCount c s).store = s.store ∧ (performCount c s).nvm = s.nvm ∧ (performCount c s).free = s.free ∧
    (performCount c s).ingest = s.ingest ∧ (performCount c s).arbiter = s.arbiter ∧
    (performCount c s).cache = s.cache ∧ (performCount c s).seq = s.seq ∧ (performCount c s).time = s.time ∧
    (performCount c s).frames = s.frames ∧ (performCount c s).link = s.link ∧ (performCount c s).sound = s.sound ∧
    (performCount c s).subs = s.subs ∧ (performCount c s).lines = s.lines ∧ (performCount c s).port = s.port ∧
    (performCount c s).freeUses = s.freeUses := by
  simp only [performCount]; (repeat' split) <;> simp

@[simp] theorem countShowing_frame (s : State) :
    (countShowing s).pending = s.pending ∧ (countShowing s).startUp = s.startUp ∧ (countShowing s).store = s.store ∧
    (countShowing s).nvm = s.nvm ∧ (countShowing s).free = s.free ∧ (countShowing s).ingest = s.ingest ∧
    (countShowing s).arbiter = s.arbiter ∧ (countShowing s).cache = s.cache ∧ (countShowing s).seq = s.seq ∧
    (countShowing s).time = s.time ∧ (countShowing s).frames = s.frames ∧ (countShowing s).link = s.link ∧
    (countShowing s).sound = s.sound ∧ (countShowing s).subs = s.subs ∧ (countShowing s).lines = s.lines ∧
    (countShowing s).port = s.port ∧ (countShowing s).freeUses = s.freeUses := by
  simp only [countShowing]; (repeat' split) <;> simp

@[simp] theorem serveClockRead_frame (frame : Frame) (s : State) :
    (serveClockRead frame s).pending = s.pending ∧ (serveClockRead frame s).startUp = s.startUp ∧
    (serveClockRead frame s).store = s.store ∧ (serveClockRead frame s).nvm = s.nvm ∧
    (serveClockRead frame s).catalogue = s.catalogue ∧ (serveClockRead frame s).queue = s.queue ∧
    (serveClockRead frame s).free = s.free ∧ (serveClockRead frame s).ingest = s.ingest ∧
    (serveClockRead frame s).arbiter = s.arbiter ∧ (serveClockRead frame s).cache = s.cache ∧
    (serveClockRead frame s).keys = s.keys ∧ (serveClockRead frame s).seq = s.seq ∧
    (serveClockRead frame s).time = s.time ∧ (serveClockRead frame s).frames = s.frames ∧
    (serveClockRead frame s).link = s.link ∧ (serveClockRead frame s).sound = s.sound ∧
    (serveClockRead frame s).subs = s.subs ∧ (serveClockRead frame s).log = s.log ∧
    (serveClockRead frame s).lines = s.lines ∧ (serveClockRead frame s).notices = s.notices ∧
    (serveClockRead frame s).freeUses = s.freeUses := by
  unfold serveClockRead; (repeat' split) <;> simp

@[simp] theorem serveClockTrim_frame (turn : Bool) (frame : Frame) (t : Int) (s : State) :
    (serveClockTrim turn frame t s).pending = s.pending ∧ (serveClockTrim turn frame t s).startUp = s.startUp ∧
    (serveClockTrim turn frame t s).store = s.store ∧ (serveClockTrim turn frame t s).nvm = s.nvm ∧
    (serveClockTrim turn frame t s).catalogue = s.catalogue ∧ (serveClockTrim turn frame t s).free = s.free ∧
    (serveClockTrim turn frame t s).ingest = s.ingest ∧ (serveClockTrim turn frame t s).arbiter = s.arbiter ∧
    (serveClockTrim turn frame t s).cache = s.cache ∧ (serveClockTrim turn frame t s).seq = s.seq ∧
    (serveClockTrim turn frame t s).time = s.time ∧ (serveClockTrim turn frame t s).frames = s.frames ∧
    (serveClockTrim turn frame t s).link = s.link ∧ (serveClockTrim turn frame t s).sound = s.sound ∧
    (serveClockTrim turn frame t s).subs = s.subs ∧ (serveClockTrim turn frame t s).log = s.log ∧
    (serveClockTrim turn frame t s).lines = s.lines ∧ (serveClockTrim turn frame t s).freeUses = s.freeUses := by
  simp only [serveClockTrim]; (repeat' split) <;> simp

@[simp] theorem serveGrantCheck_frame (frame : Frame) (s : State) :
    (serveGrantCheck frame s).pending = s.pending ∧ (serveGrantCheck frame s).startUp = s.startUp ∧
    (serveGrantCheck frame s).store = s.store ∧ (serveGrantCheck frame s).nvm = s.nvm ∧
    (serveGrantCheck frame s).catalogue = s.catalogue ∧ (serveGrantCheck frame s).queue = s.queue ∧
    (serveGrantCheck frame s).free = s.free ∧ (serveGrantCheck frame s).ingest = s.ingest ∧
    (serveGrantCheck frame s).arbiter = s.arbiter ∧ (serveGrantCheck frame s).cache = s.cache ∧
    (serveGrantCheck frame s).seq = s.seq ∧ (serveGrantCheck frame s).time = s.time ∧
    (serveGrantCheck frame s).frames = s.frames ∧ (serveGrantCheck frame s).link = s.link ∧
    (serveGrantCheck frame s).sound = s.sound ∧ (serveGrantCheck frame s).subs = s.subs ∧
    (serveGrantCheck frame s).log = s.log ∧ (serveGrantCheck frame s).lines = s.lines ∧
    (serveGrantCheck frame s).notices = s.notices ∧ (serveGrantCheck frame s).freeUses = s.freeUses := by
  unfold serveGrantCheck; (repeat' split) <;> simp

@[simp] theorem serveCheckInterval_frame (frame : Frame) (seconds : Nat) (s : State) :
    (serveCheckInterval frame seconds s).pending = s.pending ∧
    (serveCheckInterval frame seconds s).startUp = s.startUp ∧
    (serveCheckInterval frame seconds s).store = s.store ∧ (serveCheckInterval frame seconds s).nvm = s.nvm ∧
    (serveCheckInterval frame seconds s).catalogue = s.catalogue ∧
    (serveCheckInterval frame seconds s).queue = s.queue ∧ (serveCheckInterval frame seconds s).free = s.free ∧
    (serveCheckInterval frame seconds s).ingest = s.ingest ∧
    (serveCheckInterval frame seconds s).arbiter = s.arbiter ∧
    (serveCheckInterval frame seconds s).cache = s.cache ∧ (serveCheckInterval frame seconds s).seq = s.seq ∧
    (serveCheckInterval frame seconds s).time = s.time ∧ (serveCheckInterval frame seconds s).frames = s.frames ∧
    (serveCheckInterval frame seconds s).link = s.link ∧ (serveCheckInterval frame seconds s).sound = s.sound ∧
    (serveCheckInterval frame seconds s).subs = s.subs ∧ (serveCheckInterval frame seconds s).log = s.log ∧
    (serveCheckInterval frame seconds s).lines = s.lines ∧
    (serveCheckInterval frame seconds s).notices = s.notices ∧
    (serveCheckInterval frame seconds s).freeUses = s.freeUses := by
  simp only [serveCheckInterval]; (repeat' split) <;> simp

/-! ### Lines -/

@[simp] theorem updateLine_frame (n : Nat) (f : Line → Line) (s : State) :
    (updateLine n f s).pending = s.pending ∧ (updateLine n f s).startUp = s.startUp ∧
    (updateLine n f s).store = s.store ∧ (updateLine n f s).nvm = s.nvm ∧
    (updateLine n f s).catalogue = s.catalogue ∧ (updateLine n f s).queue = s.queue ∧
    (updateLine n f s).free = s.free ∧ (updateLine n f s).ingest = s.ingest ∧
    (updateLine n f s).arbiter = s.arbiter ∧ (updateLine n f s).cache = s.cache ∧ (updateLine n f s).keys = s.keys ∧
    (updateLine n f s).seq = s.seq ∧ (updateLine n f s).time = s.time ∧ (updateLine n f s).frames = s.frames ∧
    (updateLine n f s).link = s.link ∧ (updateLine n f s).sound = s.sound ∧ (updateLine n f s).subs = s.subs ∧
    (updateLine n f s).log = s.log ∧ (updateLine n f s).port = s.port ∧ (updateLine n f s).notices = s.notices ∧
    (updateLine n f s).freeUses = s.freeUses := by
  unfold updateLine; (repeat' split) <;> simp

@[simp] theorem writeMasked_frame (mask values : BitVec 16) (s : State) :
    (writeMasked mask values s).pending = s.pending ∧ (writeMasked mask values s).startUp = s.startUp ∧
    (writeMasked mask values s).store = s.store ∧ (writeMasked mask values s).nvm = s.nvm ∧
    (writeMasked mask values s).catalogue = s.catalogue ∧ (writeMasked mask values s).queue = s.queue ∧
    (writeMasked mask values s).free = s.free ∧ (writeMasked mask values s).ingest = s.ingest ∧
    (writeMasked mask values s).arbiter = s.arbiter ∧ (writeMasked mask values s).cache = s.cache ∧
    (writeMasked mask values s).keys = s.keys ∧ (writeMasked mask values s).seq = s.seq ∧
    (writeMasked mask values s).time = s.time ∧ (writeMasked mask values s).frames = s.frames ∧
    (writeMasked mask values s).link = s.link ∧ (writeMasked mask values s).sound = s.sound ∧
    (writeMasked mask values s).subs = s.subs ∧ (writeMasked mask values s).log = s.log ∧
    (writeMasked mask values s).port = s.port ∧ (writeMasked mask values s).notices = s.notices ∧
    (writeMasked mask values s).freeUses = s.freeUses := by
  unfold writeMasked; (repeat' split) <;> simp

@[simp] theorem stepPulses_frame (s : State) :
    (stepPulses s).pending = s.pending ∧ (stepPulses s).startUp = s.startUp ∧ (stepPulses s).store = s.store ∧
    (stepPulses s).nvm = s.nvm ∧ (stepPulses s).catalogue = s.catalogue ∧ (stepPulses s).queue = s.queue ∧
    (stepPulses s).free = s.free ∧ (stepPulses s).ingest = s.ingest ∧ (stepPulses s).arbiter = s.arbiter ∧
    (stepPulses s).cache = s.cache ∧ (stepPulses s).keys = s.keys ∧ (stepPulses s).seq = s.seq ∧
    (stepPulses s).time = s.time ∧ (stepPulses s).frames = s.frames ∧ (stepPulses s).link = s.link ∧
    (stepPulses s).sound = s.sound ∧ (stepPulses s).subs = s.subs ∧ (stepPulses s).log = s.log ∧
    (stepPulses s).port = s.port ∧ (stepPulses s).notices = s.notices ∧ (stepPulses s).freeUses = s.freeUses := by
  unfold stepPulses; (repeat' split) <;> simp

@[simp] theorem serveLineSet_frame (frame : Frame) (mask values : BitVec 16) (s : State) :
    (serveLineSet frame mask values s).pending = s.pending ∧
    (serveLineSet frame mask values s).startUp = s.startUp ∧ (serveLineSet frame mask values s).store = s.store ∧
    (serveLineSet frame mask values s).nvm = s.nvm ∧ (serveLineSet frame mask values s).catalogue = s.catalogue ∧
    (serveLineSet frame mask values s).queue = s.queue ∧ (serveLineSet frame mask values s).free = s.free ∧
    (serveLineSet frame mask values s).ingest = s.ingest ∧ (serveLineSet frame mask values s).arbiter = s.arbiter ∧
    (serveLineSet frame mask values s).cache = s.cache ∧ (serveLineSet frame mask values s).keys = s.keys ∧
    (serveLineSet frame mask values s).seq = s.seq ∧ (serveLineSet frame mask values s).time = s.time ∧
    (serveLineSet frame mask values s).frames = s.frames ∧ (serveLineSet frame mask values s).link = s.link ∧
    (serveLineSet frame mask values s).sound = s.sound ∧ (serveLineSet frame mask values s).subs = s.subs ∧
    (serveLineSet frame mask values s).log = s.log ∧ (serveLineSet frame mask values s).notices = s.notices ∧
    (serveLineSet frame mask values s).freeUses = s.freeUses := by
  unfold serveLineSet; (repeat' split) <;> simp

@[simp] theorem serveLineRead_frame (frame : Frame) (s : State) :
    (serveLineRead frame s).pending = s.pending ∧ (serveLineRead frame s).startUp = s.startUp ∧
    (serveLineRead frame s).store = s.store ∧ (serveLineRead frame s).nvm = s.nvm ∧
    (serveLineRead frame s).catalogue = s.catalogue ∧ (serveLineRead frame s).queue = s.queue ∧
    (serveLineRead frame s).free = s.free ∧ (serveLineRead frame s).ingest = s.ingest ∧
    (serveLineRead frame s).arbiter = s.arbiter ∧ (serveLineRead frame s).cache = s.cache ∧
    (serveLineRead frame s).keys = s.keys ∧ (serveLineRead frame s).seq = s.seq ∧
    (serveLineRead frame s).time = s.time ∧ (serveLineRead frame s).frames = s.frames ∧
    (serveLineRead frame s).link = s.link ∧ (serveLineRead frame s).sound = s.sound ∧
    (serveLineRead frame s).subs = s.subs ∧ (serveLineRead frame s).log = s.log ∧
    (serveLineRead frame s).lines = s.lines ∧ (serveLineRead frame s).notices = s.notices ∧
    (serveLineRead frame s).freeUses = s.freeUses := by
  unfold serveLineRead; (repeat' split) <;> simp

/-! ### Sequencer -/

@[simp] theorem updateSeq_frame (f : Sequencer → Sequencer) (s : State) :
    (updateSeq f s).pending = s.pending ∧ (updateSeq f s).startUp = s.startUp ∧ (updateSeq f s).store = s.store ∧
    (updateSeq f s).nvm = s.nvm ∧ (updateSeq f s).catalogue = s.catalogue ∧ (updateSeq f s).queue = s.queue ∧
    (updateSeq f s).free = s.free ∧ (updateSeq f s).ingest = s.ingest ∧ (updateSeq f s).arbiter = s.arbiter ∧
    (updateSeq f s).cache = s.cache ∧ (updateSeq f s).keys = s.keys ∧ (updateSeq f s).time = s.time ∧
    (updateSeq f s).frames = s.frames ∧ (updateSeq f s).link = s.link ∧ (updateSeq f s).sound = s.sound ∧
    (updateSeq f s).subs = s.subs ∧ (updateSeq f s).log = s.log ∧ (updateSeq f s).lines = s.lines ∧
    (updateSeq f s).port = s.port ∧ (updateSeq f s).notices = s.notices ∧
    (updateSeq f s).freeUses = s.freeUses := by
  unfold updateSeq; (repeat' split) <;> simp

@[simp] theorem updateTime_frame (f : Timeline → Timeline) (s : State) :
    (updateTime f s).pending = s.pending ∧ (updateTime f s).startUp = s.startUp ∧ (updateTime f s).store = s.store ∧
    (updateTime f s).nvm = s.nvm ∧ (updateTime f s).catalogue = s.catalogue ∧ (updateTime f s).queue = s.queue ∧
    (updateTime f s).free = s.free ∧ (updateTime f s).ingest = s.ingest ∧ (updateTime f s).arbiter = s.arbiter ∧
    (updateTime f s).cache = s.cache ∧ (updateTime f s).keys = s.keys ∧ (updateTime f s).seq = s.seq ∧
    (updateTime f s).frames = s.frames ∧ (updateTime f s).link = s.link ∧ (updateTime f s).sound = s.sound ∧
    (updateTime f s).subs = s.subs ∧ (updateTime f s).log = s.log ∧ (updateTime f s).lines = s.lines ∧
    (updateTime f s).port = s.port ∧ (updateTime f s).notices = s.notices ∧
    (updateTime f s).freeUses = s.freeUses := by
  unfold updateTime; (repeat' split) <;> simp

@[simp] theorem checkPlay_frame (pos : Pos) (id : Nat) (first last : Option Nat) (cues : List CueRecord) (s : State) :
    (checkPlay pos id first last cues s).2.pending = s.pending ∧
    (checkPlay pos id first last cues s).2.startUp = s.startUp ∧
    (checkPlay pos id first last cues s).2.store = s.store ∧ (checkPlay pos id first last cues s).2.nvm = s.nvm ∧
    (checkPlay pos id first last cues s).2.catalogue = s.catalogue ∧
    (checkPlay pos id first last cues s).2.queue = s.queue ∧ (checkPlay pos id first last cues s).2.free = s.free ∧
    (checkPlay pos id first last cues s).2.ingest = s.ingest ∧
    (checkPlay pos id first last cues s).2.arbiter = s.arbiter ∧
    (checkPlay pos id first last cues s).2.cache = s.cache ∧ (checkPlay pos id first last cues s).2.seq = s.seq ∧
    (checkPlay pos id first last cues s).2.time = s.time ∧
    (checkPlay pos id first last cues s).2.frames = s.frames ∧
    (checkPlay pos id first last cues s).2.link = s.link ∧ (checkPlay pos id first last cues s).2.sound = s.sound ∧
    (checkPlay pos id first last cues s).2.subs = s.subs ∧ (checkPlay pos id first last cues s).2.log = s.log ∧
    (checkPlay pos id first last cues s).2.lines = s.lines ∧ (checkPlay pos id first last cues s).2.port = s.port ∧
    (checkPlay pos id first last cues s).2.notices = s.notices ∧
    (checkPlay pos id first last cues s).2.freeUses = s.freeUses := by
  unfold checkPlay; dsimp only
  repeat' split
  all_goals first
    | simp; done
    | (rename_i heq _; have hf := congrArg Prod.snd heq; subst hf; simp; done)
    | (rename_i heq; have hf := congrArg Prod.snd heq; subst hf; simp)

@[simp] theorem recheckPlay_frame (p : Play) (s : State) :
    (recheckPlay p s).2.pending = s.pending ∧ (recheckPlay p s).2.startUp = s.startUp ∧
    (recheckPlay p s).2.store = s.store ∧ (recheckPlay p s).2.nvm = s.nvm ∧
    (recheckPlay p s).2.catalogue = s.catalogue ∧ (recheckPlay p s).2.queue = s.queue ∧
    (recheckPlay p s).2.free = s.free ∧ (recheckPlay p s).2.ingest = s.ingest ∧
    (recheckPlay p s).2.arbiter = s.arbiter ∧ (recheckPlay p s).2.cache = s.cache ∧
    (recheckPlay p s).2.seq = s.seq ∧ (recheckPlay p s).2.time = s.time ∧ (recheckPlay p s).2.frames = s.frames ∧
    (recheckPlay p s).2.link = s.link ∧ (recheckPlay p s).2.sound = s.sound ∧ (recheckPlay p s).2.subs = s.subs ∧
    (recheckPlay p s).2.log = s.log ∧ (recheckPlay p s).2.lines = s.lines ∧ (recheckPlay p s).2.port = s.port ∧
    (recheckPlay p s).2.notices = s.notices ∧ (recheckPlay p s).2.freeUses = s.freeUses := by
  unfold recheckPlay; (repeat' split) <;> simp

@[simp] theorem Walk.after_frame (step : PathStep) (w : Walk × State) :
    (Walk.after step w).2 = w.2 := rfl

@[simp] theorem walkEnd_frame (stack : List Pos) (pos : Pos) (stop : WalkEnd) (s : State) :
    (walkEnd stack pos stop s).2.pending = s.pending ∧ (walkEnd stack pos stop s).2.startUp = s.startUp ∧
    (walkEnd stack pos stop s).2.store = s.store ∧ (walkEnd stack pos stop s).2.nvm = s.nvm ∧
    (walkEnd stack pos stop s).2.catalogue = s.catalogue ∧ (walkEnd stack pos stop s).2.queue = s.queue ∧
    (walkEnd stack pos stop s).2.free = s.free ∧ (walkEnd stack pos stop s).2.ingest = s.ingest ∧
    (walkEnd stack pos stop s).2.arbiter = s.arbiter ∧ (walkEnd stack pos stop s).2.cache = s.cache ∧
    (walkEnd stack pos stop s).2.keys = s.keys ∧ (walkEnd stack pos stop s).2.seq = s.seq ∧
    (walkEnd stack pos stop s).2.time = s.time ∧ (walkEnd stack pos stop s).2.frames = s.frames ∧
    (walkEnd stack pos stop s).2.link = s.link ∧ (walkEnd stack pos stop s).2.sound = s.sound ∧
    (walkEnd stack pos stop s).2.subs = s.subs ∧ (walkEnd stack pos stop s).2.log = s.log ∧
    (walkEnd stack pos stop s).2.lines = s.lines ∧ (walkEnd stack pos stop s).2.port = s.port ∧
    (walkEnd stack pos stop s).2.notices = s.notices ∧ (walkEnd stack pos stop s).2.freeUses = s.freeUses := by
  unfold walkEnd; (repeat' split) <;> simp

@[simp] theorem scan_frame (n : Nat) (pos : Pos) (stack : List Pos) (s : State) :
    (scan n pos stack s).2.pending = s.pending ∧ (scan n pos stack s).2.startUp = s.startUp ∧
    (scan n pos stack s).2.store = s.store ∧ (scan n pos stack s).2.nvm = s.nvm ∧
    (scan n pos stack s).2.catalogue = s.catalogue ∧ (scan n pos stack s).2.queue = s.queue ∧
    (scan n pos stack s).2.free = s.free ∧ (scan n pos stack s).2.ingest = s.ingest ∧
    (scan n pos stack s).2.arbiter = s.arbiter ∧ (scan n pos stack s).2.cache = s.cache ∧
    (scan n pos stack s).2.seq = s.seq ∧ (scan n pos stack s).2.time = s.time ∧
    (scan n pos stack s).2.frames = s.frames ∧ (scan n pos stack s).2.link = s.link ∧
    (scan n pos stack s).2.sound = s.sound ∧ (scan n pos stack s).2.subs = s.subs ∧
    (scan n pos stack s).2.log = s.log ∧ (scan n pos stack s).2.lines = s.lines ∧
    (scan n pos stack s).2.port = s.port ∧ (scan n pos stack s).2.notices = s.notices ∧
    (scan n pos stack s).2.freeUses = s.freeUses := by
  induction n generalizing pos stack s with
  | zero =>
    unfold scan; (repeat' split) <;> first
    | (simp [walkEnd]; done)
    | (rename_i heq; have hf := congrArg Prod.snd heq; subst hf; simp [walkEnd])
  | succ n ih =>
    unfold scan; (repeat' split) <;> first
    | (simp [walkEnd, ih]; done)
    | (rename_i heq; have hf := congrArg Prod.snd heq; subst hf; simp [walkEnd, ih])

@[simp] theorem actStep_frame (step : PathStep) (s : State) :
    (actStep step s).pending = s.pending ∧ (actStep step s).startUp = s.startUp ∧ (actStep step s).store = s.store ∧
    (actStep step s).nvm = s.nvm ∧ (actStep step s).catalogue = s.catalogue ∧ (actStep step s).queue = s.queue ∧
    (actStep step s).free = s.free ∧ (actStep step s).ingest = s.ingest ∧ (actStep step s).arbiter = s.arbiter ∧
    (actStep step s).cache = s.cache ∧ (actStep step s).keys = s.keys ∧ (actStep step s).time = s.time ∧
    (actStep step s).frames = s.frames ∧ (actStep step s).link = s.link ∧ (actStep step s).sound = s.sound ∧
    (actStep step s).subs = s.subs ∧ (actStep step s).log = s.log ∧ (actStep step s).port = s.port ∧
    (actStep step s).freeUses = s.freeUses := by
  unfold actStep; (repeat' split) <;> simp

@[simp] theorem actWalk_frame (start : Pos) (s : State) :
    (actWalk start s).2.pending = s.pending ∧ (actWalk start s).2.startUp = s.startUp ∧
    (actWalk start s).2.store = s.store ∧ (actWalk start s).2.nvm = s.nvm ∧
    (actWalk start s).2.catalogue = s.catalogue ∧ (actWalk start s).2.queue = s.queue ∧
    (actWalk start s).2.free = s.free ∧ (actWalk start s).2.ingest = s.ingest ∧
    (actWalk start s).2.arbiter = s.arbiter ∧ (actWalk start s).2.cache = s.cache ∧
    (actWalk start s).2.time = s.time ∧ (actWalk start s).2.frames = s.frames ∧ (actWalk start s).2.link = s.link ∧
    (actWalk start s).2.sound = s.sound ∧ (actWalk start s).2.subs = s.subs ∧ (actWalk start s).2.log = s.log ∧
    (actWalk start s).2.port = s.port ∧ (actWalk start s).2.freeUses = s.freeUses := by
  simp only [actWalk]; (repeat' split) <;> simp

@[simp] theorem prepareWindows_frame (p : Play) (s : State) :
    (prepareWindows p s).pending = s.pending ∧ (prepareWindows p s).startUp = s.startUp ∧
    (prepareWindows p s).store = s.store ∧ (prepareWindows p s).nvm = s.nvm ∧
    (prepareWindows p s).catalogue = s.catalogue ∧ (prepareWindows p s).queue = s.queue ∧
    (prepareWindows p s).free = s.free ∧ (prepareWindows p s).ingest = s.ingest ∧
    (prepareWindows p s).arbiter = s.arbiter ∧ (prepareWindows p s).keys = s.keys ∧
    (prepareWindows p s).seq = s.seq ∧ (prepareWindows p s).time = s.time ∧ (prepareWindows p s).frames = s.frames ∧
    (prepareWindows p s).link = s.link ∧ (prepareWindows p s).sound = s.sound ∧ (prepareWindows p s).subs = s.subs ∧
    (prepareWindows p s).log = s.log ∧ (prepareWindows p s).lines = s.lines ∧ (prepareWindows p s).port = s.port ∧
    (prepareWindows p s).freeUses = s.freeUses := by
  unfold prepareWindows; dsimp only
  split
  · simp
  · and_intros
    · rw [foldl_pending (h := by intro u t; cases t <;> simp)]; (repeat' split) <;> simp
    · rw [foldl_startUp (h := by intro u t; cases t <;> simp)]; (repeat' split) <;> simp
    · rw [foldl_store (h := by intro u t; cases t <;> simp)]; (repeat' split) <;> simp
    · rw [foldl_nvm (h := by intro u t; cases t <;> simp)]; (repeat' split) <;> simp
    · rw [foldl_catalogue (h := by intro u t; cases t <;> simp)]; (repeat' split) <;> simp
    · rw [foldl_queue (h := by intro u t; cases t <;> simp)]; (repeat' split) <;> simp
    · rw [foldl_free (h := by intro u t; cases t <;> simp)]; (repeat' split) <;> simp
    · rw [foldl_ingest (h := by intro u t; cases t <;> simp)]; (repeat' split) <;> simp
    · rw [foldl_arbiter (h := by intro u t; cases t <;> simp)]; (repeat' split) <;> simp
    · rw [foldl_keys (h := by intro u t; cases t <;> simp)]; (repeat' split) <;> simp
    · rw [foldl_seq (h := by intro u t; cases t <;> simp)]; (repeat' split) <;> simp
    · rw [foldl_time (h := by intro u t; cases t <;> simp)]; (repeat' split) <;> simp
    · rw [foldl_frames (h := by intro u t; cases t <;> simp)]; (repeat' split) <;> simp
    · rw [foldl_link (h := by intro u t; cases t <;> simp)]; (repeat' split) <;> simp
    · rw [foldl_sound (h := by intro u t; cases t <;> simp)]; (repeat' split) <;> simp
    · rw [foldl_subs (h := by intro u t; cases t <;> simp)]; (repeat' split) <;> simp
    · rw [foldl_log (h := by intro u t; cases t <;> simp)]; (repeat' split) <;> simp
    · rw [foldl_lines (h := by intro u t; cases t <;> simp)]; (repeat' split) <;> simp
    · rw [foldl_port (h := by intro u t; cases t <;> simp)]; (repeat' split) <;> simp
    · rw [foldl_freeUses (h := by intro u t; cases t <;> simp)]; (repeat' split) <;> simp


@[simp] theorem preparePlay_frame (p : Play) (g : Option (Nat × Grant)) (s : State) :
    (preparePlay p g s).pending = s.pending ∧ (preparePlay p g s).startUp = s.startUp ∧
    (preparePlay p g s).store = s.store ∧ (preparePlay p g s).nvm = s.nvm ∧
    (preparePlay p g s).catalogue = s.catalogue ∧ (preparePlay p g s).queue = s.queue ∧
    (preparePlay p g s).free = s.free ∧ (preparePlay p g s).ingest = s.ingest ∧ (preparePlay p g s).time = s.time ∧
    (preparePlay p g s).link = s.link ∧ (preparePlay p g s).log = s.log ∧ (preparePlay p g s).lines = s.lines ∧
    (preparePlay p g s).port = s.port ∧ (preparePlay p g s).freeUses = s.freeUses := by
  unfold preparePlay; (repeat' split) <;> simp

@[simp] theorem discardPrepared_frame (s : State) :
    (discardPrepared s).pending = s.pending ∧ (discardPrepared s).startUp = s.startUp ∧
    (discardPrepared s).store = s.store ∧ (discardPrepared s).nvm = s.nvm ∧
    (discardPrepared s).catalogue = s.catalogue ∧ (discardPrepared s).queue = s.queue ∧
    (discardPrepared s).free = s.free ∧ (discardPrepared s).ingest = s.ingest ∧ (discardPrepared s).time = s.time ∧
    (discardPrepared s).link = s.link ∧ (discardPrepared s).log = s.log ∧ (discardPrepared s).lines = s.lines ∧
    (discardPrepared s).port = s.port ∧ (discardPrepared s).notices = s.notices ∧
    (discardPrepared s).freeUses = s.freeUses := by
  unfold discardPrepared; (repeat' split) <;> simp

@[simp] theorem prepareEnd_frame (stop : WalkEnd) (s : State) :
    (prepareEnd stop s).pending = s.pending ∧ (prepareEnd stop s).startUp = s.startUp ∧
    (prepareEnd stop s).store = s.store ∧ (prepareEnd stop s).nvm = s.nvm ∧
    (prepareEnd stop s).catalogue = s.catalogue ∧ (prepareEnd stop s).queue = s.queue ∧
    (prepareEnd stop s).free = s.free ∧ (prepareEnd stop s).ingest = s.ingest ∧ (prepareEnd stop s).time = s.time ∧
    (prepareEnd stop s).link = s.link ∧ (prepareEnd stop s).log = s.log ∧ (prepareEnd stop s).lines = s.lines ∧
    (prepareEnd stop s).port = s.port ∧ (prepareEnd stop s).freeUses = s.freeUses := by
  unfold prepareEnd; (repeat' split) <;> simp

@[simp] theorem lookAhead_frame (start : Pos) (s : State) :
    (lookAhead start s).pending = s.pending ∧ (lookAhead start s).startUp = s.startUp ∧
    (lookAhead start s).store = s.store ∧ (lookAhead start s).nvm = s.nvm ∧
    (lookAhead start s).catalogue = s.catalogue ∧ (lookAhead start s).queue = s.queue ∧
    (lookAhead start s).free = s.free ∧ (lookAhead start s).ingest = s.ingest ∧ (lookAhead start s).time = s.time ∧
    (lookAhead start s).link = s.link ∧ (lookAhead start s).log = s.log ∧ (lookAhead start s).lines = s.lines ∧
    (lookAhead start s).port = s.port ∧ (lookAhead start s).freeUses = s.freeUses := by
  simp only [lookAhead]; (repeat' split) <;> simp

@[simp] theorem lookAheadIfDue_frame (s : State) :
    (lookAheadIfDue s).pending = s.pending ∧ (lookAheadIfDue s).startUp = s.startUp ∧
    (lookAheadIfDue s).store = s.store ∧ (lookAheadIfDue s).nvm = s.nvm ∧
    (lookAheadIfDue s).catalogue = s.catalogue ∧ (lookAheadIfDue s).queue = s.queue ∧
    (lookAheadIfDue s).free = s.free ∧ (lookAheadIfDue s).ingest = s.ingest ∧ (lookAheadIfDue s).time = s.time ∧
    (lookAheadIfDue s).link = s.link ∧ (lookAheadIfDue s).log = s.log ∧ (lookAheadIfDue s).lines = s.lines ∧
    (lookAheadIfDue s).port = s.port ∧ (lookAheadIfDue s).freeUses = s.freeUses := by
  unfold lookAheadIfDue; (repeat' split) <;> simp

@[simp] theorem endShowing_frame (outcome : ShowingOutcome) (s : State) :
    (endShowing outcome s).pending = s.pending ∧ (endShowing outcome s).startUp = s.startUp ∧
    (endShowing outcome s).store = s.store ∧ (endShowing outcome s).nvm = s.nvm ∧
    (endShowing outcome s).catalogue = s.catalogue ∧ (endShowing outcome s).free = s.free ∧
    (endShowing outcome s).ingest = s.ingest ∧ (endShowing outcome s).link = s.link ∧
    (endShowing outcome s).lines = s.lines ∧ (endShowing outcome s).freeUses = s.freeUses := by
  unfold endShowing; (repeat' split) <;> simp

@[simp] theorem enterIdle_frame (s : State) :
    (enterIdle s).pending = s.pending ∧ (enterIdle s).startUp = s.startUp ∧ (enterIdle s).store = s.store ∧
    (enterIdle s).nvm = s.nvm ∧ (enterIdle s).catalogue = s.catalogue ∧ (enterIdle s).queue = s.queue ∧
    (enterIdle s).free = s.free ∧ (enterIdle s).ingest = s.ingest ∧ (enterIdle s).link = s.link ∧
    (enterIdle s).log = s.log ∧ (enterIdle s).lines = s.lines ∧ (enterIdle s).port = s.port ∧
    (enterIdle s).freeUses = s.freeUses := by
  unfold enterIdle; (repeat' split) <;> simp

@[simp] theorem endShow_frame (outcome : ShowOutcome) (s : State) :
    (endShow outcome s).pending = s.pending ∧ (endShow outcome s).startUp = s.startUp ∧
    (endShow outcome s).store = s.store ∧ (endShow outcome s).nvm = s.nvm ∧
    (endShow outcome s).catalogue = s.catalogue ∧ (endShow outcome s).free = s.free ∧
    (endShow outcome s).ingest = s.ingest ∧ (endShow outcome s).link = s.link ∧
    (endShow outcome s).lines = s.lines ∧ (endShow outcome s).freeUses = s.freeUses := by
  unfold endShow; (repeat' split) <;> simp

@[simp] theorem halt_frame (cause : HaltCause) (s : State) :
    (halt cause s).pending = s.pending ∧ (halt cause s).startUp = s.startUp ∧ (halt cause s).store = s.store ∧
    (halt cause s).nvm = s.nvm ∧ (halt cause s).catalogue = s.catalogue ∧ (halt cause s).queue = s.queue ∧
    (halt cause s).free = s.free ∧ (halt cause s).ingest = s.ingest ∧ (halt cause s).link = s.link ∧
    (halt cause s).log = s.log ∧ (halt cause s).lines = s.lines ∧ (halt cause s).port = s.port ∧
    (halt cause s).freeUses = s.freeUses := by
  unfold halt; (repeat' split) <;> simp

@[simp] theorem haltAt_frame (pos : Pos) (s : State) :
    (haltAt pos s).pending = s.pending ∧ (haltAt pos s).startUp = s.startUp ∧ (haltAt pos s).store = s.store ∧
    (haltAt pos s).nvm = s.nvm ∧ (haltAt pos s).catalogue = s.catalogue ∧ (haltAt pos s).queue = s.queue ∧
    (haltAt pos s).free = s.free ∧ (haltAt pos s).ingest = s.ingest ∧ (haltAt pos s).link = s.link ∧
    (haltAt pos s).log = s.log ∧ (haltAt pos s).lines = s.lines ∧ (haltAt pos s).port = s.port ∧
    (haltAt pos s).freeUses = s.freeUses := by
  unfold haltAt; (repeat' split) <;> simp

@[simp] theorem enterRunning_frame (s : State) :
    (enterRunning s).pending = s.pending ∧ (enterRunning s).startUp = s.startUp ∧ (enterRunning s).store = s.store ∧
    (enterRunning s).nvm = s.nvm ∧ (enterRunning s).catalogue = s.catalogue ∧ (enterRunning s).queue = s.queue ∧
    (enterRunning s).free = s.free ∧ (enterRunning s).ingest = s.ingest ∧ (enterRunning s).arbiter = s.arbiter ∧
    (enterRunning s).cache = s.cache ∧ (enterRunning s).keys = s.keys ∧ (enterRunning s).time = s.time ∧
    (enterRunning s).frames = s.frames ∧ (enterRunning s).link = s.link ∧ (enterRunning s).sound = s.sound ∧
    (enterRunning s).subs = s.subs ∧ (enterRunning s).log = s.log ∧ (enterRunning s).lines = s.lines ∧
    (enterRunning s).port = s.port ∧ (enterRunning s).notices = s.notices ∧
    (enterRunning s).freeUses = s.freeUses := by
  unfold enterRunning; (repeat' split) <;> simp

@[simp] theorem raiseWaiting_frame (pos : Pos) (reason : WaitReason) (s : State) :
    (raiseWaiting pos reason s).pending = s.pending ∧ (raiseWaiting pos reason s).startUp = s.startUp ∧
    (raiseWaiting pos reason s).store = s.store ∧ (raiseWaiting pos reason s).nvm = s.nvm ∧
    (raiseWaiting pos reason s).catalogue = s.catalogue ∧ (raiseWaiting pos reason s).queue = s.queue ∧
    (raiseWaiting pos reason s).free = s.free ∧ (raiseWaiting pos reason s).ingest = s.ingest ∧
    (raiseWaiting pos reason s).arbiter = s.arbiter ∧ (raiseWaiting pos reason s).cache = s.cache ∧
    (raiseWaiting pos reason s).keys = s.keys ∧ (raiseWaiting pos reason s).seq = s.seq ∧
    (raiseWaiting pos reason s).time = s.time ∧ (raiseWaiting pos reason s).frames = s.frames ∧
    (raiseWaiting pos reason s).link = s.link ∧ (raiseWaiting pos reason s).sound = s.sound ∧
    (raiseWaiting pos reason s).subs = s.subs ∧ (raiseWaiting pos reason s).log = s.log ∧
    (raiseWaiting pos reason s).lines = s.lines ∧ (raiseWaiting pos reason s).port = s.port ∧
    (raiseWaiting pos reason s).freeUses = s.freeUses := by
  unfold raiseWaiting; (repeat' split) <;> simp

@[simp] theorem enterWait_frame (pos : Pos) (timeout : Option Nat) (s : State) :
    (enterWait pos timeout s).pending = s.pending ∧ (enterWait pos timeout s).startUp = s.startUp ∧
    (enterWait pos timeout s).store = s.store ∧ (enterWait pos timeout s).nvm = s.nvm ∧
    (enterWait pos timeout s).catalogue = s.catalogue ∧ (enterWait pos timeout s).queue = s.queue ∧
    (enterWait pos timeout s).free = s.free ∧ (enterWait pos timeout s).ingest = s.ingest ∧
    (enterWait pos timeout s).time = s.time ∧ (enterWait pos timeout s).link = s.link ∧
    (enterWait pos timeout s).log = s.log ∧ (enterWait pos timeout s).lines = s.lines ∧
    (enterWait pos timeout s).port = s.port ∧ (enterWait pos timeout s).freeUses = s.freeUses := by
  unfold enterWait; (repeat' split) <;> simp

@[simp] theorem enterLogFull_frame (p : Play) (s : State) :
    (enterLogFull p s).pending = s.pending ∧ (enterLogFull p s).startUp = s.startUp ∧
    (enterLogFull p s).store = s.store ∧ (enterLogFull p s).nvm = s.nvm ∧
    (enterLogFull p s).catalogue = s.catalogue ∧ (enterLogFull p s).queue = s.queue ∧
    (enterLogFull p s).free = s.free ∧ (enterLogFull p s).ingest = s.ingest ∧
    (enterLogFull p s).arbiter = s.arbiter ∧ (enterLogFull p s).cache = s.cache ∧ (enterLogFull p s).keys = s.keys ∧
    (enterLogFull p s).time = s.time ∧ (enterLogFull p s).frames = s.frames ∧ (enterLogFull p s).link = s.link ∧
    (enterLogFull p s).sound = s.sound ∧ (enterLogFull p s).subs = s.subs ∧ (enterLogFull p s).log = s.log ∧
    (enterLogFull p s).lines = s.lines ∧ (enterLogFull p s).port = s.port ∧
    (enterLogFull p s).freeUses = s.freeUses := by
  unfold enterLogFull; (repeat' split) <;> simp

@[simp] theorem enterPreroll_frame (s : State) :
    (enterPreroll s).pending = s.pending ∧ (enterPreroll s).startUp = s.startUp ∧ (enterPreroll s).store = s.store ∧
    (enterPreroll s).nvm = s.nvm ∧ (enterPreroll s).catalogue = s.catalogue ∧ (enterPreroll s).queue = s.queue ∧
    (enterPreroll s).free = s.free ∧ (enterPreroll s).ingest = s.ingest ∧ (enterPreroll s).arbiter = s.arbiter ∧
    (enterPreroll s).cache = s.cache ∧ (enterPreroll s).keys = s.keys ∧ (enterPreroll s).time = s.time ∧
    (enterPreroll s).frames = s.frames ∧ (enterPreroll s).link = s.link ∧ (enterPreroll s).sound = s.sound ∧
    (enterPreroll s).subs = s.subs ∧ (enterPreroll s).log = s.log ∧ (enterPreroll s).lines = s.lines ∧
    (enterPreroll s).port = s.port ∧ (enterPreroll s).notices = s.notices ∧
    (enterPreroll s).freeUses = s.freeUses := by
  unfold enterPreroll; (repeat' split) <;> simp

@[simp] theorem startBlack_frame (pos : Pos) (n : Nat) (s : State) :
    (startBlack pos n s).pending = s.pending ∧ (startBlack pos n s).startUp = s.startUp ∧
    (startBlack pos n s).store = s.store ∧ (startBlack pos n s).nvm = s.nvm ∧
    (startBlack pos n s).catalogue = s.catalogue ∧ (startBlack pos n s).queue = s.queue ∧
    (startBlack pos n s).free = s.free ∧ (startBlack pos n s).ingest = s.ingest ∧
    (startBlack pos n s).arbiter = s.arbiter ∧ (startBlack pos n s).cache = s.cache ∧
    (startBlack pos n s).keys = s.keys ∧ (startBlack pos n s).time = s.time ∧
    (startBlack pos n s).frames = s.frames ∧ (startBlack pos n s).link = s.link ∧
    (startBlack pos n s).sound = s.sound ∧ (startBlack pos n s).subs = s.subs ∧ (startBlack pos n s).log = s.log ∧
    (startBlack pos n s).lines = s.lines ∧ (startBlack pos n s).port = s.port ∧
    (startBlack pos n s).notices = s.notices ∧ (startBlack pos n s).freeUses = s.freeUses := by
  unfold startBlack; (repeat' split) <;> simp

@[simp] theorem takeUpWalk_frame (stop : WalkEnd) (s : State) :
    (takeUpWalk stop s).pending = s.pending ∧ (takeUpWalk stop s).startUp = s.startUp ∧
    (takeUpWalk stop s).store = s.store ∧ (takeUpWalk stop s).nvm = s.nvm ∧
    (takeUpWalk stop s).catalogue = s.catalogue ∧ (takeUpWalk stop s).free = s.free ∧
    (takeUpWalk stop s).ingest = s.ingest ∧ (takeUpWalk stop s).link = s.link ∧
    (takeUpWalk stop s).lines = s.lines ∧ (takeUpWalk stop s).freeUses = s.freeUses := by
  unfold takeUpWalk; (repeat' split) <;> simp

@[simp] theorem blackGap_frame (start : Pos) (s : State) :
    (blackGap start s).pending = s.pending ∧ (blackGap start s).startUp = s.startUp ∧
    (blackGap start s).store = s.store ∧ (blackGap start s).nvm = s.nvm ∧
    (blackGap start s).catalogue = s.catalogue ∧ (blackGap start s).free = s.free ∧
    (blackGap start s).ingest = s.ingest ∧ (blackGap start s).link = s.link ∧
    (blackGap start s).freeUses = s.freeUses := by
  unfold blackGap; dsimp only
  have hf := actWalk_frame start (enterRunning (updateSeq (fun q => { q with current := .none, path := none, pauseTimer := none }) s))
  generalize actWalk start (enterRunning (updateSeq (fun q => { q with current := .none, path := none, pauseTimer := none }) s)) = r at hf ⊢
  obtain ⟨v, u⟩ := r
  cases v <;> simp_all

@[simp] theorem performCue_frame (pos : Pos) (a : CueAction) (s : State) :
    (performCue pos a s).pending = s.pending ∧ (performCue pos a s).startUp = s.startUp ∧
    (performCue pos a s).store = s.store ∧ (performCue pos a s).nvm = s.nvm ∧
    (performCue pos a s).catalogue = s.catalogue ∧ (performCue pos a s).queue = s.queue ∧
    (performCue pos a s).free = s.free ∧ (performCue pos a s).ingest = s.ingest ∧
    (performCue pos a s).arbiter = s.arbiter ∧ (performCue pos a s).cache = s.cache ∧
    (performCue pos a s).keys = s.keys ∧ (performCue pos a s).seq = s.seq ∧ (performCue pos a s).time = s.time ∧
    (performCue pos a s).frames = s.frames ∧ (performCue pos a s).link = s.link ∧
    (performCue pos a s).subs = s.subs ∧ (performCue pos a s).log = s.log ∧ (performCue pos a s).port = s.port ∧
    (performCue pos a s).freeUses = s.freeUses := by
  unfold performCue; (repeat' split) <;> simp

@[simp] theorem loadCue_frame (s : State) :
    (loadCue s).pending = s.pending ∧ (loadCue s).startUp = s.startUp ∧ (loadCue s).store = s.store ∧
    (loadCue s).nvm = s.nvm ∧ (loadCue s).catalogue = s.catalogue ∧ (loadCue s).queue = s.queue ∧
    (loadCue s).free = s.free ∧ (loadCue s).ingest = s.ingest ∧ (loadCue s).arbiter = s.arbiter ∧
    (loadCue s).cache = s.cache ∧ (loadCue s).keys = s.keys ∧ (loadCue s).frames = s.frames ∧
    (loadCue s).link = s.link ∧ (loadCue s).sound = s.sound ∧ (loadCue s).subs = s.subs ∧ (loadCue s).log = s.log ∧
    (loadCue s).lines = s.lines ∧ (loadCue s).port = s.port ∧ (loadCue s).notices = s.notices ∧
    (loadCue s).freeUses = s.freeUses := by
  unfold loadCue; (repeat' split) <;> simp

@[simp] theorem fireCues_frame (n : Nat) (s : State) :
    (fireCues n s).pending = s.pending ∧ (fireCues n s).startUp = s.startUp ∧ (fireCues n s).store = s.store ∧
    (fireCues n s).nvm = s.nvm ∧ (fireCues n s).catalogue = s.catalogue ∧ (fireCues n s).queue = s.queue ∧
    (fireCues n s).free = s.free ∧ (fireCues n s).ingest = s.ingest ∧ (fireCues n s).arbiter = s.arbiter ∧
    (fireCues n s).cache = s.cache ∧ (fireCues n s).keys = s.keys ∧ (fireCues n s).frames = s.frames ∧
    (fireCues n s).link = s.link ∧ (fireCues n s).subs = s.subs ∧ (fireCues n s).log = s.log ∧
    (fireCues n s).port = s.port ∧ (fireCues n s).freeUses = s.freeUses := by
  induction n generalizing s with
  | zero => simp [fireCues]
  | succ n ih => unfold fireCues; dsimp only; (repeat' split) <;> simp_all

@[simp] theorem fireCount_frame (n : Nat) (s : State) :
    (fireCount n s).pending = s.pending ∧ (fireCount n s).startUp = s.startUp ∧ (fireCount n s).store = s.store ∧
    (fireCount n s).nvm = s.nvm ∧ (fireCount n s).free = s.free ∧ (fireCount n s).ingest = s.ingest ∧
    (fireCount n s).arbiter = s.arbiter ∧ (fireCount n s).cache = s.cache ∧ (fireCount n s).seq = s.seq ∧
    (fireCount n s).frames = s.frames ∧ (fireCount n s).link = s.link ∧ (fireCount n s).sound = s.sound ∧
    (fireCount n s).subs = s.subs ∧ (fireCount n s).lines = s.lines ∧ (fireCount n s).port = s.port ∧
    (fireCount n s).freeUses = s.freeUses := by
  induction n generalizing s with
  | zero => simp [fireCount]
  | succ n ih => unfold fireCount; (repeat' split) <;> simp_all

@[simp] theorem judgeUnits_frame (s : State) :
    (judgeUnits s).pending = s.pending ∧ (judgeUnits s).startUp = s.startUp ∧ (judgeUnits s).store = s.store ∧
    (judgeUnits s).nvm = s.nvm ∧ (judgeUnits s).free = s.free ∧ (judgeUnits s).ingest = s.ingest ∧
    (judgeUnits s).arbiter = s.arbiter ∧ (judgeUnits s).cache = s.cache ∧ (judgeUnits s).frames = s.frames ∧
    (judgeUnits s).link = s.link ∧ (judgeUnits s).port = s.port ∧ (judgeUnits s).freeUses = s.freeUses := by
  unfold judgeUnits; (repeat' split) <;> simp

@[simp] theorem startTimeline_frame (p : Play) (s : State) :
    (startTimeline p s).pending = s.pending ∧ (startTimeline p s).startUp = s.startUp ∧
    (startTimeline p s).store = s.store ∧ (startTimeline p s).nvm = s.nvm ∧
    (startTimeline p s).catalogue = s.catalogue ∧ (startTimeline p s).queue = s.queue ∧
    (startTimeline p s).free = s.free ∧ (startTimeline p s).ingest = s.ingest ∧
    (startTimeline p s).arbiter = s.arbiter ∧ (startTimeline p s).cache = s.cache ∧
    (startTimeline p s).keys = s.keys ∧ (startTimeline p s).seq = s.seq ∧ (startTimeline p s).frames = s.frames ∧
    (startTimeline p s).link = s.link ∧ (startTimeline p s).sound = s.sound ∧ (startTimeline p s).subs = s.subs ∧
    (startTimeline p s).log = s.log ∧ (startTimeline p s).lines = s.lines ∧ (startTimeline p s).port = s.port ∧
    (startTimeline p s).notices = s.notices ∧ (startTimeline p s).freeUses = s.freeUses := by
  unfold startTimeline; (repeat' split) <;> simp

@[simp] theorem beginShowing_frame (p : Play) (g : Option (Nat × Grant)) (s : State) :
    (beginShowing p g s).pending = s.pending ∧ (beginShowing p g s).startUp = s.startUp ∧
    (beginShowing p g s).store = s.store ∧ (beginShowing p g s).nvm = s.nvm ∧
    (beginShowing p g s).catalogue = s.catalogue ∧ (beginShowing p g s).free = s.free ∧
    (beginShowing p g s).ingest = s.ingest ∧ (beginShowing p g s).link = s.link ∧
    (beginShowing p g s).lines = s.lines ∧ (beginShowing p g s).freeUses = s.freeUses := by
  unfold beginShowing; (repeat' split) <;> simp

@[simp] theorem takeOver_frame (p : Play) (s : State) :
    (takeOver p s).pending = s.pending ∧ (takeOver p s).startUp = s.startUp ∧ (takeOver p s).store = s.store ∧
    (takeOver p s).nvm = s.nvm ∧ (takeOver p s).catalogue = s.catalogue ∧ (takeOver p s).free = s.free ∧
    (takeOver p s).ingest = s.ingest ∧ (takeOver p s).link = s.link ∧ (takeOver p s).freeUses = s.freeUses := by
  unfold takeOver
  have hf := recheckPlay_frame p s
  generalize recheckPlay p s = r at hf ⊢
  obtain ⟨v, u⟩ := r
  cases v <;> simp_all; (try (split <;> simp_all))

@[simp] theorem actPath_frame (s : State) :
    (actPath s).pending = s.pending ∧ (actPath s).startUp = s.startUp ∧ (actPath s).store = s.store ∧
    (actPath s).nvm = s.nvm ∧ (actPath s).catalogue = s.catalogue ∧ (actPath s).queue = s.queue ∧
    (actPath s).free = s.free ∧ (actPath s).ingest = s.ingest ∧ (actPath s).arbiter = s.arbiter ∧
    (actPath s).cache = s.cache ∧ (actPath s).keys = s.keys ∧ (actPath s).time = s.time ∧
    (actPath s).frames = s.frames ∧ (actPath s).link = s.link ∧ (actPath s).sound = s.sound ∧
    (actPath s).subs = s.subs ∧ (actPath s).log = s.log ∧ (actPath s).port = s.port ∧
    (actPath s).freeUses = s.freeUses := by
  simp only [actPath]; (repeat' split) <;> simp

@[simp] theorem beginBlack_frame (pos : Pos) (n : Nat) (s : State) :
    (beginBlack pos n s).pending = s.pending ∧ (beginBlack pos n s).startUp = s.startUp ∧
    (beginBlack pos n s).store = s.store ∧ (beginBlack pos n s).nvm = s.nvm ∧
    (beginBlack pos n s).catalogue = s.catalogue ∧ (beginBlack pos n s).queue = s.queue ∧
    (beginBlack pos n s).free = s.free ∧ (beginBlack pos n s).ingest = s.ingest ∧
    (beginBlack pos n s).arbiter = s.arbiter ∧ (beginBlack pos n s).cache = s.cache ∧
    (beginBlack pos n s).keys = s.keys ∧ (beginBlack pos n s).frames = s.frames ∧
    (beginBlack pos n s).link = s.link ∧ (beginBlack pos n s).sound = s.sound ∧ (beginBlack pos n s).subs = s.subs ∧
    (beginBlack pos n s).log = s.log ∧ (beginBlack pos n s).lines = s.lines ∧ (beginBlack pos n s).port = s.port ∧
    (beginBlack pos n s).notices = s.notices ∧ (beginBlack pos n s).freeUses = s.freeUses := by
  unfold beginBlack; (repeat' split) <;> simp

@[simp] theorem endCurrent_frame (outcome : Showing → ShowingOutcome) (s : State) :
    (endCurrent outcome s).pending = s.pending ∧ (endCurrent outcome s).startUp = s.startUp ∧
    (endCurrent outcome s).store = s.store ∧ (endCurrent outcome s).nvm = s.nvm ∧
    (endCurrent outcome s).catalogue = s.catalogue ∧ (endCurrent outcome s).free = s.free ∧
    (endCurrent outcome s).ingest = s.ingest ∧ (endCurrent outcome s).link = s.link ∧
    (endCurrent outcome s).lines = s.lines ∧ (endCurrent outcome s).freeUses = s.freeUses := by
  simp only [endCurrent]; (repeat' split) <;> simp

@[simp] theorem boundaryTick_frame (s : State) :
    (boundaryTick s).pending = s.pending ∧ (boundaryTick s).startUp = s.startUp ∧ (boundaryTick s).store = s.store ∧
    (boundaryTick s).nvm = s.nvm ∧ (boundaryTick s).catalogue = s.catalogue ∧ (boundaryTick s).free = s.free ∧
    (boundaryTick s).ingest = s.ingest ∧ (boundaryTick s).link = s.link ∧
    (boundaryTick s).freeUses = s.freeUses := by
  simp only [boundaryTick]; (repeat' split) <;> simp

@[simp] theorem skipBoundary_frame (s : State) :
    (skipBoundary s).pending = s.pending ∧ (skipBoundary s).startUp = s.startUp ∧ (skipBoundary s).store = s.store ∧
    (skipBoundary s).nvm = s.nvm ∧ (skipBoundary s).catalogue = s.catalogue ∧ (skipBoundary s).free = s.free ∧
    (skipBoundary s).ingest = s.ingest ∧ (skipBoundary s).link = s.link ∧
    (skipBoundary s).freeUses = s.freeUses := by
  simp only [skipBoundary]; (repeat' split) <;> simp

@[simp] theorem leaveWait_frame (s : State) :
    (leaveWait s).pending = s.pending ∧ (leaveWait s).startUp = s.startUp ∧ (leaveWait s).store = s.store ∧
    (leaveWait s).nvm = s.nvm ∧ (leaveWait s).catalogue = s.catalogue ∧ (leaveWait s).free = s.free ∧
    (leaveWait s).ingest = s.ingest ∧ (leaveWait s).link = s.link ∧ (leaveWait s).freeUses = s.freeUses := by
  simp only [leaveWait]; (repeat' split) <;> simp

@[simp] theorem leaveLogFull_frame (s : State) :
    (leaveLogFull s).pending = s.pending ∧ (leaveLogFull s).startUp = s.startUp ∧ (leaveLogFull s).store = s.store ∧
    (leaveLogFull s).nvm = s.nvm ∧ (leaveLogFull s).catalogue = s.catalogue ∧ (leaveLogFull s).free = s.free ∧
    (leaveLogFull s).ingest = s.ingest ∧ (leaveLogFull s).link = s.link ∧
    (leaveLogFull s).freeUses = s.freeUses := by
  unfold leaveLogFull; dsimp only
  split
  · simp
  · rename_i p _
    have hf := recheckPlay_frame p s
    generalize recheckPlay p s = r at hf ⊢
    obtain ⟨v, u⟩ := r
    cases v <;> simp_all

@[simp] theorem enterPause_frame (s : State) :
    (enterPause s).pending = s.pending ∧ (enterPause s).startUp = s.startUp ∧ (enterPause s).store = s.store ∧
    (enterPause s).nvm = s.nvm ∧ (enterPause s).catalogue = s.catalogue ∧ (enterPause s).queue = s.queue ∧
    (enterPause s).free = s.free ∧ (enterPause s).ingest = s.ingest ∧ (enterPause s).arbiter = s.arbiter ∧
    (enterPause s).cache = s.cache ∧ (enterPause s).keys = s.keys ∧ (enterPause s).time = s.time ∧
    (enterPause s).frames = s.frames ∧ (enterPause s).link = s.link ∧ (enterPause s).sound = s.sound ∧
    (enterPause s).subs = s.subs ∧ (enterPause s).log = s.log ∧ (enterPause s).lines = s.lines ∧
    (enterPause s).port = s.port ∧ (enterPause s).notices = s.notices ∧ (enterPause s).freeUses = s.freeUses := by
  unfold enterPause; (repeat' split) <;> simp

@[simp] theorem expirePause_frame (s : State) :
    (expirePause s).pending = s.pending ∧ (expirePause s).startUp = s.startUp ∧ (expirePause s).store = s.store ∧
    (expirePause s).nvm = s.nvm ∧ (expirePause s).catalogue = s.catalogue ∧ (expirePause s).free = s.free ∧
    (expirePause s).ingest = s.ingest ∧ (expirePause s).link = s.link ∧ (expirePause s).lines = s.lines ∧
    (expirePause s).freeUses = s.freeUses := by
  unfold expirePause; (repeat' split) <;> simp

@[simp] theorem checkRepeats_frame (s : State) :
    (checkRepeats s).pending = s.pending ∧ (checkRepeats s).startUp = s.startUp ∧ (checkRepeats s).store = s.store ∧
    (checkRepeats s).nvm = s.nvm ∧ (checkRepeats s).catalogue = s.catalogue ∧ (checkRepeats s).free = s.free ∧
    (checkRepeats s).ingest = s.ingest ∧ (checkRepeats s).link = s.link ∧ (checkRepeats s).lines = s.lines ∧
    (checkRepeats s).freeUses = s.freeUses := by
  unfold checkRepeats; (repeat' split) <;> simp

@[simp] theorem blackenWaiting_frame (record : Nat) (s : State) :
    (blackenWaiting record s).pending = s.pending ∧ (blackenWaiting record s).startUp = s.startUp ∧
    (blackenWaiting record s).store = s.store ∧ (blackenWaiting record s).nvm = s.nvm ∧
    (blackenWaiting record s).catalogue = s.catalogue ∧ (blackenWaiting record s).queue = s.queue ∧
    (blackenWaiting record s).free = s.free ∧ (blackenWaiting record s).ingest = s.ingest ∧
    (blackenWaiting record s).arbiter = s.arbiter ∧ (blackenWaiting record s).cache = s.cache ∧
    (blackenWaiting record s).keys = s.keys ∧ (blackenWaiting record s).seq = s.seq ∧
    (blackenWaiting record s).time = s.time ∧ (blackenWaiting record s).link = s.link ∧
    (blackenWaiting record s).sound = s.sound ∧ (blackenWaiting record s).subs = s.subs ∧
    (blackenWaiting record s).log = s.log ∧ (blackenWaiting record s).lines = s.lines ∧
    (blackenWaiting record s).port = s.port ∧ (blackenWaiting record s).notices = s.notices ∧
    (blackenWaiting record s).freeUses = s.freeUses := by
  unfold blackenWaiting; (repeat' split) <;> simp

@[simp] theorem abandonSend_frame (record : Nat) (s : State) :
    (abandonSend record s).pending = s.pending ∧ (abandonSend record s).startUp = s.startUp ∧
    (abandonSend record s).store = s.store ∧ (abandonSend record s).nvm = s.nvm ∧
    (abandonSend record s).catalogue = s.catalogue ∧ (abandonSend record s).queue = s.queue ∧
    (abandonSend record s).free = s.free ∧ (abandonSend record s).ingest = s.ingest ∧
    (abandonSend record s).arbiter = s.arbiter ∧ (abandonSend record s).cache = s.cache ∧
    (abandonSend record s).keys = s.keys ∧ (abandonSend record s).seq = s.seq ∧
    (abandonSend record s).time = s.time ∧ (abandonSend record s).sound = s.sound ∧
    (abandonSend record s).log = s.log ∧ (abandonSend record s).lines = s.lines ∧
    (abandonSend record s).port = s.port ∧ (abandonSend record s).notices = s.notices ∧
    (abandonSend record s).freeUses = s.freeUses := by
  unfold abandonSend; (repeat' split) <;> simp

@[simp] theorem loseLink_frame (s : State) :
    (loseLink s).pending = s.pending ∧ (loseLink s).startUp = s.startUp ∧ (loseLink s).store = s.store ∧
    (loseLink s).nvm = s.nvm ∧ (loseLink s).catalogue = s.catalogue ∧ (loseLink s).free = s.free ∧
    (loseLink s).ingest = s.ingest ∧ (loseLink s).lines = s.lines ∧ (loseLink s).freeUses = s.freeUses := by
  unfold loseLink; (repeat' split) <;> simp

@[simp] theorem revokeShowing_frame (s : State) :
    (revokeShowing s).pending = s.pending ∧ (revokeShowing s).startUp = s.startUp ∧
    (revokeShowing s).store = s.store ∧ (revokeShowing s).nvm = s.nvm ∧ (revokeShowing s).catalogue = s.catalogue ∧
    (revokeShowing s).queue = s.queue ∧ (revokeShowing s).free = s.free ∧ (revokeShowing s).ingest = s.ingest ∧
    (revokeShowing s).time = s.time ∧ (revokeShowing s).link = s.link ∧ (revokeShowing s).log = s.log ∧
    (revokeShowing s).lines = s.lines ∧ (revokeShowing s).port = s.port ∧
    (revokeShowing s).freeUses = s.freeUses := by
  unfold revokeShowing; (repeat' split) <;> simp

@[simp] theorem interlockOnset_frame (s : State) :
    (interlockOnset s).pending = s.pending ∧ (interlockOnset s).startUp = s.startUp ∧
    (interlockOnset s).store = s.store ∧ (interlockOnset s).nvm = s.nvm ∧
    (interlockOnset s).catalogue = s.catalogue ∧ (interlockOnset s).queue = s.queue ∧
    (interlockOnset s).free = s.free ∧ (interlockOnset s).ingest = s.ingest ∧
    (interlockOnset s).arbiter = s.arbiter ∧ (interlockOnset s).cache = s.cache ∧ (interlockOnset s).keys = s.keys ∧
    (interlockOnset s).time = s.time ∧ (interlockOnset s).frames = s.frames ∧ (interlockOnset s).link = s.link ∧
    (interlockOnset s).sound = s.sound ∧ (interlockOnset s).subs = s.subs ∧ (interlockOnset s).log = s.log ∧
    (interlockOnset s).lines = s.lines ∧ (interlockOnset s).port = s.port ∧ (interlockOnset s).notices = s.notices ∧
    (interlockOnset s).freeUses = s.freeUses := by
  unfold interlockOnset; (repeat' split) <;> simp

/-! ### Tick -/

@[simp] theorem advanceFrame_frame (s : State) :
    (advanceFrame s).pending = s.pending ∧ (advanceFrame s).startUp = s.startUp ∧ (advanceFrame s).store = s.store ∧
    (advanceFrame s).nvm = s.nvm ∧ (advanceFrame s).catalogue = s.catalogue ∧ (advanceFrame s).queue = s.queue ∧
    (advanceFrame s).free = s.free ∧ (advanceFrame s).ingest = s.ingest ∧ (advanceFrame s).keys = s.keys ∧
    (advanceFrame s).seq = s.seq ∧ (advanceFrame s).frames = s.frames ∧ (advanceFrame s).link = s.link ∧
    (advanceFrame s).sound = s.sound ∧ (advanceFrame s).log = s.log ∧ (advanceFrame s).lines = s.lines ∧
    (advanceFrame s).port = s.port ∧ (advanceFrame s).freeUses = s.freeUses := by
  simp only [advanceFrame]; (repeat' split) <;> simp

@[simp] theorem takeOverIfReady_frame (s : State) :
    (takeOverIfReady s).pending = s.pending ∧ (takeOverIfReady s).startUp = s.startUp ∧
    (takeOverIfReady s).store = s.store ∧ (takeOverIfReady s).nvm = s.nvm ∧
    (takeOverIfReady s).catalogue = s.catalogue ∧ (takeOverIfReady s).free = s.free ∧
    (takeOverIfReady s).ingest = s.ingest ∧ (takeOverIfReady s).link = s.link ∧
    (takeOverIfReady s).freeUses = s.freeUses := by
  unfold takeOverIfReady; (repeat' split) <;> simp

@[simp] theorem runTick_frame (s : State) :
    (runTick s).pending = s.pending ∧ (runTick s).startUp = s.startUp ∧ (runTick s).store = s.store ∧
    (runTick s).nvm = s.nvm ∧ (runTick s).catalogue = s.catalogue ∧ (runTick s).free = s.free ∧
    (runTick s).ingest = s.ingest ∧ (runTick s).link = s.link ∧ (runTick s).freeUses = s.freeUses := by
  unfold runTick; (repeat' split) <;> simp

@[simp] theorem sequencerTick_frame (s : State) :
    (sequencerTick s).pending = s.pending ∧ (sequencerTick s).startUp = s.startUp ∧
    (sequencerTick s).store = s.store ∧ (sequencerTick s).nvm = s.nvm ∧ (sequencerTick s).catalogue = s.catalogue ∧
    (sequencerTick s).free = s.free ∧ (sequencerTick s).ingest = s.ingest ∧ (sequencerTick s).link = s.link ∧
    (sequencerTick s).freeUses = s.freeUses := by
  unfold sequencerTick; (repeat' split) <;> simp

@[simp] theorem frameTick_frame (s : State) :
    (frameTick s).pending = s.pending ∧ (frameTick s).startUp = s.startUp ∧ (frameTick s).store = s.store ∧
    (frameTick s).nvm = s.nvm ∧ (frameTick s).free = s.free ∧ (frameTick s).link = s.link ∧
    (frameTick s).freeUses = s.freeUses := by
  unfold frameTick; (repeat' split) <;> simp

@[simp] theorem clockTick_frame (s : State) :
    (clockTick s).pending = s.pending ∧ (clockTick s).startUp = s.startUp ∧ (clockTick s).store = s.store ∧
    (clockTick s).nvm = s.nvm ∧ (clockTick s).free = s.free ∧ (clockTick s).link = s.link ∧
    (clockTick s).freeUses = s.freeUses := by
  unfold clockTick; (repeat' split) <;> simp

@[simp] theorem syncEdge_frame (rising : Bool) (s : State) :
    (syncEdge rising s).pending = s.pending ∧ (syncEdge rising s).startUp = s.startUp ∧
    (syncEdge rising s).store = s.store ∧ (syncEdge rising s).nvm = s.nvm ∧ (syncEdge rising s).free = s.free ∧
    (syncEdge rising s).link = s.link ∧ (syncEdge rising s).freeUses = s.freeUses := by
  simp only [syncEdge]; (repeat' split) <;> simp

@[simp] theorem loseSync_frame (s : State) :
    (loseSync s).pending = s.pending ∧ (loseSync s).startUp = s.startUp ∧ (loseSync s).store = s.store ∧
    (loseSync s).nvm = s.nvm ∧ (loseSync s).free = s.free ∧ (loseSync s).link = s.link ∧
    (loseSync s).freeUses = s.freeUses := by
  unfold loseSync; (repeat' split) <;> simp

@[simp] theorem generatorTicks_frame (s : State) :
    (generatorTicks s).pending = s.pending ∧ (generatorTicks s).startUp = s.startUp ∧
    (generatorTicks s).store = s.store ∧ (generatorTicks s).nvm = s.nvm ∧ (generatorTicks s).free = s.free ∧
    (generatorTicks s).link = s.link ∧ (generatorTicks s).freeUses = s.freeUses := by
  unfold generatorTicks; (repeat' split) <;> simp

@[simp] theorem concludeCheck_frame (outcome : CheckOutcome) (answered : Option Nat) (s : State) :
    (concludeCheck outcome answered s).pending = s.pending ∧
    (concludeCheck outcome answered s).startUp = s.startUp ∧ (concludeCheck outcome answered s).store = s.store ∧
    (concludeCheck outcome answered s).nvm = s.nvm ∧ (concludeCheck outcome answered s).catalogue = s.catalogue ∧
    (concludeCheck outcome answered s).free = s.free ∧ (concludeCheck outcome answered s).lines = s.lines ∧
    (concludeCheck outcome answered s).freeUses = s.freeUses := by
  simp only [concludeCheck]; (repeat' split) <;> simp

/-! ### ShowRequests -/

theorem answerTry_pending {kind : Nat} {frame : Frame} {f : State → Except Reason State} {s : State}
    (h : ∀ t, f s = .ok t → t.pending = s.pending) : (answerTry kind frame f s).pending = s.pending := by
  unfold answerTry; split
  · rename_i t ht; simpa using h t ht
  · simp

theorem answerTry_startUp {kind : Nat} {frame : Frame} {f : State → Except Reason State} {s : State}
    (h : ∀ t, f s = .ok t → t.startUp = s.startUp) : (answerTry kind frame f s).startUp = s.startUp := by
  unfold answerTry; split
  · rename_i t ht; simpa using h t ht
  · simp

theorem answerTry_store {kind : Nat} {frame : Frame} {f : State → Except Reason State} {s : State}
    (h : ∀ t, f s = .ok t → t.store = s.store) : (answerTry kind frame f s).store = s.store := by
  unfold answerTry; split
  · rename_i t ht; simpa using h t ht
  · simp

theorem answerTry_nvm {kind : Nat} {frame : Frame} {f : State → Except Reason State} {s : State}
    (h : ∀ t, f s = .ok t → t.nvm = s.nvm) : (answerTry kind frame f s).nvm = s.nvm := by
  unfold answerTry; split
  · rename_i t ht; simpa using h t ht
  · simp

theorem answerTry_catalogue {kind : Nat} {frame : Frame} {f : State → Except Reason State} {s : State}
    (h : ∀ t, f s = .ok t → t.catalogue = s.catalogue) : (answerTry kind frame f s).catalogue = s.catalogue := by
  unfold answerTry; split
  · rename_i t ht; simpa using h t ht
  · simp

theorem answerTry_queue {kind : Nat} {frame : Frame} {f : State → Except Reason State} {s : State}
    (h : ∀ t, f s = .ok t → t.queue = s.queue) : (answerTry kind frame f s).queue = s.queue := by
  unfold answerTry; split
  · rename_i t ht; simpa using h t ht
  · simp

theorem answerTry_free {kind : Nat} {frame : Frame} {f : State → Except Reason State} {s : State}
    (h : ∀ t, f s = .ok t → t.free = s.free) : (answerTry kind frame f s).free = s.free := by
  unfold answerTry; split
  · rename_i t ht; simpa using h t ht
  · simp

theorem answerTry_cache {kind : Nat} {frame : Frame} {f : State → Except Reason State} {s : State}
    (h : ∀ t, f s = .ok t → t.cache = s.cache) : (answerTry kind frame f s).cache = s.cache := by
  unfold answerTry; split
  · rename_i t ht; simpa using h t ht
  · simp

theorem answerTry_keys {kind : Nat} {frame : Frame} {f : State → Except Reason State} {s : State}
    (h : ∀ t, f s = .ok t → t.keys = s.keys) : (answerTry kind frame f s).keys = s.keys := by
  unfold answerTry; split
  · rename_i t ht; simpa using h t ht
  · simp

theorem answerTry_seq {kind : Nat} {frame : Frame} {f : State → Except Reason State} {s : State}
    (h : ∀ t, f s = .ok t → t.seq = s.seq) : (answerTry kind frame f s).seq = s.seq := by
  unfold answerTry; split
  · rename_i t ht; simpa using h t ht
  · simp

theorem answerTry_time {kind : Nat} {frame : Frame} {f : State → Except Reason State} {s : State}
    (h : ∀ t, f s = .ok t → t.time = s.time) : (answerTry kind frame f s).time = s.time := by
  unfold answerTry; split
  · rename_i t ht; simpa using h t ht
  · simp

theorem answerTry_frames {kind : Nat} {frame : Frame} {f : State → Except Reason State} {s : State}
    (h : ∀ t, f s = .ok t → t.frames = s.frames) : (answerTry kind frame f s).frames = s.frames := by
  unfold answerTry; split
  · rename_i t ht; simpa using h t ht
  · simp

theorem answerTry_link {kind : Nat} {frame : Frame} {f : State → Except Reason State} {s : State}
    (h : ∀ t, f s = .ok t → t.link = s.link) : (answerTry kind frame f s).link = s.link := by
  unfold answerTry; split
  · rename_i t ht; simpa using h t ht
  · simp

theorem answerTry_sound {kind : Nat} {frame : Frame} {f : State → Except Reason State} {s : State}
    (h : ∀ t, f s = .ok t → t.sound = s.sound) : (answerTry kind frame f s).sound = s.sound := by
  unfold answerTry; split
  · rename_i t ht; simpa using h t ht
  · simp

theorem answerTry_subs {kind : Nat} {frame : Frame} {f : State → Except Reason State} {s : State}
    (h : ∀ t, f s = .ok t → t.subs = s.subs) : (answerTry kind frame f s).subs = s.subs := by
  unfold answerTry; split
  · rename_i t ht; simpa using h t ht
  · simp

theorem answerTry_log {kind : Nat} {frame : Frame} {f : State → Except Reason State} {s : State}
    (h : ∀ t, f s = .ok t → t.log = s.log) : (answerTry kind frame f s).log = s.log := by
  unfold answerTry; split
  · rename_i t ht; simpa using h t ht
  · simp

theorem answerTry_lines {kind : Nat} {frame : Frame} {f : State → Except Reason State} {s : State}
    (h : ∀ t, f s = .ok t → t.lines = s.lines) : (answerTry kind frame f s).lines = s.lines := by
  unfold answerTry; split
  · rename_i t ht; simpa using h t ht
  · simp

theorem answerTry_notices {kind : Nat} {frame : Frame} {f : State → Except Reason State} {s : State}
    (h : ∀ t, f s = .ok t → t.notices = s.notices) : (answerTry kind frame f s).notices = s.notices := by
  unfold answerTry; split
  · rename_i t ht; simpa using h t ht
  · simp

theorem answerTry_freeUses {kind : Nat} {frame : Frame} {f : State → Except Reason State} {s : State}
    (h : ∀ t, f s = .ok t → t.freeUses = s.freeUses) : (answerTry kind frame f s).freeUses = s.freeUses := by
  unfold answerTry; split
  · rename_i t ht; simpa using h t ht
  · simp

@[simp] theorem completeLoad_frame (frame : Frame) (st : Staging) (s : State) :
    (completeLoad frame st s).pending = s.pending ∧ (completeLoad frame st s).startUp = s.startUp ∧
    (completeLoad frame st s).store = s.store ∧ (completeLoad frame st s).nvm = s.nvm ∧
    (completeLoad frame st s).catalogue = s.catalogue ∧ (completeLoad frame st s).queue = s.queue ∧
    (completeLoad frame st s).free = s.free ∧ (completeLoad frame st s).ingest = s.ingest ∧
    (completeLoad frame st s).arbiter = s.arbiter ∧ (completeLoad frame st s).cache = s.cache ∧
    (completeLoad frame st s).keys = s.keys ∧ (completeLoad frame st s).time = s.time ∧
    (completeLoad frame st s).frames = s.frames ∧ (completeLoad frame st s).link = s.link ∧
    (completeLoad frame st s).sound = s.sound ∧ (completeLoad frame st s).subs = s.subs ∧
    (completeLoad frame st s).log = s.log ∧ (completeLoad frame st s).lines = s.lines ∧
    (completeLoad frame st s).notices = s.notices ∧ (completeLoad frame st s).freeUses = s.freeUses := by
  simp only [completeLoad]; (repeat' split) <;> simp

@[simp] theorem takePart_frame (frame : Frame) (final : Bool) (st : Staging) (s : State) :
    (takePart frame final st s).pending = s.pending ∧ (takePart frame final st s).startUp = s.startUp ∧
    (takePart frame final st s).store = s.store ∧ (takePart frame final st s).nvm = s.nvm ∧
    (takePart frame final st s).catalogue = s.catalogue ∧ (takePart frame final st s).queue = s.queue ∧
    (takePart frame final st s).free = s.free ∧ (takePart frame final st s).ingest = s.ingest ∧
    (takePart frame final st s).arbiter = s.arbiter ∧ (takePart frame final st s).cache = s.cache ∧
    (takePart frame final st s).keys = s.keys ∧ (takePart frame final st s).time = s.time ∧
    (takePart frame final st s).frames = s.frames ∧ (takePart frame final st s).link = s.link ∧
    (takePart frame final st s).sound = s.sound ∧ (takePart frame final st s).subs = s.subs ∧
    (takePart frame final st s).log = s.log ∧ (takePart frame final st s).lines = s.lines ∧
    (takePart frame final st s).notices = s.notices ∧ (takePart frame final st s).freeUses = s.freeUses := by
  unfold takePart; (repeat' split) <;> simp

@[simp] theorem serveListLoad_frame (frame : Frame) (list part : Nat) (final : Bool) (entries : List Entry) (s : State) :
    (serveListLoad frame list part final entries s).pending = s.pending ∧
    (serveListLoad frame list part final entries s).startUp = s.startUp ∧
    (serveListLoad frame list part final entries s).store = s.store ∧
    (serveListLoad frame list part final entries s).nvm = s.nvm ∧
    (serveListLoad frame list part final entries s).catalogue = s.catalogue ∧
    (serveListLoad frame list part final entries s).queue = s.queue ∧
    (serveListLoad frame list part final entries s).free = s.free ∧
    (serveListLoad frame list part final entries s).ingest = s.ingest ∧
    (serveListLoad frame list part final entries s).arbiter = s.arbiter ∧
    (serveListLoad frame list part final entries s).cache = s.cache ∧
    (serveListLoad frame list part final entries s).keys = s.keys ∧
    (serveListLoad frame list part final entries s).time = s.time ∧
    (serveListLoad frame list part final entries s).frames = s.frames ∧
    (serveListLoad frame list part final entries s).link = s.link ∧
    (serveListLoad frame list part final entries s).sound = s.sound ∧
    (serveListLoad frame list part final entries s).subs = s.subs ∧
    (serveListLoad frame list part final entries s).log = s.log ∧
    (serveListLoad frame list part final entries s).lines = s.lines ∧
    (serveListLoad frame list part final entries s).notices = s.notices ∧
    (serveListLoad frame list part final entries s).freeUses = s.freeUses := by
  simp only [serveListLoad]; (repeat' split) <;> simp

@[simp] theorem serveListRead_frame (frame : Frame) (list first : Nat) (s : State) :
    (serveListRead frame list first s).pending = s.pending ∧
    (serveListRead frame list first s).startUp = s.startUp ∧ (serveListRead frame list first s).store = s.store ∧
    (serveListRead frame list first s).nvm = s.nvm ∧ (serveListRead frame list first s).catalogue = s.catalogue ∧
    (serveListRead frame list first s).queue = s.queue ∧ (serveListRead frame list first s).free = s.free ∧
    (serveListRead frame list first s).ingest = s.ingest ∧ (serveListRead frame list first s).arbiter = s.arbiter ∧
    (serveListRead frame list first s).cache = s.cache ∧ (serveListRead frame list first s).keys = s.keys ∧
    (serveListRead frame list first s).seq = s.seq ∧ (serveListRead frame list first s).time = s.time ∧
    (serveListRead frame list first s).frames = s.frames ∧ (serveListRead frame list first s).link = s.link ∧
    (serveListRead frame list first s).sound = s.sound ∧ (serveListRead frame list first s).subs = s.subs ∧
    (serveListRead frame list first s).log = s.log ∧ (serveListRead frame list first s).lines = s.lines ∧
    (serveListRead frame list first s).notices = s.notices ∧
    (serveListRead frame list first s).freeUses = s.freeUses := by
  unfold serveListRead; (repeat' split) <;> simp

@[simp] theorem serveShowArm_frame (frame : Frame) (list : Nat) (s : State) :
    (serveShowArm frame list s).pending = s.pending ∧ (serveShowArm frame list s).startUp = s.startUp ∧
    (serveShowArm frame list s).store = s.store ∧ (serveShowArm frame list s).nvm = s.nvm ∧
    (serveShowArm frame list s).catalogue = s.catalogue ∧ (serveShowArm frame list s).queue = s.queue ∧
    (serveShowArm frame list s).free = s.free ∧ (serveShowArm frame list s).ingest = s.ingest ∧
    (serveShowArm frame list s).arbiter = s.arbiter ∧ (serveShowArm frame list s).cache = s.cache ∧
    (serveShowArm frame list s).keys = s.keys ∧ (serveShowArm frame list s).time = s.time ∧
    (serveShowArm frame list s).frames = s.frames ∧ (serveShowArm frame list s).link = s.link ∧
    (serveShowArm frame list s).sound = s.sound ∧ (serveShowArm frame list s).subs = s.subs ∧
    (serveShowArm frame list s).log = s.log ∧ (serveShowArm frame list s).lines = s.lines ∧
    (serveShowArm frame list s).notices = s.notices ∧ (serveShowArm frame list s).freeUses = s.freeUses := by
  unfold serveShowArm; (repeat' split) <;> simp

@[simp] theorem serveShowStart_frame (frame : Frame) (s : State) :
    (serveShowStart frame s).pending = s.pending ∧ (serveShowStart frame s).startUp = s.startUp ∧
    (serveShowStart frame s).store = s.store ∧ (serveShowStart frame s).nvm = s.nvm ∧
    (serveShowStart frame s).catalogue = s.catalogue ∧ (serveShowStart frame s).free = s.free ∧
    (serveShowStart frame s).link = s.link ∧
    (serveShowStart frame s).freeUses = s.freeUses := by
  simp only [serveShowStart]; (repeat' split) <;> simp

theorem tryPause_frame {s t : State} (h : tryPause s = .ok t) :
    t.pending = s.pending ∧ t.startUp = s.startUp ∧ t.store = s.store ∧ t.nvm = s.nvm ∧ t.catalogue = s.catalogue ∧
    t.queue = s.queue ∧ t.free = s.free ∧ t.ingest = s.ingest ∧ t.arbiter = s.arbiter ∧ t.cache = s.cache ∧
    t.keys = s.keys ∧ t.time = s.time ∧ t.frames = s.frames ∧ t.link = s.link ∧ t.sound = s.sound ∧
    t.subs = s.subs ∧ t.log = s.log ∧ t.lines = s.lines ∧ t.port = s.port ∧ t.notices = s.notices ∧
    t.freeUses = s.freeUses := by
  simp only [tryPause] at h; split at h <;> simp_all <;> (subst h; simp)

@[simp] theorem answerTry_tryPause_frame (kind : Nat) (frame : Frame) (s : State) :
    (answerTry kind frame tryPause s).pending = s.pending ∧ (answerTry kind frame tryPause s).startUp = s.startUp ∧
    (answerTry kind frame tryPause s).store = s.store ∧ (answerTry kind frame tryPause s).nvm = s.nvm ∧
    (answerTry kind frame tryPause s).catalogue = s.catalogue ∧ (answerTry kind frame tryPause s).queue = s.queue ∧
    (answerTry kind frame tryPause s).free = s.free ∧ (answerTry kind frame tryPause s).cache = s.cache ∧
    (answerTry kind frame tryPause s).keys = s.keys ∧ (answerTry kind frame tryPause s).time = s.time ∧
    (answerTry kind frame tryPause s).frames = s.frames ∧ (answerTry kind frame tryPause s).link = s.link ∧
    (answerTry kind frame tryPause s).sound = s.sound ∧ (answerTry kind frame tryPause s).subs = s.subs ∧
    (answerTry kind frame tryPause s).log = s.log ∧ (answerTry kind frame tryPause s).lines = s.lines ∧
    (answerTry kind frame tryPause s).notices = s.notices ∧
    (answerTry kind frame tryPause s).freeUses = s.freeUses :=
  ⟨answerTry_pending (fun t h => by simp [tryPause_frame h]),
    answerTry_startUp (fun t h => by simp [tryPause_frame h]),
    answerTry_store (fun t h => by simp [tryPause_frame h]), answerTry_nvm (fun t h => by simp [tryPause_frame h]),
    answerTry_catalogue (fun t h => by simp [tryPause_frame h]),
    answerTry_queue (fun t h => by simp [tryPause_frame h]), answerTry_free (fun t h => by simp [tryPause_frame h]),
    answerTry_cache (fun t h => by simp [tryPause_frame h]), answerTry_keys (fun t h => by simp [tryPause_frame h]),
    answerTry_time (fun t h => by simp [tryPause_frame h]),
    answerTry_frames (fun t h => by simp [tryPause_frame h]),
    answerTry_link (fun t h => by simp [tryPause_frame h]), answerTry_sound (fun t h => by simp [tryPause_frame h]),
    answerTry_subs (fun t h => by simp [tryPause_frame h]), answerTry_log (fun t h => by simp [tryPause_frame h]),
    answerTry_lines (fun t h => by simp [tryPause_frame h]),
    answerTry_notices (fun t h => by simp [tryPause_frame h]),
    answerTry_freeUses (fun t h => by simp [tryPause_frame h])⟩

theorem tryResume_frame {s t : State} (h : tryResume s = .ok t) :
    t.pending = s.pending ∧ t.startUp = s.startUp ∧ t.store = s.store ∧ t.nvm = s.nvm ∧ t.catalogue = s.catalogue ∧
    t.queue = s.queue ∧ t.free = s.free ∧ t.ingest = s.ingest ∧ t.arbiter = s.arbiter ∧ t.cache = s.cache ∧
    t.keys = s.keys ∧ t.time = s.time ∧ t.frames = s.frames ∧ t.link = s.link ∧ t.sound = s.sound ∧
    t.subs = s.subs ∧ t.log = s.log ∧ t.lines = s.lines ∧ t.port = s.port ∧ t.notices = s.notices ∧
    t.freeUses = s.freeUses := by
  unfold tryResume at h; (repeat' split at h) <;> simp_all <;> (subst h; simp)

@[simp] theorem answerTry_tryResume_frame (kind : Nat) (frame : Frame) (s : State) :
    (answerTry kind frame tryResume s).pending = s.pending ∧
    (answerTry kind frame tryResume s).startUp = s.startUp ∧ (answerTry kind frame tryResume s).store = s.store ∧
    (answerTry kind frame tryResume s).nvm = s.nvm ∧ (answerTry kind frame tryResume s).catalogue = s.catalogue ∧
    (answerTry kind frame tryResume s).queue = s.queue ∧ (answerTry kind frame tryResume s).free = s.free ∧
    (answerTry kind frame tryResume s).cache = s.cache ∧ (answerTry kind frame tryResume s).keys = s.keys ∧
    (answerTry kind frame tryResume s).time = s.time ∧ (answerTry kind frame tryResume s).frames = s.frames ∧
    (answerTry kind frame tryResume s).link = s.link ∧ (answerTry kind frame tryResume s).sound = s.sound ∧
    (answerTry kind frame tryResume s).subs = s.subs ∧ (answerTry kind frame tryResume s).log = s.log ∧
    (answerTry kind frame tryResume s).lines = s.lines ∧ (answerTry kind frame tryResume s).notices = s.notices ∧
    (answerTry kind frame tryResume s).freeUses = s.freeUses :=
  ⟨answerTry_pending (fun t h => by simp [tryResume_frame h]),
    answerTry_startUp (fun t h => by simp [tryResume_frame h]),
    answerTry_store (fun t h => by simp [tryResume_frame h]),
    answerTry_nvm (fun t h => by simp [tryResume_frame h]),
    answerTry_catalogue (fun t h => by simp [tryResume_frame h]),
    answerTry_queue (fun t h => by simp [tryResume_frame h]),
    answerTry_free (fun t h => by simp [tryResume_frame h]),
    answerTry_cache (fun t h => by simp [tryResume_frame h]),
    answerTry_keys (fun t h => by simp [tryResume_frame h]),
    answerTry_time (fun t h => by simp [tryResume_frame h]),
    answerTry_frames (fun t h => by simp [tryResume_frame h]),
    answerTry_link (fun t h => by simp [tryResume_frame h]),
    answerTry_sound (fun t h => by simp [tryResume_frame h]),
    answerTry_subs (fun t h => by simp [tryResume_frame h]), answerTry_log (fun t h => by simp [tryResume_frame h]),
    answerTry_lines (fun t h => by simp [tryResume_frame h]),
    answerTry_notices (fun t h => by simp [tryResume_frame h]),
    answerTry_freeUses (fun t h => by simp [tryResume_frame h])⟩

theorem tryGo_frame {s t : State} (h : tryGo s = .ok t) :
    t.pending = s.pending ∧ t.startUp = s.startUp ∧ t.store = s.store ∧ t.nvm = s.nvm ∧ t.catalogue = s.catalogue ∧
    t.free = s.free ∧ t.ingest = s.ingest ∧ t.link = s.link ∧ t.freeUses = s.freeUses := by
  unfold tryGo at h; (repeat' split at h) <;> simp_all <;> (subst h; simp)

@[simp] theorem answerTry_tryGo_frame (kind : Nat) (frame : Frame) (s : State) :
    (answerTry kind frame tryGo s).pending = s.pending ∧ (answerTry kind frame tryGo s).startUp = s.startUp ∧
    (answerTry kind frame tryGo s).store = s.store ∧ (answerTry kind frame tryGo s).nvm = s.nvm ∧
    (answerTry kind frame tryGo s).catalogue = s.catalogue ∧ (answerTry kind frame tryGo s).free = s.free ∧
    (answerTry kind frame tryGo s).link = s.link ∧ (answerTry kind frame tryGo s).freeUses = s.freeUses :=
  ⟨answerTry_pending (fun t h => by simp [tryGo_frame h]), answerTry_startUp (fun t h => by simp [tryGo_frame h]),
    answerTry_store (fun t h => by simp [tryGo_frame h]), answerTry_nvm (fun t h => by simp [tryGo_frame h]),
    answerTry_catalogue (fun t h => by simp [tryGo_frame h]), answerTry_free (fun t h => by simp [tryGo_frame h]),
    answerTry_link (fun t h => by simp [tryGo_frame h]), answerTry_freeUses (fun t h => by simp [tryGo_frame h])⟩

theorem trySkip_frame {s t : State} (h : trySkip s = .ok t) :
    t.pending = s.pending ∧ t.startUp = s.startUp ∧ t.store = s.store ∧ t.nvm = s.nvm ∧ t.catalogue = s.catalogue ∧
    t.free = s.free ∧ t.ingest = s.ingest ∧ t.link = s.link ∧ t.freeUses = s.freeUses := by
  unfold trySkip at h; (repeat' split at h) <;> simp_all <;> (subst h; simp)

@[simp] theorem answerTry_trySkip_frame (kind : Nat) (frame : Frame) (s : State) :
    (answerTry kind frame trySkip s).pending = s.pending ∧ (answerTry kind frame trySkip s).startUp = s.startUp ∧
    (answerTry kind frame trySkip s).store = s.store ∧ (answerTry kind frame trySkip s).nvm = s.nvm ∧
    (answerTry kind frame trySkip s).catalogue = s.catalogue ∧ (answerTry kind frame trySkip s).free = s.free ∧
    (answerTry kind frame trySkip s).link = s.link ∧ (answerTry kind frame trySkip s).freeUses = s.freeUses :=
  ⟨answerTry_pending (fun t h => by simp [trySkip_frame h]),
    answerTry_startUp (fun t h => by simp [trySkip_frame h]),
    answerTry_store (fun t h => by simp [trySkip_frame h]), answerTry_nvm (fun t h => by simp [trySkip_frame h]),
    answerTry_catalogue (fun t h => by simp [trySkip_frame h]),
    answerTry_free (fun t h => by simp [trySkip_frame h]), answerTry_link (fun t h => by simp [trySkip_frame h]),
    answerTry_freeUses (fun t h => by simp [trySkip_frame h])⟩

theorem tryStop_frame {s t : State} (h : tryStop s = .ok t) :
    t.pending = s.pending ∧ t.startUp = s.startUp ∧ t.store = s.store ∧ t.nvm = s.nvm ∧ t.catalogue = s.catalogue ∧
    t.free = s.free ∧ t.ingest = s.ingest ∧ t.link = s.link ∧ t.lines = s.lines ∧ t.freeUses = s.freeUses := by
  unfold tryStop at h; (repeat' split at h) <;> simp_all <;> (subst h; simp)

@[simp] theorem answerTry_tryStop_frame (kind : Nat) (frame : Frame) (s : State) :
    (answerTry kind frame tryStop s).pending = s.pending ∧ (answerTry kind frame tryStop s).startUp = s.startUp ∧
    (answerTry kind frame tryStop s).store = s.store ∧ (answerTry kind frame tryStop s).nvm = s.nvm ∧
    (answerTry kind frame tryStop s).catalogue = s.catalogue ∧ (answerTry kind frame tryStop s).free = s.free ∧
    (answerTry kind frame tryStop s).link = s.link ∧ (answerTry kind frame tryStop s).lines = s.lines ∧
    (answerTry kind frame tryStop s).freeUses = s.freeUses :=
  ⟨answerTry_pending (fun t h => by simp [tryStop_frame h]),
    answerTry_startUp (fun t h => by simp [tryStop_frame h]),
    answerTry_store (fun t h => by simp [tryStop_frame h]), answerTry_nvm (fun t h => by simp [tryStop_frame h]),
    answerTry_catalogue (fun t h => by simp [tryStop_frame h]),
    answerTry_free (fun t h => by simp [tryStop_frame h]), answerTry_link (fun t h => by simp [tryStop_frame h]),
    answerTry_lines (fun t h => by simp [tryStop_frame h]),
    answerTry_freeUses (fun t h => by simp [tryStop_frame h])⟩

@[simp] theorem servePauseLimit_frame (frame : Frame) (seconds : Nat) (s : State) :
    (servePauseLimit frame seconds s).pending = s.pending ∧ (servePauseLimit frame seconds s).startUp = s.startUp ∧
    (servePauseLimit frame seconds s).store = s.store ∧ (servePauseLimit frame seconds s).nvm = s.nvm ∧
    (servePauseLimit frame seconds s).catalogue = s.catalogue ∧ (servePauseLimit frame seconds s).free = s.free ∧
    (servePauseLimit frame seconds s).link = s.link ∧ (servePauseLimit frame seconds s).lines = s.lines ∧
    (servePauseLimit frame seconds s).freeUses = s.freeUses := by
  simp only [servePauseLimit]; (repeat' split) <;> simp

@[simp] theorem revokeGrant_frame (slot : Nat) (g : Grant) (s : State) :
    (revokeGrant slot g s).pending = s.pending ∧ (revokeGrant slot g s).startUp = s.startUp ∧
    (revokeGrant slot g s).store = s.store ∧ (revokeGrant slot g s).nvm = s.nvm ∧
    (revokeGrant slot g s).catalogue = s.catalogue ∧ (revokeGrant slot g s).free = s.free ∧
    (revokeGrant slot g s).time = s.time ∧ (revokeGrant slot g s).link = s.link ∧
    (revokeGrant slot g s).log = s.log ∧ (revokeGrant slot g s).lines = s.lines ∧
    (revokeGrant slot g s).port = s.port ∧ (revokeGrant slot g s).freeUses = s.freeUses := by
  simp only [revokeGrant]; (repeat' split) <;> simp

@[simp] theorem serveGrantRevoke_frame (turn : Bool) (frame : Frame) (slot : Nat) (s : State) :
    (serveGrantRevoke turn frame slot s).pending = s.pending ∧
    (serveGrantRevoke turn frame slot s).startUp = s.startUp ∧
    (serveGrantRevoke turn frame slot s).store = s.store ∧ (serveGrantRevoke turn frame slot s).nvm = s.nvm ∧
    (serveGrantRevoke turn frame slot s).catalogue = s.catalogue ∧
    (serveGrantRevoke turn frame slot s).free = s.free ∧ (serveGrantRevoke turn frame slot s).time = s.time ∧
    (serveGrantRevoke turn frame slot s).link = s.link ∧ (serveGrantRevoke turn frame slot s).log = s.log ∧
    (serveGrantRevoke turn frame slot s).lines = s.lines ∧
    (serveGrantRevoke turn frame slot s).freeUses = s.freeUses := by
  simp only [serveGrantRevoke]; (repeat' split) <;> simp

/-! ### LineInputs -/

@[simp] theorem beginHolding_frame (n : Nat) (s : State) :
    (beginHolding n s).pending = s.pending ∧ (beginHolding n s).startUp = s.startUp ∧
    (beginHolding n s).store = s.store ∧ (beginHolding n s).nvm = s.nvm ∧
    (beginHolding n s).catalogue = s.catalogue ∧ (beginHolding n s).queue = s.queue ∧
    (beginHolding n s).free = s.free ∧ (beginHolding n s).ingest = s.ingest ∧
    (beginHolding n s).arbiter = s.arbiter ∧ (beginHolding n s).cache = s.cache ∧ (beginHolding n s).keys = s.keys ∧
    (beginHolding n s).time = s.time ∧ (beginHolding n s).frames = s.frames ∧ (beginHolding n s).link = s.link ∧
    (beginHolding n s).subs = s.subs ∧ (beginHolding n s).log = s.log ∧ (beginHolding n s).port = s.port ∧
    (beginHolding n s).freeUses = s.freeUses := by
  simp only [beginHolding]; (repeat' split) <;> simp

@[simp] theorem stopHolding_frame (n : Nat) (s : State) :
    (stopHolding n s).pending = s.pending ∧ (stopHolding n s).startUp = s.startUp ∧
    (stopHolding n s).store = s.store ∧ (stopHolding n s).nvm = s.nvm ∧ (stopHolding n s).catalogue = s.catalogue ∧
    (stopHolding n s).queue = s.queue ∧ (stopHolding n s).free = s.free ∧ (stopHolding n s).ingest = s.ingest ∧
    (stopHolding n s).arbiter = s.arbiter ∧ (stopHolding n s).cache = s.cache ∧ (stopHolding n s).keys = s.keys ∧
    (stopHolding n s).seq = s.seq ∧ (stopHolding n s).time = s.time ∧ (stopHolding n s).frames = s.frames ∧
    (stopHolding n s).link = s.link ∧ (stopHolding n s).sound = s.sound ∧ (stopHolding n s).subs = s.subs ∧
    (stopHolding n s).log = s.log ∧ (stopHolding n s).port = s.port ∧ (stopHolding n s).notices = s.notices ∧
    (stopHolding n s).freeUses = s.freeUses := by
  unfold stopHolding; (repeat' split) <;> simp

@[simp] theorem actFunction_frame (n : Nat) (l : Line) (s : State) :
    (actFunction n l s).pending = s.pending ∧ (actFunction n l s).startUp = s.startUp ∧
    (actFunction n l s).store = s.store ∧ (actFunction n l s).nvm = s.nvm ∧
    (actFunction n l s).catalogue = s.catalogue ∧ (actFunction n l s).free = s.free ∧
    (actFunction n l s).link = s.link ∧ (actFunction n l s).freeUses = s.freeUses := by
  unfold actFunction; split <;> (try simp)
  · unfold tryGo; (repeat' split) <;> simp [orElseSame]
  · unfold tryPause; (repeat' split) <;> simp [orElseSame]

@[simp] theorem takeOnset_frame (n : Nat) (s : State) :
    (takeOnset n s).pending = s.pending ∧ (takeOnset n s).startUp = s.startUp ∧ (takeOnset n s).store = s.store ∧
    (takeOnset n s).nvm = s.nvm ∧ (takeOnset n s).catalogue = s.catalogue ∧ (takeOnset n s).free = s.free ∧
    (takeOnset n s).link = s.link ∧ (takeOnset n s).freeUses = s.freeUses := by
  unfold takeOnset; (repeat' split) <;> simp

@[simp] theorem takeLevel_frame (n : Nat) (high : Bool) (s : State) :
    (takeLevel n high s).pending = s.pending ∧ (takeLevel n high s).startUp = s.startUp ∧
    (takeLevel n high s).store = s.store ∧ (takeLevel n high s).nvm = s.nvm ∧
    (takeLevel n high s).catalogue = s.catalogue ∧ (takeLevel n high s).free = s.free ∧
    (takeLevel n high s).link = s.link ∧ (takeLevel n high s).freeUses = s.freeUses := by
  unfold takeLevel; (repeat' split) <;> simp

@[simp] theorem changePin_frame (n : Nat) (high : Bool) (s : State) :
    (changePin n high s).pending = s.pending ∧ (changePin n high s).startUp = s.startUp ∧
    (changePin n high s).store = s.store ∧ (changePin n high s).nvm = s.nvm ∧
    (changePin n high s).catalogue = s.catalogue ∧ (changePin n high s).free = s.free ∧
    (changePin n high s).link = s.link ∧ (changePin n high s).freeUses = s.freeUses := by
  unfold changePin; (repeat' split) <;> simp

@[simp] theorem clearLine_frame (n : Nat) (s : State) :
    (clearLine n s).pending = s.pending ∧ (clearLine n s).startUp = s.startUp ∧ (clearLine n s).store = s.store ∧
    (clearLine n s).nvm = s.nvm ∧ (clearLine n s).catalogue = s.catalogue ∧ (clearLine n s).queue = s.queue ∧
    (clearLine n s).free = s.free ∧ (clearLine n s).ingest = s.ingest ∧ (clearLine n s).arbiter = s.arbiter ∧
    (clearLine n s).cache = s.cache ∧ (clearLine n s).keys = s.keys ∧ (clearLine n s).seq = s.seq ∧
    (clearLine n s).time = s.time ∧ (clearLine n s).frames = s.frames ∧ (clearLine n s).link = s.link ∧
    (clearLine n s).sound = s.sound ∧ (clearLine n s).subs = s.subs ∧ (clearLine n s).log = s.log ∧
    (clearLine n s).port = s.port ∧ (clearLine n s).notices = s.notices ∧
    (clearLine n s).freeUses = s.freeUses := by
  unfold clearLine; (repeat' split) <;> simp

@[simp] theorem setOutput_frame (n : Nat) (idle safe : Bool) (s : State) :
    (setOutput n idle safe s).pending = s.pending ∧ (setOutput n idle safe s).startUp = s.startUp ∧
    (setOutput n idle safe s).store = s.store ∧ (setOutput n idle safe s).nvm = s.nvm ∧
    (setOutput n idle safe s).catalogue = s.catalogue ∧ (setOutput n idle safe s).queue = s.queue ∧
    (setOutput n idle safe s).free = s.free ∧ (setOutput n idle safe s).ingest = s.ingest ∧
    (setOutput n idle safe s).arbiter = s.arbiter ∧ (setOutput n idle safe s).cache = s.cache ∧
    (setOutput n idle safe s).keys = s.keys ∧ (setOutput n idle safe s).seq = s.seq ∧
    (setOutput n idle safe s).time = s.time ∧ (setOutput n idle safe s).frames = s.frames ∧
    (setOutput n idle safe s).link = s.link ∧ (setOutput n idle safe s).sound = s.sound ∧
    (setOutput n idle safe s).subs = s.subs ∧ (setOutput n idle safe s).log = s.log ∧
    (setOutput n idle safe s).port = s.port ∧ (setOutput n idle safe s).notices = s.notices ∧
    (setOutput n idle safe s).freeUses = s.freeUses := by
  unfold setOutput; (repeat' split) <;> simp

@[simp] theorem setInput_frame (n : Nat) (c : LineCondition) (debounce : Nat) (f : LineFunction) (s : State) :
    (setInput n c debounce f s).pending = s.pending ∧ (setInput n c debounce f s).startUp = s.startUp ∧
    (setInput n c debounce f s).store = s.store ∧ (setInput n c debounce f s).nvm = s.nvm ∧
    (setInput n c debounce f s).catalogue = s.catalogue ∧ (setInput n c debounce f s).free = s.free ∧
    (setInput n c debounce f s).link = s.link ∧ (setInput n c debounce f s).freeUses = s.freeUses := by
  simp only [setInput]; (repeat' split) <;> simp

@[simp] theorem serveLineSetup_frame (frame : Frame) (line : Nat) (config : LineRequest) (s : State) :
    (serveLineSetup frame line config s).pending = s.pending ∧
    (serveLineSetup frame line config s).startUp = s.startUp ∧
    (serveLineSetup frame line config s).store = s.store ∧ (serveLineSetup frame line config s).nvm = s.nvm ∧
    (serveLineSetup frame line config s).catalogue = s.catalogue ∧
    (serveLineSetup frame line config s).free = s.free ∧ (serveLineSetup frame line config s).link = s.link ∧
    (serveLineSetup frame line config s).freeUses = s.freeUses := by
  unfold serveLineSetup; (repeat' split) <;> simp

/-! ### MediaRequests -/

@[simp] theorem serveFrameSource_frame (frame : Frame) (source : Nat) (edge : Option Nat) (s : State) :
    (serveFrameSource frame source edge s).pending = s.pending ∧
    (serveFrameSource frame source edge s).startUp = s.startUp ∧
    (serveFrameSource frame source edge s).store = s.store ∧ (serveFrameSource frame source edge s).nvm = s.nvm ∧
    (serveFrameSource frame source edge s).catalogue = s.catalogue ∧
    (serveFrameSource frame source edge s).queue = s.queue ∧ (serveFrameSource frame source edge s).free = s.free ∧
    (serveFrameSource frame source edge s).ingest = s.ingest ∧
    (serveFrameSource frame source edge s).arbiter = s.arbiter ∧
    (serveFrameSource frame source edge s).cache = s.cache ∧ (serveFrameSource frame source edge s).keys = s.keys ∧
    (serveFrameSource frame source edge s).seq = s.seq ∧ (serveFrameSource frame source edge s).frames = s.frames ∧
    (serveFrameSource frame source edge s).link = s.link ∧ (serveFrameSource frame source edge s).sound = s.sound ∧
    (serveFrameSource frame source edge s).subs = s.subs ∧ (serveFrameSource frame source edge s).log = s.log ∧
    (serveFrameSource frame source edge s).lines = s.lines ∧
    (serveFrameSource frame source edge s).notices = s.notices ∧
    (serveFrameSource frame source edge s).freeUses = s.freeUses := by
  unfold serveFrameSource; (repeat' split) <;> simp

@[simp] theorem servePosition_frame (frame : Frame) (s : State) :
    (servePosition frame s).pending = s.pending ∧ (servePosition frame s).startUp = s.startUp ∧
    (servePosition frame s).store = s.store ∧ (servePosition frame s).nvm = s.nvm ∧
    (servePosition frame s).catalogue = s.catalogue ∧ (servePosition frame s).queue = s.queue ∧
    (servePosition frame s).free = s.free ∧ (servePosition frame s).ingest = s.ingest ∧
    (servePosition frame s).arbiter = s.arbiter ∧ (servePosition frame s).cache = s.cache ∧
    (servePosition frame s).keys = s.keys ∧ (servePosition frame s).seq = s.seq ∧
    (servePosition frame s).time = s.time ∧ (servePosition frame s).frames = s.frames ∧
    (servePosition frame s).link = s.link ∧ (servePosition frame s).sound = s.sound ∧
    (servePosition frame s).subs = s.subs ∧ (servePosition frame s).log = s.log ∧
    (servePosition frame s).lines = s.lines ∧ (servePosition frame s).notices = s.notices ∧
    (servePosition frame s).freeUses = s.freeUses := by
  unfold servePosition; (repeat' split) <;> simp

@[simp] theorem serveMark_frame (frame : Frame) (s : State) :
    (serveMark frame s).pending = s.pending ∧ (serveMark frame s).startUp = s.startUp ∧
    (serveMark frame s).store = s.store ∧ (serveMark frame s).nvm = s.nvm ∧
    (serveMark frame s).catalogue = s.catalogue ∧ (serveMark frame s).queue = s.queue ∧
    (serveMark frame s).free = s.free ∧ (serveMark frame s).ingest = s.ingest ∧
    (serveMark frame s).arbiter = s.arbiter ∧ (serveMark frame s).cache = s.cache ∧
    (serveMark frame s).keys = s.keys ∧ (serveMark frame s).seq = s.seq ∧ (serveMark frame s).frames = s.frames ∧
    (serveMark frame s).link = s.link ∧ (serveMark frame s).sound = s.sound ∧ (serveMark frame s).subs = s.subs ∧
    (serveMark frame s).log = s.log ∧ (serveMark frame s).lines = s.lines ∧
    (serveMark frame s).freeUses = s.freeUses := by
  unfold serveMark; (repeat' split) <;> simp

@[simp] theorem serveCaptureRead_frame (frame : Frame) (count : Nat) (s : State) :
    (serveCaptureRead frame count s).pending = s.pending ∧ (serveCaptureRead frame count s).startUp = s.startUp ∧
    (serveCaptureRead frame count s).store = s.store ∧ (serveCaptureRead frame count s).nvm = s.nvm ∧
    (serveCaptureRead frame count s).catalogue = s.catalogue ∧ (serveCaptureRead frame count s).queue = s.queue ∧
    (serveCaptureRead frame count s).free = s.free ∧ (serveCaptureRead frame count s).ingest = s.ingest ∧
    (serveCaptureRead frame count s).arbiter = s.arbiter ∧ (serveCaptureRead frame count s).cache = s.cache ∧
    (serveCaptureRead frame count s).keys = s.keys ∧ (serveCaptureRead frame count s).seq = s.seq ∧
    (serveCaptureRead frame count s).frames = s.frames ∧ (serveCaptureRead frame count s).link = s.link ∧
    (serveCaptureRead frame count s).sound = s.sound ∧ (serveCaptureRead frame count s).subs = s.subs ∧
    (serveCaptureRead frame count s).log = s.log ∧ (serveCaptureRead frame count s).lines = s.lines ∧
    (serveCaptureRead frame count s).notices = s.notices ∧
    (serveCaptureRead frame count s).freeUses = s.freeUses := by
  unfold serveCaptureRead; (repeat' split) <;> simp

@[simp] theorem updateLink_frame (f : LinkSide → LinkSide) (s : State) :
    (updateLink f s).pending = s.pending ∧ (updateLink f s).startUp = s.startUp ∧ (updateLink f s).store = s.store ∧
    (updateLink f s).nvm = s.nvm ∧ (updateLink f s).catalogue = s.catalogue ∧ (updateLink f s).queue = s.queue ∧
    (updateLink f s).free = s.free ∧ (updateLink f s).ingest = s.ingest ∧ (updateLink f s).arbiter = s.arbiter ∧
    (updateLink f s).cache = s.cache ∧ (updateLink f s).keys = s.keys ∧ (updateLink f s).seq = s.seq ∧
    (updateLink f s).time = s.time ∧ (updateLink f s).frames = s.frames ∧ (updateLink f s).sound = s.sound ∧
    (updateLink f s).subs = s.subs ∧ (updateLink f s).log = s.log ∧ (updateLink f s).lines = s.lines ∧
    (updateLink f s).port = s.port ∧ (updateLink f s).notices = s.notices ∧
    (updateLink f s).freeUses = s.freeUses := by
  unfold updateLink; (repeat' split) <;> simp

@[simp] theorem pairProjector_frame (projector : Nat) (s : State) :
    (pairProjector projector s).pending = s.pending ∧ (pairProjector projector s).startUp = s.startUp ∧
    (pairProjector projector s).store = s.store ∧ (pairProjector projector s).nvm = s.nvm ∧
    (pairProjector projector s).catalogue = s.catalogue ∧ (pairProjector projector s).free = s.free ∧
    (pairProjector projector s).ingest = s.ingest ∧ (pairProjector projector s).arbiter = s.arbiter ∧
    (pairProjector projector s).cache = s.cache ∧ (pairProjector projector s).keys = s.keys ∧
    (pairProjector projector s).seq = s.seq ∧ (pairProjector projector s).time = s.time ∧
    (pairProjector projector s).frames = s.frames ∧ (pairProjector projector s).sound = s.sound ∧
    (pairProjector projector s).subs = s.subs ∧ (pairProjector projector s).log = s.log ∧
    (pairProjector projector s).lines = s.lines ∧ (pairProjector projector s).port = s.port ∧
    (pairProjector projector s).notices = s.notices ∧ (pairProjector projector s).freeUses = s.freeUses := by
  unfold pairProjector; (repeat' split) <;> simp

@[simp] theorem servePair_frame (turn : Bool) (frame : Frame) (projector : Nat) (s : State) :
    (servePair turn frame projector s).pending = s.pending ∧
    (servePair turn frame projector s).startUp = s.startUp ∧ (servePair turn frame projector s).store = s.store ∧
    (servePair turn frame projector s).nvm = s.nvm ∧ (servePair turn frame projector s).catalogue = s.catalogue ∧
    (servePair turn frame projector s).free = s.free ∧ (servePair turn frame projector s).ingest = s.ingest ∧
    (servePair turn frame projector s).arbiter = s.arbiter ∧ (servePair turn frame projector s).cache = s.cache ∧
    (servePair turn frame projector s).keys = s.keys ∧ (servePair turn frame projector s).seq = s.seq ∧
    (servePair turn frame projector s).time = s.time ∧ (servePair turn frame projector s).frames = s.frames ∧
    (servePair turn frame projector s).sound = s.sound ∧ (servePair turn frame projector s).subs = s.subs ∧
    (servePair turn frame projector s).log = s.log ∧ (servePair turn frame projector s).lines = s.lines ∧
    (servePair turn frame projector s).freeUses = s.freeUses := by
  simp only [servePair]; (repeat' split) <;> simp

@[simp] theorem serveLinkCheck_frame (frame : Frame) (s : State) :
    (serveLinkCheck frame s).pending = s.pending ∧ (serveLinkCheck frame s).startUp = s.startUp ∧
    (serveLinkCheck frame s).store = s.store ∧ (serveLinkCheck frame s).nvm = s.nvm ∧
    (serveLinkCheck frame s).catalogue = s.catalogue ∧ (serveLinkCheck frame s).queue = s.queue ∧
    (serveLinkCheck frame s).free = s.free ∧ (serveLinkCheck frame s).ingest = s.ingest ∧
    (serveLinkCheck frame s).arbiter = s.arbiter ∧ (serveLinkCheck frame s).cache = s.cache ∧
    (serveLinkCheck frame s).keys = s.keys ∧ (serveLinkCheck frame s).seq = s.seq ∧
    (serveLinkCheck frame s).time = s.time ∧ (serveLinkCheck frame s).frames = s.frames ∧
    (serveLinkCheck frame s).sound = s.sound ∧ (serveLinkCheck frame s).subs = s.subs ∧
    (serveLinkCheck frame s).log = s.log ∧ (serveLinkCheck frame s).lines = s.lines ∧
    (serveLinkCheck frame s).notices = s.notices ∧ (serveLinkCheck frame s).freeUses = s.freeUses := by
  unfold serveLinkCheck; (repeat' split) <;> simp

@[simp] theorem serveLinkInterval_frame (frame : Frame) (seconds : Nat) (s : State) :
    (serveLinkInterval frame seconds s).pending = s.pending ∧
    (serveLinkInterval frame seconds s).startUp = s.startUp ∧ (serveLinkInterval frame seconds s).store = s.store ∧
    (serveLinkInterval frame seconds s).nvm = s.nvm ∧ (serveLinkInterval frame seconds s).catalogue = s.catalogue ∧
    (serveLinkInterval frame seconds s).queue = s.queue ∧ (serveLinkInterval frame seconds s).free = s.free ∧
    (serveLinkInterval frame seconds s).ingest = s.ingest ∧
    (serveLinkInterval frame seconds s).arbiter = s.arbiter ∧ (serveLinkInterval frame seconds s).cache = s.cache ∧
    (serveLinkInterval frame seconds s).keys = s.keys ∧ (serveLinkInterval frame seconds s).seq = s.seq ∧
    (serveLinkInterval frame seconds s).time = s.time ∧ (serveLinkInterval frame seconds s).frames = s.frames ∧
    (serveLinkInterval frame seconds s).sound = s.sound ∧ (serveLinkInterval frame seconds s).subs = s.subs ∧
    (serveLinkInterval frame seconds s).log = s.log ∧ (serveLinkInterval frame seconds s).lines = s.lines ∧
    (serveLinkInterval frame seconds s).notices = s.notices ∧
    (serveLinkInterval frame seconds s).freeUses = s.freeUses := by
  simp only [serveLinkInterval]; (repeat' split) <;> simp

@[simp] theorem servePictureStatus_frame (frame : Frame) (s : State) :
    (servePictureStatus frame s).pending = s.pending ∧ (servePictureStatus frame s).startUp = s.startUp ∧
    (servePictureStatus frame s).store = s.store ∧ (servePictureStatus frame s).nvm = s.nvm ∧
    (servePictureStatus frame s).catalogue = s.catalogue ∧ (servePictureStatus frame s).queue = s.queue ∧
    (servePictureStatus frame s).free = s.free ∧ (servePictureStatus frame s).ingest = s.ingest ∧
    (servePictureStatus frame s).arbiter = s.arbiter ∧ (servePictureStatus frame s).cache = s.cache ∧
    (servePictureStatus frame s).keys = s.keys ∧ (servePictureStatus frame s).seq = s.seq ∧
    (servePictureStatus frame s).time = s.time ∧ (servePictureStatus frame s).frames = s.frames ∧
    (servePictureStatus frame s).link = s.link ∧ (servePictureStatus frame s).sound = s.sound ∧
    (servePictureStatus frame s).subs = s.subs ∧ (servePictureStatus frame s).log = s.log ∧
    (servePictureStatus frame s).lines = s.lines ∧ (servePictureStatus frame s).notices = s.notices ∧
    (servePictureStatus frame s).freeUses = s.freeUses := by
  unfold servePictureStatus; (repeat' split) <;> simp

@[simp] theorem updateSound_frame (f : Sound → Sound) (s : State) :
    (updateSound f s).pending = s.pending ∧ (updateSound f s).startUp = s.startUp ∧
    (updateSound f s).store = s.store ∧ (updateSound f s).nvm = s.nvm ∧ (updateSound f s).catalogue = s.catalogue ∧
    (updateSound f s).queue = s.queue ∧ (updateSound f s).free = s.free ∧ (updateSound f s).ingest = s.ingest ∧
    (updateSound f s).arbiter = s.arbiter ∧ (updateSound f s).cache = s.cache ∧ (updateSound f s).keys = s.keys ∧
    (updateSound f s).seq = s.seq ∧ (updateSound f s).time = s.time ∧ (updateSound f s).frames = s.frames ∧
    (updateSound f s).link = s.link ∧ (updateSound f s).subs = s.subs ∧ (updateSound f s).log = s.log ∧
    (updateSound f s).lines = s.lines ∧ (updateSound f s).port = s.port ∧ (updateSound f s).notices = s.notices ∧
    (updateSound f s).freeUses = s.freeUses := by
  unfold updateSound; (repeat' split) <;> simp

@[simp] theorem putMap_frame (slot code : Nat) (routes : List Route) (s : State) :
    (putMap slot code routes s).pending = s.pending ∧ (putMap slot code routes s).startUp = s.startUp ∧
    (putMap slot code routes s).store = s.store ∧ (putMap slot code routes s).nvm = s.nvm ∧
    (putMap slot code routes s).catalogue = s.catalogue ∧ (putMap slot code routes s).queue = s.queue ∧
    (putMap slot code routes s).free = s.free ∧ (putMap slot code routes s).ingest = s.ingest ∧
    (putMap slot code routes s).arbiter = s.arbiter ∧ (putMap slot code routes s).cache = s.cache ∧
    (putMap slot code routes s).keys = s.keys ∧ (putMap slot code routes s).seq = s.seq ∧
    (putMap slot code routes s).time = s.time ∧ (putMap slot code routes s).frames = s.frames ∧
    (putMap slot code routes s).link = s.link ∧ (putMap slot code routes s).subs = s.subs ∧
    (putMap slot code routes s).log = s.log ∧ (putMap slot code routes s).lines = s.lines ∧
    (putMap slot code routes s).port = s.port ∧ (putMap slot code routes s).notices = s.notices ∧
    (putMap slot code routes s).freeUses = s.freeUses := by
  unfold putMap; (repeat' split) <;> simp

@[simp] theorem serveSoundMapLoad_frame (frame : Frame) (code : Nat) (routes : Option (List Route)) (s : State) :
    (serveSoundMapLoad frame code routes s).pending = s.pending ∧
    (serveSoundMapLoad frame code routes s).startUp = s.startUp ∧
    (serveSoundMapLoad frame code routes s).store = s.store ∧ (serveSoundMapLoad frame code routes s).nvm = s.nvm ∧
    (serveSoundMapLoad frame code routes s).catalogue = s.catalogue ∧
    (serveSoundMapLoad frame code routes s).queue = s.queue ∧
    (serveSoundMapLoad frame code routes s).free = s.free ∧
    (serveSoundMapLoad frame code routes s).ingest = s.ingest ∧
    (serveSoundMapLoad frame code routes s).arbiter = s.arbiter ∧
    (serveSoundMapLoad frame code routes s).cache = s.cache ∧
    (serveSoundMapLoad frame code routes s).keys = s.keys ∧ (serveSoundMapLoad frame code routes s).seq = s.seq ∧
    (serveSoundMapLoad frame code routes s).time = s.time ∧
    (serveSoundMapLoad frame code routes s).frames = s.frames ∧
    (serveSoundMapLoad frame code routes s).link = s.link ∧ (serveSoundMapLoad frame code routes s).subs = s.subs ∧
    (serveSoundMapLoad frame code routes s).log = s.log ∧ (serveSoundMapLoad frame code routes s).lines = s.lines ∧
    (serveSoundMapLoad frame code routes s).notices = s.notices ∧
    (serveSoundMapLoad frame code routes s).freeUses = s.freeUses := by
  unfold serveSoundMapLoad; (repeat' split) <;> simp

@[simp] theorem serveSoundMapRead_frame (frame : Frame) (code : Nat) (s : State) :
    (serveSoundMapRead frame code s).pending = s.pending ∧ (serveSoundMapRead frame code s).startUp = s.startUp ∧
    (serveSoundMapRead frame code s).store = s.store ∧ (serveSoundMapRead frame code s).nvm = s.nvm ∧
    (serveSoundMapRead frame code s).catalogue = s.catalogue ∧ (serveSoundMapRead frame code s).queue = s.queue ∧
    (serveSoundMapRead frame code s).free = s.free ∧ (serveSoundMapRead frame code s).ingest = s.ingest ∧
    (serveSoundMapRead frame code s).arbiter = s.arbiter ∧ (serveSoundMapRead frame code s).cache = s.cache ∧
    (serveSoundMapRead frame code s).keys = s.keys ∧ (serveSoundMapRead frame code s).seq = s.seq ∧
    (serveSoundMapRead frame code s).time = s.time ∧ (serveSoundMapRead frame code s).frames = s.frames ∧
    (serveSoundMapRead frame code s).link = s.link ∧ (serveSoundMapRead frame code s).sound = s.sound ∧
    (serveSoundMapRead frame code s).subs = s.subs ∧ (serveSoundMapRead frame code s).log = s.log ∧
    (serveSoundMapRead frame code s).lines = s.lines ∧ (serveSoundMapRead frame code s).notices = s.notices ∧
    (serveSoundMapRead frame code s).freeUses = s.freeUses := by
  unfold serveSoundMapRead; (repeat' split) <;> simp

@[simp] theorem serveFaderSet_frame (frame : Frame) (target frames : Nat) (s : State) :
    (serveFaderSet frame target frames s).pending = s.pending ∧
    (serveFaderSet frame target frames s).startUp = s.startUp ∧
    (serveFaderSet frame target frames s).store = s.store ∧ (serveFaderSet frame target frames s).nvm = s.nvm ∧
    (serveFaderSet frame target frames s).catalogue = s.catalogue ∧
    (serveFaderSet frame target frames s).queue = s.queue ∧ (serveFaderSet frame target frames s).free = s.free ∧
    (serveFaderSet frame target frames s).ingest = s.ingest ∧
    (serveFaderSet frame target frames s).arbiter = s.arbiter ∧
    (serveFaderSet frame target frames s).cache = s.cache ∧ (serveFaderSet frame target frames s).keys = s.keys ∧
    (serveFaderSet frame target frames s).seq = s.seq ∧ (serveFaderSet frame target frames s).time = s.time ∧
    (serveFaderSet frame target frames s).frames = s.frames ∧ (serveFaderSet frame target frames s).link = s.link ∧
    (serveFaderSet frame target frames s).subs = s.subs ∧ (serveFaderSet frame target frames s).log = s.log ∧
    (serveFaderSet frame target frames s).lines = s.lines ∧
    (serveFaderSet frame target frames s).notices = s.notices ∧
    (serveFaderSet frame target frames s).freeUses = s.freeUses := by
  unfold serveFaderSet; (repeat' split) <;> simp

@[simp] theorem restartPrepared_frame (trim : Int) (s : State) :
    (restartPrepared trim s).pending = s.pending ∧ (restartPrepared trim s).startUp = s.startUp ∧
    (restartPrepared trim s).store = s.store ∧ (restartPrepared trim s).nvm = s.nvm ∧
    (restartPrepared trim s).catalogue = s.catalogue ∧ (restartPrepared trim s).queue = s.queue ∧
    (restartPrepared trim s).free = s.free ∧ (restartPrepared trim s).ingest = s.ingest ∧
    (restartPrepared trim s).keys = s.keys ∧ (restartPrepared trim s).seq = s.seq ∧
    (restartPrepared trim s).time = s.time ∧ (restartPrepared trim s).frames = s.frames ∧
    (restartPrepared trim s).link = s.link ∧ (restartPrepared trim s).subs = s.subs ∧
    (restartPrepared trim s).log = s.log ∧ (restartPrepared trim s).lines = s.lines ∧
    (restartPrepared trim s).port = s.port ∧ (restartPrepared trim s).notices = s.notices ∧
    (restartPrepared trim s).freeUses = s.freeUses := by
  unfold restartPrepared; (repeat' split) <;> simp

@[simp] theorem serveLipsyncSet_frame (frame : Frame) (trim : Int) (s : State) :
    (serveLipsyncSet frame trim s).pending = s.pending ∧ (serveLipsyncSet frame trim s).startUp = s.startUp ∧
    (serveLipsyncSet frame trim s).store = s.store ∧ (serveLipsyncSet frame trim s).nvm = s.nvm ∧
    (serveLipsyncSet frame trim s).catalogue = s.catalogue ∧ (serveLipsyncSet frame trim s).queue = s.queue ∧
    (serveLipsyncSet frame trim s).free = s.free ∧ (serveLipsyncSet frame trim s).ingest = s.ingest ∧
    (serveLipsyncSet frame trim s).keys = s.keys ∧ (serveLipsyncSet frame trim s).seq = s.seq ∧
    (serveLipsyncSet frame trim s).time = s.time ∧ (serveLipsyncSet frame trim s).frames = s.frames ∧
    (serveLipsyncSet frame trim s).link = s.link ∧ (serveLipsyncSet frame trim s).subs = s.subs ∧
    (serveLipsyncSet frame trim s).log = s.log ∧ (serveLipsyncSet frame trim s).lines = s.lines ∧
    (serveLipsyncSet frame trim s).notices = s.notices ∧ (serveLipsyncSet frame trim s).freeUses = s.freeUses := by
  simp only [serveLipsyncSet]; (repeat' split) <;> simp

@[simp] theorem serveSoundStatus_frame (frame : Frame) (s : State) :
    (serveSoundStatus frame s).pending = s.pending ∧ (serveSoundStatus frame s).startUp = s.startUp ∧
    (serveSoundStatus frame s).store = s.store ∧ (serveSoundStatus frame s).nvm = s.nvm ∧
    (serveSoundStatus frame s).catalogue = s.catalogue ∧ (serveSoundStatus frame s).queue = s.queue ∧
    (serveSoundStatus frame s).free = s.free ∧ (serveSoundStatus frame s).ingest = s.ingest ∧
    (serveSoundStatus frame s).arbiter = s.arbiter ∧ (serveSoundStatus frame s).cache = s.cache ∧
    (serveSoundStatus frame s).keys = s.keys ∧ (serveSoundStatus frame s).seq = s.seq ∧
    (serveSoundStatus frame s).time = s.time ∧ (serveSoundStatus frame s).frames = s.frames ∧
    (serveSoundStatus frame s).link = s.link ∧ (serveSoundStatus frame s).sound = s.sound ∧
    (serveSoundStatus frame s).subs = s.subs ∧ (serveSoundStatus frame s).log = s.log ∧
    (serveSoundStatus frame s).lines = s.lines ∧ (serveSoundStatus frame s).notices = s.notices ∧
    (serveSoundStatus frame s).freeUses = s.freeUses := by
  unfold serveSoundStatus; (repeat' split) <;> simp

@[simp] theorem rerouteCue_frame (stream : Nat) (before after : StreamRoute) (shown : Shown) (s : State) :
    (rerouteCue stream before after shown s).pending = s.pending ∧
    (rerouteCue stream before after shown s).startUp = s.startUp ∧
    (rerouteCue stream before after shown s).store = s.store ∧
    (rerouteCue stream before after shown s).nvm = s.nvm ∧
    (rerouteCue stream before after shown s).catalogue = s.catalogue ∧
    (rerouteCue stream before after shown s).queue = s.queue ∧
    (rerouteCue stream before after shown s).free = s.free ∧
    (rerouteCue stream before after shown s).ingest = s.ingest ∧
    (rerouteCue stream before after shown s).arbiter = s.arbiter ∧
    (rerouteCue stream before after shown s).cache = s.cache ∧
    (rerouteCue stream before after shown s).keys = s.keys ∧ (rerouteCue stream before after shown s).seq = s.seq ∧
    (rerouteCue stream before after shown s).time = s.time ∧
    (rerouteCue stream before after shown s).frames = s.frames ∧
    (rerouteCue stream before after shown s).link = s.link ∧
    (rerouteCue stream before after shown s).sound = s.sound ∧
    (rerouteCue stream before after shown s).log = s.log ∧
    (rerouteCue stream before after shown s).lines = s.lines ∧
    (rerouteCue stream before after shown s).port = s.port ∧
    (rerouteCue stream before after shown s).notices = s.notices ∧
    (rerouteCue stream before after shown s).freeUses = s.freeUses := by
  unfold rerouteCue; (repeat' split) <;> simp

@[simp] theorem setRoute_frame (stream : Nat) (route : StreamRoute) (s : State) :
    (setRoute stream route s).pending = s.pending ∧ (setRoute stream route s).startUp = s.startUp ∧
    (setRoute stream route s).store = s.store ∧ (setRoute stream route s).nvm = s.nvm ∧
    (setRoute stream route s).catalogue = s.catalogue ∧ (setRoute stream route s).queue = s.queue ∧
    (setRoute stream route s).free = s.free ∧ (setRoute stream route s).ingest = s.ingest ∧
    (setRoute stream route s).arbiter = s.arbiter ∧ (setRoute stream route s).cache = s.cache ∧
    (setRoute stream route s).keys = s.keys ∧ (setRoute stream route s).seq = s.seq ∧
    (setRoute stream route s).time = s.time ∧ (setRoute stream route s).frames = s.frames ∧
    (setRoute stream route s).link = s.link ∧ (setRoute stream route s).sound = s.sound ∧
    (setRoute stream route s).log = s.log ∧ (setRoute stream route s).lines = s.lines ∧
    (setRoute stream route s).port = s.port ∧ (setRoute stream route s).notices = s.notices ∧
    (setRoute stream route s).freeUses = s.freeUses := by
  unfold setRoute
  split
  · simp
  · and_intros
    · rw [foldl_pending (h := by intro u t; cases t <;> simp)]; simp
    · rw [foldl_startUp (h := by intro u t; cases t <;> simp)]; simp
    · rw [foldl_store (h := by intro u t; cases t <;> simp)]; simp
    · rw [foldl_nvm (h := by intro u t; cases t <;> simp)]; simp
    · rw [foldl_catalogue (h := by intro u t; cases t <;> simp)]; simp
    · rw [foldl_queue (h := by intro u t; cases t <;> simp)]; simp
    · rw [foldl_free (h := by intro u t; cases t <;> simp)]; simp
    · rw [foldl_ingest (h := by intro u t; cases t <;> simp)]; simp
    · rw [foldl_arbiter (h := by intro u t; cases t <;> simp)]; simp
    · rw [foldl_cache (h := by intro u t; cases t <;> simp)]; simp
    · rw [foldl_keys (h := by intro u t; cases t <;> simp)]; simp
    · rw [foldl_seq (h := by intro u t; cases t <;> simp)]; simp
    · rw [foldl_time (h := by intro u t; cases t <;> simp)]; simp
    · rw [foldl_frames (h := by intro u t; cases t <;> simp)]; simp
    · rw [foldl_link (h := by intro u t; cases t <;> simp)]; simp
    · rw [foldl_sound (h := by intro u t; cases t <;> simp)]; simp
    · rw [foldl_log (h := by intro u t; cases t <;> simp)]; simp
    · rw [foldl_lines (h := by intro u t; cases t <;> simp)]; simp
    · rw [foldl_port (h := by intro u t; cases t <;> simp)]; simp
    · rw [foldl_notices (h := by intro u t; cases t <;> simp)]; simp
    · rw [foldl_freeUses (h := by intro u t; cases t <;> simp)]; simp


@[simp] theorem serveStreamSet_frame (frame : Frame) (stream route : Nat) (offset : Int) (s : State) :
    (serveStreamSet frame stream route offset s).pending = s.pending ∧
    (serveStreamSet frame stream route offset s).startUp = s.startUp ∧
    (serveStreamSet frame stream route offset s).store = s.store ∧
    (serveStreamSet frame stream route offset s).nvm = s.nvm ∧
    (serveStreamSet frame stream route offset s).catalogue = s.catalogue ∧
    (serveStreamSet frame stream route offset s).queue = s.queue ∧
    (serveStreamSet frame stream route offset s).free = s.free ∧
    (serveStreamSet frame stream route offset s).ingest = s.ingest ∧
    (serveStreamSet frame stream route offset s).arbiter = s.arbiter ∧
    (serveStreamSet frame stream route offset s).cache = s.cache ∧
    (serveStreamSet frame stream route offset s).keys = s.keys ∧
    (serveStreamSet frame stream route offset s).seq = s.seq ∧
    (serveStreamSet frame stream route offset s).time = s.time ∧
    (serveStreamSet frame stream route offset s).frames = s.frames ∧
    (serveStreamSet frame stream route offset s).link = s.link ∧
    (serveStreamSet frame stream route offset s).sound = s.sound ∧
    (serveStreamSet frame stream route offset s).log = s.log ∧
    (serveStreamSet frame stream route offset s).lines = s.lines ∧
    (serveStreamSet frame stream route offset s).notices = s.notices ∧
    (serveStreamSet frame stream route offset s).freeUses = s.freeUses := by
  unfold serveStreamSet; split
  · simp
  · split
    · simp
    · split
      · simp
      · dsimp only; split <;> simp

@[simp] theorem serveSubtitleStatus_frame (frame : Frame) (s : State) :
    (serveSubtitleStatus frame s).pending = s.pending ∧ (serveSubtitleStatus frame s).startUp = s.startUp ∧
    (serveSubtitleStatus frame s).store = s.store ∧ (serveSubtitleStatus frame s).nvm = s.nvm ∧
    (serveSubtitleStatus frame s).catalogue = s.catalogue ∧ (serveSubtitleStatus frame s).queue = s.queue ∧
    (serveSubtitleStatus frame s).free = s.free ∧ (serveSubtitleStatus frame s).ingest = s.ingest ∧
    (serveSubtitleStatus frame s).arbiter = s.arbiter ∧ (serveSubtitleStatus frame s).cache = s.cache ∧
    (serveSubtitleStatus frame s).keys = s.keys ∧ (serveSubtitleStatus frame s).seq = s.seq ∧
    (serveSubtitleStatus frame s).time = s.time ∧ (serveSubtitleStatus frame s).frames = s.frames ∧
    (serveSubtitleStatus frame s).link = s.link ∧ (serveSubtitleStatus frame s).sound = s.sound ∧
    (serveSubtitleStatus frame s).subs = s.subs ∧ (serveSubtitleStatus frame s).log = s.log ∧
    (serveSubtitleStatus frame s).lines = s.lines ∧ (serveSubtitleStatus frame s).notices = s.notices ∧
    (serveSubtitleStatus frame s).freeUses = s.freeUses := by
  unfold serveSubtitleStatus; (repeat' split) <;> simp

/-! ### FullReset -/

@[simp] theorem resetUnits_frame (reported clockRan : Nat) (landed : Bool) (s : State) :
    (resetUnits reported clockRan landed s).pending = s.pending := by
  unfold resetUnits; (repeat' split) <;> simp

@[simp] theorem loadNvm_frame (s : State) :
    (loadNvm s).pending = s.pending ∧ (loadNvm s).startUp = s.startUp ∧ (loadNvm s).store = s.store ∧
    (loadNvm s).nvm = s.nvm ∧ (loadNvm s).queue = s.queue ∧ (loadNvm s).free = s.free ∧
    (loadNvm s).ingest = s.ingest ∧ (loadNvm s).arbiter = s.arbiter ∧ (loadNvm s).cache = s.cache ∧
    (loadNvm s).seq = s.seq ∧ (loadNvm s).time = s.time ∧ (loadNvm s).frames = s.frames ∧
    (loadNvm s).sound = s.sound ∧ (loadNvm s).subs = s.subs ∧ (loadNvm s).log = s.log ∧
    (loadNvm s).lines = s.lines ∧ (loadNvm s).port = s.port ∧ (loadNvm s).notices = s.notices ∧
    (loadNvm s).freeUses = s.freeUses := by
  unfold loadNvm; (repeat' split) <;> simp

@[simp] theorem interruptFilling_frame (s : State) :
    (interruptFilling s).pending = s.pending ∧ (interruptFilling s).startUp = s.startUp ∧
    (interruptFilling s).store = s.store ∧ (interruptFilling s).nvm = s.nvm ∧ (interruptFilling s).free = s.free ∧
    (interruptFilling s).ingest = s.ingest ∧ (interruptFilling s).arbiter = s.arbiter ∧
    (interruptFilling s).cache = s.cache ∧ (interruptFilling s).keys = s.keys ∧ (interruptFilling s).seq = s.seq ∧
    (interruptFilling s).time = s.time ∧ (interruptFilling s).frames = s.frames ∧
    (interruptFilling s).link = s.link ∧ (interruptFilling s).sound = s.sound ∧ (interruptFilling s).subs = s.subs ∧
    (interruptFilling s).log = s.log ∧ (interruptFilling s).lines = s.lines ∧
    (interruptFilling s).notices = s.notices ∧ (interruptFilling s).freeUses = s.freeUses := by
  unfold interruptFilling; (repeat' split) <;> simp

@[simp] theorem unsettleCompositions_frame (s : State) :
    (unsettleCompositions s).pending = s.pending ∧ (unsettleCompositions s).startUp = s.startUp ∧
    (unsettleCompositions s).store = s.store ∧ (unsettleCompositions s).nvm = s.nvm ∧
    (unsettleCompositions s).free = s.free ∧ (unsettleCompositions s).arbiter = s.arbiter ∧
    (unsettleCompositions s).cache = s.cache ∧ (unsettleCompositions s).keys = s.keys ∧
    (unsettleCompositions s).seq = s.seq ∧ (unsettleCompositions s).time = s.time ∧
    (unsettleCompositions s).frames = s.frames ∧ (unsettleCompositions s).link = s.link ∧
    (unsettleCompositions s).sound = s.sound ∧ (unsettleCompositions s).subs = s.subs ∧
    (unsettleCompositions s).log = s.log ∧ (unsettleCompositions s).lines = s.lines ∧
    (unsettleCompositions s).port = s.port ∧ (unsettleCompositions s).notices = s.notices ∧
    (unsettleCompositions s).freeUses = s.freeUses := by
  unfold unsettleCompositions; (repeat' split) <;> simp

@[simp] theorem beginStartUp_frame (s : State) :
    (beginStartUp s).pending = s.pending ∧ (beginStartUp s).store = s.store ∧ (beginStartUp s).nvm = s.nvm ∧
    (beginStartUp s).queue = s.queue ∧ (beginStartUp s).ingest = s.ingest ∧ (beginStartUp s).cache = s.cache ∧
    (beginStartUp s).keys = s.keys ∧ (beginStartUp s).seq = s.seq ∧ (beginStartUp s).time = s.time ∧
    (beginStartUp s).frames = s.frames ∧ (beginStartUp s).link = s.link ∧ (beginStartUp s).sound = s.sound ∧
    (beginStartUp s).subs = s.subs ∧ (beginStartUp s).log = s.log ∧ (beginStartUp s).lines = s.lines ∧
    (beginStartUp s).port = s.port ∧ (beginStartUp s).freeUses = s.freeUses := by
  unfold beginStartUp; (repeat' split) <;> simp

@[simp] theorem fullReset_frame (reported clockRan : Nat) (landed : Bool) (s : State) :
    (fullReset reported clockRan landed s).pending = s.pending := by
  unfold fullReset; (repeat' split) <;> simp

@[simp] theorem resetAfterReply_frame (s : State) :
    (resetAfterReply s).pending = s.pending := by
  unfold resetAfterReply; (repeat' split) <;> simp

@[simp] theorem showResetSequencer_frame (s : State) :
    (showResetSequencer s).pending = s.pending ∧ (showResetSequencer s).startUp = s.startUp ∧
    (showResetSequencer s).store = s.store ∧ (showResetSequencer s).nvm = s.nvm ∧
    (showResetSequencer s).catalogue = s.catalogue ∧ (showResetSequencer s).free = s.free ∧
    (showResetSequencer s).link = s.link ∧ (showResetSequencer s).freeUses = s.freeUses := by
  unfold showResetSequencer; (repeat' split) <;> simp

@[simp] theorem blackenLink_frame (s : State) :
    (blackenLink s).pending = s.pending ∧ (blackenLink s).startUp = s.startUp ∧ (blackenLink s).store = s.store ∧
    (blackenLink s).nvm = s.nvm ∧ (blackenLink s).catalogue = s.catalogue ∧ (blackenLink s).queue = s.queue ∧
    (blackenLink s).free = s.free ∧ (blackenLink s).ingest = s.ingest ∧ (blackenLink s).arbiter = s.arbiter ∧
    (blackenLink s).cache = s.cache ∧ (blackenLink s).keys = s.keys ∧ (blackenLink s).seq = s.seq ∧
    (blackenLink s).time = s.time ∧ (blackenLink s).link = s.link ∧ (blackenLink s).sound = s.sound ∧
    (blackenLink s).subs = s.subs ∧ (blackenLink s).log = s.log ∧ (blackenLink s).lines = s.lines ∧
    (blackenLink s).port = s.port ∧ (blackenLink s).notices = s.notices ∧
    (blackenLink s).freeUses = s.freeUses := by
  unfold blackenLink; (repeat' split) <;> simp

@[simp] theorem dropReadRun_frame (s : State) :
    (dropReadRun s).pending = s.pending ∧ (dropReadRun s).startUp = s.startUp ∧ (dropReadRun s).store = s.store ∧
    (dropReadRun s).nvm = s.nvm ∧ (dropReadRun s).catalogue = s.catalogue ∧ (dropReadRun s).queue = s.queue ∧
    (dropReadRun s).free = s.free ∧ (dropReadRun s).ingest = s.ingest ∧ (dropReadRun s).arbiter = s.arbiter ∧
    (dropReadRun s).cache = s.cache ∧ (dropReadRun s).keys = s.keys ∧ (dropReadRun s).seq = s.seq ∧
    (dropReadRun s).time = s.time ∧ (dropReadRun s).frames = s.frames ∧ (dropReadRun s).link = s.link ∧
    (dropReadRun s).subs = s.subs ∧ (dropReadRun s).log = s.log ∧ (dropReadRun s).lines = s.lines ∧
    (dropReadRun s).port = s.port ∧ (dropReadRun s).notices = s.notices ∧
    (dropReadRun s).freeUses = s.freeUses := by
  unfold dropReadRun; (repeat' split) <;> simp

@[simp] theorem showReset_frame (s : State) :
    (showReset s).pending = s.pending ∧ (showReset s).startUp = s.startUp ∧ (showReset s).store = s.store ∧
    (showReset s).nvm = s.nvm ∧ (showReset s).catalogue = s.catalogue ∧ (showReset s).free = s.free ∧
    (showReset s).link = s.link ∧ (showReset s).freeUses = s.freeUses := by
  unfold showReset; (repeat' split) <;> simp

/-! ### Control -/

@[simp] theorem updatePort_frame (f : ControlPort → ControlPort) (s : State) :
    (updatePort f s).pending = s.pending ∧ (updatePort f s).startUp = s.startUp ∧ (updatePort f s).store = s.store ∧
    (updatePort f s).nvm = s.nvm ∧ (updatePort f s).catalogue = s.catalogue ∧ (updatePort f s).queue = s.queue ∧
    (updatePort f s).free = s.free ∧ (updatePort f s).ingest = s.ingest ∧ (updatePort f s).arbiter = s.arbiter ∧
    (updatePort f s).cache = s.cache ∧ (updatePort f s).keys = s.keys ∧ (updatePort f s).seq = s.seq ∧
    (updatePort f s).time = s.time ∧ (updatePort f s).frames = s.frames ∧ (updatePort f s).link = s.link ∧
    (updatePort f s).sound = s.sound ∧ (updatePort f s).subs = s.subs ∧ (updatePort f s).log = s.log ∧
    (updatePort f s).lines = s.lines ∧ (updatePort f s).notices = s.notices ∧
    (updatePort f s).freeUses = s.freeUses := by
  unfold updatePort; (repeat' split) <;> simp

@[simp] theorem discardFrame_frame (cause : Nat) (came again : List Byte) (s : State) :
    (discardFrame cause came again s).pending = s.pending ∧ (discardFrame cause came again s).startUp = s.startUp ∧
    (discardFrame cause came again s).store = s.store ∧ (discardFrame cause came again s).nvm = s.nvm ∧
    (discardFrame cause came again s).catalogue = s.catalogue ∧ (discardFrame cause came again s).queue = s.queue ∧
    (discardFrame cause came again s).free = s.free ∧ (discardFrame cause came again s).ingest = s.ingest ∧
    (discardFrame cause came again s).arbiter = s.arbiter ∧ (discardFrame cause came again s).cache = s.cache ∧
    (discardFrame cause came again s).keys = s.keys ∧ (discardFrame cause came again s).seq = s.seq ∧
    (discardFrame cause came again s).time = s.time ∧ (discardFrame cause came again s).frames = s.frames ∧
    (discardFrame cause came again s).link = s.link ∧ (discardFrame cause came again s).sound = s.sound ∧
    (discardFrame cause came again s).subs = s.subs ∧ (discardFrame cause came again s).log = s.log ∧
    (discardFrame cause came again s).lines = s.lines ∧ (discardFrame cause came again s).notices = s.notices ∧
    (discardFrame cause came again s).freeUses = s.freeUses := by
  unfold discardFrame; (repeat' split) <;> simp

@[simp] theorem completeOutgoing_frame (s : State) :
    (completeOutgoing s).pending = s.pending := by
  unfold completeOutgoing; dsimp only; (repeat' split) <;> simp

@[simp] theorem serveIdentify_frame (frame : Frame) (s : State) :
    (serveIdentify frame s).pending = s.pending ∧ (serveIdentify frame s).startUp = s.startUp ∧
    (serveIdentify frame s).store = s.store ∧ (serveIdentify frame s).nvm = s.nvm ∧
    (serveIdentify frame s).catalogue = s.catalogue ∧ (serveIdentify frame s).queue = s.queue ∧
    (serveIdentify frame s).free = s.free ∧ (serveIdentify frame s).ingest = s.ingest ∧
    (serveIdentify frame s).arbiter = s.arbiter ∧ (serveIdentify frame s).cache = s.cache ∧
    (serveIdentify frame s).keys = s.keys ∧ (serveIdentify frame s).seq = s.seq ∧
    (serveIdentify frame s).time = s.time ∧ (serveIdentify frame s).frames = s.frames ∧
    (serveIdentify frame s).link = s.link ∧ (serveIdentify frame s).sound = s.sound ∧
    (serveIdentify frame s).subs = s.subs ∧ (serveIdentify frame s).log = s.log ∧
    (serveIdentify frame s).lines = s.lines ∧ (serveIdentify frame s).notices = s.notices ∧
    (serveIdentify frame s).freeUses = s.freeUses := by
  unfold serveIdentify; (repeat' split) <;> simp

@[simp] theorem serveStatus_frame (frame : Frame) (s : State) :
    (serveStatus frame s).pending = s.pending ∧ (serveStatus frame s).startUp = s.startUp ∧
    (serveStatus frame s).store = s.store ∧ (serveStatus frame s).nvm = s.nvm ∧
    (serveStatus frame s).catalogue = s.catalogue ∧ (serveStatus frame s).queue = s.queue ∧
    (serveStatus frame s).free = s.free ∧ (serveStatus frame s).ingest = s.ingest ∧
    (serveStatus frame s).arbiter = s.arbiter ∧ (serveStatus frame s).cache = s.cache ∧
    (serveStatus frame s).keys = s.keys ∧ (serveStatus frame s).seq = s.seq ∧ (serveStatus frame s).time = s.time ∧
    (serveStatus frame s).frames = s.frames ∧ (serveStatus frame s).link = s.link ∧
    (serveStatus frame s).sound = s.sound ∧ (serveStatus frame s).subs = s.subs ∧
    (serveStatus frame s).log = s.log ∧ (serveStatus frame s).lines = s.lines ∧
    (serveStatus frame s).notices = s.notices ∧ (serveStatus frame s).freeUses = s.freeUses := by
  unfold serveStatus; (repeat' split) <;> simp

@[simp] theorem serveResetFull_frame (frame : Frame) (s : State) :
    (serveResetFull frame s).pending = s.pending ∧ (serveResetFull frame s).startUp = s.startUp ∧
    (serveResetFull frame s).store = s.store ∧ (serveResetFull frame s).nvm = s.nvm ∧
    (serveResetFull frame s).catalogue = s.catalogue ∧ (serveResetFull frame s).queue = s.queue ∧
    (serveResetFull frame s).free = s.free ∧ (serveResetFull frame s).ingest = s.ingest ∧
    (serveResetFull frame s).arbiter = s.arbiter ∧ (serveResetFull frame s).cache = s.cache ∧
    (serveResetFull frame s).keys = s.keys ∧ (serveResetFull frame s).seq = s.seq ∧
    (serveResetFull frame s).time = s.time ∧ (serveResetFull frame s).frames = s.frames ∧
    (serveResetFull frame s).link = s.link ∧ (serveResetFull frame s).sound = s.sound ∧
    (serveResetFull frame s).subs = s.subs ∧ (serveResetFull frame s).log = s.log ∧
    (serveResetFull frame s).lines = s.lines ∧ (serveResetFull frame s).notices = s.notices ∧
    (serveResetFull frame s).freeUses = s.freeUses := by
  unfold serveResetFull; (repeat' split) <;> simp

@[simp] theorem serveResetShow_frame (frame : Frame) (s : State) :
    (serveResetShow frame s).pending = s.pending ∧ (serveResetShow frame s).startUp = s.startUp ∧
    (serveResetShow frame s).store = s.store ∧ (serveResetShow frame s).nvm = s.nvm ∧
    (serveResetShow frame s).catalogue = s.catalogue ∧ (serveResetShow frame s).free = s.free ∧
    (serveResetShow frame s).link = s.link ∧ (serveResetShow frame s).freeUses = s.freeUses := by
  unfold serveResetShow; (repeat' split) <;> simp

@[simp] theorem updateNotices_frame (f : Notices → Notices) (s : State) :
    (updateNotices f s).pending = s.pending ∧ (updateNotices f s).startUp = s.startUp ∧
    (updateNotices f s).store = s.store ∧ (updateNotices f s).nvm = s.nvm ∧
    (updateNotices f s).catalogue = s.catalogue ∧ (updateNotices f s).queue = s.queue ∧
    (updateNotices f s).free = s.free ∧ (updateNotices f s).ingest = s.ingest ∧
    (updateNotices f s).arbiter = s.arbiter ∧ (updateNotices f s).cache = s.cache ∧
    (updateNotices f s).keys = s.keys ∧ (updateNotices f s).seq = s.seq ∧ (updateNotices f s).time = s.time ∧
    (updateNotices f s).frames = s.frames ∧ (updateNotices f s).link = s.link ∧
    (updateNotices f s).sound = s.sound ∧ (updateNotices f s).subs = s.subs ∧ (updateNotices f s).log = s.log ∧
    (updateNotices f s).lines = s.lines ∧ (updateNotices f s).port = s.port ∧
    (updateNotices f s).freeUses = s.freeUses := by
  unfold updateNotices; (repeat' split) <;> simp

@[simp] theorem serveNoticeSetup_frame (frame : Frame) (enables : BitVec 52) (levels : List Nat) (mask : Nat) (s : State) :
    (serveNoticeSetup frame enables levels mask s).pending = s.pending ∧
    (serveNoticeSetup frame enables levels mask s).startUp = s.startUp ∧
    (serveNoticeSetup frame enables levels mask s).store = s.store ∧
    (serveNoticeSetup frame enables levels mask s).nvm = s.nvm ∧
    (serveNoticeSetup frame enables levels mask s).catalogue = s.catalogue ∧
    (serveNoticeSetup frame enables levels mask s).queue = s.queue ∧
    (serveNoticeSetup frame enables levels mask s).free = s.free ∧
    (serveNoticeSetup frame enables levels mask s).ingest = s.ingest ∧
    (serveNoticeSetup frame enables levels mask s).arbiter = s.arbiter ∧
    (serveNoticeSetup frame enables levels mask s).cache = s.cache ∧
    (serveNoticeSetup frame enables levels mask s).keys = s.keys ∧
    (serveNoticeSetup frame enables levels mask s).seq = s.seq ∧
    (serveNoticeSetup frame enables levels mask s).time = s.time ∧
    (serveNoticeSetup frame enables levels mask s).frames = s.frames ∧
    (serveNoticeSetup frame enables levels mask s).link = s.link ∧
    (serveNoticeSetup frame enables levels mask s).sound = s.sound ∧
    (serveNoticeSetup frame enables levels mask s).subs = s.subs ∧
    (serveNoticeSetup frame enables levels mask s).log = s.log ∧
    (serveNoticeSetup frame enables levels mask s).lines = s.lines ∧
    (serveNoticeSetup frame enables levels mask s).freeUses = s.freeUses := by
  unfold serveNoticeSetup; (repeat' split) <;> simp

@[simp] theorem serveNoticeClear_frame (frame : Frame) (causes : BitVec 52) (s : State) :
    (serveNoticeClear frame causes s).pending = s.pending ∧ (serveNoticeClear frame causes s).startUp = s.startUp ∧
    (serveNoticeClear frame causes s).store = s.store ∧ (serveNoticeClear frame causes s).nvm = s.nvm ∧
    (serveNoticeClear frame causes s).catalogue = s.catalogue ∧ (serveNoticeClear frame causes s).queue = s.queue ∧
    (serveNoticeClear frame causes s).free = s.free ∧ (serveNoticeClear frame causes s).ingest = s.ingest ∧
    (serveNoticeClear frame causes s).arbiter = s.arbiter ∧ (serveNoticeClear frame causes s).cache = s.cache ∧
    (serveNoticeClear frame causes s).keys = s.keys ∧ (serveNoticeClear frame causes s).seq = s.seq ∧
    (serveNoticeClear frame causes s).time = s.time ∧ (serveNoticeClear frame causes s).frames = s.frames ∧
    (serveNoticeClear frame causes s).link = s.link ∧ (serveNoticeClear frame causes s).sound = s.sound ∧
    (serveNoticeClear frame causes s).subs = s.subs ∧ (serveNoticeClear frame causes s).log = s.log ∧
    (serveNoticeClear frame causes s).lines = s.lines ∧
    (serveNoticeClear frame causes s).freeUses = s.freeUses := by
  unfold serveNoticeClear; (repeat' split) <;> simp

@[simp] theorem serveNoticeRead_frame (frame : Frame) (s : State) :
    (serveNoticeRead frame s).pending = s.pending ∧ (serveNoticeRead frame s).startUp = s.startUp ∧
    (serveNoticeRead frame s).store = s.store ∧ (serveNoticeRead frame s).nvm = s.nvm ∧
    (serveNoticeRead frame s).catalogue = s.catalogue ∧ (serveNoticeRead frame s).queue = s.queue ∧
    (serveNoticeRead frame s).free = s.free ∧ (serveNoticeRead frame s).ingest = s.ingest ∧
    (serveNoticeRead frame s).arbiter = s.arbiter ∧ (serveNoticeRead frame s).cache = s.cache ∧
    (serveNoticeRead frame s).keys = s.keys ∧ (serveNoticeRead frame s).seq = s.seq ∧
    (serveNoticeRead frame s).time = s.time ∧ (serveNoticeRead frame s).frames = s.frames ∧
    (serveNoticeRead frame s).link = s.link ∧ (serveNoticeRead frame s).sound = s.sound ∧
    (serveNoticeRead frame s).subs = s.subs ∧ (serveNoticeRead frame s).log = s.log ∧
    (serveNoticeRead frame s).lines = s.lines ∧ (serveNoticeRead frame s).notices = s.notices ∧
    (serveNoticeRead frame s).freeUses = s.freeUses := by
  unfold serveNoticeRead; (repeat' split) <;> simp

/-! ### Requests -/

@[simp] theorem serve_frame (turn : Bool) (c : Instr) (s : State) :
    (serve turn c s).pending = s.pending ∧ (serve turn c s).store = s.store ∧ (serve turn c s).nvm = s.nvm ∧
    (serve turn c s).freeUses = s.freeUses := by
  cases c <;> simp [serve]

@[simp] theorem takeSlot_frame (tag : Byte) (s : State) :
    (takeSlot tag s).pending = s.pending ∧ (takeSlot tag s).startUp = s.startUp ∧ (takeSlot tag s).store = s.store ∧
    (takeSlot tag s).nvm = s.nvm ∧ (takeSlot tag s).catalogue = s.catalogue ∧ (takeSlot tag s).queue = s.queue ∧
    (takeSlot tag s).free = s.free ∧ (takeSlot tag s).ingest = s.ingest ∧ (takeSlot tag s).arbiter = s.arbiter ∧
    (takeSlot tag s).cache = s.cache ∧ (takeSlot tag s).keys = s.keys ∧ (takeSlot tag s).seq = s.seq ∧
    (takeSlot tag s).time = s.time ∧ (takeSlot tag s).frames = s.frames ∧ (takeSlot tag s).link = s.link ∧
    (takeSlot tag s).sound = s.sound ∧ (takeSlot tag s).subs = s.subs ∧ (takeSlot tag s).log = s.log ∧
    (takeSlot tag s).lines = s.lines ∧ (takeSlot tag s).notices = s.notices ∧
    (takeSlot tag s).freeUses = s.freeUses := by
  unfold takeSlot; (repeat' split) <;> simp

@[simp] theorem serveDeferred_frame (n : Nat) (s : State) :
    (serveDeferred n s).pending = s.pending ∧ (serveDeferred n s).store = s.store ∧
    (serveDeferred n s).nvm = s.nvm ∧ (serveDeferred n s).freeUses = s.freeUses := by
  induction n generalizing s with
  | zero => simp [serveDeferred]
  | succ n ih => unfold serveDeferred; (repeat' split) <;> simp_all

@[simp] theorem completeLogWrite_frame (w : Write) (s : State) :
    (completeLogWrite w s).pending = s.pending ∧ (completeLogWrite w s).startUp = s.startUp ∧
    (completeLogWrite w s).store = s.store ∧ (completeLogWrite w s).nvm = s.nvm ∧
    (completeLogWrite w s).catalogue = s.catalogue ∧ (completeLogWrite w s).queue = s.queue ∧
    (completeLogWrite w s).free = s.free ∧ (completeLogWrite w s).ingest = s.ingest ∧
    (completeLogWrite w s).arbiter = s.arbiter ∧ (completeLogWrite w s).cache = s.cache ∧
    (completeLogWrite w s).keys = s.keys ∧ (completeLogWrite w s).seq = s.seq ∧
    (completeLogWrite w s).time = s.time ∧ (completeLogWrite w s).frames = s.frames ∧
    (completeLogWrite w s).link = s.link ∧ (completeLogWrite w s).sound = s.sound ∧
    (completeLogWrite w s).subs = s.subs ∧ (completeLogWrite w s).lines = s.lines ∧
    (completeLogWrite w s).port = s.port ∧ (completeLogWrite w s).notices = s.notices ∧
    (completeLogWrite w s).freeUses = s.freeUses := by
  unfold completeLogWrite; (repeat' split) <;> simp

@[simp] theorem completeWrite_frame (ok : Bool) (s : State) :
    (completeWrite ok s).pending = s.pending ∧ (completeWrite ok s).startUp = s.startUp ∧
    (completeWrite ok s).store = s.store ∧ (completeWrite ok s).catalogue = s.catalogue ∧
    (completeWrite ok s).free = s.free ∧ (completeWrite ok s).ingest = s.ingest ∧
    (completeWrite ok s).arbiter = s.arbiter ∧ (completeWrite ok s).cache = s.cache ∧
    (completeWrite ok s).keys = s.keys ∧ (completeWrite ok s).seq = s.seq ∧ (completeWrite ok s).time = s.time ∧
    (completeWrite ok s).frames = s.frames ∧ (completeWrite ok s).link = s.link ∧
    (completeWrite ok s).sound = s.sound ∧ (completeWrite ok s).subs = s.subs ∧
    (completeWrite ok s).lines = s.lines ∧ (completeWrite ok s).port = s.port ∧
    (completeWrite ok s).freeUses = s.freeUses := by
  unfold completeWrite; (repeat' split) <;> simp

@[simp] theorem serveWaiter_frame (w : Waiter) (s : State) :
    (serveWaiter w s).pending = s.pending ∧ (serveWaiter w s).store = s.store ∧ (serveWaiter w s).nvm = s.nvm ∧
    (serveWaiter w s).freeUses = s.freeUses := by
  unfold serveWaiter; (repeat' split) <;> simp

@[simp] theorem queueWaiting_frame (s : State) :
    (queueWaiting s).pending = s.pending ∧ (queueWaiting s).store = s.store ∧ (queueWaiting s).nvm = s.nvm ∧
    (queueWaiting s).freeUses = s.freeUses := by
  unfold queueWaiting; (repeat' split) <;> simp

/-! ### Clock -/

@[simp] theorem elapse_frame (s : State) :
    (elapse s).pending = s.pending ∧ (elapse s).startUp = s.startUp ∧ (elapse s).store = s.store ∧
    (elapse s).nvm = s.nvm ∧ (elapse s).catalogue = s.catalogue ∧ (elapse s).queue = s.queue ∧
    (elapse s).free = s.free ∧ (elapse s).arbiter = s.arbiter ∧ (elapse s).cache = s.cache ∧
    (elapse s).keys = s.keys ∧ (elapse s).frames = s.frames ∧ (elapse s).sound = s.sound ∧
    (elapse s).subs = s.subs ∧ (elapse s).log = s.log ∧ (elapse s).port.slots = s.port.slots ∧ (elapse s).notices = s.notices ∧
    (elapse s).freeUses = s.freeUses := by
  unfold elapse; (repeat' split) <;> simp

/-! ### Step -/

@[simp] theorem State.withFetchWord_frame (s : State) (nbits w : Nat) :
    (State.withFetchWord s nbits w).startUp = s.startUp ∧ (State.withFetchWord s nbits w).store = s.store ∧
    (State.withFetchWord s nbits w).nvm = s.nvm ∧ (State.withFetchWord s nbits w).catalogue = s.catalogue ∧
    (State.withFetchWord s nbits w).queue = s.queue ∧ (State.withFetchWord s nbits w).free = s.free ∧
    (State.withFetchWord s nbits w).ingest = s.ingest ∧ (State.withFetchWord s nbits w).arbiter = s.arbiter ∧
    (State.withFetchWord s nbits w).cache = s.cache ∧ (State.withFetchWord s nbits w).keys = s.keys ∧
    (State.withFetchWord s nbits w).seq = s.seq ∧ (State.withFetchWord s nbits w).time = s.time ∧
    (State.withFetchWord s nbits w).frames = s.frames ∧ (State.withFetchWord s nbits w).link = s.link ∧
    (State.withFetchWord s nbits w).sound = s.sound ∧ (State.withFetchWord s nbits w).subs = s.subs ∧
    (State.withFetchWord s nbits w).log = s.log ∧ (State.withFetchWord s nbits w).lines = s.lines ∧
    (State.withFetchWord s nbits w).port = s.port ∧ (State.withFetchWord s nbits w).notices = s.notices ∧
    (State.withFetchWord s nbits w).freeUses = s.freeUses := by
  unfold State.withFetchWord; (repeat' split) <;> simp

end Machine
end Sys2Proof
end

