-- ==== Sys2Proof/Laws/Lists.lean ====
section
/-!
SUPPORT. What the list operations of the units say of one element: `updateAt`, `replaceAt`, `mapCauses`, `total`, and the
causes of the notice unit after an occurrence.
-/
namespace Sys2Proof

variable {α : Type}

@[simp] theorem length_updateAt (f : α → α) (l : List α) (n : Nat) : (updateAt f l n).length = l.length := by
  induction l generalizing n with
  | nil => rfl
  | cons x l ih => cases n <;> simp [updateAt, ih]

@[simp] theorem length_replaceAt (l : List α) (n : Nat) (x : α) : (replaceAt l n x).length = l.length :=
  length_updateAt _ _ _

theorem getElem?_updateAt (f : α → α) (l : List α) (n k : Nat) :
    (updateAt f l n)[k]? = if k = n then l[k]?.map f else l[k]? := by
  induction l generalizing n k with
  | nil => simp [updateAt]
  | cons x l ih => cases n <;> cases k <;> simp [updateAt, ih]

@[simp] theorem getElem?_updateAt_same (f : α → α) (l : List α) (n : Nat) :
    (updateAt f l n)[n]? = l[n]?.map f := by simp [getElem?_updateAt]

theorem getElem?_updateAt_other (f : α → α) (l : List α) {n k : Nat} (h : k ≠ n) : (updateAt f l n)[k]? = l[k]? := by
  simp [getElem?_updateAt, h]

theorem getElem?_replaceAt_same {l : List α} {n : Nat} {y : α} (x : α) (h : l[n]? = some y) :
    (replaceAt l n x)[n]? = some x := by simp [replaceAt, h]

theorem getElem?_replaceAt_other (l : List α) {n k : Nat} (x : α) (h : k ≠ n) : (replaceAt l n x)[k]? = l[k]? :=
  getElem?_updateAt_other _ _ h

theorem mem_updateAt {f : α → α} {l : List α} {n : Nat} {y : α} (h : y ∈ updateAt f l n) :
    y ∈ l ∨ ∃ x ∈ l, y = f x := by
  induction l generalizing n with
  | nil => simp [updateAt] at h
  | cons a l ih =>
    cases n with
    | zero =>
      rcases List.mem_cons.1 h with rfl | h
      · exact .inr ⟨a, by simp, rfl⟩
      · exact .inl (by simp [h])
    | succ n =>
      rcases List.mem_cons.1 h with rfl | h
      · exact .inl (by simp)
      · rcases ih h with h | ⟨x, hx, h⟩
        · exact .inl (by simp [h])
        · exact .inr ⟨x, by simp [hx], h⟩

theorem foldl_add (l : List Nat) (k : Nat) : l.foldl (· + ·) k = k + l.sum := by
  induction l generalizing k with
  | nil => simp
  | cons a l ih => simp [ih]; omega

theorem total_eq_sum (l : List Nat) : total l = l.sum := by simp [total, foldl_add]

@[simp] theorem total_nil : total [] = 0 := rfl

@[simp] theorem total_cons (x : Nat) (l : List Nat) : total (x :: l) = x + total l := by simp [total_eq_sum]

namespace Machine

/-- One cause after every cause has been changed. -/
theorem getElem?_mapCauses (g : Nat → Cause → Cause) {l : List Cause} {k : Nat} {c : Cause} (h : l[k]? = some c) :
    (mapCauses g l)[k]? = some (g k c) := by
  obtain ⟨hk, rfl⟩ := List.getElem?_eq_some_iff.1 h
  simp [mapCauses, hk]

/-- The cause raised, after an occurrence (R194). -/
theorem raise_causes_same {c : NoticeCause} {detail : List Byte} {s : State} {x : Cause}
    (h : s.notices.causes[c.number]? = some x) :
    (raise c detail s).notices.causes[c.number]? =
      some { x with pending := true, count := bump 255 x.count, latest := some (noticeRecord s detail) } := by
  simp [raise, h, Cause.occur]

/-- The other causes, after an occurrence (R194). -/
theorem raise_causes_other (c : NoticeCause) (detail : List Byte) (s : State) {k : Nat} (h : k ≠ c.number) :
    (raise c detail s).notices.causes[k]? = s.notices.causes[k]? := by
  simp [raise, getElem?_updateAt, h]

end Machine
end Sys2Proof
end

