-- ==== Sys2Proof/Laws/Requests.lean ====
section
/-!
SUPPORT. What taking a request and answering it come to: the lemmas that statements about requests cite in place of the
definitions of Machine/Ops.lean.
-/
namespace Sys2Proof
namespace Machine

/-- Answering marks no slot with another tag. -/
theorem map_answer_of_fresh (tag : Byte) (l : List RequestSlot) (h : ∀ r ∈ l, r.tag ≠ tag) :
    l.map (RequestSlot.answer tag) = l := by
  induction l with
  | nil => rfl
  | cons r rest ih =>
    simp only [List.mem_cons, forall_eq_or_imp] at h
    simp [RequestSlot.answer, h.1, ih h.2]

/-- A request that is accepted reaches its owner. -/
theorem request_of_accepts {kind : Nat} {f : Frame} {c : Instr} {serve : State → State} {s : State}
    (h : s.accepts kind f) : request kind f c serve s = finish (serve (s.received kind f)) := by
  obtain ⟨h1, h2, h3, h4, h5, h6⟩ := h
  have hany : s.port.slots.any (fun r => decide (r.tag = f.tag)) = false := by
    simp only [List.any_eq_false, decide_eq_true_eq]
    exact h3
  have hst : (s.startUp && storeUsing kind) = false := by
    cases hs : s.startUp
    · rfl
    · simp [h5 hs]
  unfold ownerBusy at h6
  simp [request, takeFrame, State.received, holdSlot, ownerBusy, h1, hany, h4, hst, h6, Nat.not_le.2 h2]

/-- The outgoing direction's choice when a reply has just become ready. -/
theorem settle_sendReply (r : Reply) (s : State) :
    settle (sendReply r s) =
      { s with port := ControlPort.offer r { s.port with
          slots := if r.immediate then s.port.slots else s.port.slots.map (RequestSlot.answer r.tag) } } := by
  unfold settle sendReply ControlPort.offer
  rcases hs : s.port.sending with _ | x
  · rcases hr : s.port.replies with _ | ⟨r0, rest⟩ <;> simp
  · simp [hs]

/-- A request that its owner answers at once leaves the port with its reply. -/
theorem finish_answer {kind : Nat} {f : Frame} {s u : State} (h : s.accepts kind f) (hp : u.port = (s.received kind f).port)
    (status : Status) (reason : Option Reason) (body : List Byte) :
    finish (sendReply (replyOf kind f.tag status reason body) u) =
      .next { u with port := s.port.answers kind f status reason body } := by
  obtain ⟨-, -, h3, -, -, -⟩ := h
  have hm : (s.port.slots ++ [({ tag := f.tag, kind := kind, phase := .waiting } : RequestSlot)]).map (RequestSlot.answer f.tag) =
      s.port.slots ++ [({ tag := f.tag, kind := kind, phase := .answered } : RequestSlot)] := by
    rw [List.map_append, map_answer_of_fresh _ _ h3]
    simp [RequestSlot.answer]
  simp only [finish, settle_sendReply, hp, State.received, replyOf, Bool.false_eq_true, if_false, hm, ControlPort.answers]

/-- The state a reply leaves when the owner has changed `v` and answered at once. -/
theorem finish_reply {kind : Nat} {f : Frame} {s v : State} (h : s.accepts kind f) (hv : v.port = s.port)
    (status : Status) (reason : Option Reason) (body : List Byte) :
    finish (sendReply (replyOf kind f.tag status reason body) { v with port := (s.received kind f).port }) =
      .next (v.answering kind f status reason body) := by
  have := finish_answer (u := { v with port := (s.received kind f).port }) h rfl status reason body
  rw [this, State.answering, hv]

/-- Answered OK at once. -/
theorem request_ok {kind : Nat} {f : Frame} {c : Instr} {serve : State → State} {s v : State} {body : List Byte}
    (h : s.accepts kind f)
    (hs : serve (s.received kind f) = answerOk kind f body { v with port := (s.received kind f).port })
    (hv : v.port = s.port) : request kind f c serve s = .next (v.ok kind f body) := by
  rw [request_of_accepts h, hs, answerOk, finish_reply h hv, State.ok]

/-- Refused at once. -/
theorem request_no {kind : Nat} {f : Frame} {c : Instr} {serve : State → State} {s v : State} {reason : Reason}
    (h : s.accepts kind f)
    (hs : serve (s.received kind f) = refuse kind f reason { v with port := (s.received kind f).port })
    (hv : v.port = s.port) : request kind f c serve s = .next (v.no kind f reason) := by
  rw [request_of_accepts h, hs, refuse, finish_reply h hv, State.no]

/-- Answered CLAMPED at once. -/
theorem request_clamped {kind : Nat} {f : Frame} {c : Instr} {serve : State → State} {s v : State} {body : List Byte}
    (h : s.accepts kind f)
    (hs : serve (s.received kind f) = answerClamped kind f body { v with port := (s.received kind f).port })
    (hv : v.port = s.port) : request kind f c serve s = .next (v.answering kind f .clamped none body) := by
  rw [request_of_accepts h, hs, answerClamped, finish_reply h hv]

/-- Turned away by its owner at once. -/
theorem request_away {kind : Nat} {f : Frame} {c : Instr} {serve : State → State} {s v : State} {status : Status}
    (h : s.accepts kind f)
    (hs : serve (s.received kind f) = turnAway kind f status { v with port := (s.received kind f).port })
    (hv : v.port = s.port) : request kind f c serve s = .next (v.answering kind f status none []) := by
  rw [request_of_accepts h, hs, turnAway, finish_reply h hv]

/-- The units other than the control port, and what is said of a request's state before its owner has changed it. -/
@[simp] theorem received_frame (kind : Nat) (f : Frame) (s : State) :
    (s.received kind f).pending = s.pending ∧ (s.received kind f).startUp = s.startUp ∧
    (s.received kind f).store = s.store ∧ (s.received kind f).nvm = s.nvm ∧
    (s.received kind f).catalogue = s.catalogue ∧ (s.received kind f).queue = s.queue ∧
    (s.received kind f).free = s.free ∧ (s.received kind f).ingest = s.ingest ∧
    (s.received kind f).arbiter = s.arbiter ∧ (s.received kind f).cache = s.cache ∧
    (s.received kind f).keys = s.keys ∧ (s.received kind f).seq = s.seq ∧ (s.received kind f).time = s.time ∧
    (s.received kind f).frames = s.frames ∧ (s.received kind f).link = s.link ∧ (s.received kind f).sound = s.sound ∧
    (s.received kind f).subs = s.subs ∧ (s.received kind f).log = s.log ∧ (s.received kind f).lines = s.lines ∧
    (s.received kind f).notices = s.notices ∧ (s.received kind f).freeUses = s.freeUses := by
  simp [State.received]

/-- What is said of the sequencer, the lines, the queue and the catalogue does not depend on the control port. -/
@[simp] theorem received_views (kind : Nat) (f : Frame) (s : State) :
    (s.received kind f).showing = s.showing ∧ (s.received kind f).preparedPlay = s.preparedPlay ∧
    (s.received kind f).interlocked = s.interlocked ∧ (s.received kind f).hasRoom = s.hasRoom := by
  simp [State.showing, State.preparedPlay, State.interlocked, State.hasRoom]

end Machine
end Sys2Proof
end

