-- ==== Sys2Proof/Laws/Store.lean ====
section
/-!
SUPPORT. Tables with rising keys, and the store's blocks: reading after writing, and that every write keeps the one form
in which the store is held.
-/
namespace Sys2Proof

variable {α : Type}

/-! ### Tables -/

@[simp] theorem Table.find_nil (k : Nat) : Table.find ([] : Table α) k = none := rfl

@[simp] theorem Table.find_put_same (t : Table α) (k : Nat) (x : α) : (t.put k x).find k = some x := by
  induction t with
  | nil => simp [Table.put, Table.find]
  | cons p rest ih =>
    obtain ⟨j, y⟩ := p
    simp only [Table.put]
    split
    · simp [Table.find]
    · split <;> rename_i h
      · simp [Table.find]
      · simp [Table.find, h, ih]

theorem Table.find_put_other (t : Table α) {k n : Nat} (x : α) (h : n ≠ k) : (t.put k x).find n = t.find n := by
  induction t with
  | nil => simp [Table.put, Table.find, Ne.symm h]
  | cons p rest ih =>
    obtain ⟨j, y⟩ := p
    simp only [Table.put]
    split
    · simp [Table.find, Ne.symm h]
    · split <;> rename_i hj
      · simp [Table.find, hj, Ne.symm h]
      · simp [Table.find, ih]

@[simp] theorem Table.find_erase_same (t : Table α) (k : Nat) : (t.erase k).find k = none := by
  induction t with
  | nil => rfl
  | cons p rest ih =>
    obtain ⟨j, y⟩ := p
    simp only [Table.erase]
    split <;> rename_i h
    · exact ih
    · simp [Table.find, h, ih]

theorem Table.find_erase_other (t : Table α) {k n : Nat} (h : n ≠ k) : (t.erase k).find n = t.find n := by
  induction t with
  | nil => rfl
  | cons p rest ih =>
    obtain ⟨j, y⟩ := p
    simp only [Table.erase]
    split <;> rename_i hj
    · simp [Table.find, hj, Ne.symm h, ih]
    · simp [Table.find, ih]

/-- The entries of a table after a put are the new one and entries of before. -/
theorem Table.mem_put {t : Table α} {k : Nat} {x : α} {p : Nat × α} (h : p ∈ t.put k x) : p = (k, x) ∨ p ∈ t := by
  induction t with
  | nil => simpa [Table.put] using h
  | cons q rest ih =>
    obtain ⟨j, y⟩ := q
    simp only [Table.put] at h
    split at h
    · simpa using h
    · split at h
      · rcases List.mem_cons.1 h with h | h
        · exact .inl h
        · exact .inr (List.mem_cons_of_mem _ h)
      · rcases List.mem_cons.1 h with h | h
        · exact .inr (h ▸ List.mem_cons_self)
        · exact (ih h).imp_right (List.mem_cons_of_mem _)

/-- The entries of a table after an erase are entries of before. -/
theorem Table.mem_erase {t : Table α} {k : Nat} {p : Nat × α} (h : p ∈ t.erase k) : p ∈ t := by
  induction t with
  | nil => exact h
  | cons q rest ih =>
    obtain ⟨j, y⟩ := q
    simp only [Table.erase] at h
    split at h
    · exact List.mem_cons_of_mem _ (ih h)
    · rcases List.mem_cons.1 h with h | h
      · exact h ▸ List.mem_cons_self
      · exact List.mem_cons_of_mem _ (ih h)

theorem Table.rising_cons (j : Nat) (y : α) (t : Table α) :
    Table.rising ((j, y) :: t) = true ↔ (∀ p ∈ t, j < p.1) ∧ t.rising = true := by
  induction t generalizing j y with
  | nil => simp [Table.rising]
  | cons q rest ih =>
    obtain ⟨k, z⟩ := q
    simp only [Table.rising, Bool.and_eq_true, decide_eq_true_eq, List.mem_cons, forall_eq_or_imp]
    constructor
    · rintro ⟨h, hr⟩
      exact ⟨⟨h, fun p hp => Nat.lt_trans h (((ih k z).1 hr).1 p hp)⟩, hr⟩
    · rintro ⟨⟨h, -⟩, hr⟩
      exact ⟨h, hr⟩

theorem Table.rising_put {t : Table α} (k : Nat) (x : α) (h : t.rising = true) : (t.put k x).rising = true := by
  induction t with
  | nil => rfl
  | cons q rest ih =>
    obtain ⟨j, y⟩ := q
    have ⟨hj, hr⟩ := (Table.rising_cons j y rest).1 h
    simp only [Table.put]
    split <;> rename_i hk
    · refine (Table.rising_cons _ _ _).2 ⟨?_, h⟩
      intro p hp
      rcases List.mem_cons.1 hp with rfl | hp
      · exact hk
      · exact Nat.lt_trans hk (hj p hp)
    · split <;> rename_i he
      · subst he
        exact (Table.rising_cons _ _ _).2 ⟨hj, hr⟩
      · refine (Table.rising_cons _ _ _).2 ⟨?_, ih hr⟩
        intro p hp
        rcases Table.mem_put hp with rfl | hp
        · show j < k
          omega
        · exact hj p hp

theorem Table.rising_erase {t : Table α} (k : Nat) (h : t.rising = true) : (t.erase k).rising = true := by
  induction t with
  | nil => rfl
  | cons q rest ih =>
    obtain ⟨j, y⟩ := q
    have ⟨hj, hr⟩ := (Table.rising_cons j y rest).1 h
    simp only [Table.erase]
    split
    · exact ih hr
    · exact (Table.rising_cons _ _ _).2 ⟨fun p hp => hj p (Table.mem_erase hp), ih hr⟩

namespace Machine

/-! ### Data blocks without trailing zeros -/

/-- Trimming changes no byte of a block. -/
theorem getD_trimZeros (l : List Byte) (i : Nat) : (trimZeros l).getD i 0#8 = l.getD i 0#8 := by
  induction l generalizing i with
  | nil => rfl
  | cons b bs ih =>
    rcases hb : trimZeros bs with _ | ⟨c, cs⟩
    · have hz : ∀ n, bs.getD n 0#8 = 0#8 := fun n => by rw [← ih n, hb]; simp
      simp only [trimZeros, hb]
      split <;> rename_i h
      · cases i with
        | zero => simp [h]
        | succ n => simpa using (hz n).symm
      · cases i with
        | zero => rfl
        | succ n => simpa using (hz n).symm
    · simp only [trimZeros, hb]
      cases i with
      | zero => rfl
      | succ n =>
        have := ih n
        rw [hb] at this
        simpa using this

/-- Trimmed bytes that are not empty end in a byte that is not zero. -/
theorem canonical_trimZeros {l : List Byte} (h : trimZeros l ≠ []) : (StoreBlock.data (trimZeros l)).canonical = true := by
  induction l with
  | nil => exact absurd rfl h
  | cons b bs ih =>
    rcases hb : trimZeros bs with _ | ⟨c, cs⟩
    · simp only [trimZeros, hb] at h ⊢
      split at h
      · exact absurd rfl h
      · rename_i hz
        simp [StoreBlock.canonical, hz]
    · have := ih (by simp [hb])
      simp only [trimZeros, hb, StoreBlock.canonical] at this ⊢
      simpa [List.getLast?_cons_cons] using this

/-! ### The store -/

/-- A block written is read back: its bytes, those beyond the contents reading as zero. -/
theorem Store.byte_write_same (st : Store) (block : Nat) (b : List Byte) (i : Nat) :
    (st.write block (.data b)).byte block i = b.getD i 0#8 := by
  rw [← getD_trimZeros b i]
  rcases hb : trimZeros b with _ | ⟨c, cs⟩ <;>
    simp [Store.write, hb, Store.byte, Store.bytes, Store.read]

/-- A map block written is read back. -/
theorem Store.read_write_map (st : Store) (block : Nat) (m : MapBlock) :
    (st.write block (.map m)).read block = .map m := by
  simp [Store.write, Store.read]

/-- A write leaves every other block alone. -/
theorem Store.read_write_other (st : Store) {block n : Nat} (contents : StoreBlock) (h : n ≠ block) :
    (st.write block contents).read n = st.read n := by
  cases contents with
  | map m => simp [Store.write, Store.read, Table.find_put_other _ _ h]
  | data b =>
    rcases hb : trimZeros b with _ | ⟨c, cs⟩
    · simp [Store.write, hb, Store.read, Table.find_erase_other _ h]
    · simp [Store.write, hb, Store.read, Table.find_put_other _ _ h]

@[simp] theorem Store.write_size (st : Store) (block : Nat) (contents : StoreBlock) :
    (st.write block contents).size = st.size := by
  cases contents with
  | map m => rfl
  | data b => simp only [Store.write]; split <;> rfl

@[simp] theorem Store.write_reported (st : Store) (block : Nat) (contents : StoreBlock) :
    (st.write block contents).reported = st.reported := by
  cases contents with
  | map m => rfl
  | data b => simp only [Store.write]; split <;> rfl

/-- A put of a canonical block keeps the store's form. -/
theorem Store.wf_put {st : Store} (block : Nat) {c : StoreBlock} (hc : c.canonical = true) (h : st.wf = true) :
    Store.wf { st with blocks := st.blocks.put block c } = true := by
  simp only [Store.wf, Bool.and_eq_true, List.all_eq_true] at h ⊢
  refine ⟨Table.rising_put _ _ h.1, fun p hp => ?_⟩
  rcases Table.mem_put hp with rfl | hp
  · exact hc
  · exact h.2 p hp

/-- Every write keeps the store's form. -/
theorem Store.wf_write {st : Store} (block : Nat) (contents : StoreBlock) (h : st.wf = true) :
    (st.write block contents).wf = true := by
  cases contents with
  | map m => exact Store.wf_put block rfl h
  | data b =>
    rcases hb : trimZeros b with _ | ⟨c, cs⟩
    · simp only [Store.write, hb]
      simp only [Store.wf, Bool.and_eq_true, List.all_eq_true] at h ⊢
      exact ⟨Table.rising_erase _ h.1, fun p hp => h.2 p (Table.mem_erase hp)⟩
    · simp only [Store.write, hb]
      exact Store.wf_put block (hb ▸ canonical_trimZeros (by simp [hb])) h

/-- A run of writes keeps the store's form. -/
theorem Store.wf_writeRun (l : List (List Byte)) (first : Nat) {st : Store} (h : st.wf = true) :
    (st.writeRun first l).wf = true := by
  induction l generalizing first st with
  | nil => exact h
  | cons b rest ih => exact ih _ (Store.wf_write _ _ h)

/-- A run of writes leaves the blocks outside it alone. -/
theorem Store.read_writeRun_other (l : List (List Byte)) (first : Nat) (st : Store) {n : Nat}
    (h : n < first ∨ first + l.length ≤ n) : (st.writeRun first l).read n = st.read n := by
  induction l generalizing first st with
  | nil => rfl
  | cons b rest ih =>
    simp only [List.length_cons] at h
    rw [Store.writeRun, ih _ _ (by omega), Store.read_write_other _ _ (by omega)]

/-- Block `i` of a run reads back as its contents. -/
theorem Store.byte_writeRun (l : List (List Byte)) (first : Nat) (st : Store) {i : Nat} (h : i < l.length) (j : Nat) :
    (st.writeRun first l).byte (first + i) j = (l.getD i []).getD j 0#8 := by
  induction l generalizing first st i with
  | nil => simp at h
  | cons b rest ih =>
    cases i with
    | zero =>
      have : ((st.write first (.data b)).writeRun (first + 1) rest).read first = (st.write first (.data b)).read first :=
        Store.read_writeRun_other _ _ _ (by omega)
      have hb := Store.byte_write_same st first b j
      simp only [Store.byte, Store.bytes] at hb ⊢
      simp only [Store.writeRun, Nat.add_zero, this, hb, List.getD_cons_zero]
    | succ n =>
      have := ih (first + 1) (st.write first (.data b)) (i := n) (by simpa using h)
      have he : first + 1 + n = first + (n + 1) := by omega
      rw [he] at this
      simpa [Store.writeRun] using this

/-- The store at reset is in its form: nothing is listed. -/
theorem Store.wf_reset : State.reset.store.wf = true := rfl

end Machine
end Sys2Proof
end

