-- ==== Sys2Proof/Laws/Tags.lean ====
section
/-!
SUPPORT. The tags of the outstanding requests (R189): no operation but taking a frame, the completion of a reply and a full
reset changes which tags are outstanding.
-/
namespace Sys2Proof
namespace Machine

@[simp] theorem foldl_tags {α : Type} {act : State → α → State} {l : List α} {s : State}
    (h : ∀ u a, (act u a).port.slots.map RequestSlot.tag = u.port.slots.map RequestSlot.tag) : (l.foldl act s).port.slots.map RequestSlot.tag = s.port.slots.map RequestSlot.tag := by
  induction l generalizing s with
  | nil => rfl
  | cons a l ih => simp [ih, h]

@[simp] theorem map_answer_tags (tag : Byte) (l : List RequestSlot) :
    (l.map (RequestSlot.answer tag)).map RequestSlot.tag = l.map RequestSlot.tag := by
  simp only [List.map_map]
  refine List.map_congr_left fun r _ => ?_
  simp only [Function.comp_apply, RequestSlot.answer]; split <;> rfl

@[simp] theorem sendReply_tags (r : Reply) (s : State) :
    (sendReply r s).port.slots.map RequestSlot.tag = s.port.slots.map RequestSlot.tag := by
  unfold sendReply; dsimp only; split
  · rfl
  · exact map_answer_tags _ _

@[simp] theorem answerOk_tags (kind : Nat) (frame : Frame) (body : List Byte) (s : State) :
    (answerOk kind frame body s).port.slots.map RequestSlot.tag = s.port.slots.map RequestSlot.tag := by
  unfold answerOk; (repeat' split) <;> simp

@[simp] theorem answerClamped_tags (kind : Nat) (frame : Frame) (body : List Byte) (s : State) :
    (answerClamped kind frame body s).port.slots.map RequestSlot.tag = s.port.slots.map RequestSlot.tag := by
  unfold answerClamped; (repeat' split) <;> simp

@[simp] theorem refuse_tags (kind : Nat) (frame : Frame) (reason : Reason) (s : State) :
    (refuse kind frame reason s).port.slots.map RequestSlot.tag = s.port.slots.map RequestSlot.tag := by
  unfold refuse; (repeat' split) <;> simp

@[simp] theorem turnAway_tags (kind : Nat) (frame : Frame) (status : Status) (s : State) :
    (turnAway kind frame status s).port.slots.map RequestSlot.tag = s.port.slots.map RequestSlot.tag := by
  unfold turnAway; (repeat' split) <;> simp

@[simp] theorem immediateReply_tags (kind : Nat) (tag : Byte) (status : Status) (s : State) :
    (immediateReply kind tag status s).port.slots.map RequestSlot.tag = s.port.slots.map RequestSlot.tag := by
  unfold immediateReply; (repeat' split) <;> simp

@[simp] theorem beginNotice_tags (number : Nat) (s : State) :
    (beginNotice number s).port.slots.map RequestSlot.tag = s.port.slots.map RequestSlot.tag := by
  unfold beginNotice; (repeat' split) <;> simp

@[simp] theorem settle_tags (s : State) :
    (settle s).port.slots.map RequestSlot.tag = s.port.slots.map RequestSlot.tag := by
  unfold settle; (repeat' split) <;> simp

@[simp] theorem queueTrack_tags (id : Nat) (engine : Bool) (reply : Option Reply) (s : State) :
    (queueTrack id engine reply s).port.slots.map RequestSlot.tag = s.port.slots.map RequestSlot.tag := by
  unfold queueTrack; (repeat' split) <;> simp

@[simp] theorem completeTransfer_tags {c : Client} {ok : Bool} {act : Transfer → State → State} {s : State}
    (h : ∀ r u, (act r u).port.slots.map RequestSlot.tag = u.port.slots.map RequestSlot.tag) :
    (completeTransfer c ok act s).port.slots.map RequestSlot.tag = s.port.slots.map RequestSlot.tag := by
  unfold completeTransfer; simp only []; (repeat' split) <;> simp [h]

@[simp] theorem whenRoom_tags {turn : Bool} {command : Instr} {act : State → State} {s : State}
    (h : ∀ u, (act u).port.slots.map RequestSlot.tag = u.port.slots.map RequestSlot.tag) :
    (whenRoom turn command act s).port.slots.map RequestSlot.tag = s.port.slots.map RequestSlot.tag := by
  unfold whenRoom; split <;> simp [h]

@[simp] theorem serveTrackList_tags (frame : Frame) (first : Nat) (state : Option Nat) (s : State) :
    (serveTrackList frame first state s).port.slots.map RequestSlot.tag = s.port.slots.map RequestSlot.tag := by
  unfold serveTrackList; (repeat' split) <;> simp

@[simp] theorem serveTrackDelete_tags (turn : Bool) (frame : Frame) (track : Nat) (s : State) :
    (serveTrackDelete turn frame track s).port.slots.map RequestSlot.tag = s.port.slots.map RequestSlot.tag := by
  simp only [serveTrackDelete]; (repeat' split) <;> simp

@[simp] theorem serveCompositionList_tags (frame : Frame) (first : Nat) (s : State) :
    (serveCompositionList frame first s).port.slots.map RequestSlot.tag = s.port.slots.map RequestSlot.tag := by
  unfold serveCompositionList; (repeat' split) <;> simp

@[simp] theorem serveCompositionRead_tags (frame : Frame) (composition : Nat) (s : State) :
    (serveCompositionRead frame composition s).port.slots.map RequestSlot.tag = s.port.slots.map RequestSlot.tag := by
  unfold serveCompositionRead; (repeat' split) <;> simp

@[simp] theorem serveCompositionDelete_tags (turn : Bool) (frame : Frame) (composition : Nat) (s : State) :
    (serveCompositionDelete turn frame composition s).port.slots.map RequestSlot.tag = s.port.slots.map RequestSlot.tag := by
  simp only [serveCompositionDelete]; (repeat' split) <;> simp

@[simp] theorem serveStoreStatus_tags (frame : Frame) (s : State) :
    (serveStoreStatus frame s).port.slots.map RequestSlot.tag = s.port.slots.map RequestSlot.tag := by
  unfold serveStoreStatus; (repeat' split) <;> simp

@[simp] theorem serveStoreSweep_tags (frame : Frame) (s : State) :
    (serveStoreSweep frame s).port.slots.map RequestSlot.tag = s.port.slots.map RequestSlot.tag := by
  unfold serveStoreSweep; (repeat' split) <;> simp

@[simp] theorem damageTrack_tags (n : Nat) (slot : TrackSlot) (reason : DamageReason) (content : Option ContentCode) (s : State) :
    (damageTrack n slot reason content s).port.slots.map RequestSlot.tag = s.port.slots.map RequestSlot.tag := by
  unfold damageTrack; (repeat' split) <;> simp

@[simp] theorem judgeData_tags (n : Nat) (slot : TrackSlot) (g : Segment) (s : State) :
    (judgeData n slot g s).port.slots.map RequestSlot.tag = s.port.slots.map RequestSlot.tag := by
  simp only [judgeData]; (repeat' split) <;> simp

@[simp] theorem openTrack_tags (n id : Nat) (g : Segment) (h : TrackHeader) (s : State) :
    (openTrack n id g h s).port.slots.map RequestSlot.tag = s.port.slots.map RequestSlot.tag := by
  unfold openTrack; (repeat' split) <;> simp

@[simp] theorem judgeHeader_tags (g : Segment) (s : State) :
    (judgeHeader g s).port.slots.map RequestSlot.tag = s.port.slots.map RequestSlot.tag := by
  unfold judgeHeader; (repeat' split) <;> simp

@[simp] theorem actOnSegment_tags (g : Segment) (s : State) :
    (actOnSegment g s).port.slots.map RequestSlot.tag = s.port.slots.map RequestSlot.tag := by
  unfold actOnSegment; (repeat' split) <;> simp

@[simp] theorem pumpSegment_tags (s : State) :
    (pumpSegment s).port.slots.map RequestSlot.tag = s.port.slots.map RequestSlot.tag := by
  unfold pumpSegment; (repeat' split) <;> simp

@[simp] theorem completeTrack_tags (n : Nat) (slot : TrackSlot) (e : TrackEntry) (s : State) :
    (completeTrack n slot e s).port.slots.map RequestSlot.tag = s.port.slots.map RequestSlot.tag := by
  unfold completeTrack; (repeat' split) <;> simp

@[simp] theorem completeDescription_tags (n : Nat) (slot : TrackSlot) (e : TrackEntry) (block : List Byte) (s : State) :
    (completeDescription n slot e block s).port.slots.map RequestSlot.tag = s.port.slots.map RequestSlot.tag := by
  unfold completeDescription; (repeat' split) <;> simp

@[simp] theorem gatherWritten_tags (g : Gather) (s : State) :
    (gatherWritten g s).port.slots.map RequestSlot.tag = s.port.slots.map RequestSlot.tag := by
  unfold gatherWritten; (repeat' split) <;> simp

@[simp] theorem gatherFailed_tags (g : Gather) (s : State) :
    (gatherFailed g s).port.slots.map RequestSlot.tag = s.port.slots.map RequestSlot.tag := by
  unfold gatherFailed; (repeat' split) <;> simp

@[simp] theorem dataWritten_tags (ok : Bool) (g : Gather) (dropped : Bool) (s : State) :
    (dataWritten ok g dropped s).port.slots.map RequestSlot.tag = s.port.slots.map RequestSlot.tag := by
  unfold dataWritten; (repeat' split) <;> simp

@[simp] theorem releaseReply_tags (reply : Option Reply) (s : State) :
    (releaseReply reply s).port.slots.map RequestSlot.tag = s.port.slots.map RequestSlot.tag := by
  unfold releaseReply; (repeat' split) <;> simp

@[simp] theorem mapWritten_tags (ok : Bool) (m : MapBlock) (reply : Option Reply) (s : State) :
    (mapWritten ok m reply s).port.slots.map RequestSlot.tag = s.port.slots.map RequestSlot.tag := by
  simp only [mapWritten]; (repeat' split) <;> simp

@[simp] theorem mapBlockWriteComplete_tags (ok : Bool) (s : State) :
    (mapBlockWriteComplete ok s).port.slots.map RequestSlot.tag = s.port.slots.map RequestSlot.tag := by
  simp only [mapBlockWriteComplete]; (repeat' split) <;> simp

@[simp] theorem serveIngestOpen_tags (frame : Frame) (package mode : Nat) (s : State) :
    (serveIngestOpen frame package mode s).port.slots.map RequestSlot.tag = s.port.slots.map RequestSlot.tag := by
  unfold serveIngestOpen; (repeat' split) <;> simp

@[simp] theorem serveIngestClose_tags (frame : Frame) (s : State) :
    (serveIngestClose frame s).port.slots.map RequestSlot.tag = s.port.slots.map RequestSlot.tag := by
  unfold serveIngestClose; (repeat' split) <;> simp

@[simp] theorem queueInterrupted_tags (reply : Reply) (l : List Nat) (s : State) :
    (queueInterrupted reply l s).port.slots.map RequestSlot.tag = s.port.slots.map RequestSlot.tag := by
  induction l generalizing s with
  | nil => simp [queueInterrupted]
  | cons p l ih => cases l <;> simp_all [queueInterrupted]

@[simp] theorem serveIngestAbort_tags (frame : Frame) (s : State) :
    (serveIngestAbort frame s).port.slots.map RequestSlot.tag = s.port.slots.map RequestSlot.tag := by
  unfold serveIngestAbort; split
  · simp
  · dsimp only; split
    · split <;> simp
    · simp

@[simp] theorem serveIngestStatus_tags (frame : Frame) (s : State) :
    (serveIngestStatus frame s).port.slots.map RequestSlot.tag = s.port.slots.map RequestSlot.tag := by
  unfold serveIngestStatus; (repeat' split) <;> simp

@[simp] theorem queueLogHead_tags (s : State) :
    (queueLogHead s).port.slots.map RequestSlot.tag = s.port.slots.map RequestSlot.tag := by
  simp only [queueLogHead]; (repeat' split) <;> simp

@[simp] theorem pumpLog_tags (n : Nat) (s : State) :
    (pumpLog n s).port.slots.map RequestSlot.tag = s.port.slots.map RequestSlot.tag := by
  induction n generalizing s with
  | zero => simp [pumpLog]
  | succ n ih => unfold pumpLog; (repeat' split) <;> simp_all

@[simp] theorem carryLog_tags (s : State) :
    (carryLog s).port.slots.map RequestSlot.tag = s.port.slots.map RequestSlot.tag := pumpLog_tags _ s

@[simp] theorem writeRecord_tags (sequence : Nat) (s : State) :
    (writeRecord sequence s).port.slots.map RequestSlot.tag = s.port.slots.map RequestSlot.tag := by
  unfold writeRecord; (repeat' split) <;> simp

@[simp] theorem openRecord_tags (p : Play) (grant : Option (Nat × Nat)) (s : State) :
    (openRecord p grant s).port.slots.map RequestSlot.tag = s.port.slots.map RequestSlot.tag := by
  simp only [openRecord]; (repeat' split) <;> simp

@[simp] theorem closeRecord_tags (sh : Showing) (outcome : ShowingOutcome) (s : State) :
    (closeRecord sh outcome s).port.slots.map RequestSlot.tag = s.port.slots.map RequestSlot.tag := by
  unfold closeRecord; (repeat' split) <;> simp

@[simp] theorem startLog_tags (s : State) :
    (startLog s).port.slots.map RequestSlot.tag = s.port.slots.map RequestSlot.tag := by
  simp only [startLog]; (repeat' split) <;> simp

@[simp] theorem refuseLogRead_tags (frame : Frame) (reason : Reason) (s : State) :
    (refuseLogRead frame reason s).port.slots.map RequestSlot.tag = s.port.slots.map RequestSlot.tag := by
  unfold refuseLogRead; (repeat' split) <;> simp

@[simp] theorem serveLogRead_tags (frame : Frame) (first count : Nat) (s : State) :
    (serveLogRead frame first count s).port.slots.map RequestSlot.tag = s.port.slots.map RequestSlot.tag := by
  simp only [serveLogRead]; (repeat' split) <;> simp

@[simp] theorem serveLogRelease_tags (frame : Frame) (sequence : Nat) (s : State) :
    (serveLogRelease frame sequence s).port.slots.map RequestSlot.tag = s.port.slots.map RequestSlot.tag := by
  simp only [serveLogRelease]; (repeat' split) <;> simp

@[simp] theorem answerTrim_tags (frame : Frame) (t a : Int) (s : State) :
    (answerTrim frame t a s).port.slots.map RequestSlot.tag = s.port.slots.map RequestSlot.tag := by
  unfold answerTrim; (repeat' split) <;> simp

@[simp] theorem applyTrim_tags (frame : Frame) (t : Int) (s : State) :
    (applyTrim frame t s).port.slots.map RequestSlot.tag = s.port.slots.map RequestSlot.tag := by
  simp only [applyTrim]; (repeat' split) <;> simp

@[simp] theorem loadGrant_tags (frame : Frame) (slot : Nat) (g : Grant) (s : State) :
    (loadGrant frame slot g s).port.slots.map RequestSlot.tag = s.port.slots.map RequestSlot.tag := by
  unfold loadGrant; (repeat' split) <;> simp

@[simp] theorem serveGrantLoad_tags (turn : Bool) (frame : Frame) (key allowance start stop : Nat) (wrapped : List Byte) (s : State) :
    (serveGrantLoad turn frame key allowance start stop wrapped s).port.slots.map RequestSlot.tag = s.port.slots.map RequestSlot.tag := by
  simp only [serveGrantLoad]; (repeat' split) <;> simp

@[simp] theorem serveGrantList_tags (frame : Frame) (s : State) :
    (serveGrantList frame s).port.slots.map RequestSlot.tag = s.port.slots.map RequestSlot.tag := by
  unfold serveGrantList; (repeat' split) <;> simp

@[simp] theorem serveGrantPurge_tags (turn : Bool) (frame : Frame) (slot : Nat) (s : State) :
    (serveGrantPurge turn frame slot s).port.slots.map RequestSlot.tag = s.port.slots.map RequestSlot.tag := by
  simp only [serveGrantPurge]; (repeat' split) <;> simp

@[simp] theorem serveClockRead_tags (frame : Frame) (s : State) :
    (serveClockRead frame s).port.slots.map RequestSlot.tag = s.port.slots.map RequestSlot.tag := by
  unfold serveClockRead; (repeat' split) <;> simp

@[simp] theorem serveClockTrim_tags (turn : Bool) (frame : Frame) (t : Int) (s : State) :
    (serveClockTrim turn frame t s).port.slots.map RequestSlot.tag = s.port.slots.map RequestSlot.tag := by
  simp only [serveClockTrim]; (repeat' split) <;> simp

@[simp] theorem serveGrantCheck_tags (frame : Frame) (s : State) :
    (serveGrantCheck frame s).port.slots.map RequestSlot.tag = s.port.slots.map RequestSlot.tag := by
  unfold serveGrantCheck; (repeat' split) <;> simp

@[simp] theorem serveCheckInterval_tags (frame : Frame) (seconds : Nat) (s : State) :
    (serveCheckInterval frame seconds s).port.slots.map RequestSlot.tag = s.port.slots.map RequestSlot.tag := by
  simp only [serveCheckInterval]; (repeat' split) <;> simp

@[simp] theorem serveLineSet_tags (frame : Frame) (mask values : BitVec 16) (s : State) :
    (serveLineSet frame mask values s).port.slots.map RequestSlot.tag = s.port.slots.map RequestSlot.tag := by
  unfold serveLineSet; (repeat' split) <;> simp

@[simp] theorem serveLineRead_tags (frame : Frame) (s : State) :
    (serveLineRead frame s).port.slots.map RequestSlot.tag = s.port.slots.map RequestSlot.tag := by
  unfold serveLineRead; (repeat' split) <;> simp

@[simp] theorem endShowing_tags (outcome : ShowingOutcome) (s : State) :
    (endShowing outcome s).port.slots.map RequestSlot.tag = s.port.slots.map RequestSlot.tag := by
  unfold endShowing; (repeat' split) <;> simp

@[simp] theorem endShow_tags (outcome : ShowOutcome) (s : State) :
    (endShow outcome s).port.slots.map RequestSlot.tag = s.port.slots.map RequestSlot.tag := by
  unfold endShow; (repeat' split) <;> simp

@[simp] theorem takeUpWalk_tags (stop : WalkEnd) (s : State) :
    (takeUpWalk stop s).port.slots.map RequestSlot.tag = s.port.slots.map RequestSlot.tag := by
  unfold takeUpWalk; (repeat' split) <;> simp

@[simp] theorem blackGap_tags (start : Pos) (s : State) :
    (blackGap start s).port.slots.map RequestSlot.tag = s.port.slots.map RequestSlot.tag := by
  unfold blackGap; dsimp only
  have hf := actWalk_frame start (enterRunning (updateSeq (fun q => { q with current := .none, path := none, pauseTimer := none }) s))
  generalize actWalk start (enterRunning (updateSeq (fun q => { q with current := .none, path := none, pauseTimer := none }) s)) = r at hf ⊢
  obtain ⟨v, u⟩ := r
  cases v <;> simp_all

@[simp] theorem beginShowing_tags (p : Play) (g : Option (Nat × Grant)) (s : State) :
    (beginShowing p g s).port.slots.map RequestSlot.tag = s.port.slots.map RequestSlot.tag := by
  unfold beginShowing; (repeat' split) <;> simp

@[simp] theorem takeOver_tags (p : Play) (s : State) :
    (takeOver p s).port.slots.map RequestSlot.tag = s.port.slots.map RequestSlot.tag := by
  unfold takeOver
  have hf := recheckPlay_frame p s
  generalize recheckPlay p s = r at hf ⊢
  obtain ⟨v, u⟩ := r
  cases v <;> simp_all; (try (split <;> simp_all))

@[simp] theorem endCurrent_tags (outcome : Showing → ShowingOutcome) (s : State) :
    (endCurrent outcome s).port.slots.map RequestSlot.tag = s.port.slots.map RequestSlot.tag := by
  simp only [endCurrent]; (repeat' split) <;> simp

@[simp] theorem boundaryTick_tags (s : State) :
    (boundaryTick s).port.slots.map RequestSlot.tag = s.port.slots.map RequestSlot.tag := by
  simp only [boundaryTick]; (repeat' split) <;> simp

@[simp] theorem skipBoundary_tags (s : State) :
    (skipBoundary s).port.slots.map RequestSlot.tag = s.port.slots.map RequestSlot.tag := by
  simp only [skipBoundary]; (repeat' split) <;> simp

@[simp] theorem leaveWait_tags (s : State) :
    (leaveWait s).port.slots.map RequestSlot.tag = s.port.slots.map RequestSlot.tag := by
  simp only [leaveWait]; (repeat' split) <;> simp

@[simp] theorem leaveLogFull_tags (s : State) :
    (leaveLogFull s).port.slots.map RequestSlot.tag = s.port.slots.map RequestSlot.tag := by
  unfold leaveLogFull; dsimp only
  split
  · simp
  · rename_i p _
    have hf := recheckPlay_frame p s
    generalize recheckPlay p s = r at hf ⊢
    obtain ⟨v, u⟩ := r
    cases v <;> simp_all

@[simp] theorem expirePause_tags (s : State) :
    (expirePause s).port.slots.map RequestSlot.tag = s.port.slots.map RequestSlot.tag := by
  unfold expirePause; (repeat' split) <;> simp

@[simp] theorem checkRepeats_tags (s : State) :
    (checkRepeats s).port.slots.map RequestSlot.tag = s.port.slots.map RequestSlot.tag := by
  unfold checkRepeats; (repeat' split) <;> simp

@[simp] theorem loseLink_tags (s : State) :
    (loseLink s).port.slots.map RequestSlot.tag = s.port.slots.map RequestSlot.tag := by
  unfold loseLink; (repeat' split) <;> simp

@[simp] theorem takeOverIfReady_tags (s : State) :
    (takeOverIfReady s).port.slots.map RequestSlot.tag = s.port.slots.map RequestSlot.tag := by
  unfold takeOverIfReady; (repeat' split) <;> simp

@[simp] theorem runTick_tags (s : State) :
    (runTick s).port.slots.map RequestSlot.tag = s.port.slots.map RequestSlot.tag := by
  unfold runTick; (repeat' split) <;> simp

@[simp] theorem sequencerTick_tags (s : State) :
    (sequencerTick s).port.slots.map RequestSlot.tag = s.port.slots.map RequestSlot.tag := by
  unfold sequencerTick; (repeat' split) <;> simp

@[simp] theorem frameTick_tags (s : State) :
    (frameTick s).port.slots.map RequestSlot.tag = s.port.slots.map RequestSlot.tag := by
  unfold frameTick; (repeat' split) <;> simp

@[simp] theorem clockTick_tags (s : State) :
    (clockTick s).port.slots.map RequestSlot.tag = s.port.slots.map RequestSlot.tag := by
  unfold clockTick; (repeat' split) <;> simp

@[simp] theorem syncEdge_tags (rising : Bool) (s : State) :
    (syncEdge rising s).port.slots.map RequestSlot.tag = s.port.slots.map RequestSlot.tag := by
  simp only [syncEdge]; (repeat' split) <;> simp

@[simp] theorem loseSync_tags (s : State) :
    (loseSync s).port.slots.map RequestSlot.tag = s.port.slots.map RequestSlot.tag := by
  unfold loseSync; (repeat' split) <;> simp

@[simp] theorem generatorTicks_tags (s : State) :
    (generatorTicks s).port.slots.map RequestSlot.tag = s.port.slots.map RequestSlot.tag := by
  unfold generatorTicks; (repeat' split) <;> simp

@[simp] theorem concludeCheck_tags (outcome : CheckOutcome) (answered : Option Nat) (s : State) :
    (concludeCheck outcome answered s).port.slots.map RequestSlot.tag = s.port.slots.map RequestSlot.tag := by
  simp only [concludeCheck]; (repeat' split) <;> simp

theorem answerTry_tags {kind : Nat} {frame : Frame} {f : State → Except Reason State} {s : State}
    (h : ∀ t, f s = .ok t → t.port.slots.map RequestSlot.tag = s.port.slots.map RequestSlot.tag) :
    (answerTry kind frame f s).port.slots.map RequestSlot.tag = s.port.slots.map RequestSlot.tag := by
  unfold answerTry; split
  · rename_i t ht; simpa using h t ht
  · simp

@[simp] theorem completeLoad_tags (frame : Frame) (st : Staging) (s : State) :
    (completeLoad frame st s).port.slots.map RequestSlot.tag = s.port.slots.map RequestSlot.tag := by
  simp only [completeLoad]; (repeat' split) <;> simp

@[simp] theorem takePart_tags (frame : Frame) (final : Bool) (st : Staging) (s : State) :
    (takePart frame final st s).port.slots.map RequestSlot.tag = s.port.slots.map RequestSlot.tag := by
  unfold takePart; (repeat' split) <;> simp

@[simp] theorem serveListLoad_tags (frame : Frame) (list part : Nat) (final : Bool) (entries : List Entry) (s : State) :
    (serveListLoad frame list part final entries s).port.slots.map RequestSlot.tag = s.port.slots.map RequestSlot.tag := by
  simp only [serveListLoad]; (repeat' split) <;> simp

@[simp] theorem serveListRead_tags (frame : Frame) (list first : Nat) (s : State) :
    (serveListRead frame list first s).port.slots.map RequestSlot.tag = s.port.slots.map RequestSlot.tag := by
  unfold serveListRead; (repeat' split) <;> simp

@[simp] theorem serveShowArm_tags (frame : Frame) (list : Nat) (s : State) :
    (serveShowArm frame list s).port.slots.map RequestSlot.tag = s.port.slots.map RequestSlot.tag := by
  unfold serveShowArm; (repeat' split) <;> simp

@[simp] theorem serveShowStart_tags (frame : Frame) (s : State) :
    (serveShowStart frame s).port.slots.map RequestSlot.tag = s.port.slots.map RequestSlot.tag := by
  simp only [serveShowStart]; (repeat' split) <;> simp

theorem tryGo_tags {s t : State} (h : tryGo s = .ok t) :
    t.port.slots.map RequestSlot.tag = s.port.slots.map RequestSlot.tag := by
  unfold tryGo at h; (repeat' split at h) <;> simp_all <;> (subst h; simp)

@[simp] theorem answerTry_tryGo_tags (kind : Nat) (frame : Frame) (s : State) :
    (answerTry kind frame tryGo s).port.slots.map RequestSlot.tag = s.port.slots.map RequestSlot.tag :=
  answerTry_tags fun _ h => tryGo_tags h

theorem trySkip_tags {s t : State} (h : trySkip s = .ok t) :
    t.port.slots.map RequestSlot.tag = s.port.slots.map RequestSlot.tag := by
  unfold trySkip at h; (repeat' split at h) <;> simp_all <;> (subst h; simp)

@[simp] theorem answerTry_trySkip_tags (kind : Nat) (frame : Frame) (s : State) :
    (answerTry kind frame trySkip s).port.slots.map RequestSlot.tag = s.port.slots.map RequestSlot.tag :=
  answerTry_tags fun _ h => trySkip_tags h

theorem tryStop_tags {s t : State} (h : tryStop s = .ok t) :
    t.port.slots.map RequestSlot.tag = s.port.slots.map RequestSlot.tag := by
  unfold tryStop at h; (repeat' split at h) <;> simp_all <;> (subst h; simp)

@[simp] theorem answerTry_tryStop_tags (kind : Nat) (frame : Frame) (s : State) :
    (answerTry kind frame tryStop s).port.slots.map RequestSlot.tag = s.port.slots.map RequestSlot.tag :=
  answerTry_tags fun _ h => tryStop_tags h

@[simp] theorem servePauseLimit_tags (frame : Frame) (seconds : Nat) (s : State) :
    (servePauseLimit frame seconds s).port.slots.map RequestSlot.tag = s.port.slots.map RequestSlot.tag := by
  simp only [servePauseLimit]; (repeat' split) <;> simp

@[simp] theorem serveGrantRevoke_tags (turn : Bool) (frame : Frame) (slot : Nat) (s : State) :
    (serveGrantRevoke turn frame slot s).port.slots.map RequestSlot.tag = s.port.slots.map RequestSlot.tag := by
  simp only [serveGrantRevoke]; (repeat' split) <;> simp

@[simp] theorem actFunction_tags (n : Nat) (l : Line) (s : State) :
    (actFunction n l s).port.slots.map RequestSlot.tag = s.port.slots.map RequestSlot.tag := by
  unfold actFunction; split <;> (try simp)
  · unfold tryGo; (repeat' split) <;> simp [orElseSame]
  · unfold tryPause; (repeat' split) <;> simp [orElseSame]

@[simp] theorem takeOnset_tags (n : Nat) (s : State) :
    (takeOnset n s).port.slots.map RequestSlot.tag = s.port.slots.map RequestSlot.tag := by
  unfold takeOnset; (repeat' split) <;> simp

@[simp] theorem takeLevel_tags (n : Nat) (high : Bool) (s : State) :
    (takeLevel n high s).port.slots.map RequestSlot.tag = s.port.slots.map RequestSlot.tag := by
  unfold takeLevel; (repeat' split) <;> simp

@[simp] theorem changePin_tags (n : Nat) (high : Bool) (s : State) :
    (changePin n high s).port.slots.map RequestSlot.tag = s.port.slots.map RequestSlot.tag := by
  unfold changePin; (repeat' split) <;> simp

@[simp] theorem setInput_tags (n : Nat) (c : LineCondition) (debounce : Nat) (f : LineFunction) (s : State) :
    (setInput n c debounce f s).port.slots.map RequestSlot.tag = s.port.slots.map RequestSlot.tag := by
  simp only [setInput]; (repeat' split) <;> simp

@[simp] theorem serveLineSetup_tags (frame : Frame) (line : Nat) (config : LineRequest) (s : State) :
    (serveLineSetup frame line config s).port.slots.map RequestSlot.tag = s.port.slots.map RequestSlot.tag := by
  unfold serveLineSetup; (repeat' split) <;> simp

@[simp] theorem serveFrameSource_tags (frame : Frame) (source : Nat) (edge : Option Nat) (s : State) :
    (serveFrameSource frame source edge s).port.slots.map RequestSlot.tag = s.port.slots.map RequestSlot.tag := by
  unfold serveFrameSource; (repeat' split) <;> simp

@[simp] theorem servePosition_tags (frame : Frame) (s : State) :
    (servePosition frame s).port.slots.map RequestSlot.tag = s.port.slots.map RequestSlot.tag := by
  unfold servePosition; (repeat' split) <;> simp

@[simp] theorem serveMark_tags (frame : Frame) (s : State) :
    (serveMark frame s).port.slots.map RequestSlot.tag = s.port.slots.map RequestSlot.tag := by
  unfold serveMark; (repeat' split) <;> simp

@[simp] theorem serveCaptureRead_tags (frame : Frame) (count : Nat) (s : State) :
    (serveCaptureRead frame count s).port.slots.map RequestSlot.tag = s.port.slots.map RequestSlot.tag := by
  unfold serveCaptureRead; (repeat' split) <;> simp

@[simp] theorem servePair_tags (turn : Bool) (frame : Frame) (projector : Nat) (s : State) :
    (servePair turn frame projector s).port.slots.map RequestSlot.tag = s.port.slots.map RequestSlot.tag := by
  simp only [servePair]; (repeat' split) <;> simp

@[simp] theorem serveLinkCheck_tags (frame : Frame) (s : State) :
    (serveLinkCheck frame s).port.slots.map RequestSlot.tag = s.port.slots.map RequestSlot.tag := by
  unfold serveLinkCheck; (repeat' split) <;> simp

@[simp] theorem serveLinkInterval_tags (frame : Frame) (seconds : Nat) (s : State) :
    (serveLinkInterval frame seconds s).port.slots.map RequestSlot.tag = s.port.slots.map RequestSlot.tag := by
  simp only [serveLinkInterval]; (repeat' split) <;> simp

@[simp] theorem servePictureStatus_tags (frame : Frame) (s : State) :
    (servePictureStatus frame s).port.slots.map RequestSlot.tag = s.port.slots.map RequestSlot.tag := by
  unfold servePictureStatus; (repeat' split) <;> simp

@[simp] theorem serveSoundMapLoad_tags (frame : Frame) (code : Nat) (routes : Option (List Route)) (s : State) :
    (serveSoundMapLoad frame code routes s).port.slots.map RequestSlot.tag = s.port.slots.map RequestSlot.tag := by
  unfold serveSoundMapLoad; (repeat' split) <;> simp

@[simp] theorem serveSoundMapRead_tags (frame : Frame) (code : Nat) (s : State) :
    (serveSoundMapRead frame code s).port.slots.map RequestSlot.tag = s.port.slots.map RequestSlot.tag := by
  unfold serveSoundMapRead; (repeat' split) <;> simp

@[simp] theorem serveFaderSet_tags (frame : Frame) (target frames : Nat) (s : State) :
    (serveFaderSet frame target frames s).port.slots.map RequestSlot.tag = s.port.slots.map RequestSlot.tag := by
  unfold serveFaderSet; (repeat' split) <;> simp

@[simp] theorem serveLipsyncSet_tags (frame : Frame) (trim : Int) (s : State) :
    (serveLipsyncSet frame trim s).port.slots.map RequestSlot.tag = s.port.slots.map RequestSlot.tag := by
  simp only [serveLipsyncSet]; (repeat' split) <;> simp

@[simp] theorem serveSoundStatus_tags (frame : Frame) (s : State) :
    (serveSoundStatus frame s).port.slots.map RequestSlot.tag = s.port.slots.map RequestSlot.tag := by
  unfold serveSoundStatus; (repeat' split) <;> simp

@[simp] theorem serveStreamSet_tags (frame : Frame) (stream route : Nat) (offset : Int) (s : State) :
    (serveStreamSet frame stream route offset s).port.slots.map RequestSlot.tag = s.port.slots.map RequestSlot.tag := by
  unfold serveStreamSet; split
  · simp
  · split
    · simp
    · split
      · simp
      · dsimp only; split <;> simp

@[simp] theorem serveSubtitleStatus_tags (frame : Frame) (s : State) :
    (serveSubtitleStatus frame s).port.slots.map RequestSlot.tag = s.port.slots.map RequestSlot.tag := by
  unfold serveSubtitleStatus; (repeat' split) <;> simp

@[simp] theorem interruptFilling_tags (s : State) :
    (interruptFilling s).port.slots.map RequestSlot.tag = s.port.slots.map RequestSlot.tag := by
  unfold interruptFilling; (repeat' split) <;> simp

@[simp] theorem showResetSequencer_tags (s : State) :
    (showResetSequencer s).port.slots.map RequestSlot.tag = s.port.slots.map RequestSlot.tag := by
  unfold showResetSequencer; (repeat' split) <;> simp

@[simp] theorem showReset_tags (s : State) :
    (showReset s).port.slots.map RequestSlot.tag = s.port.slots.map RequestSlot.tag := by
  unfold showReset; (repeat' split) <;> simp

@[simp] theorem discardFrame_tags (cause : Nat) (came again : List Byte) (s : State) :
    (discardFrame cause came again s).port.slots.map RequestSlot.tag = s.port.slots.map RequestSlot.tag := by
  unfold discardFrame; (repeat' split) <;> simp

@[simp] theorem serveIdentify_tags (frame : Frame) (s : State) :
    (serveIdentify frame s).port.slots.map RequestSlot.tag = s.port.slots.map RequestSlot.tag := by
  unfold serveIdentify; (repeat' split) <;> simp

@[simp] theorem serveStatus_tags (frame : Frame) (s : State) :
    (serveStatus frame s).port.slots.map RequestSlot.tag = s.port.slots.map RequestSlot.tag := by
  unfold serveStatus; (repeat' split) <;> simp

@[simp] theorem serveResetFull_tags (frame : Frame) (s : State) :
    (serveResetFull frame s).port.slots.map RequestSlot.tag = s.port.slots.map RequestSlot.tag := by
  unfold serveResetFull; (repeat' split) <;> simp

@[simp] theorem serveResetShow_tags (frame : Frame) (s : State) :
    (serveResetShow frame s).port.slots.map RequestSlot.tag = s.port.slots.map RequestSlot.tag := by
  unfold serveResetShow; (repeat' split) <;> simp

@[simp] theorem serveNoticeSetup_tags (frame : Frame) (enables : BitVec 52) (levels : List Nat) (mask : Nat) (s : State) :
    (serveNoticeSetup frame enables levels mask s).port.slots.map RequestSlot.tag = s.port.slots.map RequestSlot.tag := by
  unfold serveNoticeSetup; (repeat' split) <;> simp

@[simp] theorem serveNoticeClear_tags (frame : Frame) (causes : BitVec 52) (s : State) :
    (serveNoticeClear frame causes s).port.slots.map RequestSlot.tag = s.port.slots.map RequestSlot.tag := by
  unfold serveNoticeClear; (repeat' split) <;> simp

@[simp] theorem serveNoticeRead_tags (frame : Frame) (s : State) :
    (serveNoticeRead frame s).port.slots.map RequestSlot.tag = s.port.slots.map RequestSlot.tag := by
  unfold serveNoticeRead; (repeat' split) <;> simp

@[simp] theorem serve_tags (turn : Bool) (c : Instr) (s : State) :
    (serve turn c s).port.slots.map RequestSlot.tag = s.port.slots.map RequestSlot.tag := by
  cases c with
  | pause f => unfold serve; exact answerTry_tags fun t h => by simp [tryPause_frame h]
  | resume f => unfold serve; exact answerTry_tags fun t h => by simp [tryResume_frame h]
  | _ => simp [serve]

@[simp] theorem takeSlot_tags (tag : Byte) (s : State) :
    (takeSlot tag s).port.slots.map RequestSlot.tag = s.port.slots.map RequestSlot.tag := by
  simp only [takeSlot, updatePort, List.map_map]
  refine List.map_congr_left fun r _ => ?_
  simp only [Function.comp_apply]; split <;> rfl

@[simp] theorem serveDeferred_tags (n : Nat) (s : State) :
    (serveDeferred n s).port.slots.map RequestSlot.tag = s.port.slots.map RequestSlot.tag := by
  induction n generalizing s with
  | zero => simp [serveDeferred]
  | succ n ih => unfold serveDeferred; (repeat' split) <;> simp_all

@[simp] theorem serveWaiter_tags (w : Waiter) (s : State) :
    (serveWaiter w s).port.slots.map RequestSlot.tag = s.port.slots.map RequestSlot.tag := by
  unfold serveWaiter; (repeat' split) <;> simp

@[simp] theorem queueWaiting_tags (s : State) :
    (queueWaiting s).port.slots.map RequestSlot.tag = s.port.slots.map RequestSlot.tag := by
  unfold queueWaiting; (repeat' split) <;> simp

end Machine
end Sys2Proof
end

