-- ==== Sys2Proof/Laws/WriteQueue.lean ====
section
/-!
SUPPORT. How many writes the write queue holds after each operation (R8): an operation that queues one asks for room first, so
that a queue of at most 8 writes stays one.
-/
namespace Sys2Proof
namespace Machine

theorem foldl_writes {α : Type} {act : State → α → State} {l : List α} {s : State}
    (h : ∀ u a, u.queue.writes.length ≤ 8 → (act u a).queue.writes.length ≤ 8) (hs : s.queue.writes.length ≤ 8) : (l.foldl act s).queue.writes.length ≤ 8 := by
  induction l generalizing s with
  | nil => exact hs
  | cons a l ih => exact ih (h _ _ hs)

theorem writes_of_room {s : State} (h : s.hasRoom = true) : s.queue.writes.length < 8 := by
  simp [State.hasRoom] at h; exact h.1

@[simp] theorem pushWrite_writes (w : Write) (forCheck : Bool) (s : State) :
    (pushWrite w forCheck s).queue.writes.length = s.queue.writes.length + 1 := by
  unfold pushWrite; (repeat' split) <;> simp

@[simp] theorem awaitRoom_writes (w : Waiter) (s : State) :
    (awaitRoom w s).queue.writes.length = s.queue.writes.length := by
  unfold awaitRoom; (repeat' split) <;> simp

@[simp] theorem pushTrack_writes (id : Nat) (s : State) :
    (pushTrack id s).queue.writes.length = s.queue.writes.length + 1 := by
  unfold pushTrack; (repeat' split) <;> simp

@[simp] theorem pushComposition_writes (id : Nat) (s : State) :
    (pushComposition id s).queue.writes.length = s.queue.writes.length + 1 := by
  unfold pushComposition; (repeat' split) <;> simp

@[simp] theorem pushGrant_writes (slot : Nat) (forCheck : Bool) (s : State) :
    (pushGrant slot forCheck s).queue.writes.length = s.queue.writes.length + 1 := by
  unfold pushGrant; (repeat' split) <;> simp

@[simp] theorem queueTrack_writes (id : Nat) (engine : Bool) (reply : Option Reply) (s : State)
    (hq : s.queue.writes.length ≤ 8) : (queueTrack id engine reply s).queue.writes.length ≤ 8 := by
  unfold queueTrack; (repeat' split) <;> simp_all [State.hasRoom] <;> omega

theorem whenRoom_writes {turn : Bool} {command : Instr} {act : State → State} {s : State} (h : s.queue.writes.length ≤ 8)
    (ht : turn = true → s.queue.writes.length < 8) (ha : ∀ u, u.queue.writes.length < 8 → (act u).queue.writes.length ≤ 8) :
    (whenRoom turn command act s).queue.writes.length ≤ 8 := by
  unfold whenRoom; split
  · rename_i hr
    refine ha _ ?_
    rcases Bool.or_eq_true _ _ ▸ hr with hr | hr
    · exact ht hr
    · exact writes_of_room hr
  · simpa using h

@[simp] theorem deleteTrack_writes (track : Nat) (s : State) :
    (deleteTrack track s).queue.writes.length = s.queue.writes.length + 1 := by
  unfold deleteTrack; (repeat' split) <;> simp

@[simp] theorem serveTrackDelete_writes (turn : Bool) (frame : Frame) (track : Nat) (s : State)
    (hq : s.queue.writes.length ≤ 8) (ht : turn = true → s.queue.writes.length < 8) : (serveTrackDelete turn frame track s).queue.writes.length ≤ 8 := by
  unfold serveTrackDelete; (repeat' split) <;> simp_all
  exact whenRoom_writes hq ht fun u hu => by simp; omega

@[simp] theorem serveCompositionDelete_writes (turn : Bool) (frame : Frame) (composition : Nat) (s : State)
    (hq : s.queue.writes.length ≤ 8) (ht : turn = true → s.queue.writes.length < 8) : (serveCompositionDelete turn frame composition s).queue.writes.length ≤ 8 := by
  unfold serveCompositionDelete; (repeat' split) <;> simp_all
  exact whenRoom_writes hq ht fun u hu => by simp; omega

@[simp] theorem damageTrack_writes (n : Nat) (slot : TrackSlot) (reason : DamageReason) (content : Option ContentCode) (s : State)
    (hq : s.queue.writes.length ≤ 8) : (damageTrack n slot reason content s).queue.writes.length ≤ 8 := by
  unfold damageTrack; (repeat' split) <;> (simp (maxDischargeDepth := 12) (implicitDefEqProofs := false) [hq])

@[simp] theorem judgeData_writes (n : Nat) (slot : TrackSlot) (g : Segment) (s : State)
    (hq : s.queue.writes.length ≤ 8) : (judgeData n slot g s).queue.writes.length ≤ 8 := by
  simp only [judgeData]; (repeat' split) <;> (simp (maxDischargeDepth := 12) (implicitDefEqProofs := false) [hq])

@[simp] theorem openTrack_writes (n id : Nat) (g : Segment) (h : TrackHeader) (s : State)
    (hq : s.queue.writes.length ≤ 8) : (openTrack n id g h s).queue.writes.length ≤ 8 := by
  unfold openTrack; (repeat' split) <;> (simp (maxDischargeDepth := 12) (implicitDefEqProofs := false) [hq])

@[simp] theorem judgeHeader_writes (g : Segment) (s : State)
    (hq : s.queue.writes.length ≤ 8) : (judgeHeader g s).queue.writes.length ≤ 8 := by
  unfold judgeHeader; (repeat' split) <;> (simp (maxDischargeDepth := 12) (implicitDefEqProofs := false) [hq])

@[simp] theorem actOnSegment_writes (g : Segment) (s : State)
    (hq : s.queue.writes.length ≤ 8) : (actOnSegment g s).queue.writes.length ≤ 8 := by
  unfold actOnSegment; (repeat' split) <;> (simp (maxDischargeDepth := 12) (implicitDefEqProofs := false) [hq])

@[simp] theorem pumpSegment_writes (s : State)
    (hq : s.queue.writes.length ≤ 8) : (pumpSegment s).queue.writes.length ≤ 8 := by
  unfold pumpSegment; (repeat' split) <;> (simp (maxDischargeDepth := 12) (implicitDefEqProofs := false) [hq])

@[simp] theorem takeComposition_writes (id : Nat) (change : CompositionChange) (s : State)
    (hq : s.queue.writes.length < 8) : (takeComposition id change s).queue.writes.length ≤ 8 := by
  unfold takeComposition; (repeat' split) <;> (try simp) <;> omega

@[simp] theorem queueComposition_writes (id : Nat) (change : CompositionChange) (engine closes : Bool) (s : State)
    (hq : s.queue.writes.length ≤ 8) : (queueComposition id change engine closes s).queue.writes.length ≤ 8 := by
  unfold queueComposition; split
  · exact takeComposition_writes _ _ _ (by simp_all [State.hasRoom])
  · simpa using hq

@[simp] theorem completeTrack_writes (n : Nat) (slot : TrackSlot) (e : TrackEntry) (s : State)
    (hq : s.queue.writes.length ≤ 8) : (completeTrack n slot e s).queue.writes.length ≤ 8 := by
  unfold completeTrack; (repeat' split) <;> (simp (maxDischargeDepth := 12) (implicitDefEqProofs := false) [hq])

@[simp] theorem completeDescription_writes (n : Nat) (slot : TrackSlot) (e : TrackEntry) (block : List Byte) (s : State)
    (hq : s.queue.writes.length ≤ 8) : (completeDescription n slot e block s).queue.writes.length ≤ 8 := by
  unfold completeDescription; (repeat' split) <;> (simp (maxDischargeDepth := 12) (implicitDefEqProofs := false) [hq])

@[simp] theorem gatherWritten_writes (g : Gather) (s : State)
    (hq : s.queue.writes.length ≤ 8) : (gatherWritten g s).queue.writes.length ≤ 8 := by
  unfold gatherWritten; (repeat' split) <;> (simp (maxDischargeDepth := 12) (implicitDefEqProofs := false) [hq])

@[simp] theorem gatherFailed_writes (g : Gather) (s : State)
    (hq : s.queue.writes.length ≤ 8) : (gatherFailed g s).queue.writes.length ≤ 8 := by
  unfold gatherFailed; (repeat' split) <;> (simp (maxDischargeDepth := 12) (implicitDefEqProofs := false) [hq])

@[simp] theorem dataWritten_writes (ok : Bool) (g : Gather) (dropped : Bool) (s : State)
    (hq : s.queue.writes.length ≤ 8) : (dataWritten ok g dropped s).queue.writes.length ≤ 8 := by
  unfold dataWritten; (repeat' split) <;> (simp (maxDischargeDepth := 12) (implicitDefEqProofs := false) [hq])

@[simp] theorem mapWritten_writes (ok : Bool) (m : MapBlock) (reply : Option Reply) (s : State)
    (hq : s.queue.writes.length ≤ 8) : (mapWritten ok m reply s).queue.writes.length ≤ 8 := by
  simp only [mapWritten]; (repeat' split) <;> (simp (maxDischargeDepth := 12) (implicitDefEqProofs := false) [hq])

@[simp] theorem mapBlockWriteComplete_writes (ok : Bool) (s : State)
    (hq : s.queue.writes.length ≤ 8) : (mapBlockWriteComplete ok s).queue.writes.length ≤ 8 := by
  unfold mapBlockWriteComplete completeTransfer; (repeat' split) <;> (try exact hq) <;> simp (maxDischargeDepth := 12) (implicitDefEqProofs := false) [hq]

@[simp] theorem resolveAll_writes (l : List (Nat × List ReelNumbers)) (s : State)
    (hq : s.queue.writes.length ≤ 8) : (resolveAll l s).queue.writes.length ≤ 8 := by
  induction l generalizing s with
  | nil => simpa [resolveAll] using hq
  | cons p l ih => exact ih _ (queueComposition_writes _ _ _ _ _ hq)

@[simp] theorem completeClose_writes (s : State)
    (hq : s.queue.writes.length ≤ 8) : (completeClose s).queue.writes.length ≤ 8 := by
  simp only [completeClose]; (repeat' split) <;> (simp (maxDischargeDepth := 12) (implicitDefEqProofs := false) [hq])

@[simp] theorem queueInterrupted_writes (reply : Reply) (l : List Nat) (s : State)
    (hq : s.queue.writes.length ≤ 8) : (queueInterrupted reply l s).queue.writes.length ≤ 8 := by
  induction l generalizing s with
  | nil => simpa [queueInterrupted] using hq
  | cons p l ih =>
    cases l with
    | nil => simpa [queueInterrupted] using queueTrack_writes _ _ _ _ hq
    | cons q l => exact ih _ (queueTrack_writes _ _ _ _ hq)

@[simp] theorem serveIngestAbort_writes (frame : Frame) (s : State)
    (hq : s.queue.writes.length ≤ 8) : (serveIngestAbort frame s).queue.writes.length ≤ 8 := by
  unfold serveIngestAbort; split
  · simpa using hq
  · dsimp only; split
    · split
      · simp only [updateIngest_queue]
        refine foldl_writes (fun u a hu => queueTrack_writes _ _ _ _ hu) ?_
        simp (maxDischargeDepth := 12) (implicitDefEqProofs := false) [hq]
      · simp (maxDischargeDepth := 12) (implicitDefEqProofs := false) [hq]
    · simp (maxDischargeDepth := 12) (implicitDefEqProofs := false) [hq]

@[simp] theorem queueLogHead_writes (s : State)
    (hq : s.queue.writes.length < 8) : (queueLogHead s).queue.writes.length ≤ 8 := by
  unfold queueLogHead; dsimp only; (repeat' split) <;> (try simp) <;> omega

@[simp] theorem pumpLog_writes (n : Nat) (s : State)
    (hq : s.queue.writes.length ≤ 8) : (pumpLog n s).queue.writes.length ≤ 8 := by
  induction n generalizing s with
  | zero => simpa [pumpLog] using hq
  | succ n ih =>
    unfold pumpLog; split
    · exact hq
    · split
      · rename_i hr
        exact ih _ (queueLogHead_writes _ (writes_of_room hr))
      · simpa using hq

@[simp] theorem carryLog_writes (s : State)
    (hq : s.queue.writes.length ≤ 8) : (carryLog s).queue.writes.length ≤ 8 := pumpLog_writes _ s hq

@[simp] theorem writeRecord_writes (sequence : Nat) (s : State)
    (hq : s.queue.writes.length ≤ 8) : (writeRecord sequence s).queue.writes.length ≤ 8 := by
  unfold writeRecord; (repeat' split) <;> (simp (maxDischargeDepth := 12) (implicitDefEqProofs := false) [hq])

@[simp] theorem openRecord_writes (p : Play) (grant : Option (Nat × Nat)) (s : State)
    (hq : s.queue.writes.length ≤ 8) : (openRecord p grant s).queue.writes.length ≤ 8 := by
  simp only [openRecord]; (repeat' split) <;> (simp (maxDischargeDepth := 12) (implicitDefEqProofs := false) [hq])

@[simp] theorem closeRecord_writes (sh : Showing) (outcome : ShowingOutcome) (s : State)
    (hq : s.queue.writes.length ≤ 8) : (closeRecord sh outcome s).queue.writes.length ≤ 8 := by
  unfold closeRecord; (repeat' split) <;> (simp (maxDischargeDepth := 12) (implicitDefEqProofs := false) [hq])

@[simp] theorem startLog_writes (s : State)
    (hq : s.queue.writes.length ≤ 8) : (startLog s).queue.writes.length ≤ 8 := by
  simp only [startLog]; (repeat' split) <;> (simp (maxDischargeDepth := 12) (implicitDefEqProofs := false) [hq])

@[simp] theorem serveLogRelease_writes (frame : Frame) (sequence : Nat) (s : State)
    (hq : s.queue.writes.length ≤ 8) : (serveLogRelease frame sequence s).queue.writes.length ≤ 8 := by
  simp only [serveLogRelease]; (repeat' split) <;> (simp (maxDischargeDepth := 12) (implicitDefEqProofs := false) [hq])

@[simp] theorem pushBudget_writes (b : Budget) (s : State) :
    (pushBudget b s).queue.writes.length = s.queue.writes.length + 1 := by
  unfold pushBudget; (repeat' split) <;> simp

@[simp] theorem testBudget_writes (turn : Bool) (s : State)
    (hq : s.queue.writes.length ≤ 8) (ht : turn = true → s.queue.writes.length < 8) : (testBudget turn s).queue.writes.length ≤ 8 := by
  unfold testBudget; split
  · split
    · rename_i hr
      have h8 : s.queue.writes.length < 8 := by
        rcases Bool.or_eq_true _ _ ▸ hr with hr | hr
        · exact ht hr
        · exact writes_of_room hr
      simp; omega
    · split <;> simpa using hq
  · exact hq

@[simp] theorem renewForTrim_writes (renewed : Budget) (a : Int) (s : State)
    (hq : s.queue.writes.length < 8) : (renewForTrim renewed a s).queue.writes.length ≤ 8 := by
  unfold renewForTrim; split
  · simp; omega
  · omega

@[simp] theorem moveClock_writes (renewed : Budget) (a : Int) (s : State)
    (hq : s.queue.writes.length < 8) : (moveClock renewed a s).queue.writes.length ≤ 8 := by
  unfold moveClock; split
  · omega
  · simp only [requestCheck_frame]
    refine testBudget_writes _ _ ?_ (by simp)
    simp; omega

theorem renewForTrim_room {renewed : Budget} {a : Int} {s : State} (ha : a ≠ 0) (hq : s.queue.writes.length < 8) :
    (renewForTrim renewed a s).queue.writes.length < 8 := by
  unfold renewForTrim; split
  · rename_i h
    simp [ha] at h
    simp; omega
  · exact hq

@[simp] theorem applyTrim_writes (frame : Frame) (t : Int) (s : State)
    (hq : s.queue.writes.length < 8) : (applyTrim frame t s).queue.writes.length ≤ 8 := by
  unfold applyTrim; simp only [answerTrim_frame]
  by_cases ha : trimAmount t (s.keys.budget.renew s.keys.clock).left s.keys.clock = 0
  · unfold moveClock; rw [if_pos ha]; exact renewForTrim_writes _ _ _ hq
  · exact moveClock_writes _ _ _ (renewForTrim_room ha hq)

@[simp] theorem loadGrant_writes (frame : Frame) (slot : Nat) (g : Grant) (s : State) :
    (loadGrant frame slot g s).queue.writes.length = s.queue.writes.length + 1 := by
  unfold loadGrant; (repeat' split) <;> simp

@[simp] theorem serveGrantLoad_writes (turn : Bool) (frame : Frame) (key allowance start stop : Nat) (wrapped : List Byte) (s : State)
    (hq : s.queue.writes.length ≤ 8) (ht : turn = true → s.queue.writes.length < 8) : (serveGrantLoad turn frame key allowance start stop wrapped s).queue.writes.length ≤ 8 := by
  unfold serveGrantLoad; (repeat' split) <;> simp_all
  exact whenRoom_writes hq ht fun u hu => by simp; omega

@[simp] theorem serveGrantPurge_writes (turn : Bool) (frame : Frame) (slot : Nat) (s : State)
    (hq : s.queue.writes.length ≤ 8) (ht : turn = true → s.queue.writes.length < 8) : (serveGrantPurge turn frame slot s).queue.writes.length ≤ 8 := by
  unfold serveGrantPurge; (repeat' split) <;> simp_all
  all_goals exact whenRoom_writes hq ht fun u hu => by simp; omega

@[simp] theorem changeGrant_writes (slot : Nat) (g : Grant) (target : GrantState) (s : State) :
    (changeGrant slot g target s).queue.writes.length = s.queue.writes.length + 1 := by
  unfold changeGrant; (repeat' split) <;> simp

@[simp] theorem judgeGrants_writes (n : Nat) (turn : Bool) (s : State)
    (hq : s.queue.writes.length ≤ 8) (ht : turn = true → s.queue.writes.length < 8) : (judgeGrants n turn s).queue.writes.length ≤ 8 := by
  induction n generalizing turn s with
  | zero => simpa [judgeGrants] using hq
  | succ n ih =>
    simp only [judgeGrants]; split
    · exact hq
    · split
      · exact ih _ _ (by simpa using hq) (by simpa using ht)
      · split
        · exact ih _ _ (by simpa using hq) (by simpa using ht)
        · split
          · rename_i hr
            have h8 : s.queue.writes.length < 8 := by
              rcases Bool.or_eq_true _ _ ▸ hr with hr | hr
              · exact ht hr
              · exact writes_of_room hr
            exact ih _ _ (by simp; omega) (by simp)
          · simpa using hq

@[simp] theorem beginCheck_writes (s : State)
    (hq : s.queue.writes.length ≤ 8) : (beginCheck s).queue.writes.length ≤ 8 := by
  unfold beginCheck; (repeat' split) <;> (simp (maxDischargeDepth := 12) (implicitDefEqProofs := false) [hq])

@[simp] theorem secondPasses_writes (s : State)
    (hq : s.queue.writes.length ≤ 8) : (secondPasses s).queue.writes.length ≤ 8 := by
  unfold secondPasses; (repeat' split) <;> (simp (maxDischargeDepth := 12) (implicitDefEqProofs := false) [hq])

@[simp] theorem performCount_writes (c : Count) (s : State) :
    (performCount c s).queue.writes.length = s.queue.writes.length + 1 := by
  unfold performCount; (repeat' split) <;> simp

@[simp] theorem countShowing_writes (s : State)
    (hq : s.queue.writes.length ≤ 8) : (countShowing s).queue.writes.length ≤ 8 := by
  unfold countShowing; dsimp only; split
  · exact hq
  · split
    · exact hq
    · split
      · rename_i hr
        have := writes_of_room hr
        simp at this ⊢; omega
      · simpa using hq

@[simp] theorem serveClockTrim_writes (turn : Bool) (frame : Frame) (t : Int) (s : State)
    (hq : s.queue.writes.length ≤ 8) (ht : turn = true → s.queue.writes.length < 8) : (serveClockTrim turn frame t s).queue.writes.length ≤ 8 := by
  unfold serveClockTrim; exact whenRoom_writes hq ht fun u hu => by simp [hu]

@[simp] theorem endShowing_writes (outcome : ShowingOutcome) (s : State)
    (hq : s.queue.writes.length ≤ 8) : (endShowing outcome s).queue.writes.length ≤ 8 := by
  unfold endShowing; (repeat' split) <;> (simp (maxDischargeDepth := 12) (implicitDefEqProofs := false) [hq])

@[simp] theorem endShow_writes (outcome : ShowOutcome) (s : State)
    (hq : s.queue.writes.length ≤ 8) : (endShow outcome s).queue.writes.length ≤ 8 := by
  unfold endShow; (repeat' split) <;> (simp (maxDischargeDepth := 12) (implicitDefEqProofs := false) [hq])

@[simp] theorem takeUpWalk_writes (stop : WalkEnd) (s : State)
    (hq : s.queue.writes.length ≤ 8) : (takeUpWalk stop s).queue.writes.length ≤ 8 := by
  unfold takeUpWalk; (repeat' split) <;> (simp (maxDischargeDepth := 12) (implicitDefEqProofs := false) [hq])

@[simp] theorem blackGap_writes (start : Pos) (s : State)
    (hq : s.queue.writes.length ≤ 8) : (blackGap start s).queue.writes.length ≤ 8 := by
  have h8 := hq
  unfold blackGap; dsimp only
  have hf := actWalk_frame start (enterRunning (updateSeq (fun q => { q with current := .none, path := none, pauseTimer := none }) s))
  generalize actWalk start (enterRunning (updateSeq (fun q => { q with current := .none, path := none, pauseTimer := none }) s)) = r at hf ⊢
  obtain ⟨v, u⟩ := r
  cases v <;> simp_all

@[simp] theorem fireCount_writes (n : Nat) (s : State)
    (hq : s.queue.writes.length ≤ 8) : (fireCount n s).queue.writes.length ≤ 8 := by
  induction n generalizing s with
  | zero => simpa [fireCount] using hq
  | succ n ih =>
    unfold fireCount; split
    · exact ih _ (countShowing_writes _ (by simpa using hq))
    · exact hq

@[simp] theorem judgeUnits_writes (s : State)
    (hq : s.queue.writes.length ≤ 8) : (judgeUnits s).queue.writes.length ≤ 8 := by
  unfold judgeUnits; (repeat' split) <;> (simp (maxDischargeDepth := 12) (implicitDefEqProofs := false) [hq])

@[simp] theorem beginShowing_writes (p : Play) (g : Option (Nat × Grant)) (s : State)
    (hq : s.queue.writes.length ≤ 8) : (beginShowing p g s).queue.writes.length ≤ 8 := by
  unfold beginShowing; (repeat' split) <;> (simp (maxDischargeDepth := 12) (implicitDefEqProofs := false) [hq])

@[simp] theorem takeOver_writes (p : Play) (s : State)
    (hq : s.queue.writes.length ≤ 8) : (takeOver p s).queue.writes.length ≤ 8 := by
  have h8 := hq
  unfold takeOver
  have hf := recheckPlay_frame p s
  generalize recheckPlay p s = r at hf ⊢
  obtain ⟨v, u⟩ := r
  cases v <;> simp_all; (try (split <;> simp_all))

@[simp] theorem endCurrent_writes (outcome : Showing → ShowingOutcome) (s : State)
    (hq : s.queue.writes.length ≤ 8) : (endCurrent outcome s).queue.writes.length ≤ 8 := by
  simp only [endCurrent]; (repeat' split) <;> (simp (maxDischargeDepth := 12) (implicitDefEqProofs := false) [hq])

@[simp] theorem boundaryTick_writes (s : State)
    (hq : s.queue.writes.length ≤ 8) : (boundaryTick s).queue.writes.length ≤ 8 := by
  simp only [boundaryTick]; (repeat' split) <;> (simp (maxDischargeDepth := 12) (implicitDefEqProofs := false) [hq])

@[simp] theorem skipBoundary_writes (s : State)
    (hq : s.queue.writes.length ≤ 8) : (skipBoundary s).queue.writes.length ≤ 8 := by
  simp only [skipBoundary]; (repeat' split) <;> (simp (maxDischargeDepth := 12) (implicitDefEqProofs := false) [hq])

@[simp] theorem leaveWait_writes (s : State)
    (hq : s.queue.writes.length ≤ 8) : (leaveWait s).queue.writes.length ≤ 8 := by
  simp only [leaveWait]; (repeat' split) <;> (simp (maxDischargeDepth := 12) (implicitDefEqProofs := false) [hq])

@[simp] theorem leaveLogFull_writes (s : State)
    (hq : s.queue.writes.length ≤ 8) : (leaveLogFull s).queue.writes.length ≤ 8 := by
  unfold leaveLogFull; dsimp only
  split
  · exact hq
  · rename_i p _
    have hf := recheckPlay_frame p s
    generalize recheckPlay p s = r at hf ⊢
    obtain ⟨v, u⟩ := r
    have hu : u.queue.writes.length ≤ 8 := by
      have hu : u.queue = s.queue := hf.2.2.2.2.2.1
      rw [hu]; exact hq
    clear hf
    cases v <;> simp (maxDischargeDepth := 12) (implicitDefEqProofs := false) [hu]

@[simp] theorem expirePause_writes (s : State)
    (hq : s.queue.writes.length ≤ 8) : (expirePause s).queue.writes.length ≤ 8 := by
  unfold expirePause; (repeat' split) <;> (simp (maxDischargeDepth := 12) (implicitDefEqProofs := false) [hq])

@[simp] theorem checkRepeats_writes (s : State)
    (hq : s.queue.writes.length ≤ 8) : (checkRepeats s).queue.writes.length ≤ 8 := by
  unfold checkRepeats; (repeat' split) <;> (simp (maxDischargeDepth := 12) (implicitDefEqProofs := false) [hq])

@[simp] theorem loseLink_writes (s : State)
    (hq : s.queue.writes.length ≤ 8) : (loseLink s).queue.writes.length ≤ 8 := by
  unfold loseLink; (repeat' split) <;> (simp (maxDischargeDepth := 12) (implicitDefEqProofs := false) [hq])

@[simp] theorem takeOverIfReady_writes (s : State)
    (hq : s.queue.writes.length ≤ 8) : (takeOverIfReady s).queue.writes.length ≤ 8 := by
  unfold takeOverIfReady; (repeat' split) <;> (simp (maxDischargeDepth := 12) (implicitDefEqProofs := false) [hq])

@[simp] theorem runTick_writes (s : State)
    (hq : s.queue.writes.length ≤ 8) : (runTick s).queue.writes.length ≤ 8 := by
  unfold runTick; (repeat' split) <;> (simp (maxDischargeDepth := 12) (implicitDefEqProofs := false) [hq])

@[simp] theorem sequencerTick_writes (s : State)
    (hq : s.queue.writes.length ≤ 8) : (sequencerTick s).queue.writes.length ≤ 8 := by
  unfold sequencerTick; (repeat' split) <;> (simp (maxDischargeDepth := 12) (implicitDefEqProofs := false) [hq])

@[simp] theorem frameTick_writes (s : State)
    (hq : s.queue.writes.length ≤ 8) : (frameTick s).queue.writes.length ≤ 8 := by
  unfold frameTick; (repeat' split) <;> (simp (maxDischargeDepth := 12) (implicitDefEqProofs := false) [hq])

@[simp] theorem clockTick_writes (s : State)
    (hq : s.queue.writes.length ≤ 8) : (clockTick s).queue.writes.length ≤ 8 := by
  unfold clockTick; (repeat' split) <;> (simp (maxDischargeDepth := 12) (implicitDefEqProofs := false) [hq])

@[simp] theorem syncEdge_writes (rising : Bool) (s : State)
    (hq : s.queue.writes.length ≤ 8) : (syncEdge rising s).queue.writes.length ≤ 8 := by
  simp only [syncEdge]; (repeat' split) <;> (simp (maxDischargeDepth := 12) (implicitDefEqProofs := false) [hq])

@[simp] theorem loseSync_writes (s : State)
    (hq : s.queue.writes.length ≤ 8) : (loseSync s).queue.writes.length ≤ 8 := by
  unfold loseSync; (repeat' split) <;> (simp (maxDischargeDepth := 12) (implicitDefEqProofs := false) [hq])

@[simp] theorem generatorTicks_writes (s : State)
    (hq : s.queue.writes.length ≤ 8) : (generatorTicks s).queue.writes.length ≤ 8 := by
  unfold generatorTicks; (repeat' split) <;> (simp (maxDischargeDepth := 12) (implicitDefEqProofs := false) [hq])

@[simp] theorem concludeCheck_writes (outcome : CheckOutcome) (answered : Option Nat) (s : State)
    (hq : s.queue.writes.length ≤ 8) : (concludeCheck outcome answered s).queue.writes.length ≤ 8 := by
  simp only [concludeCheck]; (repeat' split) <;> (simp (maxDischargeDepth := 12) (implicitDefEqProofs := false) [hq])

@[simp] theorem serveShowStart_writes (frame : Frame) (s : State)
    (hq : s.queue.writes.length ≤ 8) : (serveShowStart frame s).queue.writes.length ≤ 8 := by
  simp only [serveShowStart]; (repeat' split) <;> (simp (maxDischargeDepth := 12) (implicitDefEqProofs := false) [hq])

theorem tryGo_writes {s t : State} (h : tryGo s = .ok t) (hs : s.queue.writes.length ≤ 8) :
    t.queue.writes.length ≤ 8 := by
  unfold tryGo at h; (repeat' split at h) <;> simp_all <;> (subst h; simp [hs])

theorem trySkip_writes {s t : State} (h : trySkip s = .ok t) (hs : s.queue.writes.length ≤ 8) :
    t.queue.writes.length ≤ 8 := by
  unfold trySkip at h; (repeat' split at h) <;> simp_all <;> (subst h; simp [hs])

theorem tryStop_writes {s t : State} (h : tryStop s = .ok t) (hs : s.queue.writes.length ≤ 8) :
    t.queue.writes.length ≤ 8 := by
  unfold tryStop at h; (repeat' split at h) <;> simp_all <;> (subst h; simp [hs])

@[simp] theorem servePauseLimit_writes (frame : Frame) (seconds : Nat) (s : State)
    (hq : s.queue.writes.length ≤ 8) : (servePauseLimit frame seconds s).queue.writes.length ≤ 8 := by
  simp only [servePauseLimit]; (repeat' split) <;> (simp (maxDischargeDepth := 12) (implicitDefEqProofs := false) [hq])

@[simp] theorem revokeGrant_writes (slot : Nat) (g : Grant) (s : State)
    (hq : s.queue.writes.length < 8) : (revokeGrant slot g s).queue.writes.length ≤ 8 := by
  unfold revokeGrant; dsimp only; split <;> simp <;> omega

@[simp] theorem serveGrantRevoke_writes (turn : Bool) (frame : Frame) (slot : Nat) (s : State)
    (hq : s.queue.writes.length ≤ 8) (ht : turn = true → s.queue.writes.length < 8) : (serveGrantRevoke turn frame slot s).queue.writes.length ≤ 8 := by
  unfold serveGrantRevoke; (repeat' split) <;> simp_all
  all_goals exact whenRoom_writes hq ht fun u hu => by simp [hu]

@[simp] theorem actFunction_writes (n : Nat) (l : Line) (s : State)
    (hq : s.queue.writes.length ≤ 8) : (actFunction n l s).queue.writes.length ≤ 8 := by
  unfold actFunction; split <;> (try (simpa using hq))
  · simp only [cutGather_frame]
    unfold orElseSame; split
    · rename_i t ht; exact tryGo_writes ht hq
    · exact hq
  · unfold tryPause; split <;> simpa [orElseSame] using hq

@[simp] theorem takeOnset_writes (n : Nat) (s : State)
    (hq : s.queue.writes.length ≤ 8) : (takeOnset n s).queue.writes.length ≤ 8 := by
  unfold takeOnset; (repeat' split) <;> (simp (maxDischargeDepth := 12) (implicitDefEqProofs := false) [hq])

@[simp] theorem takeLevel_writes (n : Nat) (high : Bool) (s : State)
    (hq : s.queue.writes.length ≤ 8) : (takeLevel n high s).queue.writes.length ≤ 8 := by
  unfold takeLevel; (repeat' split) <;> (simp (maxDischargeDepth := 12) (implicitDefEqProofs := false) [hq])

@[simp] theorem changePin_writes (n : Nat) (high : Bool) (s : State)
    (hq : s.queue.writes.length ≤ 8) : (changePin n high s).queue.writes.length ≤ 8 := by
  unfold changePin; (repeat' split) <;> (simp (maxDischargeDepth := 12) (implicitDefEqProofs := false) [hq])

@[simp] theorem setInput_writes (n : Nat) (c : LineCondition) (debounce : Nat) (f : LineFunction) (s : State)
    (hq : s.queue.writes.length ≤ 8) : (setInput n c debounce f s).queue.writes.length ≤ 8 := by
  simp only [setInput]; (repeat' split) <;> (simp (maxDischargeDepth := 12) (implicitDefEqProofs := false) [hq])

@[simp] theorem serveLineSetup_writes (frame : Frame) (line : Nat) (config : LineRequest) (s : State)
    (hq : s.queue.writes.length ≤ 8) : (serveLineSetup frame line config s).queue.writes.length ≤ 8 := by
  unfold serveLineSetup; (repeat' split) <;> (simp (maxDischargeDepth := 12) (implicitDefEqProofs := false) [hq])

@[simp] theorem pairProjector_writes (projector : Nat) (s : State) :
    (pairProjector projector s).queue.writes.length = s.queue.writes.length + 1 := by
  unfold pairProjector; (repeat' split) <;> simp

@[simp] theorem servePair_writes (turn : Bool) (frame : Frame) (projector : Nat) (s : State)
    (hq : s.queue.writes.length ≤ 8) (ht : turn = true → s.queue.writes.length < 8) : (servePair turn frame projector s).queue.writes.length ≤ 8 := by
  unfold servePair; (repeat' split) <;> simp_all
  all_goals exact whenRoom_writes hq ht fun u hu => by simp; omega

@[simp] theorem interruptFilling_writes (s : State)
    (hq : s.queue.writes.length ≤ 8) : (interruptFilling s).queue.writes.length ≤ 8 := by
  unfold interruptFilling
  exact foldl_writes (fun u a hu => queueTrack_writes _ _ _ _ (by simpa using hu)) hq

@[simp] theorem unsettleCompositions_writes (s : State)
    (hq : s.queue.writes.length ≤ 8) : (unsettleCompositions s).queue.writes.length ≤ 8 := by
  unfold unsettleCompositions
  exact foldl_writes (fun u a hu => queueComposition_writes _ _ _ _ _ hu) hq

@[simp] theorem fullReset_writes (reported clockRan : Nat) (landed : Bool) (s : State) :
    (fullReset reported clockRan landed s).queue.writes.length ≤ 8 := by
  unfold fullReset; simp only [beginStartUp_frame]
  refine startLog_writes _ (testBudget_writes _ _ (unsettleCompositions_writes _ (interruptFilling_writes _ ?_)) (by simp))
  simp [resetUnits, State.reset]

@[simp] theorem resetAfterReply_writes (s : State) : (resetAfterReply s).queue.writes.length ≤ 8 := by
  unfold resetAfterReply; exact fullReset_writes _ _ _ _

@[simp] theorem showResetSequencer_writes (s : State)
    (hq : s.queue.writes.length ≤ 8) : (showResetSequencer s).queue.writes.length ≤ 8 := by
  unfold showResetSequencer; (repeat' split) <;> (simp (maxDischargeDepth := 12) (implicitDefEqProofs := false) [hq])

@[simp] theorem showReset_writes (s : State)
    (hq : s.queue.writes.length ≤ 8) : (showReset s).queue.writes.length ≤ 8 := by
  unfold showReset; (repeat' split) <;> (simp (maxDischargeDepth := 12) (implicitDefEqProofs := false) [hq])

@[simp] theorem completeOutgoing_writes (s : State)
    (hq : s.queue.writes.length ≤ 8) : (completeOutgoing s).queue.writes.length ≤ 8 := by
  unfold completeOutgoing; dsimp only; split
  · exact hq
  · simpa using hq
  · split
    · simp
    · simpa using hq

@[simp] theorem serveResetShow_writes (frame : Frame) (s : State)
    (hq : s.queue.writes.length ≤ 8) : (serveResetShow frame s).queue.writes.length ≤ 8 := by
  unfold serveResetShow; (repeat' split) <;> (simp (maxDischargeDepth := 12) (implicitDefEqProofs := false) [hq])

@[simp] theorem serve_writes (turn : Bool) (c : Instr) (s : State)
    (hq : s.queue.writes.length ≤ 8) (ht : turn = true → s.queue.writes.length < 8) : (serve turn c s).queue.writes.length ≤ 8 := by
  cases c with
  | trackDelete f x => simp only [serve]; exact serveTrackDelete_writes _ _ _ _ hq ht
  | compositionDelete f x => simp only [serve]; exact serveCompositionDelete_writes _ _ _ _ hq ht
  | clockTrim f x => simp only [serve]; exact serveClockTrim_writes _ _ _ _ hq ht
  | grantLoad f a b c d e => simp only [serve]; exact serveGrantLoad_writes _ _ _ _ _ _ _ _ hq ht
  | grantRevoke f x => simp only [serve]; exact serveGrantRevoke_writes _ _ _ _ hq ht
  | grantPurge f x => simp only [serve]; exact serveGrantPurge_writes _ _ _ _ hq ht
  | pair f x => simp only [serve]; exact servePair_writes _ _ _ _ hq ht
  | go f =>
    simp only [serve]; unfold answerTry; split
    · rename_i t he; simpa using tryGo_writes he hq
    · simpa using hq
  | skip f =>
    simp only [serve]; unfold answerTry; split
    · rename_i t he; simpa using trySkip_writes he hq
    · simpa using hq
  | stop f =>
    simp only [serve]; unfold answerTry; split
    · rename_i t he; simpa using tryStop_writes he hq
    · simpa using hq
  | pause f =>
    simp only [serve]; unfold answerTry; split
    · rename_i t he; simpa [tryPause_frame he] using hq
    · simpa using hq
  | resume f =>
    simp only [serve]; unfold answerTry; split
    · rename_i t he; simpa [tryResume_frame he] using hq
    · simpa using hq
  | _ => simp (maxDischargeDepth := 12) (implicitDefEqProofs := false) [serve, hq]

@[simp] theorem serveDeferred_writes (n : Nat) (s : State)
    (hq : s.queue.writes.length ≤ 8) : (serveDeferred n s).queue.writes.length ≤ 8 := by
  induction n generalizing s with
  | zero => simpa [serveDeferred] using hq
  | succ n ih =>
    unfold serveDeferred; split
    · exact hq
    · exact ih _ (serve_writes _ _ _ (by simpa using hq) (by simp))

@[simp] theorem completeWrite_writes (ok : Bool) (s : State)
    (hq : s.queue.writes.length ≤ 8) : (completeWrite ok s).queue.writes.length ≤ 8 := by
  unfold completeWrite; split
  · exact hq
  · rename_i w rest HH
    have : rest.length ≤ 8 := by rw [HH] at hq; simp at hq; omega
    dsimp only; split <;> simpa using this

@[simp] theorem serveWaiter_writes (w : Waiter) (s : State)
    (hq : s.queue.writes.length < 8) : (serveWaiter w s).queue.writes.length ≤ 8 := by
  have h8 : s.queue.writes.length ≤ 8 := by omega
  unfold serveWaiter; split
  · exact serve_writes _ _ _ h8 fun _ => hq
  · simp; omega
  · have := takeComposition_writes; dsimp only; split <;> simp [this _ _ _ hq]
  · simp; omega
  · exact judgeGrants_writes _ _ _ h8 fun _ => hq
  · exact testBudget_writes _ _ h8 fun _ => hq
  · exact carryLog_writes _ (queueLogHead_writes _ hq)

@[simp] theorem queueWaiting_writes (s : State)
    (hq : s.queue.writes.length ≤ 8) : (queueWaiting s).queue.writes.length ≤ 8 := by
  unfold queueWaiting; split
  · rename_i hr
    have hr : s.queue.writes.length < 8 := by simp [State.waiterReady] at hr; exact hr.1
    split
    · exact hq
    · exact pumpSegment_writes _ (serveWaiter_writes _ _ hr)
  · exact hq

end Machine
end Sys2Proof
end

