-- ==== Sys2Proof/Tests/Slice0.lean ====
section
/-!
SUPPORT. Tests: ill-formed commands that WellFormed refuses, frames and segments written out byte by byte, the worked
examples of the manual, and for each statement states and operands that meet its hypotheses.
-/
namespace Sys2Proof
namespace Tests
open Machine

-- Each test waits for the kernel, so they are taken one at a time: side by side they start a thread each.
set_option Elab.async false

/-! ### Small states -/

/-- A request frame with tag 7. -/
def f0 : Frame := { tag := 7#8 }

/-- The part after start-up, idle, over a store of 8,192 blocks. -/
def quiet : State :=
  { State.reset with
    startUp := false
    store := { reported := 8192, size := 8192, blocks := [] }
    free := { list := [{ first := 512, length := 7680 }], stranded := 0, sweep := none } }

/-- `n` outstanding requests, taken by their owners, with tags from 1. -/
def slots (n : Nat) : List RequestSlot :=
  (List.range n).map fun k => { tag := BitVec.ofNat 8 (k + 1), kind := 12, phase := .waiting }

/-- The part with a change to its control port. -/
def withPort (f : ControlPort → ControlPort) : State := { quiet with port := f quiet.port }

/-- An immediate reply. -/
def aReply (k : Nat) : Reply :=
  { tag := BitVec.ofNat 8 k, kind := 12, status := .busy, reason := none, body := [], immediate := true }

/-- A notice record. -/
def record0 : NoticeRecord := { time := 5, composition := none, frame := 9, detail := [1#8] }

/-- The part with some notice causes pending. -/
def noticed (pending : List Nat) (mask : Nat) : State :=
  { quiet with notices := { quiet.notices with
      causes := mapCauses (fun k c => if pending.contains k then { c with pending := true, count := 2, latest := some record0 }
        else c) quiet.notices.causes
      mask := mask } }

/-- READY tracks of package 9, of 24 frames at 24 frames per second: track 2 is a picture of 2 blocks a frame, track 3 a
sound of 2 channels, track 4 a subtitle. -/
def picture0 : TrackEntry :=
  { status := .ready, package := 9, number := 1,
    header := { info := .picture 24 24 2, length := 48, key := none }, extentCount := 1 }
def sound0 : TrackEntry :=
  { status := .ready, package := 9, number := 2,
    header := { info := .sound 2 1 48000, length := 3, key := none }, extentCount := 1 }
def subtitle0 : TrackEntry :=
  { status := .ready, package := 9, number := 3,
    header := { info := .subtitle 20, length := 1, key := none }, extentCount := 1 }

/-- A composition of one reel of those tracks. -/
def reel0 : Reel :=
  { picture := some 2, entry := 0, duration := 24, sound := some 3, subtitles := [some 4, none, none, none] }
def composition0 : Composition :=
  { incomplete := none, package := 9, tag := List.replicate 16 0#8, rate := 24, key := none, total := 24,
    countPoint := some 12, shown := 5, reels := [reel0] }

/-- The part with those tracks and that composition in its tables and in nonvolatile memory. -/
def stocked : State :=
  { quiet with
    catalogue := {
      tracks := [(2, picture0), (3, sound0), (4, subtitle0)]
      extents := [(2, [{ block := 0, store := 512, length := 48 }]), (3, [{ block := 0, store := 600, length := 3 }]),
                  (4, [{ block := 0, store := 700, length := 1 }])]
      compositions := [(1, composition0)]
      awaiting := [] }
    nvm := { quiet.nvm with
      tracks := [(2, picture0), (3, sound0), (4, subtitle0)], compositions := [(1, composition0)] }
    store := { reported := 8192, size := 8192, blocks := [
      (2, .map { track := 2, package := 9, number := 1, header := picture0.header, extents := [{ block := 0, store := 512, length := 48 }] }),
      (3, .map { track := 3, package := 9, number := 2, header := sound0.header, extents := [{ block := 0, store := 600, length := 3 }] }),
      (4, .map { track := 4, package := 9, number := 3, header := subtitle0.header, extents := [{ block := 0, store := 700, length := 1 }] }),
      (600, .data [1#8, 2#8, 3#8])] }
    free := { list := [{ first := 560, length := 40 }, { first := 603, length := 97 }, { first := 701, length := 7491 }],
              stranded := 0, sweep := none } }

/-- The header record of a picture track of 24 frames of 2 blocks, by R27 and R198. -/
def headerBytes : List Byte :=
  [0#8, 0#8, 0#8, 0#8, 48#8, 0#8, 0#8, 0#8, 24#8, 2#8, 0#8, 0#8, 0#8, 0#8, 0#8, 0#8,
   24#8, 0#8, 0#8, 0#8, 0#8, 0#8, 0#8, 0#8]

/-- A segment of package 9 for track number 1. -/
def segment (index : Nat) (payload : List Byte) : Segment :=
  { package := 9, index := index, length := payload.length, check := payloadCheck payload, track := 1,
    payload := payload }

/-- The open package 9 with one track slot for track number 1, which is track 2. -/
def ingesting (mode : SlotMode) (status : TrackStatus) (next : Nat) : State :=
  { stocked with
    catalogue := { stocked.catalogue with
      tracks := stocked.catalogue.tracks.put 2 { picture0 with status := status }, compositions := [] }
    ingest := { stocked.ingest with
      state := .opened, package := some (9, .run)
      slots := [none, some { number := 1, mode := mode, track := 2, length := 48, next := next }, none, none] } }

/-- A transfer of a client. -/
def transfer (client : Client) (retry : Bool) : Transfer :=
  { request := { client := client, writes := decide (client = .ingest), first := 2, count := 1, track := some 2 },
    retry := retry, dropped := false }

/-- The state with a current transfer. -/
def moving (t : Transfer) (s : State) : State := { s with arbiter := { s.arbiter with current := some t } }

/-- A gather of the last block of track 2. -/
def gather0 : Gather := { track := 2, block := 47, store := 559, blocks := [[1#8, 2#8, 0#8]], room := 8 }

/-- A write queue of 7 writes: there is room for one more. -/
def almostFull : WriteQueue :=
  { writes := List.replicate 7 { write := .paired 3, forCheck := false }, waiters := [], faults := 0 }

/-- A showing of the composition, at frame 4. -/
def play0 : Play :=
  { pos := { list := 0, entry := 0 }, id := 1, composition := composition0, firstReel := 1, lastReel := 1,
    firstFrame := 0, lastFrame := 23, cues := [] }
def showing0 : Showing :=
  { play := play0, record := 5, cues := [], nextCue := 0, endFrame := 23, endReel := 1, revoked := false,
    presented := 3, repeated := 1 }
def logged0 : LogRecord :=
  { sequence := 5, outcome := none, mark := false,
    showing := some { composition := 1, package := 9, tag := List.replicate 16 0#8, grant := some (0, 33), start := 10,
                      stop := none, firstReel := 1, lastReel := 1, presented := 0, repeated := 0, counted := none } }
def grant0 : Grant :=
  { key := 33, material := 1, start := 0, stop := 1000, allowance := 2, shows := 1, state := .active, loaded := 0 }
def playing : State :=
  { stocked with
    seq := { stocked.seq with
      state := .running, pos := some { list := 0, entry := 0 }, current := .play showing0
      lists := [.play 1 none none []] :: stocked.seq.lists.tail }
    time := { stocked.time with frame := 4, reel := 1, reelFrame := 4 }
    keys := { stocked.keys with grants := [(0, grant0)], bound := some 0, clock := 20 }
    log := { stocked.log with records := [logged0] } }

/-- The state after a command. -/
def after (c : Instr) (s : State) : State :=
  match exec c s with
  | .next t => t
  | _ => s

/-! ### States with one unit changed -/

def withQueue (n : Nat) (waiters : List Waiter) (s : State) : State :=
  { s with queue := {
      writes := List.replicate n { write := .paired 3, forCheck := false }, waiters := waiters, faults := 0 } }
def withIngest (f : Ingest → Ingest) (s : State) : State := { s with ingest := f s.ingest }
def withCatalogue (f : Catalogue → Catalogue) (s : State) : State := { s with catalogue := f s.catalogue }
def withFree (f : FreeSpace → FreeSpace) (s : State) : State := { s with free := f s.free }
def withCache (f : Cache → Cache) (s : State) : State := { s with cache := f s.cache }
def withKeys (f : Keys → Keys) (s : State) : State := { s with keys := f s.keys }
def withSeq (f : Sequencer → Sequencer) (s : State) : State := { s with seq := f s.seq }
def withTime (f : Timeline → Timeline) (s : State) : State := { s with time := f s.time }
def withFrames (f : FrameSide → FrameSide) (s : State) : State := { s with frames := f s.frames }
def withLink (f : LinkSide → LinkSide) (s : State) : State := { s with link := f s.link }
def withSound (f : Sound → Sound) (s : State) : State := { s with sound := f s.sound }
def withSubs (f : Subtitles → Subtitles) (s : State) : State := { s with subs := f s.subs }
def withLog (l : List LogRecord) (s : State) : State := { s with log := { s.log with records := l } }
def withLine (n : Nat) (l : Line) (s : State) : State := { s with lines := replaceAt s.lines n l }

/-- Replies and notices that are sent. -/
def notice0 : NoticeFrame := { cause := 3, count := 1, record := record0 }
def resetReply : Reply :=
  { tag := 7#8, kind := 52, status := .ok, reason := none, body := [], immediate := false }

/-- Slots, gathers and the engine with its slots free. -/
def slot0 (mode : SlotMode) (next : Nat) : TrackSlot :=
  { number := 1, mode := mode, track := 2, length := 48, next := next }
def gather1 : Gather := { gather0 with block := 46, store := 558 }
def opened : State := withIngest (fun i => { i with slots := [none, none, none, none] }) (ingesting .held (.damaged .gap) 0)

/-- A link check that waits for its answer. -/
def checking (state : LinkState) : State :=
  withLink (fun l => { l with
    state := state, paired := some 77, requester := .checking, challenge := 255, answerTimer := some 6 }) quiet

/-- A grant with all its shows counted. -/
def spent0 : Grant := { grant0 with shows := 2, state := .spent }

/-- The line 0 holds an interlock. -/
def interlock (s : State) : State := withLine 0 { Line.reset true with holding := true } s

/-- The state a step leads to. -/
def stepped (s : State) : State :=
  match step s with
  | .next t => t
  | _ => s

/-- Sweeps of tracks. -/
def sweep0 (kind : SweepKind) (toRead : List Nat) : Sweep := { kind := kind, toRead := toRead, read := 1, taken := [] }
def map0 : MapBlock :=
  { track := 2, package := 9, number := 1, header := picture0.header, extents := [{ block := 0, store := 512, length := 48 }] }

/-- Jobs, fills and banks of the readers. -/
def job0 : FrameJob :=
  { prepared := false, track := 2, next := 20, stop := 20, pieces := [],
    transfers := [{ first := 512, length := 8 }, { first := 520, length := 8 }], blocks := [] }
def job1 : FrameJob := { job0 with transfers := [{ first := 520, length := 8 }] }
def entry0 : CacheEntry :=
  { track := 2, index := 0, block := 0, count := 48, store := 512, kind := .picture, key := none }
def ask0 : Ask := { reader := .picture, kind := .sequencerPreparation, block := 47, live := true }
def fill0 : Fill := { track := 2, running := false, stale := false, asks := [ask0] }
def portion0 : Portion := { prepared := false, frame := 5, cells := [.awaited 1 0, .silence] }
def soundJob0 : SoundJob := { track := 3, block := 0, count := 1 }
def bank0 : Bank := { Bank.free with state := .loading, reel := 1 }
def stream0 : Stream := { Stream.reset with banks := [Bank.free, bank0] }
def loader0 : Loader :=
  { stream := 0, bank := 1, track := 4, block := 0, total := 1, left := 20, buffer := [], ended := false, count := 1 }
def cue0 : Cue :=
  { number := 1, inTime := 0, outTime := 500, bottom := true, offset := 0, italic := false, bold := false,
    lines := [[65#8]] }
def entry4 : CacheEntry :=
  { track := 4, index := 0, block := 0, count := 1, store := 700, kind := .subtitle, key := none }
def cached4 : State :=
  withCache (fun c => { c with entries := [(0, entry4)] })
    (withSubs (fun x => { x with streams := replaceAt x.streams 0 stream0 }) playing)

/-- Entries and states of the sequencer. -/
def armed (entries : List Entry) : State :=
  withSeq (fun q => { q with state := .armed, pos := some { list := 0, entry := 0 }, lists := entries :: q.lists.tail })
    stocked
def running (current : Current) (prepared : Option Prepared) (path : Option RecordedPath) : State :=
  withSeq (fun q => { q with state := .running, current := current, prepared := prepared, path := path }) playing
def waiting (prepared : Option Prepared) : State :=
  withSeq (fun q => { q with
    state := .waiting, current := .wait, waitReason := some .wait, waitTimer := some 7, waitLimit := some 3,
    prepared := prepared, path := some { steps := [], stack := [] } }) playing

/-- Captures and log records. -/
def captures (n : Nat) : List Capture :=
  List.replicate n { line := none, composition := none, reel := 0, reelFrame := 0, frame := 0,
                     timecode := { hours := 0, minutes := 0, seconds := 0, frames := 0 }, time := 5 }
def closedRecord (n : Nat) (mark : Bool) : LogRecord :=
  { logged0 with sequence := n, outcome := some .complete, mark := mark }
def routes0 : List Route := List.replicate 24 { source := some 23, gain := 8192 }
def line0 : Line := { Line.reset false with debounce := 5 }
/-- The description of composition 1: one reel. -/
def numbers0 : ReelNumbers :=
  { picture := 1, entry := 0, duration := 24, sound := some 2, subtitles := [some 3, none, none, none] }
def closing0 (awaiting : Table (List ReelNumbers)) : State :=
  withIngest (fun i => { i with state := .closing, package := some (9, .run), slots := [none, none, none, none] })
    (withCatalogue (fun c => { c with awaiting := awaiting }) stocked)
def description0 : List Byte :=
  List.replicate 16 65#8 ++ [24#8, 1#8, 0#8, 0#8, 0#8, 0#8, 0#8, 0#8] ++
    [3#8, 1#8, 2#8, 3#8, 0#8, 0#8, 0#8, 0#8, 0#8, 0#8, 0#8, 0#8, 24#8, 0#8, 0#8, 0#8]
def parsed0 : Description := (parseDescription description0 40).getD { tag := [], rate := 0, countPoint := none, reels := [] }
def descHeader : TrackHeader := { info := .description, length := 48, key := none }
def described : State :=
  withQueue 6 [] (moving (transfer .ingest true)
    (withIngest (fun i => { i with writing := some (.data { gather0 with blocks := [description0] } false) })
      (withCatalogue (fun c => { c with
          tracks := c.tracks.put 2 { picture0 with status := .filling, header := descHeader } })
        (ingesting .filling .filling 49))))
def withUnwritten (l : List Nat) (s : State) : State := { s with log := { s.log with unwritten := l } }

/-- A prepared PLAY in PREROLL, one that is skipped in a black gap, and a scrambled showing that loses its link. -/
def preroll : State :=
  withSeq (fun q => { q with state := .preroll, current := .none, prepared := some (.play play0) }) playing
def skipped0 : State :=
  withSeq (fun q => { q with lists := [.play 1 none none [], .black 7] :: q.lists.tail })
    (withCatalogue (fun c => { c with compositions := [] }) preroll)
def scrambledShowing : Showing := { showing0 with play := { play0 with composition := { composition0 with key := some 33 } } }
def lost0 : State :=
  withSeq (fun q => { q with current := .play scrambledShowing })
    (withFrames (fun x => { x with
        sending := some (.frame 5 { frame := 3, blocks := [] }), waiting := some (.frame 5 { frame := 4, blocks := [] })
        travelling := [.clear 1 2 .out] })
      { playing with link := (checking .suspect).link })

/-- Power-on with a track that was FILLING. -/
def restarted : State :=
  { stocked with nvm := { stocked.nvm with tracks := stocked.nvm.tracks.put 2 { picture0 with status := .filling } } }

/-- Lists that begin with a PLAY, a composition with a key, and showings with cues and captions. -/
def armedPlay : State := armed [.play 1 none none []]
def keyed0 : State := withCatalogue (fun c => { c with compositions := [(1, { composition0 with key := some 33 })] }) stocked
def withShowing (f : Showing → Showing) (s : State) : State :=
  withSeq (fun q => { q with current := .play (f showing0), path := some { steps := [], stack := [] } }) s
def withUnit (n : Nat) (u : CompareUnit) (s : State) : State :=
  withTime (fun t => { t with units := replaceAt t.units n u }) s
def armedAt (frame : Nat) : CompareUnit := { armed := some { frame := frame, tag := 0 }, pending := none }
def cued0 : Showing := { showing0 with cues := [(5, .notice 9), (6, .notice 9)], nextCue := 1 }
def caption0 : TimedCue :=
  { cue := { number := 3, inTime := 0, outTime := 0, bottom := true, offset := 0, italic := false, bold := false,
             lines := [] }, inFrame := 5, outFrame := 6 }
def due0 (c : PlaceCondition) (consecutive : Nat) : State :=
  withShowing id (withFrames (fun x => { x with
    places := [{ prepared := false, frame := 5, condition := c, blocks := [] }], consecutive := consecutive }) playing)
def captioned0 (frame : Nat) : State :=
  withUnit 5 (armedAt frame)
    (withSubs (fun x => { x with streams := replaceAt x.streams 3 { Stream.reset with timed := some [caption0], nextCue := 1 } })
      (due0 .complete 0))
/-- A request reaches its owner at once while the control port is at rest. -/
theorem accepts_quiet {kind : Nat} {s : State} (hp : s.port = ControlPort.reset) (hs : s.startUp = false) :
    s.accepts kind f0 := by
  simp [State.accepts, ownerBusy, hp, hs, f0, ControlPort.reset]

/-! ### WellFormed refuses: one ill-formed term for each check -/

theorem test_segment_package : ({ segment 0 headerBytes with package := 4294967296 } : Segment).wellFormed = false := by decide
theorem test_segment_index : ({ segment 0 headerBytes with index := 4294967296 } : Segment).wellFormed = false := by decide
theorem test_segment_length : ({ segment 0 headerBytes with length := 4294967296 } : Segment).wellFormed = false := by decide
theorem test_segment_check : ({ segment 0 headerBytes with check := 4294967296 } : Segment).wellFormed = false := by decide
theorem test_segment_track : ({ segment 0 headerBytes with track := 256 } : Segment).wellFormed = false := by decide
theorem test_segment_payload : ({ segment 0 headerBytes with length := 25 } : Segment).wellFormed = false := by decide
theorem test_segment_fits : (Instr.segmentTaken (segment 0 headerBytes)).wellFormed = true := by decide
theorem test_pulse_end_line : (Instr.pulseEnd 16).wellFormed = false := by decide
theorem test_pin_change_line : (Instr.inputPinChange 16 true).wellFormed = false := by decide
theorem test_debounce_line : (Instr.debounceExpiry 16).wellFormed = false := by decide
theorem test_answer_challenge : (Instr.projectorAnswer 256 1).wellFormed = false := by decide
theorem test_answer_projector : (Instr.projectorAnswer 1 4294967296).wellFormed = false := by decide
theorem test_unknown_kind_byte : (Instr.unknownRequest 256 0#8).wellFormed = false := by decide
theorem test_unknown_kind_assigned : (Instr.unknownRequest 56 0#8).wellFormed = false := by decide
theorem test_track_list_first : (Instr.trackList f0 65536 none).wellFormed = false := by decide
theorem test_track_list_state : (Instr.trackList f0 0 (some 256)).wellFormed = false := by decide
theorem test_track_delete : (Instr.trackDelete f0 65536).wellFormed = false := by decide
theorem test_composition_list : (Instr.compositionList f0 256).wellFormed = false := by decide
theorem test_composition_read : (Instr.compositionRead f0 256).wellFormed = false := by decide
theorem test_composition_delete : (Instr.compositionDelete f0 256).wellFormed = false := by decide
theorem test_open_package : (Instr.ingestOpen f0 4294967296 0).wellFormed = false := by decide
theorem test_open_mode : (Instr.ingestOpen f0 0 256).wellFormed = false := by decide
theorem test_trim_high : (Instr.clockTrim f0 2147483648).wellFormed = false := by decide
theorem test_trim_low : (Instr.clockTrim f0 (-2147483649)).wellFormed = false := by decide
theorem test_grant_key : (Instr.grantLoad f0 65536 1 0 1 (List.replicate 48 0#8)).wellFormed = false := by decide
theorem test_grant_allowance : (Instr.grantLoad f0 1 65536 0 1 (List.replicate 48 0#8)).wellFormed = false := by decide
theorem test_grant_start : (Instr.grantLoad f0 1 1 4294967296 1 (List.replicate 48 0#8)).wellFormed = false := by decide
theorem test_grant_stop : (Instr.grantLoad f0 1 1 0 4294967296 (List.replicate 48 0#8)).wellFormed = false := by decide
theorem test_grant_wrapped : (Instr.grantLoad f0 1 1 0 1 (List.replicate 47 0#8)).wellFormed = false := by decide
theorem test_revoke_slot : (Instr.grantRevoke f0 256).wellFormed = false := by decide
theorem test_purge_slot : (Instr.grantPurge f0 256).wellFormed = false := by decide
theorem test_check_interval : (Instr.checkInterval f0 65536).wellFormed = false := by decide
theorem test_list_load_list : (Instr.listLoad f0 256 0 true []).wellFormed = false := by decide
theorem test_list_load_part : (Instr.listLoad f0 0 256 true []).wellFormed = false := by decide
theorem test_list_load_count : (Instr.listLoad f0 0 0 true (List.replicate 256 (.incl 0))).wellFormed = false := by
  decide +kernel
theorem test_entry_composition : (Entry.play 256 none none []).wellFormed = false := by decide
theorem test_entry_first : (Entry.play 0 (some 256) none []).wellFormed = false := by decide
theorem test_entry_last : (Entry.play 0 none (some 256) []).wellFormed = false := by decide
theorem test_entry_cues : (Entry.play 0 none none (List.replicate 256 ⟨0, .fromStart, .notice 0⟩)).wellFormed = false := by
  decide +kernel
theorem test_entry_black : (Entry.black 65536).wellFormed = false := by decide
theorem test_entry_wait : (Entry.wait (some 65536)).wellFormed = false := by decide
theorem test_entry_include : (Entry.incl 256).wellFormed = false := by decide
theorem test_cue_offset : (CueRecord.mk 16777216 .fromStart (.notice 0)).wellFormed = false := by decide
theorem test_cue_line : (CueAction.pulseLine 256 1).wellFormed = false := by decide
theorem test_cue_width : (CueAction.pulseLine 0 256).wellFormed = false := by decide
theorem test_cue_target : (CueAction.fader 65536 1).wellFormed = false := by decide
theorem test_cue_frames : (CueAction.fader 0 65536).wellFormed = false := by decide
theorem test_cue_notice : (CueAction.notice 65536).wellFormed = false := by decide
theorem test_list_read_list : (Instr.listRead f0 256 0).wellFormed = false := by decide
theorem test_list_read_first : (Instr.listRead f0 0 65536).wellFormed = false := by decide
theorem test_show_arm : (Instr.showArm f0 256).wellFormed = false := by decide
theorem test_pause_limit : (Instr.pauseLimit f0 65536).wellFormed = false := by decide
theorem test_frame_source : (Instr.frameSource f0 256 none).wellFormed = false := by decide
theorem test_frame_edge : (Instr.frameSource f0 0 (some 256)).wellFormed = false := by decide
theorem test_capture_read : (Instr.captureRead f0 256).wellFormed = false := by decide
theorem test_pair : (Instr.pair f0 4294967296).wellFormed = false := by decide
theorem test_link_interval : (Instr.linkInterval f0 65536).wellFormed = false := by decide
theorem test_map_code : (Instr.soundMapLoad f0 256 none).wellFormed = false := by decide
theorem test_map_routes : (Instr.soundMapLoad f0 0 (some [])).wellFormed = false := by decide
theorem test_map_source : routesWellFormed (some (List.replicate 24 ⟨some 256, 0⟩)) = false := by decide
theorem test_map_gain : routesWellFormed (some (List.replicate 24 ⟨none, 65536⟩)) = false := by decide
theorem test_map_read : (Instr.soundMapRead f0 256).wellFormed = false := by decide
theorem test_fader_target : (Instr.faderSet f0 65536 0).wellFormed = false := by decide
theorem test_fader_frames : (Instr.faderSet f0 0 65536).wellFormed = false := by decide
theorem test_lipsync : (Instr.lipsyncSet f0 32768).wellFormed = false := by decide
theorem test_stream : (Instr.streamSet f0 256 0 0).wellFormed = false := by decide
theorem test_stream_route : (Instr.streamSet f0 0 256 0).wellFormed = false := by decide
theorem test_stream_offset : (Instr.streamSet f0 0 0 (-32769)).wellFormed = false := by decide
theorem test_log_read_first : (Instr.logRead f0 4294967296 1).wellFormed = false := by decide
theorem test_log_read_count : (Instr.logRead f0 0 256).wellFormed = false := by decide
theorem test_log_release : (Instr.logRelease f0 4294967296).wellFormed = false := by decide
theorem test_setup_line : (Instr.lineSetup f0 256 (.output 0 0)).wellFormed = false := by decide
theorem test_setup_idle : (LineRequest.output 256 0).wellFormed = false := by decide
theorem test_setup_safe : (LineRequest.output 0 256).wellFormed = false := by decide
theorem test_setup_condition : (LineRequest.input 256 0 0).wellFormed = false := by decide
theorem test_setup_debounce : (LineRequest.input 0 256 0).wellFormed = false := by decide
theorem test_setup_function : (LineRequest.input 0 0 256).wellFormed = false := by decide
theorem test_setup_direction : (LineRequest.other 1).wellFormed = false := by decide
theorem test_setup_direction_byte : (LineRequest.other 256).wellFormed = false := by decide
theorem test_notice_levels : (Instr.noticeSetup f0 0#52 [1, 2, 3] 0).wellFormed = false := by decide
theorem test_notice_level_byte : (Instr.noticeSetup f0 0#52 [1, 2, 3, 4, 5, 6, 256] 0).wellFormed = false := by decide
theorem test_notice_mask : (Instr.noticeSetup f0 0#52 [1, 2, 3, 4, 5, 6, 7] 256).wellFormed = false := by decide

/-! ### Frames and segments written out byte by byte (R188, R198, R26): after the marker the length, the kind, the tag, the
body, and the sum of them all -/

theorem test_frame_pause : decodeFrame [0#8, 0#8, 24#8, 7#8, 31#8, 0#8] = some (.pause f0) := by decide +kernel
theorem test_frame_bad_sum : decodeFrame [0#8, 0#8, 24#8, 7#8, 32#8, 0#8] = some (.controlFrameDiscarded (.check [])) := by
  decide +kernel
/-- The running counts stand in POSITION and PICTURE STATUS (R173), 4 bytes each (R198). -/
theorem test_running_counts :
    let counts := [1#8, 3#8, 0#8, 0#8, 0#8, 2#8, 0#8, 0#8, 0#8]
    let s := updateShowing (fun sh => { sh with presented := 3, repeated := 2 }) playing
    counts.isSuffixOf (positionReport s) ∧ counts.isSuffixOf (pictureReport s) := by decide +kernel
theorem test_frame_too_long : decodeFrame [1#8, 4#8] = some (.controlFrameDiscarded (.length [])) := by decide +kernel
theorem test_frame_not_assigned : decodeFrame [0#8, 0#8, 57#8, 7#8, 64#8, 0#8] = some (.unknownRequest 57 7#8) := by
  decide +kernel
theorem test_frame_short_body : decodeFrame [1#8, 0#8, 2#8, 7#8, 5#8, 15#8, 0#8] =
    some (.trackDelete { tag := 7#8, fits := false } 0) := by decide +kernel
theorem test_frame_track_delete : decodeFrame [2#8, 0#8, 2#8, 7#8, 0xFF#8, 1#8, 11#8, 1#8] = some (.trackDelete f0 511) := by
  decide +kernel
theorem test_frame_ingest_open :
    decodeFrame [5#8, 0#8, 8#8, 7#8, 0x59#8, 0x1B#8, 0#8, 0#8, 1#8, 137#8, 0#8] = some (.ingestOpen f0 7001 1) := by
  decide +kernel
theorem test_frame_clock_trim :
    decodeFrame [4#8, 0#8, 13#8, 7#8, 0xE2#8, 0xFF#8, 0xFF#8, 0xFF#8, 0xF7#8, 3#8] = some (.clockTrim f0 (-30)) := by
  decide +kernel
theorem test_frame_list_load_short :
    decodeFrame [8#8, 0#8, 20#8, 7#8, 1#8, 0#8, 1#8, 2#8, 1#8, 3#8, 4#8, 5#8, 52#8, 0#8] =
      some (.listLoad { tag := 7#8, fits := false } 0 0 false []) := by decide +kernel
theorem test_frame_list_load :
    decodeFrame [9#8, 0#8, 20#8, 7#8, 1#8, 0#8, 1#8, 2#8, 1#8, 3#8, 4#8, 5#8, 0#8, 53#8, 0#8] =
      some (.listLoad f0 1 0 true [.incl 3, .black 5]) := by decide +kernel
theorem test_frame_edge_bytes : decodeFrame [3#8, 0#8, 30#8, 7#8, 1#8, 1#8, 2#8, 44#8, 0#8] = some (.frameSource f0 1 (some 2)) := by
  decide +kernel
theorem test_frame_pair :
    decodeFrame [4#8, 0#8, 34#8, 7#8, 77#8, 0#8, 0#8, 1#8, 123#8, 0#8] = some (.pair f0 16777293) := by decide +kernel
theorem test_frame_fader_set :
    decodeFrame [4#8, 0#8, 40#8, 7#8, 0#8, 0x10#8, 48#8, 0#8, 115#8, 0#8] = some (.faderSet f0 4096 48) := by decide +kernel
theorem test_frame_stream_set :
    decodeFrame [4#8, 0#8, 43#8, 7#8, 3#8, 2#8, 0x9C#8, 0xFF#8, 0xD6#8, 1#8] = some (.streamSet f0 3 2 (-100)) := by
  decide +kernel
theorem test_frame_log_read :
    decodeFrame [5#8, 0#8, 45#8, 7#8, 4#8, 0x10#8, 0#8, 0#8, 8#8, 85#8, 0#8] = some (.logRead f0 4100 8) := by decide +kernel
theorem test_frame_line_setup :
    decodeFrame [5#8, 0#8, 47#8, 7#8, 9#8, 0#8, 3#8, 20#8, 5#8, 96#8, 0#8] = some (.lineSetup f0 9 (.input 3 20 5)) := by
  decide +kernel
theorem test_frame_notice_clear :
    decodeFrame [7#8, 0#8, 55#8, 7#8, 1#8, 0#8, 0#8, 0#8, 0#8, 0#8, 8#8, 78#8, 0#8] =
      some (.noticeClear f0 0x8000000000001#52) := by decide +kernel
theorem test_segment_bytes :
    decodeSegment [9#8, 0#8, 0#8, 0#8, 2#8, 0#8, 0#8, 0#8, 5#8, 0#8, 0#8, 0#8, 0x0B#8, 2#8, 3#8, 4#8, 1#8, 0#8, 0#8, 0#8,
      1#8, 2#8, 3#8, 4#8, 10#8, 0#8, 0#8, 0#8] =
    some (.segmentTaken { package := 9, index := 2, length := 5, check := 0x0403020B, track := 1,
                          payload := [1#8, 2#8, 3#8, 4#8, 10#8] }) := by decide +kernel
theorem test_payload_check : payloadCheck [1#8, 2#8, 3#8, 4#8, 10#8] = 0x0403020B := by decide +kernel
theorem test_table_word : decodeTableWord 32 5 = none := rfl

/-! ### The worked examples of the manual -/

/-- Allocation and release (R12, R13): 58 blocks from a list of four entries, and a run that merges with both neighbours. -/
theorem test_allocation_example :
    allocate 58 [⟨600, 10⟩, ⟨700, 50⟩, ⟨900, 5⟩, ⟨1000, 200⟩] =
      some ([⟨0, 600, 10⟩, ⟨10, 700, 48⟩], [⟨748, 2⟩, ⟨900, 5⟩, ⟨1000, 200⟩]) := by decide +kernel
theorem test_release_example :
    (releaseRun ⟨750, 150⟩ (withFree (fun x => { x with list := [⟨748, 2⟩, ⟨900, 5⟩, ⟨1000, 200⟩] }) quiet)).free.list =
      [⟨748, 157⟩, ⟨1000, 200⟩] := by decide +kernel

/-- A package (R27): the track of the header record opens slot 0, and its map block is written at its own block. -/
theorem test_header_opens_slot :
    (after (.segmentTaken (segment 0 headerBytes)) opened).ingest.slots.head? =
      some (some { number := 1, mode := .filling, track := 0, length := 48, next := 1 }) := by decide +kernel
theorem test_sound_blocks : ceilDiv 240000 (samplesPerBlock 6) = 33 ∧ ceilDiv 200000 (samplesPerBlock 6) = 28 := by
  decide +kernel

/-- The window cache (R49, R51, R53): the entry last in the use order is replaced, and a hit moves its entry to the front. -/
theorem test_use_order :
    (loadExtent { entry0 with track := 22 }
      { quiet.cache with entries := (List.range 8).map fun k => (k, { entry0 with track := 30 + k })
                         order := [7, 6, 5, 2, 0, 4, 3, 1] }).order = [1, 7, 6, 5, 2, 0, 4, 3] := by decide +kernel

/-- A trim of +700 with a budget of 600 (R60), and selection by the earlier window end (R74). -/
theorem test_trim_example : trimAmount 700 600 1006022 = 600 ∧ trimAmount (-30) 0 1006622 = 0 := by decide +kernel
theorem test_selection_example :
    (bestGrant 4321 1003611
      [(0, { grant0 with key := 4321, start := 1003600, stop := 1090000, allowance := 2, shows := 0 }),
       (1, { grant0 with key := 4321, start := 990000, stop := 1500000, allowance := 5, shows := 1 })]).map (·.1) =
      some 0 := by decide +kernel

/-- A walk (R89): SET LINES is the first step and an INCLUDE the second, pushing the entry after it. -/
theorem test_walk_example :
    (scan 64 ⟨0, 0⟩ [] (withSeq (fun q => { q with
      lists := [[.setLines 1#16 0#16, .incl 1, .wait none], [.black 48]] }) quiet)).1.steps =
      [.setLines ⟨0, 0⟩ 1#16 0#16, .push ⟨0, 1⟩ 1] := by decide +kernel

/-- A cue 2,880 frames from the end of 86,400 frames (R82). -/
theorem test_cue_from_end :
    resolveCue { play0 with lastFrame := 86399 } ⟨2880, .fromEnd, .notice 1⟩ = 83520 := by decide +kernel

/-- Sync lost at twice the divisor, and regained by an edge (R112, R113). -/
theorem test_sync_regained :
    (after (.frameSyncEdge true) (withTime (fun t => { t with source := some .rising, clock := .coasting }) quiet)).time.clock =
      .locked := by decide +kernel
theorem test_timecode_base : timecodeOf 86400 24 = { hours := 1, minutes := 0, seconds := 0, frames := 0 } := by decide +kernel
theorem test_divisors : divisor 24 = 1125000 ∧ divisor 48 = 562500 ∧ divisor 60 = 450000 := by decide +kernel

/-- The answer to a challenge that is not the last one is stray (R133). -/
theorem test_stray_answer : (after (.projectorAnswer 17 77) (checking .suspect)).link.strays = 1 := by decide +kernel

/-- One frame of a 16-channel feature (R138, R145, R146), and the fade at its end (R150). -/
theorem test_sample_example :
    saturate (scaled 5000000 4096 6144) = 7500000 ∧ saturate (scaled 6000000 4096 6144) = 8388607 ∧
      scaled (-3) 4096 4095 = -3 := by decide +kernel
theorem test_sound_block_example : samplesPerFrame 48 = 1000 ∧ samplesPerBlock 16 = 2730 := by decide +kernel
theorem test_fade_example :
    Fade.at { start := 4096, target := 0, length := 48, taken := 0 } 1 = 4011 ∧
      Fade.at { start := 4096, target := 0, length := 48, taken := 0 } 24 = 2048 := by decide +kernel

/-- One reel of stream 0 (R159): the cues B, D and H. -/
theorem test_cue_times :
    convertCue 24 1200 100 { cue0 with inTime := 2000, outTime := 5000 } =
      some { cue := { cue0 with inTime := 2000, outTime := 5000 }, inFrame := 50, outFrame := 122 } ∧
    (convertCue 24 1200 100 { cue0 with inTime := 10000, outTime := 10000 }).map (·.outFrame) = some 243 ∧
    convertCue 24 1200 100 { cue0 with inTime := 49900, outTime := 50500 } = none := by decide +kernel

/-- LOG RELEASE of a number beyond the newest CLOSED record is CLAMPED to it (R175). -/
theorem test_release_clamped :
    (after (.logRelease f0 6000) (withLog [closedRecord 5058 false, { logged0 with sequence := 5059 }] quiet)).port.sending =
      some (.reply { tag := 7#8, kind := 46, status := .clamped, reason := none, body := [0xC2#8, 0x13#8, 0#8, 0#8],
                     immediate := false }) := by decide +kernel

/-- The fire panel (R182 to R185): at the onset the house lights take their safe level, and the show pauses. -/
theorem test_fire_panel :
    (after (.debounceExpiry 9) (withLine 9
      { line0 with condition := .low, function := .interlock, level := true, timer := some (false, 5) }
      (withLine 0 { Line.reset false with output := true, safe := true } playing))).seq.state = .paused := by decide +kernel

/-! ### Waiting requests and the cut of a gather -/

/-- R15: STORE SWEEP is taken while a TRACK DELETE waits for room. -/
theorem test_sweep_beside_waiting_delete :
    let s := withQueue 8 [.request (.trackDelete f0 2)] { stocked with port := { stocked.port with
      slots := [{ tag := 1#8, kind := 2, phase := .waiting }] } }
    (after (.storeSweep f0) s).free.sweep.isSome = true := by decide +kernel
/-- R35: an open RUN gather closes when STOP empties the frame queue. -/
theorem test_stop_closes_gather :
    let s := withIngest (fun i => { i with package := some (9, .run), gather := some gather0 })
      (withFrames (fun x => { x with places := [
        { prepared := false, frame := 5, condition := .complete, blocks := [] },
        { prepared := false, frame := 6, condition := .missing, blocks := [] }] }) playing)
    (after (.stop f0) s).ingest.gather = none := by decide +kernel
/-- R144: the tick of the 48th repeat renders the due portion before the halt. -/
theorem test_last_repeat_renders :
    (frameTick (due0 .missing 47)).seq.state = .halted ∧ (frameTick (due0 .missing 47)).sound.mute = none := by
  decide +kernel

/-! ### Witnesses: for each statement with hypotheses, states and operands that meet them -/

theorem witness_StepTakesTheFrontCommand :
    (∃ (c : Instr) (rest : List Instr) (s : State), s.pending = c :: rest) :=
  ⟨.pause f0, [.mark f0], { quiet with pending := [.pause f0, .mark f0] }, by decide +kernel⟩

theorem witness_WriteQueueHoldsAtMostEight :
    (∃ (s : State) (t : State), s.queueBounded ∧ step s = Host.Outcome.next t) :=
  ⟨withQueue 8 [] { quiet with pending := [.pair f0 5] }, stepped (withQueue 8 []
  { quiet with pending := [.pair f0 5] }), by unfold State.queueBounded; decide +kernel, rfl⟩

theorem witness_OutstandingRequestsStaySound :
    (∃ (s : State) (t : State), s.slotsSound ∧ step s = Host.Outcome.next t) :=
  ⟨{ withPort (fun p => { p with slots := slots 3 }) with pending := [.pair f0 5] }, stepped
  { withPort (fun p => { p with slots := slots 3 }) with pending := [.pair f0 5] },
  by unfold State.slotsSound; decide +kernel, rfl⟩

theorem witness_StoreKeepsItsForm :
    (∃ (s : State) (t : State), step s = Host.Outcome.next t ∧ s.store.wf = true) :=
  ⟨{ stocked with pending := [.pair f0 5] }, stepped { stocked with pending := [.pair f0 5] }, rfl,
  by decide +kernel⟩

theorem witness_MemoriesChangeOnlyByTheirWrites :
    (∃ (c : Instr) (s : State) (t : State), exec c s = Host.Outcome.next t ∧ (∀ (size ran : Nat) (landed : Bool), c
    ≠ Instr.fullReset size ran landed) ∧ (∀ (ok : Bool), c ≠ Instr.nvmWriteComplete ok) ∧ c ≠
    Instr.outgoingSendComplete) ∧
    (∃ (c : Instr) (s : State) (t : State), exec c s = Host.Outcome.next t ∧ (∀ (size ran : Nat) (landed : Bool), c
    ≠ Instr.fullReset size ran landed) ∧ (∀ (ok : Bool), c ≠ Instr.ingestWriteComplete ok) ∧ (∀ (ok : Bool), c ≠
    Instr.mapBlockWriteComplete ok) ∧ c ≠ Instr.outgoingSendComplete) :=
  ⟨⟨.pair f0 5, stocked, after (.pair f0 5) stocked, rfl, by intros; first | contradiction | (intro h; cases h),
   by intros; first | contradiction | (intro h; cases h), by decide +kernel⟩,
   ⟨.pair f0 5, stocked, after (.pair f0 5) stocked, rfl, by intros; first | contradiction | (intro h; cases h),
   by intros; first | contradiction | (intro h; cases h), by intros; first | contradiction | (intro h; cases h),
   by decide +kernel⟩⟩

theorem witness_RequestsAreTurnedAwayInOrder :
    (∃ (c : Instr) (kind : Nat) (f : Frame) (s : State), requestOf c = some (kind, f) ∧ s.port.taking = false) ∧
    (∃ (c : Instr) (kind : Nat) (f : Frame) (s : State), requestOf c = some (kind, f) ∧ s.port.taking = true ∧ 4 ≤
    s.port.slots.length) ∧
    (∃ (c : Instr) (kind : Nat) (f : Frame) (s : State), requestOf c = some (kind, f) ∧ s.port.taking = true ∧
    s.port.slots.length < 4 ∧ (∃ r ∈ s.port.slots, r.tag = f.tag)) ∧
    (∃ (c : Instr) (kind : Nat) (f : Frame) (s : State), requestOf c = some (kind, f) ∧ s.port.taking = true ∧
    s.port.slots.length < 4 ∧ (∀ r ∈ s.port.slots, r.tag ≠ f.tag) ∧ f.fits = false) ∧
    (∃ (c : Instr) (kind : Nat) (f : Frame) (s : State), requestOf c = some (kind, f) ∧ s.port.taking = true ∧
    s.port.slots.length < 4 ∧ (∀ r ∈ s.port.slots, r.tag ≠ f.tag) ∧ f.fits = true ∧ s.startUp = true ∧ storeUsing
    kind = true) ∧
    (∃ (c : Instr) (kind : Nat) (f : Frame) (s : State), requestOf c = some (kind, f) ∧ s.port.taking = true ∧
    s.port.slots.length < 4 ∧ (∀ r ∈ s.port.slots, r.tag ≠ f.tag) ∧ f.fits = true ∧ (s.startUp = true → storeUsing
    kind = false) ∧ ownerBusy kind s = true) :=
  ⟨⟨.pause f0, 24, f0, withPort fun p => { p with taking := false }, by decide +kernel⟩,
   ⟨.pause f0, 24, f0, withPort fun p => { p with slots := slots 4 }, by decide +kernel⟩,
   ⟨.pause { tag := 3#8 }, 24, { tag := 3#8 }, withPort fun p => { p with slots := slots 3 }, by decide +kernel⟩,
   ⟨.pause { tag := 7#8, fits := false }, 24, { tag := 7#8, fits := false }, withPort fun p =>
   { p with slots := slots 3 }, by decide +kernel⟩,
   ⟨.storeSweep f0, 7, f0, { quiet with startUp := true }, by decide +kernel⟩,
   ⟨.clockRead f0, 12, f0, withPort fun p => { p with slots := slots 3 }, by decide +kernel⟩⟩

theorem witness_ControlFrameIsReadBack :
    (∃ (kind : Nat) (body : List Byte), kind < 256 ∧ body.length ≤ 1024) :=
  ⟨255, List.replicate 1024 255#8, by decide +kernel⟩

theorem witness_OutgoingDirectionSendsInOrder :
    (∃ (s : State) (f : OutFrame), s.port.sending = some f) ∧
    (∃ (s : State) (r : Reply) (rest : List Reply), s.port.sending = none ∧ s.port.replies = r :: rest) ∧
    (∃ (s : State) (n : Nat), s.port.sending = none ∧ s.port.replies = [] ∧ s.notices.choose = some n) ∧
    (∃ (s : State), s.port.sending = none ∧ s.port.replies = [] ∧ s.notices.choose = none) ∧
    (∃ (s : State) (n : NoticeFrame), s.port.sending = some (OutFrame.notice n)) ∧
    (∃ (s : State) (r : Reply), s.port.sending = some (OutFrame.reply r) ∧ (r.kind ≠ 52 ∨ r.status ≠ Status.ok)) ∧
    (∃ (s : State) (r : Reply), s.port.sending = some (OutFrame.reply r) ∧ r.kind = 52 ∧ r.status = Status.ok) :=
  ⟨⟨withPort fun p => { p with sending := some (.reply (aReply 9)) }, .reply (aReply 9), by decide +kernel⟩,
   ⟨withPort fun p => { p with replies := [aReply 9, aReply 8] }, aReply 9, [aReply 8], by decide +kernel⟩,
   ⟨noticed [7, 17] 0, 7, by decide +kernel⟩,
   ⟨quiet, by decide +kernel⟩,
   ⟨withPort fun p => { p with sending := some (.notice notice0) }, notice0, by decide +kernel⟩,
   ⟨withPort fun p => { p with sending := some (.reply (aReply 9)) }, aReply 9, by decide +kernel⟩,
   ⟨withPort fun p => { p with sending := some (.reply resetReply) }, resetReply, by decide +kernel⟩⟩

theorem witness_NoticeChoiceTakesTheHighestLevel :
    (∃ (n : Notices) (k : Nat), n.choose = some k) ∧
    (∃ (n : Notices) (j : Nat) (d : Cause), n.choose = none ∧ n.causes[j]? = some d) ∧
    (∃ (s : State) (k : Nat) (c : Cause) (r : NoticeRecord), s.port.sending = none ∧ s.port.replies = [] ∧
    s.notices.choose = some k ∧ s.notices.causes[k]? = some c ∧ c.latest = some r) ∧
    (∃ (s : State) (c : NoticeCause) (x : Cause) (f : OutFrame), s.port.sending = some f ∧
    s.notices.causes[c.number]? = some x) :=
  ⟨⟨(noticed [7, 17] 0).notices, 7, by decide +kernel⟩,
   ⟨quiet.notices, 51, Cause.clear true, by decide +kernel⟩,
   ⟨noticed [51] 0, 51, { pending := true, enabled := true, sent := false, count := 2, latest := some record0 },
   record0, by decide +kernel⟩,
   ⟨withPort fun p => { p with sending := some (.notice notice0) }, .lineEvent 15, Cause.clear true, .notice
   notice0, by decide +kernel⟩⟩

theorem witness_NoticeSetupAndReadFollowTheirRule :
    (∃ (f : Frame) (s : State) (enables : BitVec 52) (levels : List Nat) (mask : Nat), State.accepts 54 f s ∧
    levels.length = 7 ∧ ((∀ n < 5, enables.getLsbD n = true) ∧ (∀ l ∈ levels, 1 ≤ l ∧ l ≤ 6) ∧ mask ≤ 6)) ∧
    (∃ (f : Frame) (s : State) (levels : List Nat) (k : Nat) (c : Cause), State.accepts 54 f s ∧ levels.length = 7
    ∧ s.notices.causes[k]? = some c) ∧
    (∃ (f : Frame) (s : State) (enables : BitVec 52) (levels : List Nat) (mask : Nat), State.accepts 54 f s ∧
    levels.length = 7 ∧ (¬((∀ n < 5, enables.getLsbD n = true) ∧ (∀ l ∈ levels, 1 ≤ l ∧ l ≤ 6) ∧ mask ≤ 6))) ∧
    (∃ (f : Frame) (s : State), State.accepts 56 f s) :=
  ⟨⟨f0, quiet, 31#52, [1, 6, 1, 6, 1, 6, 1], 6, accepts_quiet rfl rfl, by decide +kernel⟩,
   ⟨f0, noticed [7, 17] 0, [1, 6, 1, 6, 1, 6, 1], 51, Cause.clear true, accepts_quiet rfl rfl, by decide +kernel⟩,
   ⟨f0, quiet, 31#52, [1, 6, 1, 7, 1, 6, 1], 6, accepts_quiet rfl rfl, by decide +kernel⟩,
   ⟨f0, quiet, accepts_quiet rfl rfl⟩⟩

theorem witness_NoticeClearReportsAndClears :
    (∃ (f : Frame) (s : State), State.accepts 55 f s) ∧
    (∃ (f : Frame) (s : State) (g : OutFrame), State.accepts 55 f s ∧ s.port.sending = some g) ∧
    (∃ (f : Frame) (s : State) (causes : BitVec 52) (k : Nat) (x : Cause), State.accepts 55 f s ∧
    s.notices.causes[k]? = some x ∧ causes.getLsbD k = false) ∧
    (∃ (f : Frame) (s : State) (causes : BitVec 52) (k : Nat) (x : Cause), State.accepts 55 f s ∧
    s.notices.causes[k]? = some x ∧ causes.getLsbD k = true) ∧
    (∃ (f : Frame) (s : State) (causes : BitVec 52) (c : NoticeCause) (x : Cause), State.accepts 55 f s ∧
    s.notices.causes[c.number]? = some x ∧ causes.getLsbD c.number = true) :=
  ⟨⟨f0, noticed [17, 51] 0, accepts_quiet rfl rfl⟩,
   ⟨f0, withPort fun p => { p with sending := some (.notice notice0) }, .notice notice0,
   by unfold State.accepts; decide +kernel, by decide +kernel⟩,
   ⟨f0, noticed [] 0, 1#52, 51, Cause.clear true, accepts_quiet rfl rfl, by decide +kernel⟩,
   ⟨f0, noticed [] 0, BitVec.allOnes 52, 51, Cause.clear true, accepts_quiet rfl rfl, by decide +kernel⟩,
   ⟨f0, noticed [] 0, BitVec.allOnes 52, .lineEvent 15, Cause.clear true, accepts_quiet rfl rfl, by decide +kernel⟩⟩

theorem witness_ResetRequestsAct :
    (∃ (f : Frame) (s : State), State.accepts 52 f s) ∧
    (∃ (f : Frame) (s : State), State.accepts 53 f s ∧ s.log.release = none) :=
  ⟨⟨f0, playing, accepts_quiet rfl rfl⟩,
   ⟨f0, playing, accepts_quiet rfl rfl, by decide +kernel⟩⟩

theorem witness_StatusRequestsChangeNothing :
    (∃ (f : Frame) (s : State), State.accepts 6 f s) ∧
    (∃ (f : Frame) (s : State), State.accepts 11 f s) ∧
    (∃ (f : Frame) (s : State), State.accepts 12 f s) ∧
    (∃ (f : Frame) (s : State), State.accepts 15 f s) ∧
    (∃ (f : Frame) (s : State), State.accepts 31 f s) ∧
    (∃ (f : Frame) (s : State), State.accepts 37 f s) ∧
    (∃ (f : Frame) (s : State), State.accepts 42 f s) ∧
    (∃ (f : Frame) (s : State), State.accepts 44 f s) ∧
    (∃ (f : Frame) (s : State), State.accepts 49 f s) ∧
    (∃ (f : Frame) (s : State), State.accepts 50 f s) ∧
    (∃ (f : Frame) (s : State), State.accepts 51 f s) :=
  by and_intros <;> exact ⟨f0, quiet, accepts_quiet rfl rfl⟩

theorem witness_TableReadsChangeNothing :
    (∃ (f : Frame) (s : State), State.accepts 1 f s) ∧
    (∃ (f : Frame) (s : State), State.accepts 3 f s) ∧
    (∃ (f : Frame) (s : State), State.accepts 4 f s) ∧
    (∃ (f : Frame) (s : State), State.accepts 21 f s) ∧
    (∃ (f : Frame) (s : State), State.accepts 39 f s) ∧
    (∃ (f : Frame) (s : State) (count : Nat), State.accepts 45 f s ∧ (count = 0 ∨ 8 < count)) ∧
    (∃ (f : Frame) (s : State) (first : Nat) (count : Nat), State.accepts 45 f s ∧ 1 ≤ count ∧ count ≤ 8 ∧ (∀ (o :
    Nat), s.log.oldest = some o → first < o)) ∧
    (∃ (f : Frame) (s : State) (first : Nat) (count : Nat) (o : Nat), State.accepts 45 f s ∧ 1 ≤ count ∧ count ≤ 8
    ∧ s.log.oldest = some o ∧ o ≤ first) :=
  ⟨⟨f0, stocked, accepts_quiet rfl rfl⟩,
   ⟨f0, playing, accepts_quiet rfl rfl⟩,
   ⟨f0, stocked, accepts_quiet rfl rfl⟩,
   ⟨f0, quiet, accepts_quiet rfl rfl⟩,
   ⟨f0, stocked, accepts_quiet rfl rfl⟩,
   ⟨f0, playing, 9, accepts_quiet rfl rfl, by decide +kernel⟩,
   ⟨f0, playing, 4, 8, accepts_quiet rfl rfl, by decide +kernel⟩,
   ⟨f0, playing, 5, 8, 5, accepts_quiet rfl rfl, by decide +kernel⟩⟩

theorem witness_QueuedWritesComplete :
    (∃ (s : State), s.queue.writes = []) ∧
    (∃ (w : QueuedWrite) (rest : List QueuedWrite) (s : State), s.queue.writes = w :: rest) ∧
    (∃ (m : Nvm) (c : CountWrite) (slot : Nat) (shows : Nat) (state : GrantState) (g : Grant), c.grant = some
    (slot, shows, state) ∧ m.grants.find slot = some g) ∧
    (∃ (m : Nvm) (c : CountWrite) (x : Machine.Composition), m.compositions.find c.composition.1 = some x) ∧
    (∃ (s : State), (∀ r ∈ s.port.slots, ∀ (c : Instr), r.phase ≠ SlotPhase.deferred c) ∧ (8 ≤
    s.queue.writes.length ∨ s.queue.waiters = [])) ∧
    (∃ (waiter : Waiter) (rest : List Waiter) (s : State) (k : Nat) (engine : Bool), (∀ r ∈ s.port.slots, ∀ (c :
    Instr), r.phase ≠ SlotPhase.deferred c) ∧ s.queue.writes.length < 8 ∧ s.queue.waiters = waiter :: rest ∧
    s.ingest.received = none ∧ waiter = Waiter.track k engine none) ∧
    (∃ (waiter : Waiter) (rest : List Waiter) (s : State) (k : Nat) (engine : Bool) (reply : Reply), (∀ r ∈
    s.port.slots, ∀ (c : Instr), r.phase ≠ SlotPhase.deferred c) ∧ s.queue.writes.length < 8 ∧ s.queue.waiters =
    waiter :: rest ∧ s.ingest.received = none ∧ waiter = Waiter.track k engine (some reply)) ∧
    (∃ (waiter : Waiter) (rest : List Waiter) (s : State) (n : Nat) (v : Machine.Composition) (awaiting : Option
    (List ReelNumbers)) (engine : Bool), (∀ r ∈ s.port.slots, ∀ (c : Instr), r.phase ≠ SlotPhase.deferred c) ∧
    s.queue.writes.length < 8 ∧ s.queue.waiters = waiter :: rest ∧ s.ingest.received = none ∧ waiter =
    Waiter.composition n (CompositionChange.enter v awaiting) engine false) ∧
    (∃ (waiter : Waiter) (rest : List Waiter) (s : State) (n : Nat) (numbers : List ReelNumbers) (engine : Bool)
    (closes : Bool) (c : Machine.Composition), (∀ r ∈ s.port.slots, ∀ (c : Instr), r.phase ≠ SlotPhase.deferred c)
    ∧ s.queue.writes.length < 8 ∧ s.queue.waiters = waiter :: rest ∧ s.ingest.received = none ∧ waiter =
    Waiter.composition n (CompositionChange.resolve numbers) engine closes ∧ s.catalogue.compositions.find n = some
    c) ∧
    (∃ (waiter : Waiter) (rest : List Waiter) (s : State) (count : Count) (slot : Nat) (key : Nat) (g : Grant) (x :
    Machine.Composition), (∀ r ∈ s.port.slots, ∀ (c : Instr), r.phase ≠ SlotPhase.deferred c) ∧
    s.queue.writes.length < 8 ∧ s.queue.waiters = waiter :: rest ∧ s.ingest.received = none ∧ waiter = Waiter.count
    count ∧ count.grant = some (slot, key) ∧ s.keys.grants.find slot = some g ∧ g.key = key ∧
    s.catalogue.compositions.find count.composition = some x) ∧
    (∃ (waiter : Waiter) (rest : List Waiter) (s : State), (∀ r ∈ s.port.slots, ∀ (c : Instr), r.phase ≠
    SlotPhase.deferred c) ∧ s.queue.writes.length < 8 ∧ s.queue.waiters = waiter :: rest ∧ s.ingest.received = none
    ∧ waiter = Waiter.check) ∧
    (∃ (waiter : Waiter) (rest : List Waiter) (s : State), (∀ r ∈ s.port.slots, ∀ (c : Instr), r.phase ≠
    SlotPhase.deferred c) ∧ s.queue.writes.length < 8 ∧ s.queue.waiters = waiter :: rest ∧ s.ingest.received = none
    ∧ waiter = Waiter.budget ∧ s.keys.budget.start + 31536000 ≤ s.keys.clock) ∧
    (∃ (waiter : Waiter) (rest : List Waiter) (s : State), (∀ r ∈ s.port.slots, ∀ (c : Instr), r.phase ≠
    SlotPhase.deferred c) ∧ s.queue.writes.length < 8 ∧ s.queue.waiters = waiter :: rest ∧ s.ingest.received = none
    ∧ waiter = Waiter.budget ∧ s.keys.clock < s.keys.budget.start + 31536000) ∧
    (∃ (waiter : Waiter) (rest : List Waiter) (s : State) (q : Nat) (more : List Nat) (r : LogRecord), (∀ r ∈
    s.port.slots, ∀ (c : Instr), r.phase ≠ SlotPhase.deferred c) ∧ s.queue.writes.length < 8 ∧ s.queue.waiters =
    waiter :: rest ∧ s.ingest.received = none ∧ waiter = Waiter.log ∧ s.log.unwritten = q :: more ∧ s.log.find q =
    some r) ∧
    (∃ (waiter : Waiter) (rest : List Waiter) (s : State) (f : Frame) (projector : Nat), (∀ r ∈ s.port.slots, ∀ (c
    : Instr), r.phase ≠ SlotPhase.deferred c) ∧ s.queue.writes.length < 8 ∧ s.queue.waiters = waiter :: rest ∧
    s.ingest.received = none ∧ waiter = Waiter.request (Instr.pair f projector) ∧ 1 ≤ projector ∧ projector ≤ max32
    ∧ s.seq.state = SeqState.idle) ∧
    (∃ (waiter : Waiter) (rest : List Waiter) (s : State) (f : Frame) (slot : Nat), (∀ r ∈ s.port.slots, ∀ (c :
    Instr), r.phase ≠ SlotPhase.deferred c) ∧ s.queue.writes.length < 8 ∧ s.queue.waiters = waiter :: rest ∧
    s.ingest.received = none ∧ waiter = Waiter.request (Instr.grantPurge f slot) ∧ slot ≤ 31 ∧ s.keys.grants.find
    slot = none) :=
  ⟨⟨quiet, by decide +kernel⟩,
   ⟨{ write := .log logged0, forCheck := false }, [{ write := .paired 3, forCheck := false }],
   { playing with queue := { playing.queue with writes := [{ write := .log logged0, forCheck := false }, { write := .paired 3, forCheck := false }] } },
   by decide +kernel⟩,
   ⟨{ quiet.nvm with grants := [(31, grant0)], compositions := [(63, composition0)] },
   { grant := some (31, 2, .spent), composition := (63, 6), record := (5, 9) }, 31, 2, .spent, grant0,
   by decide +kernel⟩,
   ⟨{ quiet.nvm with grants := [(31, grant0)], compositions := [(63, composition0)] },
   { grant := some (31, 2, .spent), composition := (63, 6), record := (5, 9) }, composition0, by decide +kernel⟩,
   ⟨withQueue 8 [.check] quiet, by intros; first | contradiction | (intro h; cases h), by decide +kernel⟩,
   ⟨.track 2 true none, [.check], withQueue 7 [.track 2 true none, .check] stocked, 2, true,
   by intros; first | contradiction | (intro h; cases h), by decide +kernel⟩,
   ⟨.track 2 false (some (aReply 7)), [], withQueue 7 [.track 2 false (some (aReply 7))] stocked, 2, false, aReply
   7, by intros; first | contradiction | (intro h; cases h), by decide +kernel⟩,
   ⟨.composition 63 (.enter composition0 (some [])) true false, [.check], withQueue 7 [.composition 63 (.enter
   composition0 (some [])) true false, .check] stocked, 63, composition0, some [], true,
   by intros; first | contradiction | (intro h; cases h), by decide +kernel⟩,
   ⟨.composition 1 (.resolve [numbers0]) true true, [], withQueue 7 [.composition 1 (.resolve [numbers0]) true
   true] (closing0 [(1, [numbers0])]), 1, [numbers0], true, true, composition0,
   by intros; first | contradiction | (intro h; cases h), by decide +kernel⟩,
   ⟨.count { grant := some (0, 33), composition := 1, record := 5, time := 20 }, [], withQueue 7 [.count
   { grant := some (0, 33), composition := 1, record := 5, time := 20 }] playing,
   { grant := some (0, 33), composition := 1, record := 5, time := 20 }, 0, 33, grant0, composition0,
   by intros; first | contradiction | (intro h; cases h), by decide +kernel⟩,
   ⟨.check, [], withQueue 7 [.check] playing, by intros; first | contradiction | (intro h; cases h),
   by decide +kernel⟩,
   ⟨.budget, [], withQueue 7 [.budget] (withKeys (fun k => { k with clock := 31536000 }) quiet),
   by intros; first | contradiction | (intro h; cases h), by decide +kernel⟩,
   ⟨.budget, [], withQueue 7 [.budget] (withKeys (fun k => { k with clock := 31535999 }) quiet),
   by intros; first | contradiction | (intro h; cases h), by decide +kernel⟩,
   ⟨.log, [], withQueue 7 [.log] (withUnwritten [5] playing), 5, [], logged0,
   by intros; first | contradiction | (intro h; cases h), by decide +kernel⟩,
   ⟨.request (.pair f0 4294967295), [], withQueue 7 [.request (.pair f0 4294967295)] quiet, f0, 4294967295,
   by intros; first | contradiction | (intro h; cases h), by decide +kernel⟩,
   ⟨.request (.grantPurge f0 31), [], withQueue 7 [.request (.grantPurge f0 31)] quiet, f0, 31,
   by intros; first | contradiction | (intro h; cases h), by decide +kernel⟩⟩

theorem witness_AllocationIsFirstFit :
    (∃ (need : Nat) (l : List Run) (left : List Run) (extents : List Extent), 0 < need ∧ freeListSound l = true ∧
    allocate need l = some (extents, left)) :=
  ⟨137, [⟨560, 40⟩, ⟨603, 97⟩], [], [⟨0, 560, 40⟩, ⟨40, 603, 97⟩], by decide +kernel⟩

theorem witness_ReleaseKeepsTheAccounts :
    (∃ (r : Run) (s : State), 0 < r.length ∧ freeListSound s.free.list = true ∧ s.free.list.length ≤ 2048 ∧ (∀ x ∈
    s.free.list, x.first + x.length ≤ r.first ∨ r.first + r.length ≤ x.first)) ∧
    (∃ (s : State) (t : State), step s = Host.Outcome.next t ∧ s.free.list.length ≤ 2048) ∧
    (∃ (c : Instr) (s : State) (t : State), s.accounts ∧ (∀ (ok : Bool), c ≠ Instr.sweepReadComplete ok) ∧ (∀ (size
    ran : Nat) (landed : Bool), c ≠ Instr.fullReset size ran landed) ∧ exec c s = Host.Outcome.next t ∧ c ≠
    Instr.outgoingSendComplete) :=
  ⟨⟨⟨600, 3⟩, stocked, by decide +kernel⟩,
   ⟨{ quiet with pending := [.pair f0 5] }, stepped { quiet with pending := [.pair f0 5] }, rfl, by decide +kernel⟩,
   ⟨.pair f0 5, stocked, after (.pair f0 5) stocked, by unfold State.accounts Run.apart; decide +kernel,
   by intros; first | contradiction | (intro h; cases h), by intros; first | contradiction | (intro h; cases h),
   rfl, by decide +kernel⟩⟩

theorem witness_DeletesFreeOrAreRefused :
    (∃ (f : Frame) (s : State) (track : Nat) (e : TrackEntry), State.accepts 2 f s ∧ s.queue.writes.length < 8 ∧
    s.queue.waiters = [] ∧ s.free.sweep = none ∧ track ≤ 511 ∧ s.catalogue.tracks.find track = some e ∧ e.status ≠
    TrackStatus.filling ∧ s.playsTrack track = false ∧ (∀ p ∈ s.catalogue.compositions, p.2.references track =
    false) ∧ s.cache.fills = []) ∧
    (∃ (f : Frame) (s : State) (id : Nat) (c : Machine.Composition), State.accepts 5 f s ∧ s.queue.writes.length <
    8 ∧ s.queue.waiters = [] ∧ id ≤ 63 ∧ s.catalogue.compositions.find id = some c ∧ s.catalogue.awaiting.find id =
    none ∧ s.plays id = false) ∧
    (∃ (f : Frame) (s : State), State.accepts 2 f s ∧ s.free.sweep.isSome = true) ∧
    (∃ (f : Frame) (s : State) (track : Nat), State.accepts 2 f s ∧ s.free.sweep = none ∧ 511 < track) ∧
    (∃ (f : Frame) (s : State) (track : Nat), State.accepts 2 f s ∧ s.free.sweep = none ∧ track ≤ 511 ∧
    s.catalogue.tracks.find track = none) ∧
    (∃ (f : Frame) (s : State) (track : Nat) (e : TrackEntry), State.accepts 2 f s ∧ s.free.sweep = none ∧ track ≤
    511 ∧ s.catalogue.tracks.find track = some e ∧ e.status = TrackStatus.filling) ∧
    (∃ (f : Frame) (s : State) (track : Nat) (e : TrackEntry), State.accepts 2 f s ∧ s.free.sweep = none ∧ track ≤
    511 ∧ s.catalogue.tracks.find track = some e ∧ e.status ≠ TrackStatus.filling ∧ s.playsTrack track = true) ∧
    (∃ (f : Frame) (s : State) (track : Nat) (e : TrackEntry), State.accepts 2 f s ∧ s.free.sweep = none ∧ track ≤
    511 ∧ s.catalogue.tracks.find track = some e ∧ e.status ≠ TrackStatus.filling ∧ s.playsTrack track = false ∧ (∃
    p ∈ s.catalogue.compositions, p.2.references track = true)) ∧
    (∃ (f : Frame) (s : State) (id : Nat), State.accepts 5 f s ∧ 63 < id) ∧
    (∃ (f : Frame) (s : State) (id : Nat), State.accepts 5 f s ∧ id ≤ 63 ∧ s.catalogue.compositions.find id = none) ∧
    (∃ (f : Frame) (s : State) (id : Nat) (c : Machine.Composition), State.accepts 5 f s ∧ id ≤ 63 ∧
    s.catalogue.compositions.find id = some c ∧ (s.catalogue.awaiting.find id).isSome = true) ∧
    (∃ (f : Frame) (s : State) (id : Nat) (c : Machine.Composition), State.accepts 5 f s ∧ id ≤ 63 ∧
    s.catalogue.compositions.find id = some c ∧ s.catalogue.awaiting.find id = none ∧ s.plays id = true) :=
  ⟨⟨f0, withQueue 7 [] (withCatalogue (fun c => { c with tracks := [(511, picture0)] }) stocked), 511, picture0,
   accepts_quiet rfl rfl, by decide +kernel⟩,
   ⟨f0, withQueue 7 [] (withCatalogue (fun c => { c with compositions := [(63, composition0)] }) stocked), 63,
   composition0, accepts_quiet rfl rfl, by decide +kernel⟩,
   ⟨f0, withFree (fun x => { x with sweep := some (sweep0 .requested [3]) }) stocked, accepts_quiet rfl rfl,
   by decide +kernel⟩,
   ⟨f0, stocked, 512, accepts_quiet rfl rfl, by decide +kernel⟩,
   ⟨f0, stocked, 511, accepts_quiet rfl rfl, by decide +kernel⟩,
   ⟨f0, ingesting .filling .filling 1, 2, { picture0 with status := .filling }, accepts_quiet rfl rfl,
   by decide +kernel⟩,
   ⟨f0, playing, 2, picture0, accepts_quiet rfl rfl, by decide +kernel⟩,
   ⟨f0, stocked, 2, picture0, accepts_quiet rfl rfl, by decide +kernel⟩,
   ⟨f0, stocked, 64, accepts_quiet rfl rfl, by decide +kernel⟩,
   ⟨f0, stocked, 63, accepts_quiet rfl rfl, by decide +kernel⟩,
   ⟨f0, withCatalogue (fun c => { c with compositions := [(63, composition0)], awaiting := [(63, [])] }) stocked,
   63, composition0, accepts_quiet rfl rfl, by decide +kernel⟩,
   ⟨f0, playing, 1, composition0, accepts_quiet rfl rfl, by decide +kernel⟩⟩

theorem witness_SweepReadsMapBlocks :
    (∃ (f : Frame) (s : State), State.accepts 7 f s ∧ s.ingest.state ≠ EngineState.idle) ∧
    (∃ (f : Frame) (s : State), State.accepts 7 f s ∧ s.ingest.state = EngineState.idle ∧ (s.free.sweep.isSome =
    true ∨ s.ingest.writing.isSome = true)) ∧
    (∃ (f : Frame) (s : State) (track : Nat) (rest : List Nat), State.accepts 7 f s ∧ s.ingest.state =
    EngineState.idle ∧ s.free.sweep = none ∧ s.ingest.writing = none ∧ tracksToSweep s = track :: rest) ∧
    (∃ (s : State) (tr : Transfer) (sw : Sweep) (track : Nat) (next : Nat) (rest : List Nat) (m : MapBlock),
    s.arbiter.current = some tr ∧ tr.request.client = Client.sweep ∧ tr.dropped = false ∧ tr.retry = false ∧
    s.free.sweep = some sw ∧ sw.toRead = track :: next :: rest ∧ s.store.read track = StoreBlock.map m) ∧
    (∃ (s : State) (tr : Transfer) (sw : Sweep) (track : Nat) (m : MapBlock), s.arbiter.current = some tr ∧
    tr.request.client = Client.sweep ∧ tr.dropped = false ∧ s.free.sweep = some sw ∧ sw.toRead = [track] ∧
    s.store.read track = StoreBlock.map m ∧ (complement s.store.size (sw.taken.put track m.extents)).length ≤ 2048) ∧
    (∃ (s : State) (tr : Transfer) (sw : Sweep), s.arbiter.current = some tr ∧ tr.request.client = Client.sweep ∧
    tr.dropped = false ∧ tr.retry = true ∧ s.free.sweep = some sw ∧ sw.kind = SweepKind.requested ∧ sw.toRead ≠ []) ∧
    (∃ (s : State) (tr : Transfer) (sw : Sweep) (first : Nat) (rest : List Nat), s.arbiter.current = some tr ∧
    tr.request.client = Client.sweep ∧ tr.dropped = false ∧ tr.retry = true ∧ s.free.sweep = some sw ∧ sw.kind =
    SweepKind.startup ∧ sw.toRead ≠ [] ∧ tracksToSweep s = first :: rest) ∧
    (∃ (s : State) (tr : Transfer) (sw : Sweep) (x : Cause), s.arbiter.current = some tr ∧ tr.request.client =
    Client.sweep ∧ tr.dropped = false ∧ tr.retry = true ∧ s.free.sweep = some sw ∧ sw.toRead ≠ [] ∧ tracksToSweep s
    ≠ [] ∧ s.notices.causes[33]? = some x) ∧
    (∃ (s : State) (tr : Transfer) (sw : Sweep) (x : Cause), s.arbiter.current = some tr ∧ tr.request.client =
    Client.sweep ∧ tr.dropped = false ∧ tr.retry = true ∧ s.free.sweep = some sw ∧ sw.toRead ≠ [] ∧ tracksToSweep s
    ≠ [] ∧ freeBlocks s.free.list < s.dataBlocks / 32 ∧ s.notices.causes[31]? = some x) ∧
    (∃ (taken : Table (List Extent)), (∀ p ∈ taken, ∀ x ∈ p.2, 0 < x.length)) :=
  ⟨⟨f0, ingesting .held .ready 0, accepts_quiet rfl rfl, by decide +kernel⟩,
   ⟨f0, withIngest (fun i => { i with writing := some (.map map0 none) }) stocked, accepts_quiet rfl rfl,
   by decide +kernel⟩,
   ⟨f0, stocked, 2, [3, 4], accepts_quiet rfl rfl, by decide +kernel⟩,
   ⟨moving (transfer .sweep false) (withFree (fun x => { x with sweep := some (sweep0 .startup [2, 3]) }) stocked),
   transfer .sweep false, sweep0 .startup [2, 3], 2, 3, [], map0, by decide +kernel⟩,
   ⟨moving (transfer .sweep true) (withFree (fun x => { x with sweep := some (sweep0 .startup [2]) }) stocked),
   transfer .sweep true, sweep0 .startup [2], 2, map0, by decide +kernel⟩,
   ⟨moving (transfer .sweep true) (withFree (fun x => { x with sweep := some (sweep0 .requested [2]) }) stocked),
   transfer .sweep true, sweep0 .requested [2], by decide +kernel⟩,
   ⟨moving (transfer .sweep true) (withFree (fun x => { x with sweep := some (sweep0 .startup [4]) }) stocked),
   transfer .sweep true, sweep0 .startup [4], 2, [3, 4], by decide +kernel⟩,
   ⟨moving (transfer .sweep true) (withFree (fun x => { x with sweep := some (sweep0 .requested [2]) }) stocked),
   transfer .sweep true, sweep0 .requested [2], Cause.clear true, by decide +kernel⟩,
   ⟨moving (transfer .sweep true) (withFree (fun x =>
   { x with list := [{ first := 512, length := 1 }], sweep := some (sweep0 .requested [2]) }) stocked), transfer
   .sweep true, sweep0 .requested [2], Cause.clear true, by decide +kernel⟩,
   ⟨[(2, map0.extents)], by decide +kernel⟩⟩

theorem witness_PackagesOpenCloseAndAbort :
    (∃ (f : Frame) (s : State), State.accepts 8 f s ∧ s.free.sweep.isSome = true) ∧
    (∃ (f : Frame) (s : State), State.accepts 8 f s ∧ s.free.sweep = none ∧ s.ingest.state ≠ EngineState.idle) ∧
    (∃ (f : Frame) (s : State) (mode : Nat), State.accepts 8 f s ∧ s.free.sweep = none ∧ s.ingest.state =
    EngineState.idle ∧ 1 < mode) ∧
    (∃ (f : Frame) (s : State) (mode : Nat), State.accepts 8 f s ∧ s.free.sweep = none ∧ s.ingest.state =
    EngineState.idle ∧ mode ≤ 1) ∧
    (∃ (f : Frame) (s : State), State.accepts 9 f s ∧ s.ingest.state ≠ EngineState.opened) ∧
    (∃ (f : Frame) (s : State), State.accepts 9 f s ∧ s.ingest.state = EngineState.opened ∧ s.ingest.gather = none) ∧
    (∃ (f : Frame) (s : State) (g : Gather), State.accepts 9 f s ∧ s.ingest.state = EngineState.opened ∧
    s.ingest.gather = some g) ∧
    (∃ (f : Frame) (s : State), State.accepts 10 f s ∧ s.ingest.package = none) ∧
    (∃ (f : Frame) (s : State) (package : Nat) (mode : WriteMode), State.accepts 10 f s ∧ s.ingest.package = some
    (package, mode)) ∧
    (∃ (s : State) (package : Nat) (mode : WriteMode), s.closeReady = true ∧ s.ingest.package = some (package,
    mode) ∧ awaitingOf package s.catalogue = []) ∧
    (∃ (s : State) (package : Nat) (mode : WriteMode) (n : Nat) (numbers : List ReelNumbers) (c :
    Machine.Composition), s.closeReady = true ∧ s.ingest.package = some (package, mode) ∧ awaitingOf package
    s.catalogue = [(n, numbers)] ∧ s.catalogue.compositions.find n = some c ∧ s.queue.writes.length < 8 ∧
    s.queue.waiters = []) ∧
    (∃ (tracks : Table TrackEntry) (package : Nat) (number : Nat) (k : Nat) (e : TrackEntry), tracks.rising = true
    ∧ mapNumber tracks package number = some (k, e)) ∧
    (∃ (tracks : Table TrackEntry) (package : Nat) (number : Nat), tracks.rising = true ∧ mapNumber tracks package
    number = none) :=
  ⟨⟨f0, withFree (fun x => { x with sweep := some (sweep0 .requested [3]) }) stocked, accepts_quiet rfl rfl,
   by decide +kernel⟩,
   ⟨f0, ingesting .held .ready 0, accepts_quiet rfl rfl, by decide +kernel⟩,
   ⟨f0, quiet, 2, accepts_quiet rfl rfl, by decide +kernel⟩,
   ⟨f0, quiet, 1, accepts_quiet rfl rfl, by decide +kernel⟩,
   ⟨f0, quiet, accepts_quiet rfl rfl, by decide +kernel⟩,
   ⟨f0, ingesting .filling .filling 3, accepts_quiet rfl rfl, by decide +kernel⟩,
   ⟨f0, withIngest (fun i => { i with gather := some gather0 }) (ingesting .filling .filling 49), gather0,
   accepts_quiet rfl rfl, by decide +kernel⟩,
   ⟨f0, quiet, accepts_quiet rfl rfl, by decide +kernel⟩,
   ⟨f0, ingesting .filling .filling 3, 9, .run, accepts_quiet rfl rfl, by decide +kernel⟩,
   ⟨withIngest (fun i => { i with state := .closing }) (ingesting .damaged .ready 3), 9, .run, by decide +kernel⟩,
   ⟨withQueue 7 [] (closing0 [(1, [numbers0])]), 9, .run, 1, [numbers0], composition0, by decide +kernel⟩,
   ⟨stocked.catalogue.tracks, 9, 1, 2, picture0, by decide +kernel⟩,
   ⟨stocked.catalogue.tracks, 9, 7, by decide +kernel⟩⟩

theorem witness_SegmentsAreJudgedInOrder :
    (∃ (s : State), s.ingest.state = EngineState.idle) ∧
    (∃ (g : Segment) (s : State) (package : Nat) (mode : WriteMode), s.ingest.state ≠ EngineState.idle ∧ s.portHeld
    = false ∧ s.ingest.package = some (package, mode) ∧ g.package ≠ package) ∧
    (∃ (g : Segment) (s : State) (package : Nat) (mode : WriteMode), s.ingest.state ≠ EngineState.idle ∧ s.portHeld
    = false ∧ s.ingest.package = some (package, mode) ∧ g.package = package ∧ Config.blockBytes < g.length) ∧
    (∃ (g : Segment) (s : State) (package : Nat) (mode : WriteMode) (n : Nat) (slot : TrackSlot), s.ingest.state ≠
    EngineState.idle ∧ s.portHeld = false ∧ s.ingest.package = some (package, mode) ∧ g.package = package ∧
    g.length ≤ Config.blockBytes ∧ findSlot (fun x => decide (x.number = g.track)) s.ingest.slots = some (n, slot)
    ∧ slot.mode = SlotMode.damaged) ∧
    (∃ (g : Segment) (s : State) (package : Nat) (mode : WriteMode) (n : Nat) (slot : TrackSlot), s.ingest.state ≠
    EngineState.idle ∧ s.portHeld = false ∧ s.ingest.package = some (package, mode) ∧ g.package = package ∧
    g.length ≤ Config.blockBytes ∧ findSlot (fun x => decide (x.number = g.track)) s.ingest.slots = some (n, slot)
    ∧ slot.mode = SlotMode.held ∧ g.index ≠ slot.length) ∧
    (∃ (g : Segment) (s : State) (package : Nat) (mode : WriteMode) (n : Nat) (slot : TrackSlot), s.ingest.state ≠
    EngineState.idle ∧ s.portHeld = false ∧ s.ingest.package = some (package, mode) ∧ g.package = package ∧
    g.length ≤ Config.blockBytes ∧ findSlot (fun x => decide (x.number = g.track)) s.ingest.slots = some (n, slot)
    ∧ slot.mode = SlotMode.filling ∧ slot.length < g.index) ∧
    (∃ (g : Segment) (s : State) (package : Nat) (mode : WriteMode) (n : Nat) (slot : TrackSlot), s.ingest.state ≠
    EngineState.idle ∧ s.portHeld = false ∧ s.ingest.package = some (package, mode) ∧ g.package = package ∧
    g.length ≤ Config.blockBytes ∧ findSlot (fun x => decide (x.number = g.track)) s.ingest.slots = some (n, slot)
    ∧ slot.mode = SlotMode.filling ∧ g.index ≤ slot.length ∧ g.index + 1 = slot.next) ∧
    (∃ (g : Segment) (s : State) (package : Nat) (mode : WriteMode) (n : Nat) (slot : TrackSlot), s.ingest.state ≠
    EngineState.idle ∧ s.portHeld = false ∧ s.ingest.package = some (package, mode) ∧ g.package = package ∧
    g.length ≤ Config.blockBytes ∧ findSlot (fun x => decide (x.number = g.track)) s.ingest.slots = some (n, slot)
    ∧ slot.mode = SlotMode.filling ∧ g.index ≤ slot.length ∧ g.index + 1 < slot.next) ∧
    (∃ (g : Segment) (s : State) (package : Nat) (mode : WriteMode) (n : Nat) (slot : TrackSlot), s.ingest.state ≠
    EngineState.idle ∧ s.portHeld = false ∧ s.ingest.package = some (package, mode) ∧ g.package = package ∧
    g.length ≤ Config.blockBytes ∧ findSlot (fun x => decide (x.number = g.track)) s.ingest.slots = some (n, slot)
    ∧ slot.mode = SlotMode.filling ∧ g.index ≤ slot.length ∧ g.index = slot.next ∧ (if g.index < slot.length then
    g.length ≠ Config.blockBytes else g.length = 0)) ∧
    (∃ (g : Segment) (s : State) (package : Nat) (mode : WriteMode) (n : Nat) (slot : TrackSlot) (e : TrackEntry),
    s.ingest.state ≠ EngineState.idle ∧ s.portHeld = false ∧ s.ingest.package = some (package, mode) ∧ g.package =
    package ∧ g.length ≤ Config.blockBytes ∧ findSlot (fun x => decide (x.number = g.track)) s.ingest.slots = some
    (n, slot) ∧ slot.mode = SlotMode.filling ∧ g.index ≤ slot.length ∧ s.catalogue.tracks.find slot.track = some e
    ∧ s.ingest.gather = none ∧ s.ingest.writing = none ∧ s.queue.writes.length < 8 ∧ s.queue.waiters = [] ∧
    slot.next < g.index) ∧
    (∃ (g : Segment) (s : State) (package : Nat) (mode : WriteMode) (n : Nat) (slot : TrackSlot) (e : TrackEntry),
    s.ingest.state ≠ EngineState.idle ∧ s.portHeld = false ∧ s.ingest.package = some (package, mode) ∧ g.package =
    package ∧ g.length ≤ Config.blockBytes ∧ findSlot (fun x => decide (x.number = g.track)) s.ingest.slots = some
    (n, slot) ∧ slot.mode = SlotMode.filling ∧ g.index ≤ slot.length ∧ s.catalogue.tracks.find slot.track = some e
    ∧ s.ingest.gather = none ∧ s.ingest.writing = none ∧ s.queue.writes.length < 8 ∧ s.queue.waiters = [] ∧ g.index
    = slot.next ∧ (if g.index < slot.length then g.length = Config.blockBytes else 1 ≤ g.length) ∧ payloadCheck
    g.payload ≠ g.check) ∧
    (∃ (g : Segment) (s : State) (package : Nat) (mode : WriteMode) (n : Nat) (slot : TrackSlot) (i : Nat) (x :
    Extent), s.ingest.state ≠ EngineState.idle ∧ s.portHeld = false ∧ s.ingest.package = some (package, mode) ∧
    g.package = package ∧ g.length ≤ Config.blockBytes ∧ findSlot (fun x => decide (x.number = g.track))
    s.ingest.slots = some (n, slot) ∧ slot.mode = SlotMode.filling ∧ g.index ≤ slot.length ∧ g.index = slot.next ∧
    (if g.index < slot.length then g.length = Config.blockBytes else 1 ≤ g.length) ∧ payloadCheck g.payload =
    g.check ∧ isDescription slot.track s = false ∧ s.ingest.gather = none ∧ s.ingest.writing = none ∧ extentAt
    ((s.catalogue.extents.find slot.track).getD []) (slot.next - 1) = some (i, x)) ∧
    (∃ (g : Segment) (s : State) (package : Nat) (mode : WriteMode) (n : Nat) (slot : TrackSlot) (h : Gather),
    s.ingest.state ≠ EngineState.idle ∧ s.portHeld = false ∧ s.ingest.package = some (package, mode) ∧ g.package =
    package ∧ g.length ≤ Config.blockBytes ∧ findSlot (fun x => decide (x.number = g.track)) s.ingest.slots = some
    (n, slot) ∧ slot.mode = SlotMode.filling ∧ g.index ≤ slot.length ∧ g.index = slot.next ∧ (if g.index <
    slot.length then g.length = Config.blockBytes else 1 ≤ g.length) ∧ payloadCheck g.payload = g.check ∧
    isDescription slot.track s = false ∧ s.ingest.gather = some h ∧ h.track = slot.track ∧ slot.next - 1 = h.block
    + h.blocks.length ∧ h.blocks.length < h.room) ∧
    (∃ (g : Segment) (s : State) (package : Nat) (mode : WriteMode), s.ingest.state ≠ EngineState.idle ∧ s.portHeld
    = false ∧ s.ingest.package = some (package, mode) ∧ g.package = package ∧ g.length ≤ Config.blockBytes ∧
    findSlot (fun x => decide (x.number = g.track)) s.ingest.slots = none ∧ g.index ≠ 0) ∧
    (∃ (g : Segment) (s : State) (package : Nat) (mode : WriteMode), s.ingest.state ≠ EngineState.idle ∧ s.portHeld
    = false ∧ s.ingest.package = some (package, mode) ∧ g.package = package ∧ g.length ≤ Config.blockBytes ∧
    findSlot (fun x => decide (x.number = g.track)) s.ingest.slots = none ∧ g.index = 0 ∧ s.ingest.state =
    EngineState.closing) ∧
    (∃ (g : Segment) (s : State) (package : Nat) (mode : WriteMode), s.ingest.state ≠ EngineState.idle ∧ s.portHeld
    = false ∧ s.ingest.package = some (package, mode) ∧ g.package = package ∧ g.length ≤ Config.blockBytes ∧
    findSlot (fun x => decide (x.number = g.track)) s.ingest.slots = none ∧ g.index = 0 ∧ s.ingest.state ≠
    EngineState.closing ∧ payloadCheck g.payload ≠ g.check) :=
  ⟨⟨quiet, by decide +kernel⟩,
   ⟨{ segment 0 headerBytes with package := 8 }, ingesting .filling .filling 3, 9, .run, by decide +kernel⟩,
   ⟨{ segment 0 headerBytes with length := 131073 }, ingesting .filling .filling 3, 9, .run, by decide +kernel⟩,
   ⟨{ segment 0 headerBytes with length := 131072 }, ingesting .damaged .filling 3, 9, .run, 1, slot0 .damaged 3,
   by decide +kernel⟩,
   ⟨segment 47 headerBytes, ingesting .held .ready 0, 9, .run, 1, slot0 .held 0, by decide +kernel⟩,
   ⟨segment 49 headerBytes, ingesting .filling .filling 3, 9, .run, 1, slot0 .filling 3, by decide +kernel⟩,
   ⟨segment 48 headerBytes, ingesting .filling .filling 49, 9, .run, 1, slot0 .filling 49, by decide +kernel⟩,
   ⟨segment 1 headerBytes, ingesting .filling .filling 3, 9, .run, 1, slot0 .filling 3, by decide +kernel⟩,
   ⟨segment 3 headerBytes, ingesting .filling .filling 3, 9, .run, 1, slot0 .filling 3, by decide +kernel⟩,
   ⟨segment 5 headerBytes, withQueue 7 [] (ingesting .filling .filling 3), 9, .run, 1, slot0 .filling 3,
   { picture0 with status := .filling }, by decide +kernel⟩,
   ⟨{ segment 48 headerBytes with check := 7 }, withQueue 7 [] (ingesting .filling .filling 48), 9, .run, 1, slot0
   .filling 48, { picture0 with status := .filling }, by decide +kernel⟩,
   ⟨segment 48 headerBytes, ingesting .filling .filling 48, 9, .run, 1, slot0 .filling 48, 0,
   { block := 0, store := 512, length := 48 }, by decide +kernel⟩,
   ⟨segment 48 headerBytes, withIngest (fun i => { i with gather := some gather1 }) (ingesting .filling .filling
   48), 9, .run, 1, slot0 .filling 48, gather1, by decide +kernel⟩,
   ⟨{ segment 1 headerBytes with track := 5 }, ingesting .filling .filling 3, 9, .run, by decide +kernel⟩,
   ⟨{ segment 0 headerBytes with track := 5 }, withIngest (fun i => { i with state := .closing }) (ingesting
   .filling .filling 3), 9, .run, by decide +kernel⟩,
   ⟨{ segment 0 headerBytes with track := 5, check := 7 }, ingesting .filling .filling 3, 9, .run,
   by decide +kernel⟩⟩

theorem witness_HeadersOpenTracks :
    (∃ (g : Segment) (s : State) (package : Nat) (mode : WriteMode) (h : TrackHeader) (n : Nat) (id : Nat) (extents
    : List Extent) (left : List Run), s.ingest.state = EngineState.opened ∧ s.portHeld = false ∧ s.ingest.package =
    some (package, mode) ∧ g.package = package ∧ g.index = 0 ∧ g.length = 24 ∧ payloadCheck g.payload = g.check ∧
    parseHeader g.payload = some h ∧ findSlot (fun x => decide (x.number = g.track)) s.ingest.slots = none ∧
    freeSlot s.ingest.slots = some n ∧ readyTrack s.catalogue.tracks package g.track = none ∧
    s.catalogue.tracks.lowestFree 512 = some id ∧ s.ingest.gather = none ∧ s.ingest.writing = none ∧ allocate
    h.length s.free.list = some (extents, left)) ∧
    (∃ (g : Segment) (s : State) (package : Nat) (mode : WriteMode) (h : TrackHeader) (n : Nat) (id : Nat),
    s.ingest.state = EngineState.opened ∧ s.portHeld = false ∧ s.ingest.package = some (package, mode) ∧ g.package
    = package ∧ g.index = 0 ∧ g.length = 24 ∧ payloadCheck g.payload = g.check ∧ parseHeader g.payload = some h ∧
    findSlot (fun x => decide (x.number = g.track)) s.ingest.slots = none ∧ freeSlot s.ingest.slots = some n ∧
    readyTrack s.catalogue.tracks package g.track = none ∧ s.catalogue.tracks.lowestFree 512 = some id ∧
    s.ingest.gather = none ∧ s.ingest.writing = none ∧ allocate h.length s.free.list = none ∧ s.queue.writes.length
    < 8 ∧ s.queue.waiters = []) ∧
    (∃ (g : Segment) (s : State) (package : Nat) (mode : WriteMode), s.ingest.state = EngineState.opened ∧
    s.portHeld = false ∧ s.ingest.package = some (package, mode) ∧ g.package = package ∧ g.length ≤
    Config.blockBytes ∧ g.index = 0 ∧ payloadCheck g.payload = g.check ∧ findSlot (fun x => decide (x.number =
    g.track)) s.ingest.slots = none ∧ (g.length ≠ 24 ∨ parseHeader g.payload = none)) ∧
    (∃ (g : Segment) (s : State) (package : Nat) (mode : WriteMode) (h : TrackHeader), s.ingest.state =
    EngineState.opened ∧ s.portHeld = false ∧ s.ingest.package = some (package, mode) ∧ g.package = package ∧
    g.length ≤ Config.blockBytes ∧ g.index = 0 ∧ payloadCheck g.payload = g.check ∧ findSlot (fun x => decide
    (x.number = g.track)) s.ingest.slots = none ∧ g.length = 24 ∧ parseHeader g.payload = some h ∧ freeSlot
    s.ingest.slots = none) ∧
    (∃ (g : Segment) (s : State) (package : Nat) (mode : WriteMode) (h : TrackHeader) (n : Nat) (id : Nat) (e :
    TrackEntry), s.ingest.state = EngineState.opened ∧ s.portHeld = false ∧ s.ingest.package = some (package, mode)
    ∧ g.package = package ∧ g.length ≤ Config.blockBytes ∧ g.index = 0 ∧ payloadCheck g.payload = g.check ∧
    findSlot (fun x => decide (x.number = g.track)) s.ingest.slots = none ∧ g.length = 24 ∧ parseHeader g.payload =
    some h ∧ freeSlot s.ingest.slots = some n ∧ readyTrack s.catalogue.tracks package g.track = some (id, e)) ∧
    (∃ (g : Segment) (s : State) (package : Nat) (mode : WriteMode) (h : TrackHeader) (n : Nat), s.ingest.state =
    EngineState.opened ∧ s.portHeld = false ∧ s.ingest.package = some (package, mode) ∧ g.package = package ∧
    g.length ≤ Config.blockBytes ∧ g.index = 0 ∧ payloadCheck g.payload = g.check ∧ findSlot (fun x => decide
    (x.number = g.track)) s.ingest.slots = none ∧ g.length = 24 ∧ parseHeader g.payload = some h ∧ freeSlot
    s.ingest.slots = some n ∧ readyTrack s.catalogue.tracks package g.track = none ∧ s.catalogue.tracks.lowestFree
    512 = none) ∧
    (∃ (g : Segment) (s : State) (package : Nat) (mode : WriteMode) (n : Nat) (slot : TrackSlot), s.ingest.state =
    EngineState.opened ∧ s.portHeld = false ∧ s.ingest.package = some (package, mode) ∧ g.package = package ∧
    g.length ≤ Config.blockBytes ∧ findSlot (fun x => decide (x.number = g.track)) s.ingest.slots = some (n, slot)
    ∧ slot.mode = SlotMode.held ∧ g.index = slot.length) :=
  ⟨⟨segment 0 headerBytes, opened, 9, .run, picture0.header, 0, 0, [⟨0, 560, 40⟩, ⟨40, 603, 8⟩], [⟨611, 89⟩, ⟨701,
   7491⟩], by decide +kernel⟩,
   ⟨segment 0 headerBytes, withQueue 7 [] (withFree (fun x => { x with list := [⟨560, 47⟩] }) opened), 9, .run,
   picture0.header, 0, 0, by decide +kernel⟩,
   ⟨segment 0 [1#8], opened, 9, .run, by decide +kernel⟩,
   ⟨segment 0 headerBytes, withIngest (fun i =>
   { i with slots := List.replicate 4 (some { slot0 .held 0 with number := 9 }) }) opened, 9, .run,
   picture0.header, by decide +kernel⟩,
   ⟨segment 0 headerBytes, withCatalogue (fun c => { c with tracks := [(2, picture0)] }) opened, 9, .run,
   picture0.header, 0, 2, picture0, by decide +kernel⟩,
   ⟨segment 0 headerBytes, withCatalogue (fun c =>
   { c with tracks := (List.range 512).map fun k => (k, { picture0 with number := 7 }) }) opened, 9, .run,
   picture0.header, 0, by decide +kernel⟩,
   ⟨segment 48 [1#8], ingesting .held .ready 0, 9, .run, 1, slot0 .held 0, by decide +kernel⟩⟩

theorem witness_IngestWritesReachTheStore :
    (∃ (s : State) (g : Gather), s.ingest.gather = some g) ∧
    (∃ (s : State) (tr : Transfer) (m : MapBlock) (e : TrackEntry) (n : Nat) (slot : TrackSlot), (∀ r ∈
    s.port.slots, ∀ (c : Instr), r.phase ≠ SlotPhase.deferred c) ∧ s.arbiter.current = some tr ∧ tr.request.client
    = Client.ingest ∧ tr.dropped = false ∧ s.ingest.writing = some (IngestWrite.map m none) ∧ s.ingest.received =
    none ∧ s.catalogue.tracks.find m.track = some e ∧ s.catalogue.extents.find m.track = some m.extents ∧ findSlot
    (fun x => decide (x.track = m.track) && decide (x.mode = SlotMode.filling)) s.ingest.slots = some (n, slot) ∧
    s.queue.writes.length < 8 ∧ s.queue.waiters = []) ∧
    (∃ (s : State) (tr : Transfer) (m : MapBlock) (e : TrackEntry) (n : Nat) (slot : TrackSlot), (∀ r ∈
    s.port.slots, ∀ (c : Instr), r.phase ≠ SlotPhase.deferred c) ∧ s.arbiter.current = some tr ∧ tr.request.client
    = Client.ingest ∧ tr.dropped = false ∧ s.ingest.writing = some (IngestWrite.map m none) ∧ s.ingest.received =
    none ∧ s.catalogue.tracks.find m.track = some e ∧ s.catalogue.extents.find m.track = some m.extents ∧ findSlot
    (fun x => decide (x.track = m.track) && decide (x.mode = SlotMode.filling)) s.ingest.slots = some (n, slot) ∧
    s.queue.writes.length < 8 ∧ s.queue.waiters = [] ∧ tr.retry = true ∧ s.cache.fills = []) ∧
    (∃ (s : State) (tr : Transfer) (g : Gather) (e : TrackEntry) (n : Nat) (slot : TrackSlot), s.arbiter.current =
    some tr ∧ tr.request.client = Client.ingest ∧ tr.dropped = false ∧ s.ingest.writing = some (IngestWrite.data g
    false) ∧ s.ingest.received = none ∧ findSlot (fun x => decide (x.track = g.track) && decide (x.mode =
    SlotMode.filling)) s.ingest.slots = some (n, slot) ∧ s.catalogue.tracks.find slot.track = some e ∧
    e.header.info ≠ TrackInfo.description ∧ s.queue.writes.length < 8 ∧ s.queue.waiters = []) ∧
    (∃ (s : State) (tr : Transfer) (g : Gather) (e : TrackEntry) (n : Nat) (slot : TrackSlot), s.arbiter.current =
    some tr ∧ tr.request.client = Client.ingest ∧ tr.dropped = false ∧ tr.retry = true ∧ s.ingest.writing = some
    (IngestWrite.data g false) ∧ s.ingest.received = none ∧ s.ingest.gather = none ∧ findSlot (fun x => decide
    (x.track = g.track) && decide (x.mode = SlotMode.filling)) s.ingest.slots = some (n, slot) ∧
    s.catalogue.tracks.find slot.track = some e ∧ s.cache.fills = [] ∧ s.queue.writes.length < 8 ∧ s.queue.waiters
    = []) ∧
    (∃ (s : State) (tr : Transfer) (g : Gather) (e : TrackEntry) (n : Nat) (slot : TrackSlot) (block : List Byte)
    (k : Nat) (d : Description), s.arbiter.current = some tr ∧ tr.request.client = Client.ingest ∧ tr.dropped =
    false ∧ s.ingest.writing = some (IngestWrite.data g false) ∧ s.ingest.received = none ∧ s.ingest.gather = none
    ∧ findSlot (fun x => decide (x.track = g.track) && decide (x.mode = SlotMode.filling)) s.ingest.slots = some
    (n, slot) ∧ s.catalogue.tracks.find slot.track = some e ∧ e.header.info = TrackInfo.description ∧ slot.length ≤
    g.block + g.blocks.length ∧ g.blocks.getLast? = some block ∧ s.cache.fills = [] ∧ s.queue.writes.length < 7 ∧
    s.queue.waiters = [] ∧ s.catalogue.compositions.lowestFree 64 = some k ∧ parseDescription block (24 + 16 *
    field block 17 1) = some d) ∧
    (∃ (s : State) (tr : Transfer) (g : Gather) (e : TrackEntry) (n : Nat) (slot : TrackSlot) (block : List Byte),
    s.arbiter.current = some tr ∧ tr.request.client = Client.ingest ∧ tr.dropped = false ∧ s.ingest.writing = some
    (IngestWrite.data g false) ∧ s.ingest.received = none ∧ s.ingest.gather = none ∧ findSlot (fun x => decide
    (x.track = g.track) && decide (x.mode = SlotMode.filling)) s.ingest.slots = some (n, slot) ∧
    s.catalogue.tracks.find slot.track = some e ∧ e.header.info = TrackInfo.description ∧ slot.length ≤ g.block +
    g.blocks.length ∧ g.blocks.getLast? = some block ∧ s.cache.fills = [] ∧ s.queue.writes.length < 7 ∧
    s.queue.waiters = [] ∧ s.catalogue.compositions.lowestFree 64 = none) :=
  ⟨⟨withIngest (fun i => { i with gather := some gather0 }) (ingesting .filling .filling 49), gather0,
   by decide +kernel⟩,
   ⟨withQueue 7 [] (moving (transfer .ingest false) (withIngest (fun i =>
   { i with writing := some (.map map0 none) }) (ingesting .filling .filling 1))), transfer .ingest false, map0,
   { picture0 with status := .filling }, 1, slot0 .filling 1,
   by intros; first | contradiction | (intro h; cases h), by decide +kernel⟩,
   ⟨withQueue 7 [] (moving (transfer .ingest true) (withIngest (fun i =>
   { i with writing := some (.map map0 none) }) (ingesting .filling .filling 1))), transfer .ingest true, map0,
   { picture0 with status := .filling }, 1, slot0 .filling 1,
   by intros; first | contradiction | (intro h; cases h), by decide +kernel⟩,
   ⟨withQueue 7 [] (moving (transfer .ingest true) (withIngest (fun i =>
   { i with writing := some (.data gather0 false) }) (ingesting .filling .filling 49))), transfer .ingest true,
   gather0, { picture0 with status := .filling }, 1, slot0 .filling 49, by decide +kernel⟩,
   ⟨withQueue 7 [] (moving (transfer .ingest true) (withIngest (fun i =>
   { i with writing := some (.data gather1 false) }) (ingesting .filling .filling 48))), transfer .ingest true,
   gather1, { picture0 with status := .filling }, 1, slot0 .filling 48, by decide +kernel⟩,
   ⟨described, transfer .ingest true, { gather0 with blocks := [description0] },
   { picture0 with status := .filling, header := descHeader }, 1, slot0 .filling 49, description0, 0, parsed0,
   by decide +kernel⟩,
   ⟨withCatalogue (fun c => { c with compositions := (List.range 64).map fun k => (k, composition0) }) described,
   transfer .ingest true, { gather0 with blocks := [description0] },
   { picture0 with status := .filling, header := descHeader }, 1, slot0 .filling 49, description0,
   by decide +kernel⟩⟩

theorem witness_ArbiterGrantsAndRetries :
    (∃ (l : List StoreRequest) (r : StoreRequest), bestRequest l = some r) ∧
    (∃ (s : State) (tr : Transfer), s.arbiter.current = some tr ∧ tr.retry = false ∧ tr.request.client =
    Client.picture) ∧
    (∃ (s : State) (tr : Transfer), s.arbiter.current = some tr ∧ tr.retry = false ∧ tr.request.client =
    Client.sound) ∧
    (∃ (s : State) (tr : Transfer), s.arbiter.current = some tr ∧ tr.retry = false ∧ tr.request.client =
    Client.windowFill) ∧
    (∃ (s : State) (tr : Transfer), s.arbiter.current = some tr ∧ tr.retry = false ∧ tr.request.client =
    Client.subtitle) ∧
    (∃ (s : State) (tr : Transfer), s.arbiter.current = some tr ∧ tr.retry = false ∧ tr.request.client =
    Client.sweep) ∧
    (∃ (s : State) (tr : Transfer) (g : Gather) (dropped : Bool), s.arbiter.current = some tr ∧ tr.retry = false ∧
    tr.request.client = Client.ingest ∧ s.ingest.writing = some (IngestWrite.data g dropped)) :=
  ⟨⟨[(transfer .sweep false).request, (transfer .sound false).request], (transfer .sound false).request,
   by decide +kernel⟩,
   ⟨moving (transfer .picture false) quiet, transfer .picture false, by decide +kernel⟩,
   ⟨moving (transfer .sound false) quiet, transfer .sound false, by decide +kernel⟩,
   ⟨moving (transfer .windowFill false) quiet, transfer .windowFill false, by decide +kernel⟩,
   ⟨moving (transfer .subtitle false) quiet, transfer .subtitle false, by decide +kernel⟩,
   ⟨moving (transfer .sweep false) quiet, transfer .sweep false, by decide +kernel⟩,
   ⟨moving (transfer .ingest false) (withIngest (fun i => { i with writing := some (.data gather0 true) }) quiet),
   transfer .ingest false, gather0, true, by decide +kernel⟩⟩

theorem witness_PictureReaderReadsFrames :
    (∃ (s : State) (play : Play) (f : Nat) (prepared : Bool), s.frames.places.length < 4 ∧ (∀ p ∈ s.frames.places,
    p.condition ≠ PlaceCondition.filling) ∧ nextFrame s = some (prepared, play, f)) ∧
    (∃ (s : State) (tr : Transfer) (j : FrameJob) (e : TrackEntry) (a : Run) (b : Run) (rest : List Run),
    s.arbiter.current = some tr ∧ tr.request.client = Client.picture ∧ tr.dropped = false ∧ s.frames.job = some j ∧
    s.catalogue.tracks.find j.track = some e ∧ j.transfers = a :: b :: rest ∧ (∀ r ∈ s.arbiter.waiting, r.client ≠
    Client.picture)) ∧
    (∃ (s : State) (tr : Transfer) (j : FrameJob) (e : TrackEntry) (a : Run), s.arbiter.current = some tr ∧
    tr.request.client = Client.picture ∧ tr.dropped = false ∧ s.frames.job = some j ∧ s.catalogue.tracks.find
    j.track = some e ∧ j.transfers = [a]) ∧
    (∃ (s : State) (tr : Transfer) (j : FrameJob), s.arbiter.current = some tr ∧ tr.request.client = Client.picture
    ∧ tr.dropped = false ∧ tr.retry = true ∧ s.frames.job = some j) ∧
    (∃ (s : State) (t : State), step s = Host.Outcome.next t ∧ s.frames.places.length ≤ 4) :=
  ⟨⟨withFrames (fun x => { x with places := List.replicate 3 ⟨false, 1, .complete, []⟩, nextCurrent := 23 })
   playing, play0, 23, false, by decide +kernel⟩,
   ⟨moving (transfer .picture false) (withFrames (fun x => { x with job := some job0 }) playing), transfer .picture
   false, job0, picture0, ⟨512, 8⟩, ⟨520, 8⟩, [], by decide +kernel⟩,
   ⟨moving (transfer .picture true) (withFrames (fun x => { x with job := some job1 }) playing), transfer .picture
   true, job1, picture0, ⟨520, 8⟩, by decide +kernel⟩,
   ⟨moving (transfer .picture true) (withFrames (fun x => { x with job := some job0 }) playing), transfer .picture
   true, job0, by decide +kernel⟩,
   ⟨{ playing with pending := [.pair f0 5] }, stepped { playing with pending := [.pair f0 5] }, rfl,
   by decide +kernel⟩⟩

theorem witness_WindowCacheFillsAndAnswers :
    (∃ (s : State) (reader : Reader) (track : Nat) (block : Nat) (n : Nat) (e : CacheEntry), judgeLookup reader
    track block s = none ∧ findCovering s.cache.entries track block = some (n, e)) ∧
    (∃ (s : State) (f : Fill), (∀ g ∈ s.cache.fills, g.running = false) ∧ bestFill s.cache.fills = some f) ∧
    (∃ (s : State) (tr : Transfer) (f : Fill) (others : List Fill) (q : Ask) (m : MapBlock) (e : TrackEntry) (i :
    Nat) (free : Nat) (x : Extent), s.arbiter.current = some tr ∧ tr.request.client = Client.windowFill ∧
    tr.dropped = false ∧ s.cache.fills = f :: others ∧ f.running = true ∧ (∀ g ∈ others, g.running = false) ∧
    f.stale = false ∧ f.asks = [q] ∧ q.live = true ∧ q.kind = AskKind.sequencerPreparation ∧ s.store.read f.track =
    StoreBlock.map m ∧ m.track = f.track ∧ extentAt m.extents q.block = some (i, x) ∧ s.catalogue.tracks.find
    f.track = some e ∧ (∀ p ∈ s.cache.entries, p.2.track = f.track → p.2.index ≠ i) ∧ s.cache.entries.lowestFree 8
    = some free ∧ s.cache.entries.rising = true) ∧
    (∃ (s : State) (tr : Transfer) (f : Fill) (others : List Fill), s.arbiter.current = some tr ∧ tr.request.client
    = Client.windowFill ∧ tr.dropped = false ∧ s.cache.fills = f :: others ∧ f.running = true ∧ (∀ g ∈ others,
    g.running = false) ∧ f.stale = true ∧ f.asks = []) ∧
    (∃ (s : State) (reader : Reader) (track : Nat) (block : Nat) (cause : RangeCause), judgeLookup reader track
    block s = some cause) ∧
    (∃ (s : State) (reader : Reader) (track : Nat) (block : Nat) (before : List Fill) (f : Fill) (after : List
    Fill), judgeLookup reader track block s = none ∧ findCovering s.cache.entries track block = none ∧
    s.cache.fills = before ++ f :: after ∧ (∀ g ∈ before, g.track ≠ track) ∧ f.track = track) ∧
    (∃ (s : State) (reader : Reader) (track : Nat) (block : Nat), judgeLookup reader track block s = none ∧
    findCovering s.cache.entries track block = none ∧ (∀ g ∈ s.cache.fills, g.track ≠ track)) ∧
    (∃ (s : State) (tr : Transfer) (f : Fill) (others : List Fill) (q : Ask) (m : MapBlock) (e : TrackEntry) (i :
    Nat) (n : Nat) (x : Extent), s.arbiter.current = some tr ∧ tr.request.client = Client.windowFill ∧ tr.dropped =
    false ∧ s.cache.fills = f :: others ∧ f.running = true ∧ (∀ g ∈ others, g.running = false) ∧ f.stale = false ∧
    f.asks = [q] ∧ q.live = true ∧ s.store.read f.track = StoreBlock.map m ∧ m.track = f.track ∧ extentAt m.extents
    q.block = some (i, x) ∧ s.catalogue.tracks.find f.track = some e ∧ (∀ p ∈ s.cache.entries, p.2.track = f.track
    → p.2.index ≠ i) ∧ s.cache.entries.rising = true ∧ s.cache.entries.lowestFree 8 = none ∧ s.cache.order.getLast?
    = some n ∧ q.kind = AskKind.sequencerPreparation) ∧
    (∃ (s : State) (tr : Transfer) (f : Fill) (others : List Fill) (q : Ask) (m : MapBlock) (e : TrackEntry) (i :
    Nat) (n : Nat) (x : Extent) (j : FrameJob), s.arbiter.current = some tr ∧ tr.request.client = Client.windowFill
    ∧ tr.dropped = false ∧ s.cache.fills = f :: others ∧ f.running = true ∧ (∀ g ∈ others, g.running = false) ∧
    f.stale = false ∧ f.asks = [q] ∧ q.live = true ∧ s.store.read f.track = StoreBlock.map m ∧ m.track = f.track ∧
    extentAt m.extents q.block = some (i, x) ∧ s.catalogue.tracks.find f.track = some e ∧ (∀ p ∈ s.cache.entries,
    p.2.track = f.track → p.2.index ≠ i) ∧ s.cache.entries.rising = true ∧ s.cache.entries.lowestFree 8 = some n ∧
    q.kind ≠ AskKind.sequencerPreparation ∧ (∀ r ∈ s.arbiter.waiting, r.client ≠ q.reader.client) ∧ q.reader =
    Reader.picture ∧ s.frames.job = some j ∧ j.next = q.block ∧ j.next < j.stop ∧ j.stop ≤ x.block + x.length ∧
    j.pieces = []) ∧
    (∃ (s : State) (tr : Transfer) (f : Fill) (others : List Fill) (q : Ask) (m : MapBlock) (e : TrackEntry) (i :
    Nat) (n : Nat) (x : Extent) (j : SoundJob) (portion : Portion) (p : Play) (k : Nat) (sample : Nat),
    s.arbiter.current = some tr ∧ tr.request.client = Client.windowFill ∧ tr.dropped = false ∧ s.cache.fills = f ::
    others ∧ f.running = true ∧ (∀ g ∈ others, g.running = false) ∧ f.stale = false ∧ f.asks = [q] ∧ q.live = true
    ∧ s.store.read f.track = StoreBlock.map m ∧ m.track = f.track ∧ extentAt m.extents q.block = some (i, x) ∧
    s.catalogue.tracks.find f.track = some e ∧ (∀ p ∈ s.cache.entries, p.2.track = f.track → p.2.index ≠ i) ∧
    s.cache.entries.rising = true ∧ s.cache.entries.lowestFree 8 = some n ∧ q.kind ≠ AskKind.sequencerPreparation ∧
    (∀ r ∈ s.arbiter.waiting, r.client ≠ q.reader.client) ∧ q.reader = Reader.sound ∧ s.sound.job = some j ∧
    List.find? Portion.filling s.sound.portions = some portion ∧ playOf portion.prepared s = some p ∧ firstAwaited
    portion.cells = some (k, sample)) ∧
    (∃ (s : State) (tr : Transfer) (f : Fill) (others : List Fill) (q : Ask) (m : MapBlock) (e : TrackEntry) (i :
    Nat) (n : Nat) (x : Extent) (l : Loader), s.arbiter.current = some tr ∧ tr.request.client = Client.windowFill ∧
    tr.dropped = false ∧ s.cache.fills = f :: others ∧ f.running = true ∧ (∀ g ∈ others, g.running = false) ∧
    f.stale = false ∧ f.asks = [q] ∧ q.live = true ∧ s.store.read f.track = StoreBlock.map m ∧ m.track = f.track ∧
    extentAt m.extents q.block = some (i, x) ∧ s.catalogue.tracks.find f.track = some e ∧ (∀ p ∈ s.cache.entries,
    p.2.track = f.track → p.2.index ≠ i) ∧ s.cache.entries.rising = true ∧ s.cache.entries.lowestFree 8 = some n ∧
    q.kind ≠ AskKind.sequencerPreparation ∧ (∀ r ∈ s.arbiter.waiting, r.client ≠ q.reader.client) ∧ q.reader =
    Reader.subtitle ∧ s.subs.loader = some l) ∧
    (∃ (s : State) (tr : Transfer) (f : Fill) (others : List Fill) (q : Ask) (ok : Bool), (if ok = true then ∃ m,
    s.store.read f.track = StoreBlock.map m ∧ (m.track ≠ f.track ∨ extentAt m.extents q.block = none) else tr.retry
    = true) ∧ s.arbiter.current = some tr ∧ tr.request.client = Client.windowFill ∧ tr.dropped = false ∧
    s.cache.fills = f :: others ∧ f.running = true ∧ (∀ g ∈ others, g.running = false) ∧ f.stale = false ∧ f.asks =
    [q] ∧ q.live = true ∧ q.kind = AskKind.sequencerPreparation) ∧
    (∃ (s : State) (tr : Transfer) (f : Fill) (others : List Fill) (q : Ask) (ok : Bool) (j : FrameJob), (if ok =
    true then ∃ m, s.store.read f.track = StoreBlock.map m ∧ (m.track ≠ f.track ∨ extentAt m.extents q.block =
    none) else tr.retry = true) ∧ s.arbiter.current = some tr ∧ tr.request.client = Client.windowFill ∧ tr.dropped
    = false ∧ s.cache.fills = f :: others ∧ f.running = true ∧ (∀ g ∈ others, g.running = false) ∧ f.stale = false
    ∧ f.asks = [q] ∧ q.live = true ∧ q.kind ≠ AskKind.sequencerPreparation ∧ q.reader = Reader.picture ∧
    s.frames.job = some j) ∧
    (∃ (s : State) (tr : Transfer) (f : Fill) (others : List Fill) (q : Ask) (ok : Bool) (l : Loader) (b : Bank)
    (st : Machine.Stream), (if ok = true then ∃ m, s.store.read f.track = StoreBlock.map m ∧ (m.track ≠ f.track ∨
    extentAt m.extents q.block = none) else tr.retry = true) ∧ s.arbiter.current = some tr ∧ tr.request.client =
    Client.windowFill ∧ tr.dropped = false ∧ s.cache.fills = f :: others ∧ f.running = true ∧ (∀ g ∈ others,
    g.running = false) ∧ f.stale = false ∧ f.asks = [q] ∧ q.live = true ∧ q.kind ≠ AskKind.sequencerPreparation ∧
    q.reader = Reader.subtitle ∧ s.subs.loader = some l ∧ s.subs.streams[l.stream]? = some st ∧ st.banks[l.bank]? =
    some b ∧ st.live ≠ some l.bank) :=
  ⟨⟨withCache (fun c => { c with entries := [(7, entry0)] }) playing, .picture, 2, 47, 7, entry0,
   by decide +kernel⟩,
   ⟨withCache (fun c => { c with fills := [fill0] }) playing, fill0, by decide +kernel⟩,
   ⟨moving (transfer .windowFill true) (withCache (fun c => { c with fills := [{ fill0 with running := true }] })
   playing), transfer .windowFill true, { fill0 with running := true }, [], ask0, map0, picture0, 0, 0,
   { block := 0, store := 512, length := 48 }, by decide +kernel⟩,
   ⟨moving (transfer .windowFill true) (withCache (fun c =>
   { c with fills := [{ fill0 with running := true, stale := true, asks := [] }] }) playing), transfer .windowFill
   true, { fill0 with running := true, stale := true, asks := [] }, [], by decide +kernel⟩,
   ⟨playing, .picture, 2, 48, .length, by decide +kernel⟩,
   ⟨withCache (fun c => { c with fills := [fill0] }) playing, .picture, 2, 3, [], fill0, [], by decide +kernel⟩,
   ⟨playing, .picture, 2, 3, by decide +kernel⟩,
   ⟨moving (transfer .windowFill true) (withCache (fun c =>
   { c with entries := (List.range 8).map fun k => (k, { entry4 with block := k }), order := [7, 6, 5, 4, 3, 2, 1, 0], fills := [{ fill0 with running := true }] })
   playing), transfer .windowFill true, { fill0 with running := true }, [], ask0, map0, picture0, 0, 0,
   { block := 0, store := 512, length := 48 }, by decide +kernel⟩,
   ⟨moving (transfer .windowFill true) (withCache (fun c =>
   { c with fills := [{ fill0 with running := true, asks := [Ask.mk .picture .lookup 20 true] }] }) (withFrames
   (fun x => { x with job := some { job0 with next := 20, stop := 22 } }) playing)), transfer .windowFill true,
   { fill0 with running := true, asks := [Ask.mk .picture .lookup 20 true] }, [], Ask.mk .picture .lookup 20 true,
   map0, picture0, 0, 0, { block := 0, store := 512, length := 48 }, { job0 with next := 20, stop := 22 },
   by decide +kernel⟩,
   ⟨moving (transfer .windowFill true) (withCache (fun c =>
   { c with fills := [{ fill0 with running := true, asks := [Ask.mk .sound .lookup 20 true] }] }) (withSound (fun x
   => { x with job := some soundJob0, portions := [portion0] }) playing)), transfer .windowFill true,
   { fill0 with running := true, asks := [Ask.mk .sound .lookup 20 true] }, [], Ask.mk .sound .lookup 20 true,
   map0, picture0, 0, 0, { block := 0, store := 512, length := 48 }, soundJob0, portion0, play0, 1, 0,
   by decide +kernel⟩,
   ⟨moving (transfer .windowFill true) (withCache (fun c =>
   { c with fills := [{ fill0 with running := true, asks := [Ask.mk .subtitle .lookup 20 true] }] }) (withSubs (fun
   x => { x with loader := some loader0 }) playing)), transfer .windowFill true,
   { fill0 with running := true, asks := [Ask.mk .subtitle .lookup 20 true] }, [], Ask.mk .subtitle .lookup 20
   true, map0, picture0, 0, 0, { block := 0, store := 512, length := 48 }, loader0, by decide +kernel⟩,
   ⟨moving (transfer .windowFill true) (withCache (fun c =>
   { c with fills := [{ fill0 with running := true, asks := [Ask.mk .picture .sequencerPreparation 20 true] }] })
   (playing)), transfer .windowFill true,
   { fill0 with running := true, asks := [Ask.mk .picture .sequencerPreparation 20 true] }, [], Ask.mk .picture
   .sequencerPreparation 20 true, false, by rw [if_neg (by decide)]; rfl, by decide +kernel⟩,
   ⟨moving (transfer .windowFill true) (withCache (fun c =>
   { c with fills := [{ fill0 with running := true, asks := [{ ask0 with kind := .lookup, block := 48 }] }] })
   (withFrames (fun x => { x with job := some { job0 with next := 48 } }) playing)), transfer .windowFill true,
   { fill0 with running := true, asks := [{ ask0 with kind := .lookup, block := 48 }] }, [],
   { ask0 with kind := .lookup, block := 48 }, true, { job0 with next := 48 },
   by rw [if_pos rfl]; exact ⟨map0, by decide +kernel, Or.inr (by decide +kernel)⟩, by decide +kernel⟩,
   ⟨moving (transfer .windowFill true) (withCache (fun c =>
   { c with fills := [{ fill0 with running := true, asks := [Ask.mk .subtitle .lookup 20 true] }] }) (withSubs (fun
   x => { x with loader := some loader0 }) cached4)), transfer .windowFill true,
   { fill0 with running := true, asks := [Ask.mk .subtitle .lookup 20 true] }, [], Ask.mk .subtitle .lookup 20
   true, false, loader0, bank0, stream0, by rw [if_neg (by decide)]; rfl, by decide +kernel⟩⟩

theorem witness_SoundReaderFillsPortions :
    (∃ (s : State) (prepared : Bool) (p : Play) (f : Nat), s.sound.portions.length < 4 ∧ (∀ q ∈ s.sound.portions,
    q.filling = false) ∧ nextPortion s = some (prepared, p, f)) ∧
    (∃ (s : State) (tr : Transfer) (j : SoundJob) (portion : Portion) (p : Play), s.arbiter.current = some tr ∧
    tr.request.client = Client.sound ∧ tr.dropped = false ∧ s.sound.job = some j ∧ fillingPortion s = some
    (portion, p) ∧ firstAwaited (copyFromRun p
    { s with sound := { s.sound with run := some (ReadRun.mk j.track j.block
      ((List.range tr.request.count).map fun i => s.store.bytes (tr.request.first + i))) } }
    portion.cells) = none) ∧
    (∃ (s : State) (tr : Transfer) (j : SoundJob) (portion : Portion) (p : Play), s.arbiter.current = some tr ∧
    tr.request.client = Client.sound ∧ tr.dropped = false ∧ tr.retry = true ∧ s.sound.job = some j ∧ fillingPortion
    s = some (portion, p) ∧ firstAwaited (loseBlocks p j.track j.block j.count s portion.cells) = none) ∧
    (∃ (s : State) (t : State), step s = Host.Outcome.next t ∧ s.sound.portions.length ≤ 4) :=
  ⟨⟨withSound (fun x => { x with nextCurrent := 23 }) playing, false, play0, 23, by decide +kernel⟩,
   ⟨moving (transfer .sound false) (withSound (fun x => { x with job := some soundJob0, portions := [portion0] })
   playing), transfer .sound false, soundJob0, portion0, play0, by decide +kernel⟩,
   ⟨moving (transfer .sound true) (withSound (fun x => { x with job := some soundJob0, portions := [portion0] })
   playing), transfer .sound true, soundJob0, portion0, play0, by decide +kernel⟩,
   ⟨{ playing with pending := [.pair f0 5] }, stepped { playing with pending := [.pair f0 5] }, rfl,
   by decide +kernel⟩⟩

theorem witness_SubtitleLoaderLoadsBanks :
    (∃ (s : State) (k : Nat) (n : Nat) (t : Nat) (store : Nat) (remaining : Nat) (b : Bank) (p : Play) (u : State),
    s.subs.loader = none ∧ nextLoad s = some (k, n) ∧ (s.subs.streams[k]?.bind fun st => st.banks[n]?) = some b ∧
    playOf b.prepared s = some p ∧ subtitleTrack p b.reel k = some t ∧ lookup Reader.subtitle (if b.prepared = true
    then AskKind.readerPreparation else AskKind.lookup) t 0 s = (Answer.hit store remaining, u)) ∧
    (∃ (s : State) (tr : Transfer) (l : Loader) (b : Bank) (b' : Bank) (st : Machine.Stream) (rest : List Byte)
    (ended : Bool), s.arbiter.current = some tr ∧ tr.request.client = Client.subtitle ∧ tr.dropped = false ∧
    s.subs.loader = some l ∧ s.subs.streams[l.stream]? = some st ∧ st.banks[l.bank]? = some b ∧ st.live ≠ some
    l.bank ∧ l.total ≤ l.block + l.count ∧ takeRecords ((l.buffer ++ listBytes (List.map (fun i => s.store.bytes
    (tr.request.first + i)) (List.range tr.request.count)) l.left).length + 1) (l.left - (listBytes (List.map (fun
    i => s.store.bytes (tr.request.first + i)) (List.range tr.request.count)) l.left).length) b (l.buffer ++
    listBytes (List.map (fun i => s.store.bytes (tr.request.first + i)) (List.range tr.request.count)) l.left) =
    (b', rest, ended)) ∧
    (∃ (s : State) (tr : Transfer) (l : Loader) (b : Bank) (st : Machine.Stream), s.arbiter.current = some tr ∧
    tr.request.client = Client.subtitle ∧ tr.dropped = false ∧ tr.retry = true ∧ s.subs.loader = some l ∧
    s.subs.streams[l.stream]? = some st ∧ st.banks[l.bank]? = some b ∧ st.live ≠ some l.bank) ∧
    (∃ (s : State) (tr : Transfer) (l : Loader) (b : Bank) (b' : Bank) (st : Machine.Stream) (rest : List Byte) (n
    : Nat) (e : CacheEntry), s.arbiter.current = some tr ∧ tr.request.client = Client.subtitle ∧ tr.dropped = false
    ∧ s.subs.loader = some l ∧ s.subs.streams[l.stream]? = some st ∧ st.banks[l.bank]? = some b ∧ l.block + l.count
    < l.total ∧ (∀ r ∈ s.arbiter.waiting, r.client ≠ Client.subtitle) ∧ takeRecords ((l.buffer ++ listBytes
    (List.map (fun i => s.store.bytes (tr.request.first + i)) (List.range tr.request.count)) l.left).length + 1)
    (l.left - (listBytes (List.map (fun i => s.store.bytes (tr.request.first + i)) (List.range tr.request.count))
    l.left).length) b (l.buffer ++ listBytes (List.map (fun i => s.store.bytes (tr.request.first + i)) (List.range
    tr.request.count)) l.left) = (b', rest, false) ∧ judgeLookup Reader.subtitle l.track (l.block + l.count) s =
    none ∧ findCovering s.cache.entries l.track (l.block + l.count) = some (n, e)) :=
  ⟨⟨cached4, 0, 1, 4, 700, 1, bank0, play0, (lookup .subtitle .lookup 4 0 cached4).2, by decide +kernel⟩,
   ⟨moving (transfer .subtitle false) (withSubs (fun x => { x with loader := some loader0 }) cached4), transfer
   .subtitle false, loader0, bank0, { bank0 with form := 1 }, stream0, [], true, by decide +kernel⟩,
   ⟨moving (transfer .subtitle true) (withSubs (fun x => { x with loader := some loader0 }) cached4), transfer
   .subtitle true, loader0, bank0, stream0, by decide +kernel⟩,
   ⟨moving { transfer .subtitle false with request := { (transfer .subtitle false).request with count := 0 } }
   (withSubs (fun x => { x with loader := some { loader0 with count := 0 } }) cached4),
   { transfer .subtitle false with request := { (transfer .subtitle false).request with count := 0 } },
   { loader0 with count := 0 }, bank0, bank0, stream0, [], 0, entry4, by decide +kernel⟩⟩

theorem witness_SecondsAndCheckRequests :
    (∃ (s : State), s.keys.counter < s.keys.interval ∧ s.keys.budget.ended (bump max32 s.keys.clock) = false) ∧
    (∃ (s : State), s.keys.interval ≤ s.keys.counter) ∧
    (∃ (s : State) (f : Frame), State.accepts 18 f s) ∧
    (∃ (s : State) (f : Frame), State.accepts 19 f s) :=
  ⟨⟨withKeys (fun k => { k with counter := k.interval - 1 }) quiet, by decide +kernel⟩,
   ⟨withKeys (fun k => { k with counter := k.interval }) quiet, by decide +kernel⟩,
   ⟨quiet, f0, accepts_quiet rfl rfl⟩,
   ⟨quiet, f0, accepts_quiet rfl rfl⟩⟩

theorem witness_WindowCheckJudgesEverySlot :
    (∃ (s : State), s.keys.requester = Requester.pending ∧ s.countInFlight = false ∧ s.keys.grants.rising = true) ∧
    (∃ (s : State), s.keys.requester = Requester.checking ∧ 32 ≤ s.keys.checkNext ∧ (∀ w ∈ s.queue.writes,
    w.forCheck = false)) :=
  ⟨⟨withKeys (fun k => { k with requester := .pending }) playing, by decide +kernel⟩,
   ⟨withKeys (fun k => { k with requester := .checking, checkNext := 32 }) playing, by decide +kernel⟩⟩

theorem witness_TrimMovesTheClock_budget :
    (∃ (s : State) (t : State), s.budgetWithin ∧ step s = Host.Outcome.next t) :=
  ⟨{ playing with pending := [.pair f0 5] }, stepped { playing with pending := [.pair f0 5] },
  ⟨by decide +kernel, by decide +kernel, fun _ h => absurd h List.not_mem_nil⟩, rfl⟩

theorem witness_GrantRequestsChangeTheirSlot :
    (∃ (f : Frame) (s : State), State.accepts 14 f s) ∧
    (∃ (f : Frame) (s : State) (slot : Nat) (g : Grant), State.accepts 16 f s ∧ s.queue.writes.length < 8 ∧
    s.queue.waiters = [] ∧ slot ≤ 31 ∧ s.keys.grants.find slot = some g ∧ (g.state = GrantState.pending ∨ g.state =
    GrantState.active) ∧ s.keys.bound ≠ some slot) ∧
    (∃ (f : Frame) (s : State) (slot : Nat) (g : Grant), State.accepts 17 f s ∧ s.queue.writes.length < 8 ∧
    s.queue.waiters = [] ∧ slot ≤ 31 ∧ s.keys.grants.find slot = some g ∧ (g.state = GrantState.spent ∨ g.state =
    GrantState.expired ∨ g.state = GrantState.revoked) ∧ s.keys.bound ≠ some slot) ∧
    (∃ (f : Frame) (s : State) (slot : Nat) (g : Grant) (sh : Showing), State.accepts 16 f s ∧
    s.queue.writes.length < 8 ∧ s.queue.waiters = [] ∧ slot ≤ 31 ∧ s.keys.grants.find slot = some g ∧ (g.state =
    GrantState.pending ∨ g.state = GrantState.active) ∧ s.keys.bound = some slot ∧ s.showing = some sh) :=
  ⟨⟨f0, quiet, accepts_quiet rfl rfl⟩,
   ⟨f0, withQueue 7 [] (withKeys (fun k => { k with grants := [(31, grant0)] }) quiet), 31, grant0,
   accepts_quiet rfl rfl, by decide +kernel⟩,
   ⟨f0, withQueue 7 [] (withKeys (fun k => { k with grants := [(31, spent0)] }) quiet), 31, spent0,
   accepts_quiet rfl rfl, by decide +kernel⟩,
   ⟨f0, withQueue 7 [] playing, 0, grant0, showing0, accepts_quiet rfl rfl, by decide +kernel⟩⟩

theorem witness_GrantRequestsAreRefusedInOrder :
    (∃ (f : Frame) (s : State) (slot : Nat), State.accepts 16 f s ∧ 31 < slot) ∧
    (∃ (f : Frame) (s : State) (slot : Nat), State.accepts 16 f s ∧ slot ≤ 31 ∧ s.keys.grants.find slot = none) ∧
    (∃ (f : Frame) (s : State) (slot : Nat) (g : Grant), State.accepts 16 f s ∧ slot ≤ 31 ∧ s.keys.grants.find slot
    = some g ∧ (g.state = GrantState.spent ∨ g.state = GrantState.expired ∨ g.state = GrantState.revoked)) ∧
    (∃ (f : Frame) (s : State) (slot : Nat), State.accepts 17 f s ∧ 31 < slot) ∧
    (∃ (f : Frame) (s : State) (slot : Nat), State.accepts 17 f s ∧ slot ≤ 31 ∧ s.keys.grants.find slot = none) ∧
    (∃ (f : Frame) (s : State) (slot : Nat) (g : Grant), State.accepts 17 f s ∧ slot ≤ 31 ∧ s.keys.grants.find slot
    = some g ∧ (g.state = GrantState.pending ∨ g.state = GrantState.active)) ∧
    (∃ (f : Frame) (s : State) (slot : Nat) (g : Grant), State.accepts 17 f s ∧ slot ≤ 31 ∧ s.keys.grants.find slot
    = some g ∧ (g.state = GrantState.spent ∨ g.state = GrantState.expired ∨ g.state = GrantState.revoked) ∧
    s.keys.bound = some slot) :=
  ⟨⟨f0, quiet, 32, accepts_quiet rfl rfl, by decide +kernel⟩,
   ⟨f0, quiet, 31, accepts_quiet rfl rfl, by decide +kernel⟩,
   ⟨f0, withKeys (fun k => { k with grants := [(31, spent0)] }) quiet, 31, spent0, accepts_quiet rfl rfl,
   by decide +kernel⟩,
   ⟨f0, quiet, 32, accepts_quiet rfl rfl, by decide +kernel⟩,
   ⟨f0, quiet, 31, accepts_quiet rfl rfl, by decide +kernel⟩,
   ⟨f0, playing, 0, grant0, accepts_quiet rfl rfl, by decide +kernel⟩,
   ⟨f0, withKeys (fun k => { k with grants := [(31, spent0)], bound := some 31 }) quiet, 31, spent0,
   accepts_quiet rfl rfl, by decide +kernel⟩⟩

theorem witness_SelectionTakesTheEarliestEnd :
    (∃ (key : Nat) (clock : Nat) (grants : Table Grant) (slot : Nat) (g : Grant), grants.rising = true ∧ bestGrant
    key clock grants = some (slot, g)) ∧
    (∃ (key : Nat) (clock : Nat) (grants : Table Grant), grants.rising = true ∧ bestGrant key clock grants = none) :=
  ⟨⟨33, 20, [(0, grant0)], 0, grant0, by decide +kernel⟩,
   ⟨34, 20, [(0, grant0)], by decide +kernel⟩⟩

theorem witness_ShowingsAreCountedOnce :
    (∃ (c : Instr) (s : State) (t : State), s.showsWithin ∧ (∀ (size ran : Nat) (landed : Bool), c ≠
    Instr.fullReset size ran landed) ∧ exec c s = Host.Outcome.next t ∧ c ≠ Instr.outgoingSendComplete) ∧
    (∃ (s : State) (sh : Showing), s.showing = some sh ∧ s.keys.counted = true) ∧
    (∃ (s : State) (sh : Showing) (slot : Nat) (g : Grant) (c : Machine.Composition), s.showing = some sh ∧
    s.keys.counted = false ∧ s.queue.writes.length < 8 ∧ s.queue.waiters = [] ∧ s.keys.bound = some slot ∧
    s.keys.grants.find slot = some g ∧ s.catalogue.compositions.find sh.play.id = some c ∧ g.shows < g.allowance) :=
  ⟨⟨.grantPurge f0 0, playing, after (.grantPurge f0 0) playing, by unfold State.showsWithin; decide +kernel,
   by intros; first | contradiction | (intro h; cases h), rfl, by decide +kernel⟩,
   ⟨withKeys (fun k => { k with counted := true }) playing, showing0, by decide +kernel⟩,
   ⟨withQueue 7 [] playing, showing0, 0, grant0, composition0, by decide +kernel⟩⟩

theorem witness_ListsAreReplacedWhole :
    (∃ (s : State) (t : State), s.poolsBounded ∧ step s = Host.Outcome.next t) ∧
    (∃ (f : Frame) (list : Nat) (entries : List Entry) (s : State), State.accepts 20 f s ∧ (¬(list ≤ 15 ∧
    entries.length ≤ 8 ∧ ∀ e ∈ entries, Entry.fits e = true))) ∧
    (∃ (f : Frame) (list : Nat) (entries : List Entry) (s : State), State.accepts 20 f s ∧ (list ≤ 15 ∧
    entries.length ≤ 8 ∧ ∀ e ∈ entries, Entry.fits e = true) ∧ s.seq.uses list = true) ∧
    (∃ (f : Frame) (list : Nat) (entries : List Entry) (s : State), State.accepts 20 f s ∧ (list ≤ 15 ∧
    entries.length ≤ 8 ∧ ∀ e ∈ entries, Entry.fits e = true) ∧ s.seq.uses list = false ∧ (256 < entries.length +
    (otherEntries s.seq.lists list).length ∨ 512 < cueCount entries + cueCount (otherEntries s.seq.lists list))) ∧
    (∃ (f : Frame) (list : Nat) (entries : List Entry) (s : State), State.accepts 20 f s ∧ (list ≤ 15 ∧
    entries.length ≤ 8 ∧ ∀ e ∈ entries, Entry.fits e = true) ∧ s.seq.uses list = false ∧ entries.length +
    (otherEntries s.seq.lists list).length ≤ 256 ∧ cueCount entries + cueCount (otherEntries s.seq.lists list) ≤
    512) ∧
    (∃ (f : Frame) (list : Nat) (part : Nat) (entries : List Entry) (s : State), State.accepts 20 f s ∧ (¬(list ≤
    15 ∧ part ≤ 255 ∧ entries.length ≤ 8 ∧ ∀ e ∈ entries, Entry.fits e = true))) ∧
    (∃ (f : Frame) (list : Nat) (part : Nat) (final : Bool) (entries : List Entry) (s : State), State.accepts 20 f
    s ∧ (list ≤ 15 ∧ part ≤ 255 ∧ entries.length ≤ 8 ∧ ∀ e ∈ entries, Entry.fits e = true) ∧ part = 0 ∧ final =
    false) ∧
    (∃ (f : Frame) (list : Nat) (part : Nat) (entries : List Entry) (s : State), State.accepts 20 f s ∧ (list ≤ 15
    ∧ part ≤ 255 ∧ entries.length ≤ 8 ∧ ∀ e ∈ entries, Entry.fits e = true) ∧ part ≠ 0 ∧ s.seq.staging = none) ∧
    (∃ (f : Frame) (list : Nat) (part : Nat) (entries : List Entry) (s : State) (x : Staging), State.accepts 20 f s
    ∧ (list ≤ 15 ∧ part ≤ 255 ∧ entries.length ≤ 8 ∧ ∀ e ∈ entries, Entry.fits e = true) ∧ part ≠ 0 ∧ s.seq.staging
    = some x ∧ (x.list ≠ list ∨ part ≠ x.part + 1)) ∧
    (∃ (f : Frame) (list : Nat) (part : Nat) (entries : List Entry) (s : State) (x : Staging), State.accepts 20 f s
    ∧ (list ≤ 15 ∧ part ≤ 255 ∧ entries.length ≤ 8 ∧ ∀ e ∈ entries, Entry.fits e = true) ∧ part ≠ 0 ∧ s.seq.staging
    = some x ∧ x.list = list ∧ part = x.part + 1 ∧ (256 < (x.entries ++ entries).length ∨ 512 < cueCount (x.entries
    ++ entries))) ∧
    (∃ (f : Frame) (list : Nat) (part : Nat) (final : Bool) (entries : List Entry) (s : State) (x : Staging),
    State.accepts 20 f s ∧ (list ≤ 15 ∧ part ≤ 255 ∧ entries.length ≤ 8 ∧ ∀ e ∈ entries, Entry.fits e = true) ∧
    part ≠ 0 ∧ s.seq.staging = some x ∧ x.list = list ∧ part = x.part + 1 ∧ (x.entries ++ entries).length ≤ 256 ∧
    cueCount (x.entries ++ entries) ≤ 512 ∧ final = false) ∧
    (∃ (f : Frame) (list : Nat) (part : Nat) (final : Bool) (entries : List Entry) (s : State) (x : Staging),
    State.accepts 20 f s ∧ (list ≤ 15 ∧ part ≤ 255 ∧ entries.length ≤ 8 ∧ ∀ e ∈ entries, Entry.fits e = true) ∧
    part ≠ 0 ∧ s.seq.staging = some x ∧ x.list = list ∧ part = x.part + 1 ∧ (x.entries ++ entries).length ≤ 256 ∧
    cueCount (x.entries ++ entries) ≤ 512 ∧ final = true ∧ s.seq.uses list = true) ∧
    (∃ (f : Frame) (list : Nat) (part : Nat) (final : Bool) (entries : List Entry) (s : State) (x : Staging),
    State.accepts 20 f s ∧ (list ≤ 15 ∧ part ≤ 255 ∧ entries.length ≤ 8 ∧ ∀ e ∈ entries, Entry.fits e = true) ∧
    part ≠ 0 ∧ s.seq.staging = some x ∧ x.list = list ∧ part = x.part + 1 ∧ (x.entries ++ entries).length ≤ 256 ∧
    cueCount (x.entries ++ entries) ≤ 512 ∧ final = true ∧ s.seq.uses list = false) :=
  ⟨⟨{ playing with pending := [.pair f0 5] }, stepped { playing with pending := [.pair f0 5] },
   by unfold State.poolsBounded; decide +kernel, rfl⟩,
   ⟨f0, 16, [], quiet, accepts_quiet rfl rfl, by decide +kernel⟩,
   ⟨f0, 0, [.black 1], playing, accepts_quiet rfl rfl, by decide +kernel⟩,
   ⟨f0, 15, [.black 1], withSeq (fun q => { q with lists := List.replicate 15 (List.replicate 18 (.black 1)) })
   quiet, accepts_quiet rfl rfl, by decide +kernel⟩,
   ⟨f0, 15, [.black 1], quiet, accepts_quiet rfl rfl, by decide +kernel⟩,
   ⟨f0, 0, 256, [], quiet, accepts_quiet rfl rfl, by decide +kernel⟩,
   ⟨f0, 15, 0, false, List.replicate 8 (.black 1), playing, accepts_quiet rfl rfl, by decide +kernel⟩,
   ⟨f0, 0, 1, [.black 1], quiet, accepts_quiet rfl rfl, by decide +kernel⟩,
   ⟨f0, 15, 2, [.black 1], withSeq (fun q =>
   { q with staging := some { list := 15, part := 0, entries := [.black 2] } }) quiet,
   { list := 15, part := 0, entries := [.black 2] }, accepts_quiet rfl rfl, by decide +kernel⟩,
   ⟨f0, 15, 255, List.replicate 8 (.black 1), withSeq (fun q =>
   { q with staging := some { list := 15, part := 254, entries := List.replicate 249 (.black 1) } }) quiet,
   { list := 15, part := 254, entries := List.replicate 249 (.black 1) }, accepts_quiet rfl rfl, by decide +kernel⟩,
   ⟨f0, 15, 255, false, List.replicate 7 (.black 1), withSeq (fun q =>
   { q with staging := some { list := 15, part := 254, entries := List.replicate 249 (.black 1) } }) quiet,
   { list := 15, part := 254, entries := List.replicate 249 (.black 1) }, accepts_quiet rfl rfl, by decide +kernel⟩,
   ⟨f0, 0, 1, true, [.black 1], withSeq (fun q =>
   { q with staging := some { list := 0, part := 0, entries := [.black 2] } }) playing,
   { list := 0, part := 0, entries := [.black 2] }, accepts_quiet rfl rfl, by decide +kernel⟩,
   ⟨f0, 15, 1, true, [.black 1], withSeq (fun q =>
   { q with staging := some { list := 15, part := 0, entries := [.black 2] } }) quiet,
   { list := 15, part := 0, entries := [.black 2] }, accepts_quiet rfl rfl, by decide +kernel⟩⟩

theorem witness_ShowsArmAndStart :
    (∃ (f : Frame) (s : State) (list : Nat), State.accepts 22 f s ∧ 15 < list) ∧
    (∃ (f : Frame) (s : State) (list : Nat), State.accepts 22 f s ∧ list ≤ 15 ∧ s.seq.state ≠ SeqState.idle) ∧
    (∃ (f : Frame) (s : State) (list : Nat), State.accepts 22 f s ∧ list ≤ 15 ∧ s.seq.state = SeqState.idle) ∧
    (∃ (f : Frame) (s : State), State.accepts 23 f s ∧ s.seq.state ≠ SeqState.armed) ∧
    (∃ (f : Frame) (s : State) (list : Nat) (n : Nat), State.accepts 23 f s ∧ s.seq.state = SeqState.armed ∧
    s.seq.pos = some { list := list, entry := 0 } ∧ s.seq.stack = [] ∧ (s.seq.lists.getD list [])[0]? = some
    (Entry.black n)) ∧
    (∃ (f : Frame) (s : State) (list : Nat) (limit : Option Nat), State.accepts 23 f s ∧ s.seq.state =
    SeqState.armed ∧ s.seq.pos = some { list := list, entry := 0 } ∧ s.seq.stack = [] ∧ (s.seq.lists.getD list
    [])[0]? = some (Entry.wait limit)) ∧
    (∃ (f : Frame) (s : State) (list : Nat), State.accepts 23 f s ∧ s.seq.state = SeqState.armed ∧ s.seq.pos = some
    { list := list, entry := 0 } ∧ s.seq.stack = [] ∧ s.seq.lists.getD list [] = [] ∧ s.seq.current = Current.none) ∧
    (∃ (f : Frame) (s : State) (list : Nat) (id : Nat) (first : Option Nat) (last : Option Nat) (cues : List
    CueRecord) (p : Play) (g : Option (Nat × Grant)) (u : State), State.accepts 23 f s ∧ checkPlay
    { list := list, entry := 0 } id first last cues s = (Verdict.pass p g, u) ∧ s.seq.state = SeqState.armed ∧
    s.seq.pos = some { list := list, entry := 0 } ∧ s.seq.stack = [] ∧ (s.seq.lists.getD list [])[0]? = some
    (Entry.play id first last cues) ∧ s.seq.current = Current.none) ∧
    (∃ (id : Nat) (s : State), s.catalogue.compositions.find id = none) ∧
    (∃ (id : Nat) (s : State) (c : Machine.Composition), s.catalogue.compositions.find id = some c ∧
    c.incomplete.isSome = true) ∧
    (∃ (id : Nat) (first : Option Nat) (last : Option Nat) (s : State) (c : Machine.Composition),
    s.catalogue.compositions.find id = some c ∧ c.incomplete = none ∧ (last.getD c.reels.length < first.getD 1 ∨
    c.reels.length < last.getD c.reels.length)) ∧
    (∃ (id : Nat) (first : Option Nat) (last : Option Nat) (s : State) (c : Machine.Composition),
    s.catalogue.compositions.find id = some c ∧ c.incomplete = none ∧ first.getD 1 ≤ last.getD c.reels.length ∧
    last.getD c.reels.length ≤ c.reels.length ∧ c.key = none) ∧
    (∃ (id : Nat) (first : Option Nat) (last : Option Nat) (s : State) (c : Machine.Composition) (key : Nat) (u :
    State), selectGrant key s = (none, u) ∧ s.catalogue.compositions.find id = some c ∧ c.incomplete = none ∧
    first.getD 1 ≤ last.getD c.reels.length ∧ last.getD c.reels.length ≤ c.reels.length ∧ c.key = some key) ∧
    (∃ (id : Nat) (first : Option Nat) (last : Option Nat) (s : State) (c : Machine.Composition) (key : Nat) (g :
    Nat × Grant) (u : State), selectGrant key s = (some g, u) ∧ s.catalogue.compositions.find id = some c ∧
    c.incomplete = none ∧ first.getD 1 ≤ last.getD c.reels.length ∧ last.getD c.reels.length ≤ c.reels.length ∧
    c.key = some key) :=
  ⟨⟨f0, quiet, 16, accepts_quiet rfl rfl, by decide +kernel⟩,
   ⟨f0, playing, 15, accepts_quiet rfl rfl, by decide +kernel⟩,
   ⟨f0, quiet, 15, accepts_quiet rfl rfl, by decide +kernel⟩,
   ⟨f0, playing, accepts_quiet rfl rfl, by decide +kernel⟩,
   ⟨f0, armed [.black 1], 0, 1, accepts_quiet rfl rfl, by decide +kernel⟩,
   ⟨f0, armed [.wait none], 0, none, accepts_quiet rfl rfl, by decide +kernel⟩,
   ⟨f0, armed [], 0, accepts_quiet rfl rfl, by decide +kernel⟩,
   ⟨f0, armedPlay, 0, 1, none, none, [], play0, none, armedPlay, accepts_quiet rfl rfl, rfl, by decide +kernel⟩,
   ⟨63, stocked, by decide +kernel⟩,
   ⟨1, withCatalogue (fun c => { c with compositions := [(1, { composition0 with incomplete := some .kind })] })
   stocked, { composition0 with incomplete := some .kind }, by decide +kernel⟩,
   ⟨1, some 2, none, stocked, composition0, by decide +kernel⟩,
   ⟨1, some 1, some 1, stocked, composition0, by decide +kernel⟩,
   ⟨1, none, none, keyed0, { composition0 with key := some 33 }, 33, keyed0, rfl, by decide +kernel⟩,
   ⟨1, none, none, withKeys (fun k => { k with grants := [(0, grant0)] }) keyed0,
   { composition0 with key := some 33 }, 33, (0, grant0), withKeys (fun k => { k with grants := [(0, grant0)] })
   keyed0, rfl, by decide +kernel⟩⟩

theorem witness_PausesHoldAndEndShows :
    (∃ (f : Frame) (s : State), State.accepts 24 f s ∧ s.seq.state = SeqState.running) ∧
    (∃ (f : Frame) (s : State), State.accepts 24 f s ∧ s.seq.state ≠ SeqState.running) ∧
    (∃ (f : Frame) (s : State), State.accepts 25 f s ∧ s.seq.state ≠ SeqState.paused) ∧
    (∃ (f : Frame) (s : State), State.accepts 25 f s ∧ s.seq.state = SeqState.paused ∧ s.interlocked = true) ∧
    (∃ (f : Frame) (s : State), State.accepts 25 f s ∧ s.seq.state = SeqState.paused ∧ s.interlocked = false) ∧
    (∃ (f : Frame) (s : State) (seconds : Nat), State.accepts 29 f s ∧ (s.seq.state = SeqState.paused → min seconds
    3600 = 0 ∨ Option.all (fun c => decide (c < min seconds 3600 * 27000000)) s.seq.pauseTimer = true)) ∧
    (∃ (s : State), s.seq.state = SeqState.paused ∧ s.seq.pauseLimit ≠ 0) ∧
    (∃ (f : Frame) (s : State) (seconds : Nat) (cycles : Nat), State.accepts 29 f s ∧ s.seq.state = SeqState.paused
    ∧ min seconds 3600 ≠ 0 ∧ s.seq.pauseTimer = some cycles ∧ min seconds 3600 * 27000000 ≤ cycles) :=
  ⟨⟨f0, playing, accepts_quiet rfl rfl, by decide +kernel⟩,
   ⟨f0, quiet, accepts_quiet rfl rfl, by decide +kernel⟩,
   ⟨f0, playing, accepts_quiet rfl rfl, by decide +kernel⟩,
   ⟨f0, interlock (withSeq (fun q => { q with state := .paused }) playing), accepts_quiet rfl rfl,
   by decide +kernel⟩,
   ⟨f0, withSeq (fun q => { q with state := .paused }) playing, accepts_quiet rfl rfl, by decide +kernel⟩,
   ⟨f0, playing, 3601, accepts_quiet rfl rfl, by decide +kernel⟩,
   ⟨withSeq (fun q => { q with state := .paused, pauseLimit := 1 }) playing, by decide +kernel⟩,
   ⟨f0, withSeq (fun q => { q with state := .paused, pauseTimer := some 27000000 }) playing, 1, 27000000,
   accepts_quiet rfl rfl, by decide +kernel⟩⟩

theorem witness_WaitsEndByGoOrTimeout :
    (∃ (f : Frame) (s : State), State.accepts 26 f s ∧ s.seq.state ≠ SeqState.waiting) ∧
    (∃ (f : Frame) (s : State), State.accepts 26 f s ∧ s.seq.state = SeqState.waiting ∧ s.interlocked = true) ∧
    (∃ (f : Frame) (s : State), State.accepts 26 f s ∧ s.seq.state = SeqState.waiting ∧ s.interlocked = false ∧
    s.seq.waitReason = some WaitReason.logFull ∧ s.log.hasRoom = false) ∧
    (∃ (f : Frame) (s : State) (byHost : Bool), (∃ stack, s.seq.path = some { steps := [], stack := stack }) ∧ (if
    byHost = true then State.accepts 26 f s else s.seq.waitLimit.isSome = true ∧ s.seq.waitTimer.isSome = true) ∧
    s.seq.state = SeqState.waiting ∧ s.seq.waitReason = some WaitReason.wait ∧ s.interlocked = true ∧ byHost =
    false) ∧
    (∃ (f : Frame) (s : State) (byHost : Bool) (pos : Pos) (n : Nat), (∃ stack, s.seq.path = some
    { steps := [], stack := stack }) ∧ (if byHost = true then State.accepts 26 f s else s.seq.waitLimit.isSome =
    true ∧ s.seq.waitTimer.isSome = true) ∧ s.seq.state = SeqState.waiting ∧ s.seq.waitReason = some
    WaitReason.wait ∧ s.interlocked = false ∧ s.seq.prepared = some (Prepared.black pos n)) ∧
    (∃ (f : Frame) (s : State) (byHost : Bool) (p : Play), (∃ stack, s.seq.path = some
    { steps := [], stack := stack }) ∧ (if byHost = true then State.accepts 26 f s else s.seq.waitLimit.isSome =
    true ∧ s.seq.waitTimer.isSome = true) ∧ s.seq.state = SeqState.waiting ∧ s.seq.waitReason = some
    WaitReason.wait ∧ s.interlocked = false ∧ s.seq.prepared = some (Prepared.play p)) ∧
    (∃ (f : Frame) (s : State) (byHost : Bool), (∃ stack, s.seq.path = some { steps := [], stack := stack }) ∧ (if
    byHost = true then State.accepts 26 f s else s.seq.waitLimit.isSome = true ∧ s.seq.waitTimer.isSome = true) ∧
    s.seq.state = SeqState.waiting ∧ s.seq.waitReason = some WaitReason.wait ∧ s.interlocked = false ∧
    s.seq.prepared = some Prepared.showEnd) ∧
    (∃ (f : Frame) (s : State) (p : Play) (u : State) (fresh : Play) (g : Option (Nat × Grant)), State.accepts 26 f
    s ∧ recheckPlay p (State.received 26 f s) = (Verdict.pass fresh g, u) ∧ s.seq.state = SeqState.waiting ∧
    s.interlocked = false ∧ s.seq.waitReason = some WaitReason.logFull ∧ s.log.hasRoom = true ∧ s.seq.prepared =
    some (Prepared.play p)) ∧
    (∃ (f : Frame) (s : State) (p : Play) (u : State) (reason : SkipReason) (n : Nat), State.accepts 26 f s ∧
    recheckPlay p (State.received 26 f s) = (Verdict.skip reason, u) ∧ s.seq.state = SeqState.waiting ∧
    s.interlocked = false ∧ s.seq.waitReason = some WaitReason.logFull ∧ s.log.hasRoom = true ∧ s.seq.prepared =
    some (Prepared.play p) ∧ (s.seq.lists.getD p.pos.list [])[p.pos.entry + 1]? = some (Entry.black n)) ∧
    (∃ (f : Frame) (s : State) (byHost : Bool) (pos : Pos) (timeout : Option Nat), (∃ stack, s.seq.path = some
    { steps := [], stack := stack }) ∧ (if byHost = true then State.accepts 26 f s else s.seq.waitLimit.isSome =
    true ∧ s.seq.waitTimer.isSome = true) ∧ s.seq.state = SeqState.waiting ∧ s.seq.waitReason = some
    WaitReason.wait ∧ s.interlocked = false ∧ s.seq.prepared = some (Prepared.wait pos timeout)) ∧
    (∃ (f : Frame) (s : State) (byHost : Bool) (pos : Pos), (∃ stack, s.seq.path = some
    { steps := [], stack := stack }) ∧ (if byHost = true then State.accepts 26 f s else s.seq.waitLimit.isSome =
    true ∧ s.seq.waitTimer.isSome = true) ∧ s.seq.state = SeqState.waiting ∧ s.seq.waitReason = some
    WaitReason.wait ∧ s.interlocked = false ∧ s.seq.prepared = some (Prepared.walkLimit pos)) :=
  ⟨⟨f0, playing, accepts_quiet rfl rfl, by decide +kernel⟩,
   ⟨f0, interlock (waiting none), accepts_quiet rfl rfl, by decide +kernel⟩,
   ⟨f0, withLog ((List.range 1024).map fun k => closedRecord k false) (withSeq (fun q =>
   { q with waitReason := some .logFull }) (waiting none)), accepts_quiet rfl rfl, by decide +kernel⟩,
   ⟨f0, interlock (waiting none), false, ⟨_, rfl⟩, by rw [if_neg (by decide)]; exact ⟨rfl, rfl⟩, by decide +kernel⟩,
   ⟨f0, waiting (some (.black ⟨0, 1⟩ 1)), true, ⟨0, 1⟩, 1, ⟨_, rfl⟩, accepts_quiet rfl rfl, by decide +kernel⟩,
   ⟨f0, waiting (some (.play play0)), false, play0, ⟨_, rfl⟩, by rw [if_neg (by decide)]; exact ⟨rfl, rfl⟩,
   by decide +kernel⟩,
   ⟨f0, waiting (some .showEnd), false, ⟨_, rfl⟩, by rw [if_neg (by decide)]; exact ⟨rfl, rfl⟩, by decide +kernel⟩,
   ⟨f0, withSeq (fun q =>
   { q with waitReason := some .logFull, lists := [.play 1 none none [], .black 7] :: q.lists.tail }) (waiting
   (some (.play play0))), play0, (recheckPlay play0 (State.received 26 f0 (withSeq (fun q =>
   { q with waitReason := some .logFull, lists := [.play 1 none none [], .black 7] :: q.lists.tail }) (waiting
   (some (.play play0)))))).2, play0, none, accepts_quiet rfl rfl, rfl, by decide +kernel⟩,
   ⟨f0, withCatalogue (fun c => { c with compositions := [] }) (withSeq (fun q =>
   { q with waitReason := some .logFull, lists := [.play 1 none none [], .black 7] :: q.lists.tail }) (waiting
   (some (.play play0)))), play0, State.received 26 f0 (withCatalogue (fun c => { c with compositions := [] })
   (withSeq (fun q =>
   { q with waitReason := some .logFull, lists := [.play 1 none none [], .black 7] :: q.lists.tail }) (waiting
   (some (.play play0))))), .notReady, 7, accepts_quiet rfl rfl, rfl, by decide +kernel⟩,
   ⟨f0, waiting (some (.wait ⟨0, 1⟩ (some 4))), true, ⟨0, 1⟩, some 4, ⟨_, rfl⟩, accepts_quiet rfl rfl,
   by decide +kernel⟩,
   ⟨f0, waiting (some (.walkLimit ⟨3, 1⟩)), true, ⟨3, 1⟩, ⟨_, rfl⟩, accepts_quiet rfl rfl, by decide +kernel⟩⟩

theorem witness_SkipsAndStopsEndEntries :
    (∃ (f : Frame) (s : State), State.accepts 27 f s ∧ s.seq.state ≠ SeqState.running) ∧
    (∃ (f : Frame) (s : State), State.accepts 27 f s ∧ s.seq.state = SeqState.running ∧ s.seq.current =
    Current.none) ∧
    (∃ (f : Frame) (s : State), State.accepts 27 f s ∧ ((∃ n begun, s.seq.current = Current.black n begun) ∨
    s.showing ≠ none) ∧ s.seq.state = SeqState.running ∧ s.log.release = none ∧ (s.seq.path = some ⟨[], []⟩ ∧
    s.seq.prepared = some (.wait ⟨0, 1⟩ none))) ∧
    (∃ (f : Frame) (s : State), State.accepts 27 f s ∧ ((∃ n begun, s.seq.current = Current.black n begun) ∨
    s.showing ≠ none) ∧ s.seq.state = SeqState.running ∧ s.log.release = none ∧ (s.seq.path = some ⟨[], []⟩ ∧
    s.seq.prepared = some .showEnd)) ∧
    (∃ (f : Frame) (s : State), State.accepts 27 f s ∧ ((∃ n begun, s.seq.current = Current.black n begun) ∨
    s.showing ≠ none) ∧ s.seq.state = SeqState.running ∧ s.log.release = none ∧ (s.seq.path = some ⟨[], []⟩ ∧
    s.seq.prepared = some (.play play0))) ∧
    (∃ (f : Frame) (s : State), State.accepts 27 f s ∧ ((∃ n begun, s.seq.current = Current.black n begun) ∨
    s.showing ≠ none) ∧ s.seq.state = SeqState.running ∧ s.log.release = none ∧ (s.seq.path = none ∧ s.seq.pos =
    some ⟨0, 0⟩ ∧ (s.seq.lists.getD 0 [])[1]? = some (.black 5))) ∧
    (∃ (f : Frame) (s : State), State.accepts 28 f s ∧ s.seq.state = SeqState.idle) ∧
    (∃ (f : Frame) (s : State), State.accepts 28 f s ∧ s.seq.state ≠ SeqState.idle ∧ s.log.release = none) :=
  ⟨⟨f0, quiet, accepts_quiet rfl rfl, by decide +kernel⟩,
   ⟨f0, running .none none none, accepts_quiet rfl rfl, by decide +kernel⟩,
   ⟨f0, running (.black 5 true) (some (.wait ⟨0, 1⟩ none)) (some ⟨[], []⟩), accepts_quiet rfl rfl,
   Or.inl ⟨_, _, rfl⟩, by decide +kernel⟩,
   ⟨f0, running (.play showing0) (some .showEnd) (some ⟨[], []⟩), accepts_quiet rfl rfl,
   Or.inr (by decide +kernel), by decide +kernel⟩,
   ⟨f0, running (.play showing0) (some (.play play0)) (some ⟨[], []⟩), accepts_quiet rfl rfl,
   Or.inr (by decide +kernel), by decide +kernel⟩,
   ⟨f0, withSeq (fun q => { q with lists := [.black 9, .black 5] :: q.lists.tail }) (running (.black 9 true) none
   none), accepts_quiet rfl rfl, Or.inl ⟨_, _, rfl⟩, by decide +kernel⟩,
   ⟨f0, quiet, accepts_quiet rfl rfl, by decide +kernel⟩,
   ⟨f0, playing, accepts_quiet rfl rfl, by decide +kernel⟩⟩

theorem witness_WalksAreBounded :
    (∃ (s : State) (t : State), s.nestingBounded ∧ step s = Host.Outcome.next t) ∧
    (∃ (stack : List Pos), stack.length ≤ 4) :=
  ⟨⟨{ playing with pending := [.skip f0] }, stepped { playing with pending := [.skip f0] },
   by unfold State.nestingBounded; decide +kernel, rfl⟩,
   ⟨[⟨1, 0⟩, ⟨1, 0⟩, ⟨1, 0⟩, ⟨1, 0⟩], by decide +kernel⟩⟩

theorem witness_BoundariesAndLimitsAct :
    (∃ (s : State), s.lookaheadDue = true) ∧
    (∃ (s : State) (n : Nat) (m : Nat) (pos : Pos) (stack : List Pos), s.seq.state = SeqState.running ∧
    s.seq.current = Current.black n true ∧ s.time.black ≤ 1 ∧ s.seq.path = some { steps := [], stack := stack } ∧
    s.seq.prepared = some (Prepared.black pos m) ∧ 96 < m) ∧
    (∃ (s : State) (sh : Showing), s.seq.current = Current.play sh ∧ 48 ≤ s.frames.consecutive) ∧
    (∃ (s : State) (p : Play), s.seq.prepared = some (Prepared.play p) ∧ (s.seq.state = SeqState.preroll ∨
    s.seq.state = SeqState.running ∧ s.seq.current = Current.none)) ∧
    (∃ (s : State) (p : Play) (n : Nat) (stack : List Pos), s.seq.prepared = some (Prepared.play p) ∧ s.seq.state =
    SeqState.running ∧ s.seq.current = Current.black n true ∧ s.time.black ≤ 1 ∧ s.seq.path = some
    { steps := [], stack := stack }) ∧
    (∃ (s : State) (u : State) (p : Play) (fresh : Play) (g : Option (Nat × Grant)), recheckPlay p s =
    (Verdict.pass fresh g, u) ∧ s.log.hasRoom = true) ∧
    (∃ (s : State) (u : State) (p : Play) (fresh : Play) (g : Option (Nat × Grant)), recheckPlay p s =
    (Verdict.pass fresh g, u) ∧ s.log.hasRoom = false) ∧
    (∃ (s : State) (u : State) (p : Play) (reason : SkipReason) (n : Nat), recheckPlay p s = (Verdict.skip reason,
    u) ∧ s.seq.prepared = some (Prepared.play p) ∧ (s.seq.lists.getD p.pos.list [])[p.pos.entry + 1]? = some
    (Entry.black n)) :=
  ⟨⟨playing, by decide +kernel⟩,
   ⟨withTime (fun t => { t with black := 1 }) (running (.black 5 true) (some (.black ⟨0, 1⟩ 97)) (some ⟨[], []⟩)),
   5, 97, ⟨0, 1⟩, [], by decide +kernel⟩,
   ⟨withFrames (fun x => { x with consecutive := 48 }) playing, showing0, by decide +kernel⟩,
   ⟨preroll, play0, by decide +kernel⟩,
   ⟨withTime (fun t => { t with black := 1 }) (running (.black 5 true) (some (.play play0)) (some ⟨[], []⟩)),
   play0, 5, [], by decide +kernel⟩,
   ⟨preroll, preroll, play0, play0, none, rfl, by decide +kernel⟩,
   ⟨withLog ((List.range 1024).map fun k => closedRecord k false) preroll, withLog ((List.range 1024).map fun k =>
   closedRecord k false) preroll, play0, play0, none, rfl, by decide +kernel⟩,
   ⟨skipped0, skipped0, play0, .notReady, 7, rfl, by decide +kernel⟩⟩

theorem witness_FrameClockFollowsItsSource :
    (∃ (s : State) (e : Edge) (rising : Bool), s.time.source = some e ∧ Edge.takes rising e = true ∧ s.time.clock ≠
    ClockState.coasting) ∧
    (∃ (s : State) (e : Edge) (rising : Bool), s.time.source = some e ∧ Edge.takes rising e = true ∧ s.time.clock =
    ClockState.coasting) ∧
    (∃ (s : State) (rising : Bool), (s.time.source = none ∨ ∃ e, s.time.source = some e ∧ Edge.takes rising e =
    false)) ∧
    (∃ (s : State), s.time.clock = ClockState.free) ∧
    (∃ (s : State), s.time.clock = ClockState.acquiring ∧ s.time.acquiring = 0) ∧
    (∃ (s : State), s.time.clock = ClockState.acquiring ∧ 1 ≤ s.time.acquiring) ∧
    (∃ (s : State), s.time.clock = ClockState.coasting) ∧
    (∃ (s : State), s.time.clock = ClockState.locked) ∧
    (∃ (s : State), s.time.clock ≠ ClockState.locked) ∧
    (∃ (s : State) (n : Nat) (x : CompareUnit) (a : Target), (frameTick s).showing.isSome = true ∧ (n < 2 ∨ n < 6 ∧
    (frameTick s).subs.streams[n - 2]?.isSome = true) ∧ (frameTick s).time.units[n]? = some x ∧ x.armed = some a) ∧
    (∃ (s : State), s.seq.state ≠ SeqState.running ∧ s.seq.state ≠ SeqState.preroll ∧ s.showing = none) ∧
    (∃ (s : State) (sh : Showing) (x : CompareUnit) (a : Target), s.seq.state = SeqState.running ∧ s.seq.current =
    Current.play sh ∧ s.time.frame < sh.endFrame ∧ s.frames.consecutive < 47 ∧ s.time.units[1]? = some x ∧ x.armed
    = some a ∧ s.time.frame + 1 < a.frame) ∧
    (∃ (s : State) (sh : Showing) (x : CompareUnit) (a : Target), ((fun x => ∀ (b : Target), x.pending = some b →
    s.time.frame + 1 < b.frame) x) ∧ s.seq.state = SeqState.running ∧ s.seq.current = Current.play sh ∧
    s.time.frame < sh.endFrame ∧ s.frames.consecutive < 47 ∧ s.time.units[1]? = some x ∧ x.armed = some a ∧ a.frame
    ≤ s.time.frame + 1) ∧
    (∃ (s : State) (sh : Showing) (x : CompareUnit) (a : Target) (c : Nat × CueAction), ((fun x => ∀ (b : Target),
    x.pending = some b → s.time.frame + 1 < b.frame) x) ∧ (∀ (d : Nat × CueAction), sh.cues[sh.nextCue]? = some d →
    s.time.frame + 1 < d.1) ∧ s.seq.state = SeqState.running ∧ s.seq.current = Current.play sh ∧ s.time.frame <
    sh.endFrame ∧ s.frames.consecutive < 47 ∧ s.time.units[0]? = some x ∧ x.armed = some a ∧ a.frame ≤ s.time.frame
    + 1 ∧ sh.cues[a.tag]? = some c) ∧
    (∃ (s : State) (sh : Showing), (∀ (x : CompareUnit) (a : Target), s.time.units[0]? = some x → x.armed = some a
    → s.time.frame + 1 < a.frame) ∧ s.seq.state = SeqState.running ∧ s.seq.current = Current.play sh ∧ s.time.frame
    < sh.endFrame ∧ s.frames.consecutive < 47) ∧
    (∃ (s : State) (sh : Showing) (pl : Place) (rest : List Place), s.seq.state = SeqState.running ∧ s.seq.current
    = Current.play sh ∧ s.time.frame < sh.endFrame ∧ s.seq.path.isSome = true ∧ s.frames.sending = none ∧
    s.frames.places = pl :: rest ∧ pl.frame = s.time.frame + 1 ∧ pl.prepared = false ∧ pl.condition =
    PlaceCondition.complete) ∧
    (∃ (s : State) (sh : Showing) (pl : Place) (rest : List Place) (k : Nat) (st : Machine.Stream) (x :
    CompareUnit) (a : Target) (cues : List TimedCue) (c : TimedCue), s.seq.state = SeqState.running ∧ s.seq.current
    = Current.play sh ∧ s.time.frame < sh.endFrame ∧ s.seq.path.isSome = true ∧ s.frames.sending = none ∧
    s.frames.places = pl :: rest ∧ pl.frame = s.time.frame + 1 ∧ pl.prepared = false ∧ pl.condition =
    PlaceCondition.complete ∧ k ≤ 3 ∧ s.time.frame + 1 ∉ List.drop 1 s.time.starts ∧ s.subs.streams[k]? = some st ∧
    st.slots = [none, none] ∧ st.timed = some cues ∧ cues[a.tag]? = some c ∧ s.time.units[2 + k]? = some x ∧
    x.armed = some a ∧ x.pending = none ∧ (∀ d ∈ List.drop st.nextCue cues, s.time.reelFrame + 1 < d.inFrame) ∧
    s.time.reelFrame + 1 < a.frame) ∧
    (∃ (s : State) (sh : Showing) (pl : Place) (rest : List Place) (k : Nat) (st : Machine.Stream) (x :
    CompareUnit) (a : Target) (cues : List TimedCue) (c : TimedCue), s.seq.state = SeqState.running ∧ s.seq.current
    = Current.play sh ∧ s.time.frame < sh.endFrame ∧ s.seq.path.isSome = true ∧ s.frames.sending = none ∧
    s.frames.places = pl :: rest ∧ pl.frame = s.time.frame + 1 ∧ pl.prepared = false ∧ pl.condition =
    PlaceCondition.complete ∧ k ≤ 3 ∧ s.time.frame + 1 ∉ List.drop 1 s.time.starts ∧ s.subs.streams[k]? = some st ∧
    st.slots = [none, none] ∧ st.timed = some cues ∧ cues[a.tag]? = some c ∧ s.time.units[2 + k]? = some x ∧
    x.armed = some a ∧ x.pending = none ∧ (∀ d ∈ List.drop st.nextCue cues, s.time.reelFrame + 1 < d.inFrame) ∧
    a.frame ≤ s.time.reelFrame + 1 ∧ s.time.reelFrame + 1 < c.outFrame) ∧
    (∃ (s : State) (sh : Showing) (pl : Place) (rest : List Place), s.seq.state = SeqState.running ∧ s.seq.current
    = Current.play sh ∧ s.time.frame < sh.endFrame ∧ s.seq.path.isSome = true ∧ s.frames.sending = none ∧
    s.frames.places = pl :: rest ∧ pl.frame = s.time.frame + 1 ∧ pl.prepared = false ∧ pl.condition =
    PlaceCondition.missing ∧ s.frames.consecutive < 47) ∧
    (∃ (s : State) (sh : Showing) (pl : Place) (rest : List Place), s.seq.state = SeqState.running ∧ s.seq.current
    = Current.play sh ∧ s.time.frame < sh.endFrame ∧ s.seq.path.isSome = true ∧ s.frames.sending = none ∧
    s.frames.places = pl :: rest ∧ pl.frame = s.time.frame + 1 ∧ pl.prepared = false ∧ pl.condition =
    PlaceCondition.missing ∧ s.frames.consecutive = 47) :=
  ⟨⟨withTime (fun t => { t with source := some .falling }) playing, .falling, false, by decide +kernel⟩,
   ⟨withTime (fun t => { t with source := some .falling, clock := .coasting }) playing, .falling, false,
   by decide +kernel⟩,
   ⟨playing, true, Or.inl rfl⟩,
   ⟨playing, by decide +kernel⟩,
   ⟨withTime (fun t => { t with clock := .acquiring }) playing, by decide +kernel⟩,
   ⟨withTime (fun t => { t with clock := .acquiring, acquiring := 1 }) playing, by decide +kernel⟩,
   ⟨withTime (fun t => { t with clock := .coasting }) playing, by decide +kernel⟩,
   ⟨withTime (fun t => { t with clock := .locked }) playing, by decide +kernel⟩,
   ⟨playing, by decide +kernel⟩,
   ⟨withUnit 0 (armedAt 6) playing, 0, armedAt 6, ⟨6, 0⟩, by decide +kernel⟩,
   ⟨withSound (fun x => { x with fade := some { start := 4096, target := 0, length := 3, taken := 1 } }) quiet,
   by decide +kernel⟩,
   ⟨withUnit 1 (armedAt 6) playing, showing0, armedAt 6, ⟨6, 0⟩, by decide +kernel⟩,
   ⟨withUnit 1 (armedAt 5) playing, showing0, armedAt 5, ⟨5, 0⟩, (fun b h => nomatch h), by decide +kernel⟩,
   ⟨withUnit 0 (armedAt 5) (withShowing (fun _ => cued0) playing), cued0, armedAt 5, ⟨5, 0⟩, (5, .notice 9),
   (fun b h => nomatch h), by intro d h; cases h; decide +kernel, by decide +kernel⟩,
   ⟨withUnit 0 (armedAt 6) playing, showing0, by intro x a h g; cases h; cases g; decide +kernel,
   by decide +kernel⟩,
   ⟨due0 .complete 47, showing0, ⟨false, 5, .complete, []⟩, [], by decide +kernel⟩,
   ⟨captioned0 6, showing0, ⟨false, 5, .complete, []⟩, [], 3,
   { Stream.reset with timed := some [caption0], nextCue := 1 }, armedAt 6, ⟨6, 0⟩, [caption0], caption0,
   by decide +kernel⟩,
   ⟨captioned0 5, showing0, ⟨false, 5, .complete, []⟩, [], 3,
   { Stream.reset with timed := some [caption0], nextCue := 1 }, armedAt 5, ⟨5, 0⟩, [caption0], caption0,
   by decide +kernel⟩,
   ⟨due0 .missing 46, showing0, ⟨false, 5, .missing, []⟩, [], by decide +kernel⟩,
   ⟨due0 .missing 47, showing0, ⟨false, 5, .missing, []⟩, [], by decide +kernel⟩⟩

theorem witness_SourcesAndCaptures :
    (∃ (s : State) (t : State), step s = Host.Outcome.next t ∧ s.time.captures.length ≤ 8) ∧
    (∃ (f : Frame) (s : State), State.accepts 53 f s) ∧
    (∃ (f : Frame) (s : State) (source : Nat) (edge : Option Nat), State.accepts 30 f s ∧ sourceOf source edge =
    none) ∧
    (∃ (f : Frame) (s : State) (source : Nat) (edge : Option Nat), State.accepts 30 f s ∧ sourceOf source edge =
    some none) ∧
    (∃ (f : Frame) (s : State) (source : Nat) (edge : Option Nat) (e : Edge), State.accepts 30 f s ∧ sourceOf
    source edge = some (some e) ∧ s.time.source ≠ some e) ∧
    (∃ (f : Frame) (s : State) (source : Nat) (edge : Option Nat) (e : Edge), State.accepts 30 f s ∧ sourceOf
    source edge = some (some e) ∧ s.time.source = some e) ∧
    (∃ (f : Frame) (s : State), State.accepts 32 f s ∧ s.time.captures.length < 8) ∧
    (∃ (f : Frame) (s : State), State.accepts 32 f s ∧ 8 ≤ s.time.captures.length) ∧
    (∃ (f : Frame) (s : State) (count : Nat), State.accepts 33 f s ∧ (count = 0 ∨ 8 < count)) ∧
    (∃ (f : Frame) (s : State) (count : Nat), State.accepts 33 f s ∧ 1 ≤ count ∧ count ≤ 8) :=
  ⟨⟨{ playing with pending := [.mark f0] }, stepped { playing with pending := [.mark f0] }, rfl, by decide +kernel⟩,
   ⟨f0, playing, accepts_quiet rfl rfl⟩,
   ⟨f0, quiet, 1, some 3, accepts_quiet rfl rfl, by decide +kernel⟩,
   ⟨f0, quiet, 0, none, accepts_quiet rfl rfl, by decide +kernel⟩,
   ⟨f0, quiet, 1, some 2, .both, accepts_quiet rfl rfl, by decide +kernel⟩,
   ⟨f0, withTime (fun t => { t with source := some .both }) quiet, 1, some 2, .both, accepts_quiet rfl rfl,
   by decide +kernel⟩,
   ⟨f0, withTime (fun t => { t with captures := captures 7 }) quiet, accepts_quiet rfl rfl, by decide +kernel⟩,
   ⟨f0, withTime (fun t => { t with captures := captures 8 }) quiet, accepts_quiet rfl rfl, by decide +kernel⟩,
   ⟨f0, quiet, 9, accepts_quiet rfl rfl, by decide +kernel⟩,
   ⟨f0, quiet, 8, accepts_quiet rfl rfl, by decide +kernel⟩⟩

theorem witness_TimecodeTicksWithTheFrame :
    (∃ (rate : Nat), 0 < rate) ∧
    (∃ (s : State) (sh : Showing), s.seq.state = SeqState.running ∧ s.seq.current = Current.play sh ∧ s.time.frame
    < sh.endFrame ∧ s.time.frame + 1 ∈ List.drop 1 s.time.starts) ∧
    (∃ (s : State) (sh : Showing), s.seq.state = SeqState.running ∧ s.seq.current = Current.play sh ∧ s.time.frame
    < sh.endFrame ∧ s.time.frame + 1 ∉ List.drop 1 s.time.starts) ∧
    (∃ (s : State) (sh : Showing), s.seq.state = SeqState.running ∧ s.seq.current = Current.play sh ∧ s.time.frame
    < sh.endFrame ∧ 0 < s.time.rate ∧ s.time.timecode = timecodeOf s.time.frame s.time.rate) ∧
    (∃ (s : State), (s.seq.state = SeqState.preroll → ∀ (p : Play), s.seq.prepared = some (Prepared.play p) →
    playReady p s = false) ∧ s.seq.state ≠ SeqState.running) ∧
    (∃ (s : State) (n : Nat) (begun : Bool), s.seq.state = SeqState.running ∧ s.seq.current = Current.black n begun
    ∧ (begun = true → 1 < s.time.black)) ∧
    (∃ (s : State), (∀ (pos : Pos) (n : Nat), s.seq.prepared ≠ some (Prepared.black pos n)) ∧ (∀ (p : Play),
    s.seq.prepared = some (Prepared.play p) → playReady p s = false) ∧ s.seq.state = SeqState.running ∧
    s.seq.current = Current.none) :=
  ⟨⟨24, by decide +kernel⟩,
   ⟨withTime (fun t => { t with starts := [0, 5] }) playing, showing0, by decide +kernel⟩,
   ⟨playing, showing0, by decide +kernel⟩,
   ⟨withTime (fun t => { t with timecode := timecodeOf 4 24 }) playing, showing0, by decide +kernel⟩,
   ⟨quiet, (by intros; first | contradiction | (rename_i h; cases h)), by decide +kernel⟩,
   ⟨running (.black 5 false) none none, 5, false, by decide +kernel⟩,
   ⟨running .none none none, (by intro _ _ h; cases h), (by intros; first | contradiction | (rename_i h; cases h)),
   by decide +kernel⟩⟩

theorem witness_LinkChecksDecideThePairing :
    (∃ (s : State), s.link.requester = Requester.pending ∧ s.frames.sending = none) ∧
    (∃ (s : State) (n : Nat), s.frames.sending = some (Send.challenge n) ∧ s.link.requester ≠ Requester.pending ∧
    s.frames.waiting = none) ∧
    (∃ (s : State) (challenge : Nat), (s.link.answerTimer = none ∨ challenge ≠ s.link.challenge)) ∧
    (∃ (s : State) (projector : Nat), s.link.answerTimer.isSome = true ∧ s.link.paired = some projector ∧
    s.link.retry = false) ∧
    (∃ (s : State) (projector : Nat), s.link.answerTimer.isSome = true ∧ s.link.paired ≠ some projector ∧
    s.link.retry = false ∧ s.showing = none ∧ s.link.state ≠ LinkState.unpaired) ∧
    (∃ (s : State), s.link.answerTimer.isSome = true ∧ (s.link.state = LinkState.unknown ∨ s.link.state =
    LinkState.paired)) ∧
    (∃ (s : State), s.link.answerTimer.isSome = true ∧ s.link.state = LinkState.suspect ∧ s.showing = none) ∧
    (∃ (s : State) (sh : Showing), s.link.answerTimer.isSome = true ∧ s.link.state = LinkState.suspect ∧
    s.link.retry = false ∧ s.showing = some sh ∧ sh.play.composition.key ≠ none) :=
  ⟨⟨withLink (fun l => { l with requester := .pending, challenge := 255 }) quiet, by decide +kernel⟩,
   ⟨withFrames (fun x => { x with sending := some (.challenge 4) }) (withLink (fun l =>
   { l with requester := .checking }) quiet), 4, by decide +kernel⟩,
   ⟨quiet, 1, by decide +kernel⟩,
   ⟨checking .unknown, 77, by decide +kernel⟩,
   ⟨checking .suspect, 78, by decide +kernel⟩,
   ⟨checking .paired, by decide +kernel⟩,
   ⟨checking .suspect, by decide +kernel⟩,
   ⟨lost0, scrambledShowing, by decide +kernel⟩⟩

theorem witness_LinkRequestsAskForChecks :
    (∃ (f : Frame) (s : State) (projector : Nat), State.accepts 34 f s ∧ (projector = 0 ∨ max32 < projector)) ∧
    (∃ (f : Frame) (s : State) (projector : Nat), State.accepts 34 f s ∧ 1 ≤ projector ∧ projector ≤ max32 ∧
    s.seq.state ≠ SeqState.idle) ∧
    (∃ (f : Frame) (s : State) (projector : Nat), State.accepts 34 f s ∧ 1 ≤ projector ∧ projector ≤ max32 ∧
    s.seq.state = SeqState.idle ∧ s.queue.writes.length < 8 ∧ s.queue.waiters = []) ∧
    (∃ (f : Frame) (s : State), State.accepts 35 f s) ∧
    (∃ (f : Frame) (s : State), State.accepts 36 f s) :=
  ⟨⟨f0, quiet, 4294967296, accepts_quiet rfl rfl, by decide +kernel⟩,
   ⟨f0, playing, 4294967295, accepts_quiet rfl rfl, by decide +kernel⟩,
   ⟨f0, withQueue 7 [] quiet, 4294967295, accepts_quiet rfl rfl, by decide +kernel⟩,
   ⟨f0, quiet, accepts_quiet rfl rfl⟩,
   ⟨f0, quiet, accepts_quiet rfl rfl⟩⟩

theorem witness_SoundSettingsAreTaken :
    (∃ (f : Frame) (s : State) (code : Nat) (routes : List Route) (slot : Nat) (m : SoundMap), State.accepts 38 f s
    ∧ code ≤ 255 ∧ routes.length = 24 ∧ (∀ r ∈ routes, r.gain ≤ 8192 ∧ ∀ (ch : Nat), r.source = some ch → ch ≤ 23)
    ∧ findMap s.sound.maps code = some (slot, m)) ∧
    (∃ (f : Frame) (s : State) (code : Nat) (routes : List Route) (slot : Nat), State.accepts 38 f s ∧ code ≤ 255 ∧
    routes.length = 24 ∧ (∀ r ∈ routes, r.gain ≤ 8192 ∧ ∀ (ch : Nat), r.source = some ch → ch ≤ 23) ∧ findMap
    s.sound.maps code = none ∧ s.sound.maps.lowestFree 8 = some slot) ∧
    (∃ (f : Frame) (s : State) (code : Nat) (routes : List Route), State.accepts 38 f s ∧ code ≤ 255 ∧
    routes.length = 24 ∧ (∀ r ∈ routes, r.gain ≤ 8192 ∧ ∀ (ch : Nat), r.source = some ch → ch ≤ 23) ∧ findMap
    s.sound.maps code = none ∧ s.sound.maps.lowestFree 8 = none) ∧
    (∃ (f : Frame) (s : State) (code : Nat) (slot : Nat) (m : SoundMap), State.accepts 38 f s ∧ code ≤ 255 ∧
    findMap s.sound.maps code = some (slot, m)) ∧
    (∃ (f : Frame) (s : State) (code : Nat), State.accepts 38 f s ∧ code ≤ 255 ∧ findMap s.sound.maps code = none) ∧
    (∃ (f : Frame) (s : State), State.accepts 41 f s ∧ s.preparedPlay = none) ∧
    (∃ (f : Frame) (s : State) (code : Nat), State.accepts 38 f s ∧ 255 < code) ∧
    (∃ (f : Frame) (s : State) (routes : List Route), State.accepts 38 f s ∧ (routes.length ≠ 24 ∨ ∃ r ∈ routes,
    8192 < r.gain ∨ Option.any (fun ch => decide (23 < ch)) r.source = true)) ∧
    (∃ (f : Frame) (s : State) (p : Play), State.accepts 41 f s ∧ s.preparedPlay = some p) :=
  ⟨⟨f0, withSound (fun x => { x with maps := [(7, ⟨255, routes0⟩)] }) quiet, 255, routes0, 7, ⟨255, routes0⟩,
   accepts_quiet rfl rfl, by decide +kernel⟩,
   ⟨f0, withSound (fun x => { x with maps := (List.range 7).map fun k => (k, ⟨k, routes0⟩) }) quiet, 255, routes0,
   7, accepts_quiet rfl rfl, by decide +kernel⟩,
   ⟨f0, withSound (fun x => { x with maps := (List.range 8).map fun k => (k, ⟨k, routes0⟩) }) quiet, 255, routes0,
   accepts_quiet rfl rfl, by decide +kernel⟩,
   ⟨f0, withSound (fun x => { x with maps := [(7, ⟨255, routes0⟩)] }) quiet, 255, 7, ⟨255, routes0⟩,
   accepts_quiet rfl rfl, by decide +kernel⟩,
   ⟨f0, quiet, 255, accepts_quiet rfl rfl, by decide +kernel⟩,
   ⟨f0, quiet, accepts_quiet rfl rfl, by decide +kernel⟩,
   ⟨f0, quiet, 256, accepts_quiet rfl rfl, by decide +kernel⟩,
   ⟨f0, quiet, List.replicate 24 { source := some 24, gain := 0 }, accepts_quiet rfl rfl, by decide +kernel⟩,
   ⟨f0, withSound (fun x => { x with portions := [{ portion0 with prepared := true }] }) preroll, play0,
   accepts_quiet rfl rfl, by decide +kernel⟩⟩

theorem witness_SamplesAreScaledAndSaturated :
    (∃ (sets : List RouteSet) (k : Nat) (o : Nat) (ch : Nat) (set : RouteSet) (route : Route), List.find? (fun r =>
    decide (r.reel = k)) sets = some set ∧ set.routes[o]? = some route ∧ route.source = some ch ∧ ch <
    set.channels) ∧
    (∃ (portion : Portion), (∀ c ∈ portion.cells, c ≠ Cell.lost)) ∧
    (∃ (s : State), s.muted = true) :=
  ⟨⟨[⟨1, 0, false, 24, routes0⟩], 1, 23, 23, ⟨1, 0, false, 24, routes0⟩, ⟨some 23, 8192⟩, by decide +kernel⟩,
   ⟨{ portion0 with cells := [.present 1 [8388607], .silence] }, by decide +kernel⟩,
   ⟨quiet, by decide +kernel⟩⟩

theorem witness_FaderSetFollowsItsRule :
    (∃ (s : State) (f : Frame), State.accepts 40 f s) ∧
    (∃ (s : State) (f : Frame), State.accepts 53 f s) :=
  by and_intros <;> exact ⟨quiet, f0, accepts_quiet rfl rfl⟩

theorem witness_FadesReachTheirTarget :
    (∃ (x : Fade) (k : Nat), k ≤ x.length ∧ 0 < x.length) ∧
    (∃ (s : State) (x : Fade), s.sound.fade = some x ∧ x.taken + 1 < x.length) ∧
    (∃ (s : State) (x : Fade), s.sound.fade = some x ∧ x.length ≤ x.taken + 1) :=
  ⟨⟨{ start := 4096, target := 0, length := 1200, taken := 0 }, 1200, by decide +kernel⟩,
   ⟨withSound (fun x => { x with fade := some { start := 4096, target := 0, length := 3, taken := 1 } }) quiet,
   { start := 4096, target := 0, length := 3, taken := 1 }, by decide +kernel⟩,
   ⟨withSound (fun x => { x with fade := some { start := 4096, target := 0, length := 3, taken := 2 } }) quiet,
   { start := 4096, target := 0, length := 3, taken := 2 }, by decide +kernel⟩⟩

theorem witness_StreamsCuesAndSeatRecords :
    (∃ (f : Frame) (s : State) (stream : Nat) (route : Nat), State.accepts 43 f s ∧ (3 < stream ∨ 3 < route)) ∧
    (∃ (f : Frame) (s : State) (stream : Nat) (route : Nat) (r : StreamRoute) (st : Machine.Stream), State.accepts
    43 f s ∧ stream ≤ 3 ∧ streamRouteOf route = some r ∧ s.subs.streams[stream]? = some st ∧ r.toOverlay = true ∧
    overlayFree stream s = false) ∧
    (∃ (f : Frame) (s : State) (stream : Nat) (route : Nat) (r : StreamRoute) (st : Machine.Stream), State.accepts
    43 f s ∧ stream ≤ 3 ∧ streamRouteOf route = some r ∧ s.subs.streams[stream]? = some st ∧ (r.toOverlay = false ∨
    overlayFree stream s = true) ∧ st.slots = [none, none]) ∧
    (∃ (rate : Nat) (duration : Nat) (offset : Int) (c : Cue) (x : TimedCue), convertCue rate duration offset c =
    some x) ∧
    (∃ (s : State) (r : CaptionRecord), s.subs.transmitting = some r) ∧
    (∃ (f : Frame) (s : State) (stream : Nat) (route : Nat) (r : StreamRoute) (st : Machine.Stream) (x :
    CaptionRecord) (c0 : Nat) (c1 : Nat), State.accepts 43 f s ∧ stream ≤ 3 ∧ streamRouteOf route = some r ∧
    s.subs.streams[stream]? = some st ∧ (r.toOverlay = false ∨ overlayFree stream s = true) ∧ s.subs.transmitting =
    some x ∧ s.subs.cancelled = [c0, c1]) ∧
    (∃ (s : State) (k : Nat) (st : Machine.Stream) (a : Option Shown) (b : Option Shown), k ≤ 3 ∧
    s.subs.streams[k]? = some st ∧ st.slots = [a, b]) ∧
    (∃ (s : State) (k : Nat) (c0 : Nat) (c1 : Nat) (st : Machine.Stream) (shown : Shown) (x : CaptionRecord), k ≤ 3
    ∧ s.subs.streams[k]? = some st ∧ st.slots = [some shown, none] ∧ (∀ y ∈ s.subs.streams.eraseIdx k, y.slots =
    [none, none]) ∧ s.subs.transmitting = some x ∧ s.subs.cancelled = [c0, c1] ∧ shown.timed.outFrame ≤
    s.time.reelFrame) ∧
    (∃ (s : State) (k : Nat) (c0 : Nat) (c1 : Nat) (st : Machine.Stream) (shown : Shown) (x : CaptionRecord), k ≤ 3
    ∧ s.subs.streams[k]? = some st ∧ st.slots = [some shown, none] ∧ (∀ y ∈ s.subs.streams.eraseIdx k, y.slots =
    [none, none]) ∧ s.subs.transmitting = some x ∧ s.subs.cancelled = [c0, c1] ∧ (∀ y ∈ s.subs.streams, bankOf y
    s.time.reel = none)) ∧
    (∃ (s : State) (k : Nat) (tag : Nat) (c0 : Nat) (c1 : Nat) (st : Machine.Stream) (sh : Showing) (cue :
    TimedCue) (a : Option Shown) (b : Option Shown) (x : CaptionRecord), s.subs.streams[k]? = some st ∧ s.showing =
    some sh ∧ (st.timed.getD [])[tag]? = some cue ∧ st.slots = [a, b] ∧ (∀ y ∈ a.toList ++ b.toList,
    s.time.reelFrame < y.timed.outFrame) ∧ s.subs.transmitting = some x ∧ s.subs.cancelled = [c0, c1] ∧
    cue.outFrame ≤ s.time.reelFrame) ∧
    (∃ (s : State) (k : Nat) (tag : Nat) (c0 : Nat) (c1 : Nat) (st : Machine.Stream) (sh : Showing) (cue :
    TimedCue) (a : Option Shown) (b : Option Shown) (x : CaptionRecord), s.subs.streams[k]? = some st ∧ s.showing =
    some sh ∧ (st.timed.getD [])[tag]? = some cue ∧ st.slots = [a, b] ∧ (∀ y ∈ a.toList ++ b.toList,
    s.time.reelFrame < y.timed.outFrame) ∧ s.subs.transmitting = some x ∧ s.subs.cancelled = [c0, c1] ∧
    s.time.reelFrame < cue.outFrame ∧ a = none) ∧
    (∃ (s : State) (k : Nat) (tag : Nat) (c0 : Nat) (c1 : Nat) (st : Machine.Stream) (sh : Showing) (cue :
    TimedCue) (a : Option Shown) (b : Option Shown) (x : CaptionRecord), s.subs.streams[k]? = some st ∧ s.showing =
    some sh ∧ (st.timed.getD [])[tag]? = some cue ∧ st.slots = [a, b] ∧ (∀ y ∈ a.toList ++ b.toList,
    s.time.reelFrame < y.timed.outFrame) ∧ s.subs.transmitting = some x ∧ s.subs.cancelled = [c0, c1] ∧
    s.time.reelFrame < cue.outFrame ∧ a ≠ none ∧ b = none) ∧
    (∃ (s : State) (k : Nat) (tag : Nat) (c0 : Nat) (c1 : Nat) (st : Machine.Stream) (sh : Showing) (cue :
    TimedCue) (a : Option Shown) (b : Option Shown) (x : CaptionRecord), s.subs.streams[k]? = some st ∧ s.showing =
    some sh ∧ (st.timed.getD [])[tag]? = some cue ∧ st.slots = [a, b] ∧ (∀ y ∈ a.toList ++ b.toList,
    s.time.reelFrame < y.timed.outFrame) ∧ s.subs.transmitting = some x ∧ s.subs.cancelled = [c0, c1] ∧
    s.time.reelFrame < cue.outFrame ∧ (a = none ∨ b = none)) ∧
    (∃ (s : State) (k : Nat) (tag : Nat) (c0 : Nat) (c1 : Nat) (st : Machine.Stream) (sh : Showing) (cue :
    TimedCue) (a : Option Shown) (b : Option Shown) (x : CaptionRecord) (y : Shown) (z : Shown), s.subs.streams[k]?
    = some st ∧ s.showing = some sh ∧ (st.timed.getD [])[tag]? = some cue ∧ st.slots = [a, b] ∧ (∀ y ∈ a.toList ++
    b.toList, s.time.reelFrame < y.timed.outFrame) ∧ s.subs.transmitting = some x ∧ s.subs.cancelled = [c0, c1] ∧
    s.time.reelFrame < cue.outFrame ∧ a = some y ∧ b = some z) :=
  ⟨⟨f0, quiet, 4, 3, accepts_quiet rfl rfl, by decide +kernel⟩,
   ⟨f0, withSubs (fun x =>
   { x with streams := (List.replicate 2 { Stream.reset with route := .both }) ++ [Stream.reset, Stream.reset] })
   quiet, 3, 3, .both, Stream.reset, accepts_quiet rfl rfl, by decide +kernel⟩,
   ⟨f0, quiet, 3, 3, .both, Stream.reset, accepts_quiet rfl rfl, by decide +kernel⟩,
   ⟨24, 24, 0, cue0, { cue := cue0, inFrame := 0, outFrame := 12 }, by decide +kernel⟩,
   ⟨withSubs (fun x => { x with transmitting := some (.clear 1 2 .out) }) quiet, .clear 1 2 .out,
   by decide +kernel⟩,
   ⟨f0, withSubs (fun x =>
   { x with transmitting := some (.clear 1 2 .out), streams := { Stream.reset with route := .both, slots := [some { tag := 0, timed := caption0 }, none] } :: Stream.reset :: [Stream.reset, Stream.reset] })
   playing, 0, 0, .off,
   { Stream.reset with route := .both, slots := [some { tag := 0, timed := caption0 }, none] }, .clear 1 2 .out, 0,
   0, accepts_quiet rfl rfl, by decide +kernel⟩,
   ⟨withSubs (fun x =>
   { x with transmitting := some (.clear 1 2 .out), streams := { Stream.reset with route := .both, slots := [some { tag := 0, timed := { caption0 with outFrame := 4 } }, none] } :: Stream.reset :: [Stream.reset, Stream.reset] })
   playing, 0,
   { Stream.reset with route := .both, slots := [some { tag := 0, timed := { caption0 with outFrame := 4 } }, none] },
   some { tag := 0, timed := { caption0 with outFrame := 4 } }, none, by decide +kernel⟩,
   ⟨withSubs (fun x =>
   { x with transmitting := some (.clear 1 2 .out), streams := { Stream.reset with route := .both, slots := [some { tag := 0, timed := { caption0 with outFrame := 4 } }, none] } :: Stream.reset :: [Stream.reset, Stream.reset] })
   playing, 0, 0, 0,
   { Stream.reset with route := .both, slots := [some { tag := 0, timed := { caption0 with outFrame := 4 } }, none] },
   { tag := 0, timed := { caption0 with outFrame := 4 } }, .clear 1 2 .out, by decide +kernel⟩,
   ⟨withSubs (fun x =>
   { x with transmitting := some (.clear 1 2 .out), streams := { Stream.reset with route := .both, slots := [some { tag := 0, timed := caption0 }, none] } :: Stream.reset :: [Stream.reset, Stream.reset] })
   playing, 0, 0, 0, { Stream.reset with route := .both, slots := [some { tag := 0, timed := caption0 }, none] },
   { tag := 0, timed := caption0 }, .clear 1 2 .out, by decide +kernel⟩,
   ⟨withSubs (fun x =>
   { x with transmitting := some (.clear 1 2 .out), streams := { Stream.reset with route := .both, slots := [some { tag := 0, timed := caption0 }, none], timed := some [{ caption0 with outFrame := 7, cue := { cue0 with number := 8 } }, { caption0 with outFrame := 4 }] } :: Stream.reset :: [Stream.reset, Stream.reset] })
   playing, 0, 1, 0, 0,
   { Stream.reset with route := .both, slots := [some { tag := 0, timed := caption0 }, none], timed := some [{ caption0 with outFrame := 7, cue := { cue0 with number := 8 } }, { caption0 with outFrame := 4 }] },
   showing0, { caption0 with outFrame := 4 }, some { tag := 0, timed := caption0 }, none, .clear 1 2 .out,
   by decide +kernel⟩,
   ⟨withSubs (fun x =>
   { x with transmitting := some (.clear 1 2 .out), streams := { Stream.reset with route := .both, slots := [none, none], timed := some [{ caption0 with outFrame := 7, cue := { cue0 with number := 8 } }, { caption0 with outFrame := 4 }] } :: Stream.reset :: [Stream.reset, Stream.reset] })
   playing, 0, 0, 0, 0,
   { Stream.reset with route := .both, slots := [none, none], timed := some [{ caption0 with outFrame := 7, cue := { cue0 with number := 8 } }, { caption0 with outFrame := 4 }] },
   showing0, { caption0 with outFrame := 7, cue := { cue0 with number := 8 } }, none, none, .clear 1 2 .out,
   by decide +kernel⟩,
   ⟨withSubs (fun x =>
   { x with transmitting := some (.clear 1 2 .out), streams := { Stream.reset with route := .both, slots := [some { tag := 0, timed := caption0 }, none], timed := some [{ caption0 with outFrame := 7, cue := { cue0 with number := 8 } }, { caption0 with outFrame := 4 }] } :: Stream.reset :: [Stream.reset, Stream.reset] })
   playing, 0, 0, 0, 0,
   { Stream.reset with route := .both, slots := [some { tag := 0, timed := caption0 }, none], timed := some [{ caption0 with outFrame := 7, cue := { cue0 with number := 8 } }, { caption0 with outFrame := 4 }] },
   showing0, { caption0 with outFrame := 7, cue := { cue0 with number := 8 } }, some
   { tag := 0, timed := caption0 }, none, .clear 1 2 .out, by decide +kernel⟩,
   ⟨withSubs (fun x =>
   { x with transmitting := some (.clear 1 2 .out), streams := { Stream.reset with route := .both, slots := [some { tag := 0, timed := caption0 }, none], timed := some [{ caption0 with outFrame := 7, cue := { cue0 with number := 8 } }, { caption0 with outFrame := 4 }] } :: Stream.reset :: [Stream.reset, Stream.reset] })
   playing, 0, 0, 0, 0,
   { Stream.reset with route := .both, slots := [some { tag := 0, timed := caption0 }, none], timed := some [{ caption0 with outFrame := 7, cue := { cue0 with number := 8 } }, { caption0 with outFrame := 4 }] },
   showing0, { caption0 with outFrame := 7, cue := { cue0 with number := 8 } }, some
   { tag := 0, timed := caption0 }, none, .clear 1 2 .out, by decide +kernel⟩,
   ⟨withSubs (fun x =>
   { x with transmitting := some (.clear 1 2 .out), streams := { Stream.reset with route := .both, slots := [some { tag := 0, timed := caption0 }, some { tag := 0, timed := { caption0 with outFrame := 9, cue := { cue0 with number := 5 } } }], timed := some [{ caption0 with outFrame := 7, cue := { cue0 with number := 8 } }, { caption0 with outFrame := 4 }] } :: Stream.reset :: [Stream.reset, Stream.reset] })
   playing, 0, 0, 0, 0,
   { Stream.reset with route := .both, slots := [some { tag := 0, timed := caption0 }, some { tag := 0, timed := { caption0 with outFrame := 9, cue := { cue0 with number := 5 } } }], timed := some [{ caption0 with outFrame := 7, cue := { cue0 with number := 8 } }, { caption0 with outFrame := 4 }] },
   showing0, { caption0 with outFrame := 7, cue := { cue0 with number := 8 } }, some
   { tag := 0, timed := caption0 }, some
   { tag := 0, timed := { caption0 with outFrame := 9, cue := { cue0 with number := 5 } } }, .clear 1 2 .out,
   { tag := 0, timed := caption0 },
   { tag := 0, timed := { caption0 with outFrame := 9, cue := { cue0 with number := 5 } } }, by decide +kernel⟩⟩

theorem witness_ReleasesMarkRecords :
    (∃ (f : Frame) (s : State), State.accepts 46 f s ∧ s.log.newestClosed = none) ∧
    (∃ (f : Frame) (n : Nat) (s : State) (closed : Nat) (m : Nat), State.accepts 46 f s ∧ s.log.newestClosed = some
    closed ∧ s.log.mark = some m ∧ min n closed ≤ m) ∧
    (∃ (f : Frame) (n : Nat) (s : State) (closed : Nat) (oldest : Nat) (r : LogRecord), State.accepts 46 f s ∧
    s.log.newestClosed = some closed ∧ (∀ (m : Nat), s.log.mark = some m → m < min n closed) ∧ s.log.oldest = some
    oldest ∧ oldest ≤ min n closed ∧ s.log.find (min n closed) = some r ∧ s.log.unwritten = [] ∧ s.log.release =
    none ∧ s.queue.writes.length < 8 ∧ s.queue.waiters = []) :=
  ⟨⟨f0, playing, accepts_quiet rfl rfl, by decide +kernel⟩,
   ⟨f0, 9, withLog [closedRecord 5 true] playing, 5, 5, accepts_quiet rfl rfl, by decide +kernel⟩,
   ⟨f0, 9, withQueue 7 [] (withLog [closedRecord 4 true, closedRecord 5 false] playing), 5, 4, closedRecord 5
   false, accepts_quiet rfl rfl, by decide +kernel⟩⟩

theorem witness_LinesAreSetAndSetUp :
    (∃ (f : Frame) (s : State), State.accepts 48 f s ∧ s.lines.length = 16) ∧
    (∃ (f : Frame) (s : State) (line : Nat), State.accepts 47 f s ∧ s.lines.length = 16 ∧ 15 < line) ∧
    (∃ (f : Frame) (s : State) (line : Nat) (config : LineRequest) (l : Line) (idle : Nat) (safe : Nat),
    State.accepts 47 f s ∧ s.lines.length = 16 ∧ s.lines[line]? = some l ∧ config = LineRequest.output idle safe ∧
    idle ≤ 1 ∧ safe ≤ 1) ∧
    (∃ (f : Frame) (s : State) (line : Nat) (config : LineRequest) (l : Line) (c : Nat) (debounce : Nat) (fn : Nat)
    (cond : LineCondition) (function : LineFunction), State.accepts 47 f s ∧ s.lines.length = 16 ∧ s.lines[line]? =
    some l ∧ config = LineRequest.input c debounce fn ∧ debounce ≤ 255 ∧ lineConditionOf c = some cond ∧
    lineFunctionOf fn = some function ∧ (function = LineFunction.interlock → 3 ≤ c) ∧ LineCondition.met l.wire cond
    = false) ∧
    (∃ (f : Frame) (s : State) (line : Nat) (config : LineRequest) (l : Line) (c : Nat) (debounce : Nat) (fn : Nat)
    (cond : LineCondition) (function : LineFunction), State.accepts 47 f s ∧ s.lines.length = 16 ∧ s.lines[line]? =
    some l ∧ config = LineRequest.input c debounce fn ∧ debounce ≤ 255 ∧ lineConditionOf c = some cond ∧
    lineFunctionOf fn = some function ∧ (function = LineFunction.interlock → 3 ≤ c) ∧ LineCondition.met l.wire cond
    = true ∧ function = LineFunction.none) ∧
    (∃ (f : Frame) (s : State) (config : LineRequest) (c : Nat) (debounce : Nat) (fn : Nat), State.accepts 47 f s ∧
    s.lines.length = 16 ∧ config = LineRequest.input c debounce fn ∧ (4 < c ∨ 5 < fn ∨ 255 < debounce ∨ fn = 5 ∧ c
    ≤ 2)) :=
  ⟨⟨f0, quiet, accepts_quiet rfl rfl, by decide +kernel⟩,
   ⟨f0, quiet, 16, accepts_quiet rfl rfl, by decide +kernel⟩,
   ⟨f0, quiet, 15, .output 1 1, Line.reset false, 1, 1, accepts_quiet rfl rfl, by decide +kernel⟩,
   ⟨f0, quiet, 15, .input 4 255 5, Line.reset false, 4, 255, 5, .high, .interlock, accepts_quiet rfl rfl,
   by decide +kernel⟩,
   ⟨f0, quiet, 15, .input 3 0 0, Line.reset false, 3, 0, 0, .low, .none, accepts_quiet rfl rfl, by decide +kernel⟩,
   ⟨f0, quiet, .input 2 0 5, 2, 0, 5, accepts_quiet rfl rfl, by decide +kernel⟩⟩

theorem witness_PulsesEndAndInputsAct :
    (∃ (s : State) (n : Nat) (l : Line), s.lines[n]? = some l ∧ l.pulse = some 1) ∧
    (∃ (s : State) (n : Nat) (l : Line) (high : Bool), s.lines[n]? = some l ∧ l.output = false ∧ l.wire ≠ high ∧
    l.level ≠ high ∧ l.debounce ≠ 0) ∧
    (∃ (s : State) (n : Nat) (l : Line) (high : Bool) (cycles : Nat), s.lines[n]? = some l ∧ l.timer = some (high,
    cycles) ∧ LineCondition.begins high l.condition = true ∧ l.function = LineFunction.notice) ∧
    (∃ (s : State) (n : Nat) (l : Line) (high : Bool) (cycles : Nat), s.lines[n]? = some l ∧ l.timer = some (high,
    cycles) ∧ LineCondition.begins high l.condition = false ∧ l.holding = true) ∧
    (∃ (s : State) (n : Nat) (l : Line) (high : Bool) (cycles : Nat), s.lines[n]? = some l ∧ l.timer = some (high,
    cycles) ∧ LineCondition.begins high l.condition = true ∧ l.function = LineFunction.interlock ∧ s.interlocked =
    false ∧ s.seq.state = SeqState.running) :=
  ⟨⟨withLine 15 { line0 with output := true, pulse := some 1 } quiet, 15,
   { line0 with output := true, pulse := some 1 }, by decide +kernel⟩,
   ⟨withLine 15 line0 quiet, 15, line0, true, by decide +kernel⟩,
   ⟨withLine 15 { line0 with function := .notice, timer := some (true, 4) } quiet, 15,
   { line0 with function := .notice, timer := some (true, 4) }, true, 4, by decide +kernel⟩,
   ⟨withLine 15 { line0 with condition := .low, holding := true, timer := some (true, 4) } quiet, 15,
   { line0 with condition := .low, holding := true, timer := some (true, 4) }, true, 4, by decide +kernel⟩,
   ⟨withLine 15 { line0 with condition := .high, function := .interlock, timer := some (true, 4) } playing, 15,
   { line0 with condition := .high, function := .interlock, timer := some (true, 4) }, true, 4, by decide +kernel⟩⟩

theorem witness_ReceiverTakesAndDiscards :
    (∃ (s : State), s.port.taking = true) ∧
    (∃ (s : State) (came : List Byte) (n : Nat) (cause : DiscardCause), s.port.taking = true ∧ s.port.inFrame =
    true ∧ (n = 0 ∧ cause = DiscardCause.length came ∨ n = 1 ∧ cause = DiscardCause.check came) ∧ 165#8 ∉
    s.port.held ++ came) ∧
    (∃ (s : State) (came : List Byte) (n : Nat) (cause : DiscardCause) (before : List Byte) (rest : List (BitVec
    8)), s.port.taking = true ∧ s.port.inFrame = true ∧ (n = 0 ∧ cause = DiscardCause.length came ∨ n = 1 ∧ cause =
    DiscardCause.check came) ∧ 165#8 ∉ before ∧ s.port.held ++ came = before ++ 165#8 :: rest) ∧
    (∃ (s : State), s.port.taking = true ∧ s.port.inFrame = false) ∧
    (∃ (s : State), s.port.taking = true ∧ (List.filter (fun x => x.immediate) s.port.replies).length < 4) ∧
    (∃ (s : State), s.port.taking = true ∧ 4 ≤ (List.filter (fun x => x.immediate) s.port.replies).length) ∧
    (∃ (s : State) (n : Nat) (rest : List Byte), s.port.taking = true ∧ s.port.inFrame = true ∧ s.pending = [] ∧
    1024 < n ∧ s.port.held = Layout.num 2 n ++ rest ∧ n < 65536) ∧
    (∃ (s : State) (kind : Nat) (tag : Byte) (body : List Byte) (rest : List Byte), s.port.taking = true ∧
    s.port.inFrame = true ∧ s.pending = [] ∧ kind < 256 ∧ body.length ≤ 1024 ∧ s.port.held = List.drop 1
    (controlFrame kind tag body) ++ rest) ∧
    (∃ (s : State) (n : Nat) (kind : Nat) (tag : Byte) (body : List Byte) (rest : List Byte), s.port.taking = true
    ∧ s.port.inFrame = true ∧ s.pending = [] ∧ kind < 256 ∧ body.length ≤ 1024 ∧ n < 65536 ∧ n ≠ frameCheck
    (Layout.num 2 body.length ++ Layout.num 1 kind ++ [tag] ++ body) ∧ s.port.held = Layout.num 2 body.length ++
    Layout.num 1 kind ++ [tag] ++ body ++ Layout.num 2 n ++ rest) ∧
    (∃ (s : State), s.port.taking = true ∧ s.port.inFrame = true ∧ s.pending = [] ∧ decodeFrame s.port.held = none
    ∧ stateEvent s = none ∧ s.generatorDue = false ∧ s.gatherDue = false ∧ 270000 ≤ s.port.gapCycles) ∧
    (∃ (s : State), s.port.taking = true ∧ s.pending = [] ∧ ownEvent s = none) ∧
    (∃ (p : ControlPort) (kind : Nat) (tag : Byte) (body : List Byte) (rest : List Byte), kind < 256 ∧ body.length
    ≤ 1024 ∧ p.held = List.drop 1 (controlFrame kind tag body) ++ rest ∧ 165#8 ∉ rest) ∧
    (∃ (p : ControlPort) (kind : Nat) (tag : Byte) (body : List Byte) (rest : List Byte) (before : List Byte)
    (after : List (BitVec 8)), kind < 256 ∧ body.length ≤ 1024 ∧ p.held = List.drop 1 (controlFrame kind tag body)
    ++ rest ∧ 165#8 ∉ before ∧ rest = before ++ 165#8 :: after) :=
  ⟨⟨quiet, by decide +kernel⟩,
   ⟨withPort fun p => { p with inFrame := true, held := [1#8, 2#8] }, [9#8], 1, .check [9#8], by decide +kernel⟩,
   ⟨withPort fun p => { p with inFrame := true, held := [1#8, 4#8] }, [7#8, 0xA5#8, 2#8], 0, .length [7#8, 0xA5#8,
   2#8], [1#8, 4#8, 7#8], [2#8], by decide +kernel⟩,
   ⟨quiet, by decide +kernel⟩,
   ⟨withPort fun p => { p with replies := (List.range 3).map aReply }, by decide +kernel⟩,
   ⟨withPort fun p => { p with replies := (List.range 4).map aReply }, by decide +kernel⟩,
   ⟨withPort fun p => { p with inFrame := true, held := [1#8, 4#8, 7#8] }, 1025, [7#8], by decide +kernel⟩,
   ⟨withPort fun p => { p with inFrame := true, held := [0#8, 0#8, 24#8, 3#8, 27#8, 0#8, 0xA5#8, 1#8] }, 24, 3#8,
   [], [0xA5#8, 1#8], by decide +kernel⟩,
   ⟨withPort fun p => { p with inFrame := true, held := [0#8, 0#8, 24#8, 3#8, 28#8, 0#8] }, 28, 24, 3#8, [], [],
   by decide +kernel⟩,
   ⟨{ withPort (fun p => { p with inFrame := true, held := [0#8], gapCycles := 270000 }) with keys := { quiet.keys with requester := .idle }, link := { quiet.link with requester := .idle } },
   by decide +kernel⟩,
   ⟨{ withPort (fun p => { p with inFrame := true }) with keys := { quiet.keys with requester := .idle }, link := { quiet.link with requester := .idle } },
   by decide +kernel⟩,
   ⟨{ ControlPort.reset with held := [0#8, 0#8, 24#8, 3#8, 27#8, 0#8, 1#8] }, 24, 3#8, [], [1#8],
   by decide +kernel⟩,
   ⟨{ ControlPort.reset with held := [0#8, 0#8, 24#8, 3#8, 27#8, 0#8, 1#8, 0xA5#8, 2#8] }, 24, 3#8, [], [1#8,
   0xA5#8, 2#8], [1#8], [2#8], by decide +kernel⟩⟩

theorem witness_FramesArePresentedOrRepeated :
    (∃ (s : State), s.frames.sending = none ∧ s.showing = none) ∧
    (∃ (s : State) (takeover : Bool) (sh : Showing) (p : Place) (rest : List Place), s.frames.sending = none ∧
    s.seq.current = Current.play sh ∧ (s.seq.state = SeqState.running ∨ takeover = true ∧ s.seq.state =
    SeqState.paused) ∧ s.frames.places = p :: rest ∧ p.frame = s.time.frame ∧ p.prepared = false ∧ p.condition =
    PlaceCondition.complete) ∧
    (∃ (s : State) (takeover : Bool) (sh : Showing) (p : Place) (rest : List Place), s.frames.sending = none ∧
    s.seq.current = Current.play sh ∧ (s.seq.state = SeqState.running ∨ takeover = true ∧ s.seq.state =
    SeqState.paused) ∧ s.frames.places = p :: rest ∧ p.frame = s.time.frame ∧ p.prepared = false ∧ p.condition =
    PlaceCondition.missing) ∧
    (∃ (s : State) (takeover : Bool) (sh : Showing) (p : Place) (rest : List Place), s.frames.sending = none ∧
    s.seq.current = Current.play sh ∧ (s.seq.state = SeqState.running ∨ takeover = true ∧ s.seq.state =
    SeqState.paused) ∧ s.frames.places = p :: rest ∧ p.frame = s.time.frame ∧ p.prepared = false ∧ p.condition =
    PlaceCondition.filling) ∧
    (∃ (s : State) (takeover : Bool) (sh : Showing), s.frames.sending = none ∧ s.seq.current = Current.play sh ∧
    (s.seq.state = SeqState.running ∨ takeover = true ∧ s.seq.state = SeqState.paused) ∧ (∀ p ∈ List.take 1
    s.frames.places, p.frame ≠ s.time.frame ∨ p.prepared = true)) ∧
    (∃ (s : State) (takeover : Bool) (sh : Showing), s.frames.sending = none ∧ s.seq.current = Current.play sh ∧
    s.seq.state = SeqState.paused ∧ takeover = false) ∧
    (∃ (s : State) (sh : Showing) (p : Portion) (rest : List Portion), s.seq.current = Current.play sh ∧
    s.seq.state = SeqState.running ∧ s.interlocked = false ∧ s.sound.portions = p :: rest ∧ p.frame = s.time.frame
    ∧ p.prepared = false ∧ p.filling = true ∧ (∀ q ∈ rest, q.prepared = true ∨ s.time.frame ≤ q.frame)) ∧
    (∃ (s : State) (sh : Showing), s.seq.current = Current.play sh ∧ s.seq.state = SeqState.running ∧ s.interlocked
    = false ∧ (∀ q ∈ s.sound.portions, q.prepared = true ∨ s.time.frame < q.frame)) :=
  ⟨⟨quiet, by decide +kernel⟩,
   ⟨withFrames (fun x => { x with places := [⟨false, 4, .complete, [[1#8]]⟩] }) playing, false, showing0, ⟨false,
   4, .complete, [[1#8]]⟩, [], by decide +kernel⟩,
   ⟨withFrames (fun x => { x with places := [⟨false, 4, .missing, []⟩] }) playing, false, showing0, ⟨false, 4,
   .missing, []⟩, [], by decide +kernel⟩,
   ⟨withFrames (fun x => { x with places := [⟨false, 4, .filling, []⟩] }) playing, false, showing0, ⟨false, 4,
   .filling, []⟩, [], by decide +kernel⟩,
   ⟨playing, false, showing0, by decide +kernel⟩,
   ⟨withSeq (fun q => { q with state := .paused }) playing, false, showing0, by decide +kernel⟩,
   ⟨withSound (fun x => { x with portions := [⟨false, 4, [.awaited 1 0]⟩] }) playing, showing0, ⟨false, 4,
   [.awaited 1 0]⟩, [], by decide +kernel⟩,
   ⟨playing, showing0, by decide +kernel⟩⟩

theorem witness_FullResetBeginsStartUp :
    (∃ t : State, exec (.fullReset 8192 9 true) restarted = .next t ∧ t.nvm.tracks.rising = true ∧
      t.nvm.compositions.rising = true ∧ (∃ k e, t.nvm.tracks.find k = some e ∧ e.status = .filling) ∧
      (∃ n c, t.nvm.compositions.find n = some c ∧ c.incomplete = none) ∧ t.keys.clock < t.nvm.budget.start + 31536000 ∧
      (t.catalogue.tracks.filter fun p => decide (0 < p.2.extentCount)).map (·.1) = [2, 3, 4]) ∧
    (∃ t : State, exec (.fullReset 4096 31536000 false) quiet = .next t ∧ t.nvm.budget.start + 31536000 ≤ t.keys.clock ∧
      (t.catalogue.tracks.filter fun p => decide (0 < p.2.extentCount)).map (·.1) = []) ∧ ∃ size : Nat, size < 4096 :=
  ⟨⟨after (.fullReset 8192 9 true) restarted, rfl, by decide +kernel, by decide +kernel,
      ⟨2, { picture0 with status := .filling }, by decide +kernel⟩, ⟨1, composition0, by decide +kernel⟩, by decide +kernel,
      by decide +kernel⟩,
    ⟨after (.fullReset 4096 31536000 false) quiet, rfl, by decide +kernel, by decide +kernel⟩, ⟨4095, by decide⟩⟩

/-- The trim budget a CLOCK TRIM finds, the amount it applies and the clock it leaves, as R60 gives them. -/
def foundBudget (s : State) : Budget :=
  if s.keys.budget.start + 31536000 ≤ s.keys.clock then
    { start := s.keys.budget.start + 31536000 * ((s.keys.clock - s.keys.budget.start) / 31536000), used := 0 }
  else s.keys.budget
def applied (t : Int) (s : State) : Int :=
  let left : Nat := 600 - (foundBudget s).used
  let b : Int := if t < -left then -left else if left < t then left else t
  if b < -s.keys.clock then -s.keys.clock else if max32 - s.keys.clock < b then max32 - s.keys.clock else b

theorem witness_TrimMovesTheClock :
    (∃ (f : Frame) (t : Int) (s : State), s.accepts 13 f ∧ s.keys.clock ≤ max32 ∧ s.queue.writes.length < 8 ∧
      s.queue.waiters = [] ∧ t ≠ 0 ∧ applied t s = 0) ∧
    (∃ (f : Frame) (t : Int) (s : State), s.accepts 13 f ∧ s.keys.clock ≤ max32 ∧ s.queue.writes.length < 7 ∧
      s.queue.waiters = [] ∧ applied t s ≠ 0 ∧ applied t s = t ∧
      (s.keys.clock + applied t s).toNat < (foundBudget s).start + 31536000) ∧
    (∃ (f : Frame) (t : Int) (s : State), s.accepts 13 f ∧ s.keys.clock ≤ max32 ∧ s.queue.writes.length < 7 ∧
      s.queue.waiters = [] ∧ applied t s ≠ 0 ∧ applied t s ≠ t ∧ s.keys.clock < s.keys.budget.start + 31536000 ∧
      (foundBudget s).start + 31536000 ≤ (s.keys.clock + applied t s).toNat) ∧
    (∃ (f : Frame) (s : State), s.accepts 13 f ∧ s.keys.clock ≤ max32 ∧ 8 ≤ s.queue.writes.length) ∧
    (∃ s : State, s.keys.counter < s.keys.interval ∧ s.keys.budget.start + 31536000 ≤ bump max32 s.keys.clock ∧
      s.queue.writes.length < 8 ∧ s.queue.waiters = []) :=
  ⟨⟨f0, 5, withKeys (fun k => { k with budget := { k.budget with used := 600 } }) (withQueue 7 [] quiet),
      accepts_quiet rfl rfl, by decide +kernel⟩,
    ⟨f0, 600, withQueue 6 [] quiet, accepts_quiet rfl rfl, by decide +kernel⟩,
    ⟨f0, 601, withQueue 6 [] (withKeys (fun k => { k with clock := 31535999 }) quiet), accepts_quiet rfl rfl,
      by decide +kernel⟩,
    ⟨f0, withQueue 8 [] quiet, accepts_quiet rfl rfl, by decide +kernel⟩,
    ⟨withQueue 7 [] (withKeys (fun k => { k with clock := 31535999 }) quiet), by decide +kernel⟩⟩

end Tests
end Sys2Proof
end

section
/-!
What a command comes to, said once for all of them: a request has its frame taken and is served, any other command is an
event, and both end with the choice of the outgoing direction. A law that neither the control port nor the notices can break
is kept by every step as soon as it is kept by what the owners serve and by the events.
-/
namespace Sys2Proof
namespace Machine

/-- A request of the summary table: its frame is taken, its owner serves it, and the outgoing direction chooses. -/
theorem exec_of_request {c : Instr} {kind : Nat} {f : Frame} (h : requestOf c = some (kind, f)) (s : State) :
    exec c s = finish (takeFrame kind f c (serve false c) s) := by
  cases c <;> cases h <;> rfl

/-- The outgoing direction's choice changes the control port and the notices only. -/
theorem settle_eq (s : State) : settle s = { s with port := (settle s).port, notices := (settle s).notices } := by
  have h := settle_frame s
  cases hs : settle s
  simp_all

/-- Taking a frame changes the control port only, until the owner serves the request. -/
theorem takeFrame_cases (kind : Nat) (f : Frame) (c : Instr) (act : State → State) (s : State) :
    ∃ p, takeFrame kind f c act s = { s with port := p } ∨ takeFrame kind f c act s = act { s with port := p } := by
  unfold takeFrame immediateReply turnAway sendReply holdSlot
  dsimp only
  repeat' split
  on_goal -1 => exact ⟨_, .inr rfl⟩
  all_goals exact ⟨_, .inl rfl⟩

/-- The completion of a transfer changes the arbiter and the notices only, unless its client acts on it; then the next
transfer is granted. -/
theorem completeTransfer_cases (c : Client) (ok : Bool) (act : Transfer → State → State) (s : State) :
    ∃ a n, completeTransfer c ok act s = { s with arbiter := a, notices := n } ∨
      ∃ t, s.arbiter.current = some t ∧ t.dropped = false ∧
        completeTransfer c ok act s = grantNext (act t { s with arbiter := a, notices := n }) := by
  unfold completeTransfer
  split
  · exact ⟨_, _, .inl rfl⟩
  · rename_i t ht
    dsimp only
    split
    · split
      · exact ⟨_, _, .inl rfl⟩
      · cases hd : t.dropped
        · cases ok <;> cases t.retry <;> exact ⟨_, _, .inr ⟨t, ht, hd, rfl⟩⟩
        · cases ok <;> cases t.retry <;> exact ⟨_, _, .inl rfl⟩
    · exact ⟨_, _, .inl rfl⟩

section
variable {P : State → Prop}

/-- A law that the port and the notices cannot break is kept by the end of every command. -/
theorem settle_keeps (hP : ∀ u p n, P u → P { u with port := p, notices := n }) {s : State} (h : P s) : P (settle s) := by
  rw [settle_eq]; exact hP _ _ _ h

/-- A law that the port and the notices cannot break is kept by taking a frame when its owner keeps it. -/
theorem takeFrame_keeps (hP : ∀ u p n, P u → P { u with port := p, notices := n }) {kind : Nat} {f : Frame} {c : Instr}
    {act : State → State} (hact : ∀ u, P u → P (act u)) {s : State} (h : P s) : P (takeFrame kind f c act s) := by
  obtain ⟨p, hp | hp⟩ := takeFrame_cases kind f c act s
  · exact hp ▸ hP _ _ _ h
  · exact hp ▸ hact _ (hP _ _ _ h)

/-- A law that the port and the notices cannot break is kept by every command of which it is kept by the owner's service, or
by the event. -/
theorem exec_keeps (hP : ∀ u p n, P u → P { u with port := p, notices := n }) {c : Instr} {s t : State}
    (hserve : ∀ u, P u → P (serve false c u))
    (hevent : requestOf c = none → ∃ u, exec c s = finish u ∧ P u)
    (h : P s) (ht : exec c s = .next t) : P t := by
  cases hc : requestOf c with
  | none =>
    obtain ⟨u, hu, hPu⟩ := hevent hc
    rw [hu] at ht; cases ht
    exact settle_keeps hP hPu
  | some q =>
    obtain ⟨kind, f⟩ := q
    rw [exec_of_request hc] at ht; cases ht
    exact settle_keeps hP (takeFrame_keeps hP hserve h)

/-- A law that the queue of commands and the passing of time cannot break is kept by every step as soon as it is kept by
every command. -/
theorem step_keeps (hpending : ∀ u l, P u → P { u with pending := l }) (helapse : ∀ u, P u → P (elapse u))
    (hexec : ∀ c u v, P u → exec c u = .next v → P v) {s t : State} (h : P s) (ht : step s = .next t) : P t := by
  unfold step at ht
  split at ht
  · exact hexec _ _ _ (hpending _ _ h) ht
  · unfold idleStep at ht
    split at ht
    · exact hexec _ _ _ h ht
    · cases ht; exact helapse _ h

/-- Requests that waited behind one of their owner are taken one by one (R189), each served as by itself. -/
theorem serveDeferred_keeps (hP : ∀ u p n, P u → P { u with port := p, notices := n })
    (hserve : ∀ c u, P u → P (serve false c u)) (n : Nat) {s : State} (h : P s) : P (serveDeferred n s) := by
  induction n generalizing s with
  | zero => exact h
  | succ n ih =>
    unfold serveDeferred
    split
    · exact h
    · exact ih (hserve _ _ (hP _ _ s.notices h))

/-- A completion keeps what its client's act keeps. -/
theorem completeTransfer_keeps (harb : ∀ u a n, P u → P { u with arbiter := a, notices := n }) {c : Client} {ok : Bool}
    {act : Transfer → State → State} (hact : ∀ t u, P u → P (act t u)) {s : State} (h : P s) :
    P (completeTransfer c ok act s) := by
  obtain ⟨a, n, he | ⟨t, -, -, he⟩⟩ := completeTransfer_cases c ok act s
  · exact he ▸ harb _ _ _ h
  · exact he ▸ harb _ _ (act t { s with arbiter := a, notices := n }).notices (hact _ _ (harb _ _ _ h))
end

end Machine
end Sys2Proof
end

section
/-!
The write queue's bound, the store's form, and what changes the two memories (R2, R8, R10, R34, R42, R48).
-/
namespace Sys2Proof
namespace Machine

/-! ### The write queue -/

/-- Every event keeps the write queue at 8 writes or fewer (R8). -/
theorem event_writes {c : Instr} {s : State} (hc : requestOf c = none) (hq : s.queue.writes.length ≤ 8) :
    ∃ u, exec c s = finish u ∧ u.queue.writes.length ≤ 8 := by
  cases c <;> try cases hc
  all_goals refine ⟨_, rfl, ?_⟩
  case ingestWriteComplete ok =>
    split
    · exact completeTransfer_keeps (P := fun u => u.queue.writes.length ≤ 8) (fun _ _ _ h => h)
        (fun _ u h => dataWritten_writes ok _ _ u h) hq
    · exact hq
  case segmentTaken g =>
    repeat' split
    · simpa using hq
    · exact hq
    · exact actOnSegment_writes _ _ (by simpa using hq)
  case storeRetry | syncLoss | boundary | waitTimeout | pauseLimitExpiry | fadeEnd | linkCheckBegin | projectorAnswer
    | answerTimeout | seatRecordComplete | debounceExpiry | unknownRequest | controlMarkerFound =>
    (repeat' split) <;> simp [hq]
  all_goals simp [hq]

/-- Settles O3: every command asks for room before it queues a write, so the bound is an invariant of the steps. -/
theorem writeQueueHoldsAtMostEight : Obligations.WriteQueueHoldsAtMostEight := by
  intro s t h ht
  refine step_keeps (P := State.queueBounded) (fun _ _ h => h) (fun u h => by simpa [State.queueBounded] using h)
    (fun c u v hu hv => ?_) h ht
  exact exec_keeps (fun _ _ _ h => h) (fun u hu => serve_writes false c u hu (by simp)) (fun hc => event_writes hc hu) hu hv

/-! ### The store's form -/

/-- The store after a map block write is the store with that block written. -/
theorem mapWritten_store (ok : Bool) (m : MapBlock) (reply : Option Reply) (s : State) :
    (mapWritten ok m reply s).store = (storeMap ok m s).store := by
  simp only [mapWritten, pumpSegment_frame]
  cases ok <;> (repeat' split) <;> simp [storeMap]

/-- The store after a data write is the store with its run written: the gather's blocks, or free values after a fault. -/
theorem dataWritten_store (ok : Bool) (g : Gather) (dropped : Bool) (s : State) :
    (dataWritten ok g dropped s).store = s.store.writeRun g.store
      (if ok then g.blocks else (List.range g.blocks.length).map fun i => Config.lostBlock (s.freeUses + i)) := by
  cases ok <;> cases dropped <;> simp [dataWritten]

/-- A store write abandoned at a full reset keeps the store's form. -/
theorem abandonBlocks_wf (use : Nat) (l : List StoreBlock) (st : Store) (first : Nat) (h : st.wf = true) :
    (abandonBlocks use st first l).wf = true := by
  induction l generalizing use st first with
  | nil => exact h
  | cons b rest ih =>
    refine ih _ _ _ ?_
    split
    · exact Store.wf_write _ _ h
    · exact h

/-- The store after a full reset is the one its units are reset with: start-up writes none of it. -/
theorem fullReset_store (reported ran : Nat) (landed : Bool) (s : State) :
    (fullReset reported ran landed s).store = (resetUnits reported ran landed s).store := by
  simp [fullReset]

/-- A full reset keeps the store's form. -/
theorem fullReset_wf (reported ran : Nat) (landed : Bool) {s : State} (h : s.store.wf = true) :
    (fullReset reported ran landed s).store.wf = true := by
  rw [fullReset_store]; exact abandonBlocks_wf _ _ _ _ h

/-- The end of a frame sent changes the port only, or is the full reset after a RESET FULL reply (R191, R193). -/
theorem completeOutgoing_cases (s : State) :
    ∃ p, completeOutgoing s = { s with port := p } ∨ completeOutgoing s = resetAfterReply { s with port := p } := by
  unfold completeOutgoing
  split
  · exact ⟨_, .inl rfl⟩
  · exact ⟨_, .inl rfl⟩
  · dsimp only
    split
    · exact ⟨_, .inr rfl⟩
    · exact ⟨_, .inl rfl⟩

/-- Every event keeps the store's form. -/
theorem event_store_wf {c : Instr} {s : State} (hc : requestOf c = none) (h : s.store.wf = true) :
    ∃ u, exec c s = finish u ∧ u.store.wf = true := by
  cases c <;> try cases hc
  all_goals refine ⟨_, rfl, ?_⟩
  case fullReset size ran landed => exact fullReset_wf _ _ _ h
  case outgoingSendComplete =>
    obtain ⟨p, hp | hp⟩ := completeOutgoing_cases s
    · rw [hp]; exact h
    · rw [hp]; exact fullReset_wf _ _ _ h
  case mapBlockWriteComplete ok =>
    rw [(serveDeferred_frame _ _).2.1]
    unfold mapBlockWriteComplete
    split
    · refine completeTransfer_keeps (P := fun u => u.store.wf = true) (fun _ _ _ h => h) (fun _ u hu => ?_) h
      rw [mapWritten_store]
      unfold storeMap
      split <;> exact Store.wf_write _ _ hu
    · exact h
  case ingestWriteComplete ok =>
    split
    · refine completeTransfer_keeps (P := fun u => u.store.wf = true) (fun _ _ _ h => h) (fun _ u hu => ?_) h
      rw [dataWritten_store]; exact Store.wf_writeRun _ _ hu
    · exact h
  case segmentTaken | storeRetry | syncLoss | boundary | waitTimeout | pauseLimitExpiry | fadeEnd | linkCheckBegin
    | projectorAnswer | answerTimeout | seatRecordComplete | debounceExpiry | unknownRequest | controlMarkerFound =>
    (repeat' split) <;> simp [h]
  all_goals simp [h]

/-- Settles O5: no request writes a block, and every event that does writes it in its one form. -/
theorem storeKeepsItsForm : Obligations.StoreKeepsItsForm := by
  intro s t h ht
  refine step_keeps (P := fun u => u.store.wf = true) (fun _ _ h => h) (fun u h => by simpa using h)
    (fun c u v hu hv => ?_) h ht
  exact exec_keeps (P := fun u => u.store.wf = true) (fun _ _ _ h => h) (fun u hu => by simpa using hu)
    (fun hc => event_store_wf hc hu) hu hv

/-! ### The two memories -/

/-- An event that is neither a reset nor the end of a frame sent leaves nonvolatile memory and the store as they are, unless
it is the completion of a write to them. -/
theorem event_memories {c : Instr} {s : State} (hc : requestOf c = none)
    (hreset : ∀ size ran landed, c ≠ .fullReset size ran landed) (hsend : c ≠ .outgoingSendComplete) :
    ∃ u, exec c s = finish u ∧ ((∀ ok, c ≠ .nvmWriteComplete ok) → u.nvm = s.nvm) ∧
      ((∀ ok, c ≠ .ingestWriteComplete ok) → (∀ ok, c ≠ .mapBlockWriteComplete ok) → u.store = s.store) := by
  cases c <;> try cases hc
  all_goals refine ⟨_, rfl, ?_⟩
  case fullReset => exact absurd rfl (hreset _ _ _)
  case outgoingSendComplete => exact absurd rfl hsend
  case segmentTaken | ingestWriteComplete | storeRetry | syncLoss | boundary | waitTimeout | pauseLimitExpiry | fadeEnd
    | linkCheckBegin | projectorAnswer | answerTimeout | seatRecordComplete | debounceExpiry | unknownRequest
    | controlMarkerFound =>
    (repeat' split) <;> simp
  all_goals simp

/-- Settles O7: a request leaves both memories alone, and so does every event but a write's completion. -/
theorem memoriesChangeOnlyByTheirWrites : Obligations.MemoriesChangeOnlyByTheirWrites := by
  intro c s t ht hreset hsend
  cases hc : requestOf c with
  | some q =>
    rw [exec_of_request hc] at ht; cases ht
    simp
  | none =>
    obtain ⟨u, hu, hnvm, hstore⟩ := event_memories (s := s) hc hreset hsend
    rw [hu] at ht; cases ht
    exact ⟨fun h => by rw [(settle_frame u).2.2.2.1, hnvm h],
      fun h h' => by rw [(settle_frame u).2.2.1, hstore h h']⟩

/-! ### The laws at reset -/

/-- Settles O6: every table, list and queue is empty at reset. -/
theorem resetIsLawful : Obligations.ResetIsLawful := by
  refine ⟨⟨Nat.zero_le 8, ⟨Nat.zero_le 4, List.nodup_nil⟩, Store.wf_reset⟩, ⟨rfl, rfl, rfl, List.Pairwise.nil, ?_⟩,
    ⟨Nat.zero_le 600, Nat.zero_le 600, ?_⟩, ?_, ⟨?_, ?_⟩, ?_⟩
  · intro p hp; cases hp
  · intro w hw; cases hw
  · intro p hp; cases hp
  · decide
  · decide
  · unfold State.nestingBounded; decide

end Machine
end Sys2Proof
end

section
/-!
The free-extent list (R11 to R13): its form as a property of its runs, allocation, and release.
-/
namespace Sys2Proof
namespace Machine

/-! ### The form of the list -/

theorem freeListSound_cons (r : Run) (l : List Run) :
    freeListSound (r :: l) = true ↔ 0 < r.length ∧ (∀ x ∈ l, r.first + r.length < x.first) ∧ freeListSound l = true := by
  induction l generalizing r with
  | nil => simp [freeListSound]
  | cons x l ih =>
    simp only [freeListSound, Bool.and_eq_true, decide_eq_true_eq, List.mem_cons, forall_eq_or_imp]
    constructor
    · rintro ⟨⟨hr, hx⟩, hl⟩
      obtain ⟨-, hxl, -⟩ := (ih x).1 hl
      exact ⟨hr, ⟨hx, fun y hy => by have := hxl y hy; omega⟩, hl⟩
    · rintro ⟨hr, ⟨hx, -⟩, hl⟩
      exact ⟨⟨hr, hx⟩, hl⟩

/-- The form of the list (R11), said of its runs: none is empty, and each ends before the block that the next begins with. -/
theorem freeListSound_iff (l : List Run) :
    freeListSound l = true ↔ (∀ r ∈ l, 0 < r.length) ∧ l.Pairwise fun a b => a.first + a.length < b.first := by
  induction l with
  | nil => simp [freeListSound]
  | cons r l ih =>
    simp only [freeListSound_cons, ih, List.mem_cons, forall_eq_or_imp, List.pairwise_cons]
    tauto

@[simp] theorem freeBlocks_nil : freeBlocks [] = 0 := rfl

@[simp] theorem freeBlocks_cons (r : Run) (l : List Run) : freeBlocks (r :: l) = r.length + freeBlocks l := by
  simp [freeBlocks]

@[simp] theorem inRuns_nil (b : Nat) : ¬ inRuns [] b := by simp [inRuns]

@[simp] theorem inRuns_cons (r : Run) (l : List Run) (b : Nat) :
    inRuns (r :: l) b ↔ (r.first ≤ b ∧ b < r.first + r.length) ∨ inRuns l b := by
  simp [inRuns]

/-! ### Allocation (R12) -/

@[simp] theorem takeRuns_nil (need block : Nat) : takeRuns need block [] = ([], []) := rfl

/-- Nothing more is needed. -/
@[simp] theorem takeRuns_zero (block : Nat) (l : List Run) : takeRuns 0 block l = ([], l) := by
  cases l <;> simp [takeRuns]

/-- The first run is taken whole. -/
theorem takeRuns_whole {need : Nat} {r : Run} (block : Nat) (rest : List Run) (h : need ≠ 0) (hr : r.length ≤ need) :
    takeRuns need block (r :: rest) =
      ({ block := block, store := r.first, length := r.length } ::
          (takeRuns (need - r.length) (block + r.length) rest).1,
        (takeRuns (need - r.length) (block + r.length) rest).2) := by
  simp [takeRuns, h, hr]

/-- The first run is split. -/
theorem takeRuns_split {need : Nat} {r : Run} (block : Nat) (rest : List Run) (h : need ≠ 0) (hr : need < r.length) :
    takeRuns need block (r :: rest) =
      ([{ block := block, store := r.first, length := need }],
        { first := r.first + need, length := r.length - need } :: rest) := by
  simp [takeRuns, h, Nat.not_le.2 hr]

/-- Whoever proves something of `takeRuns` meets these four cases. -/
theorem takeRuns_induct {P : Nat → Nat → List Run → List Extent × List Run → Prop}
    (nil : ∀ need block, P need block [] ([], []))
    (zero : ∀ block l, P 0 block l ([], l))
    (whole : ∀ need block r rest, need ≠ 0 → r.length ≤ need →
      P (need - r.length) (block + r.length) rest (takeRuns (need - r.length) (block + r.length) rest) →
      P need block (r :: rest)
        ({ block := block, store := r.first, length := r.length } ::
            (takeRuns (need - r.length) (block + r.length) rest).1,
          (takeRuns (need - r.length) (block + r.length) rest).2))
    (split : ∀ need block r rest, need ≠ 0 → need < r.length →
      P need block (r :: rest)
        ([{ block := block, store := r.first, length := need }],
          { first := r.first + need, length := r.length - need } :: rest))
    (need block : Nat) (l : List Run) : P need block l (takeRuns need block l) := by
  induction l generalizing need block with
  | nil => exact nil _ _
  | cons r rest ih =>
    by_cases h : need = 0
    · subst h; rw [takeRuns_zero]; exact zero _ _
    · by_cases hr : r.length ≤ need
      · rw [takeRuns_whole _ _ h hr]; exact whole _ _ _ _ h hr (ih _ _)
      · rw [takeRuns_split _ _ h (by omega)]; exact split _ _ _ _ h (by omega)

/-- The list gains no entry. -/
theorem takeRuns_length (need block : Nat) (l : List Run) : (takeRuns need block l).2.length ≤ l.length := by
  refine takeRuns_induct (P := fun _ _ l p => p.2.length ≤ l.length) ?_ ?_ ?_ ?_ need block l
  · simp
  · simp
  · intro need block r rest _ _ ih; simp; omega
  · simp

/-- What is taken and what stays add up. -/
theorem takeRuns_blocks (need block : Nat) (l : List Run) (h : need ≤ freeBlocks l) :
    total ((takeRuns need block l).1.map (·.length)) = need ∧ freeBlocks (takeRuns need block l).2 + need = freeBlocks l := by
  revert h
  refine takeRuns_induct (P := fun need _ l p => need ≤ freeBlocks l →
    total (p.1.map (·.length)) = need ∧ freeBlocks p.2 + need = freeBlocks l) ?_ ?_ ?_ ?_ need block l
  · intro need _ h; simp at h; simp [h]
  · simp
  · intro need block r rest _ hr ih h
    rw [freeBlocks_cons] at h
    obtain ⟨htaken, hleft⟩ := ih (by omega)
    simp only [List.map_cons, total_cons, freeBlocks_cons]
    omega
  · intro need block r rest _ hr _
    simp only [List.map_cons, List.map_nil, total_cons, total_nil, freeBlocks_cons]
    omega

/-- The extents cover consecutive track blocks in ascending store order (R2). -/
theorem takeRuns_extents (need block : Nat) (l : List Run) {store : Nat} (hs : ∀ r ∈ l, store ≤ r.first)
    (h : freeListSound l = true) : extentsFrom block store (takeRuns need block l).1 = true := by
  revert hs h store
  refine takeRuns_induct (P := fun _ block l p => ∀ {store}, (∀ r ∈ l, store ≤ r.first) → freeListSound l = true →
    extentsFrom block store p.1 = true) ?_ ?_ ?_ ?_ need block l
  · intros; rfl
  · intros; rfl
  · intro need block r rest _ _ ih store hs h
    obtain ⟨hr, hrest, hsound⟩ := (freeListSound_cons _ _).1 h
    simp [extentsFrom, hs r (by simp), hr, ih (fun x hx => (hrest x hx).le) hsound]
  · intro need block r rest hn _ store hs _
    simp [extentsFrom, hs r (by simp), Nat.pos_of_ne_zero hn]

/-- What stays of a list in its form is in its form, and begins no earlier than a run of it. -/
theorem takeRuns_left (need block : Nat) (l : List Run) (h : freeListSound l = true) :
    freeListSound (takeRuns need block l).2 = true ∧ ∀ r ∈ (takeRuns need block l).2, ∃ x ∈ l, x.first ≤ r.first := by
  revert h
  refine takeRuns_induct (P := fun _ _ l p => freeListSound l = true →
    freeListSound p.2 = true ∧ ∀ r ∈ p.2, ∃ x ∈ l, x.first ≤ r.first) ?_ ?_ ?_ ?_ need block l
  · simp
  · exact fun _ l h => ⟨h, fun r hr => ⟨r, hr, le_rfl⟩⟩
  · intro need block r rest _ _ ih h
    obtain ⟨-, -, hsound⟩ := (freeListSound_cons _ _).1 h
    obtain ⟨hleft, hfirst⟩ := ih hsound
    refine ⟨hleft, fun y hy => ?_⟩
    obtain ⟨x, hx, hxy⟩ := hfirst y hy
    exact ⟨x, List.mem_cons_of_mem _ hx, hxy⟩
  · intro need block r rest _ hr h
    obtain ⟨-, hrest, hsound⟩ := (freeListSound_cons _ _).1 h
    refine ⟨(freeListSound_cons _ _).2 ⟨by simpa using hr, fun x hx => ?_, hsound⟩, fun y hy => ?_⟩
    · have := hrest x hx; dsimp only; omega
    · rcases List.mem_cons.1 hy with rfl | hy
      · exact ⟨r, by simp, by simp⟩
      · exact ⟨y, List.mem_cons_of_mem _ hy, le_rfl⟩

/-- A block is free exactly when it has been taken or stays. -/
theorem takeRuns_inRuns (need block : Nat) (l : List Run) (b : Nat) :
    inRuns l b ↔ inRuns ((takeRuns need block l).1.map Extent.run) b ∨ inRuns (takeRuns need block l).2 b := by
  refine takeRuns_induct (P := fun _ _ l p => inRuns l b ↔ inRuns (p.1.map Extent.run) b ∨ inRuns p.2 b)
    ?_ ?_ ?_ ?_ need block l
  · simp
  · simp
  · intro need block r rest _ _ ih
    simp [ih, Extent.run, or_assoc]
  · intro need block r rest _ hr
    have : (r.first ≤ b ∧ b < r.first + r.length) ↔ (r.first ≤ b ∧ b < r.first + need) ∨
        (r.first + need ≤ b ∧ b < r.first + need + (r.length - need)) := by omega
    simp [this, Extent.run, or_assoc]

/-- The blocks taken lie before those that stay. -/
theorem takeRuns_lowest (need block : Nat) (l : List Run) (h : freeListSound l = true) :
    ∀ x ∈ (takeRuns need block l).1, ∀ r ∈ (takeRuns need block l).2, x.store + x.length ≤ r.first := by
  revert h
  refine takeRuns_induct (P := fun _ _ l p => freeListSound l = true → ∀ x ∈ p.1, ∀ r ∈ p.2, x.store + x.length ≤ r.first)
    ?_ ?_ ?_ ?_ need block l
  · simp
  · simp
  · intro need block r rest _ _ ih h x hx y hy
    obtain ⟨-, hrest, hsound⟩ := (freeListSound_cons _ _).1 h
    rcases List.mem_cons.1 hx with rfl | hx
    · obtain ⟨z, hz, hzy⟩ := (takeRuns_left _ _ _ hsound).2 y hy
      have := hrest z hz
      dsimp only; omega
    · exact ih hsound x hx y hy
  · intro need block r rest _ hr h x hx y hy
    obtain ⟨-, hrest, -⟩ := (freeListSound_cons _ _).1 h
    obtain rfl := List.mem_singleton.1 hx
    rcases List.mem_cons.1 hy with rfl | hy
    · exact le_rfl
    · have := hrest y hy; dsimp only; omega

/-- An allocation is refused exactly in the rule's two cases. -/
theorem allocate_none (need : Nat) (l : List Run) :
    allocate need l = none ↔ freeBlocks l < need ∨ 4000 < (takeRuns need 0 l).1.length := by
  unfold allocate
  split
  · simp [*]
  · dsimp only; split <;> simp [*]

/-- An allocation that is made is what consecutive runs give. -/
theorem allocate_some {need : Nat} {l left : List Run} {extents : List Extent} (h : allocate need l = some (extents, left)) :
    need ≤ freeBlocks l ∧ takeRuns need 0 l = (extents, left) := by
  unfold allocate at h
  split at h
  · cases h
  · dsimp only at h
    split at h
    · cases h
    · cases h; exact ⟨by omega, rfl⟩

/-- Settles O20, by the cases of `takeRuns`: a run taken whole, or the last one split. -/
theorem allocationIsFirstFit : Obligations.AllocationIsFirstFit := by
  intro need l left extents _ hl
  refine ⟨allocate_none need l, fun h => ?_⟩
  obtain ⟨hneed, h⟩ := allocate_some h
  obtain ⟨htotal, hleft⟩ := takeRuns_blocks need 0 l hneed
  have hextents := takeRuns_extents need 0 l (store := 0) (by simp) hl
  have hlength := takeRuns_length need 0 l
  obtain ⟨hsound, -⟩ := takeRuns_left need 0 l hl
  have hblocks := takeRuns_inRuns need 0 l
  have hlowest := takeRuns_lowest need 0 l hl
  rw [h] at htotal hleft hextents hlength hsound hblocks hlowest
  exact ⟨htotal, hextents, hleft, hlength, hsound, hblocks, hlowest⟩

end Machine
end Sys2Proof
end

section
/-!
Release of a run to the free-extent list (R11, R13).
-/
namespace Sys2Proof
namespace Machine

/-! ### A run inserted and merged -/

@[simp] theorem freeBlocks_joinNext (r : Run) (l : List Run) : freeBlocks (joinNext r l) = freeBlocks l + r.length := by
  cases l with
  | nil => simp [joinNext]
  | cons y rest => simp only [joinNext]; split <;> simp <;> omega

theorem inRuns_joinNext (r : Run) (l : List Run) (b : Nat) :
    inRuns (joinNext r l) b ↔ inRuns l b ∨ (r.first ≤ b ∧ b < r.first + r.length) := by
  cases l with
  | nil => simp [joinNext]
  | cons y rest =>
    simp only [joinNext]
    split
    · have : (r.first ≤ b ∧ b < r.first + (r.length + y.length)) ↔
          (y.first ≤ b ∧ b < y.first + y.length) ∨ (r.first ≤ b ∧ b < r.first + r.length) := by omega
      simp only [inRuns_cons, this]; tauto
    · simp only [inRuns_cons]; tauto

theorem length_joinNext (r : Run) (l : List Run) : (joinNext r l).length ≤ l.length + 1 := by
  cases l with
  | nil => simp [joinNext]
  | cons y rest => simp only [joinNext]; split <;> simp

/-- A run that ends at or before the list's first block joins it in its form. -/
theorem joinNext_sound {r : Run} {l : List Run} (hr : 0 < r.length) (hl : freeListSound l = true)
    (h : ∀ x ∈ l, r.first + r.length ≤ x.first) : freeListSound (joinNext r l) = true := by
  cases l with
  | nil => simpa [joinNext, freeListSound] using hr
  | cons y rest =>
    obtain ⟨hy, hrest, hsound⟩ := (freeListSound_cons _ _).1 hl
    simp only [joinNext]
    have hry := h y (by simp)
    split
    · refine (freeListSound_cons _ _).2 ⟨by dsimp only; omega, fun x hx => ?_, hsound⟩
      have := hrest x hx
      dsimp only; omega
    · refine (freeListSound_cons _ _).2 ⟨hr, fun x hx => ?_, hl⟩
      rcases List.mem_cons.1 hx with rfl | hx
      · omega
      · have := hrest x hx; omega

@[simp] theorem freeBlocks_insertRun (r : Run) (l : List Run) : freeBlocks (insertRun r l) = freeBlocks l + r.length := by
  induction l with
  | nil => simp [insertRun]
  | cons x rest ih =>
    simp only [insertRun]
    repeat' split
    all_goals simp [*]
    all_goals omega

theorem inRuns_insertRun (r : Run) (l : List Run) (b : Nat) :
    inRuns (insertRun r l) b ↔ inRuns l b ∨ (r.first ≤ b ∧ b < r.first + r.length) := by
  induction l with
  | nil => simp [insertRun]
  | cons x rest ih =>
    simp only [insertRun]
    repeat' split
    · simp only [inRuns_cons, ih]; tauto
    · have : (x.first ≤ b ∧ b < x.first + (x.length + r.length)) ↔
          (x.first ≤ b ∧ b < x.first + x.length) ∨ (r.first ≤ b ∧ b < r.first + r.length) := by omega
      simp only [inRuns_joinNext, inRuns_cons, this]; tauto
    · exact inRuns_joinNext r (x :: rest) b

theorem length_insertRun (r : Run) (l : List Run) : (insertRun r l).length ≤ l.length + 1 := by
  induction l with
  | nil => simp [insertRun]
  | cons x rest ih =>
    simp only [insertRun]
    repeat' split
    · simpa using ih
    · exact (length_joinNext _ rest).trans (by simp)
    · exact length_joinNext r (x :: rest)

/-- Every run of the list after an insertion begins where a run of before or the new one began. -/
theorem first_insertRun {r : Run} {l : List Run} {y : Run} (h : y ∈ insertRun r l) :
    y.first = r.first ∨ ∃ x ∈ l, y.first = x.first := by
  have hjoin : ∀ (q : Run) (m : List Run), y ∈ joinNext q m → y.first = q.first ∨ ∃ x ∈ m, y.first = x.first := by
    intro q m hm
    cases m with
    | nil => simp_all [joinNext]
    | cons z rest => simp only [joinNext] at hm; split at hm <;> grind
  induction l with
  | nil => simp_all [insertRun]
  | cons x rest ih => simp only [insertRun] at h; split at h <;> grind

/-- A run that lies in no run of a list. -/
def outside (r : Run) (l : List Run) : Prop := ∀ x ∈ l, x.first + x.length ≤ r.first ∨ r.first + r.length ≤ x.first

/-- A run that touches a run of the list, so that it merges with it (R13). -/
def touches (r : Run) (l : List Run) : Prop :=
  ∃ x ∈ l, x.first + x.length = r.first ∨ r.first + r.length = x.first

/-- What an insertion comes to in a list in its form: its form, and, with a neighbour, no more entries than before; without
one, the runs of before and the new one. -/
theorem insertRun_cases {r : Run} {l : List Run} (hr : 0 < r.length) (hl : freeListSound l = true) (ho : outside r l) :
    freeListSound (insertRun r l) = true ∧ (touches r l → (insertRun r l).length ≤ l.length) ∧
      (¬ touches r l → (insertRun r l).length = l.length + 1 ∧ ∀ x, x ∈ insertRun r l ↔ x = r ∨ x ∈ l) := by
  induction l with
  | nil => simp [insertRun, touches, freeListSound, hr]
  | cons x rest ih =>
    obtain ⟨hx, hrest, hsound⟩ := (freeListSound_cons _ _).1 hl
    obtain ⟨hox, horest⟩ : (x.first + x.length ≤ r.first ∨ r.first + r.length ≤ x.first) ∧ outside r rest := by
      simpa [outside] using ho
    simp only [insertRun]
    split
    · rename_i hlt
      obtain ⟨ihs, iht, ihn⟩ := ih hsound horest
      have ht : touches r (x :: rest) ↔ touches r rest := by
        simp only [touches, List.mem_cons, exists_eq_or_imp, or_iff_right_iff_imp]; omega
      refine ⟨(freeListSound_cons _ _).2 ⟨hx, fun y hy => ?_, ihs⟩, fun h => ?_, fun h => ?_⟩
      · rcases first_insertRun hy with hy | ⟨z, hz, hy⟩
        · omega
        · have := hrest z hz; omega
      · simpa using iht (ht.1 h)
      · obtain ⟨hlen, hmem⟩ := ihn (mt ht.2 h)
        exact ⟨by simp [hlen], fun y => by simp only [List.mem_cons, hmem]; tauto⟩
    · split
      · rename_i heq
        refine ⟨joinNext_sound (by dsimp only; omega) hsound fun y hy => ?_, fun _ => ?_, fun h => ?_⟩
        · have := hrest y hy
          have := horest y hy
          dsimp only; omega
        · exact (length_joinNext _ rest).trans (by simp)
        · exact absurd ⟨x, by simp, .inl heq⟩ h
      · have hle : r.first + r.length ≤ x.first := by omega
        refine ⟨joinNext_sound hr hl fun y hy => ?_, fun h => ?_, fun h => ?_⟩
        · rcases List.mem_cons.1 hy with rfl | hy
          · exact hle
          · have := hrest y hy; omega
        · have heq : r.first + r.length = x.first := by
            obtain ⟨y, hy, h⟩ := h
            rcases List.mem_cons.1 hy with rfl | hy
            · omega
            · have := hrest y hy; omega
          simp [joinNext, heq]
        · have hne : r.first + r.length ≠ x.first := fun heq => h ⟨x, by simp, .inr heq⟩
          simp [joinNext, hne]

/-! ### The candidate left out -/

/-- The smallest run of a list in its form: of equal ones the one with the lowest first block. -/
theorem smallestRun_spec {l : List Run} (hl : freeListSound l = true) {out : Run} (h : smallestRun l = some out) :
    out ∈ l ∧ ∀ x ∈ l, out.length < x.length ∨ (out.length = x.length ∧ out.first ≤ x.first) := by
  induction l generalizing out with
  | nil => simp [smallestRun] at h
  | cons r rest ih =>
    obtain ⟨-, hrest, hsound⟩ := (freeListSound_cons _ _).1 hl
    simp only [smallestRun] at h
    split at h
    · rename_i hn
      cases h
      have : rest = [] := by
        cases rest with
        | nil => rfl
        | cons y m => simp only [smallestRun] at hn; split at hn <;> (try split at hn) <;> cases hn
      simp [this]
    · rename_i b hb
      obtain ⟨hmem, hmin⟩ := ih hsound hb
      split at h <;> cases h
      · refine ⟨List.mem_cons_of_mem _ hmem, fun x hx => ?_⟩
        rcases List.mem_cons.1 hx with rfl | hx
        · exact .inl ‹_›
        · exact hmin x hx
      · refine ⟨by simp, fun x hx => ?_⟩
        rcases List.mem_cons.1 hx with rfl | hx
        · exact .inr ⟨rfl, le_rfl⟩
        · have := hmin x hx
          have := hrest x hx
          omega

theorem smallestRun_mem {l : List Run} {out : Run} (h : smallestRun l = some out) : out ∈ l := by
  induction l generalizing out with
  | nil => simp [smallestRun] at h
  | cons r rest ih => simp only [smallestRun] at h; grind

theorem smallestRun_none {l : List Run} (h : smallestRun l = none) : l = [] := by
  cases l with
  | nil => rfl
  | cons r rest => simp only [smallestRun] at h; grind

/-- The list without the run that begins with a block (R13). -/
def leftOut (out : Run) (l : List Run) : List Run := l.filter fun x => !decide (x.first = out.first)

theorem length_leftOut {out : Run} {l : List Run} (h : out ∈ l) : (leftOut out l).length < l.length :=
  List.length_filter_lt_length_iff_exists.2 ⟨out, h, by simp⟩

theorem leftOut_sound {out : Run} {l : List Run} (h : freeListSound l = true) : freeListSound (leftOut out l) = true := by
  obtain ⟨hpos, hpair⟩ := (freeListSound_iff l).1 h
  exact (freeListSound_iff _).2 ⟨fun r hr => hpos r (List.mem_of_mem_filter hr), hpair.filter _⟩

/-- In a list in its form no two runs begin with one block. -/
theorem eq_of_first_eq {l : List Run} (h : freeListSound l = true) {a b : Run} (ha : a ∈ l) (hb : b ∈ l)
    (hab : a.first = b.first) : a = b := by
  induction l with
  | nil => simp at ha
  | cons x rest ih =>
    obtain ⟨-, hrest, hsound⟩ := (freeListSound_cons _ _).1 h
    rcases List.mem_cons.1 ha with rfl | ha' <;> rcases List.mem_cons.1 hb with rfl | hb'
    · rfl
    · have := hrest b hb'; omega
    · have := hrest a ha'; omega
    · exact ih hsound ha' hb'

theorem mem_leftOut {out : Run} {l : List Run} (h : freeListSound l = true) (ho : out ∈ l) (x : Run) :
    x ∈ leftOut out l ↔ x ∈ l ∧ x ≠ out := by
  simp only [leftOut, List.mem_filter, Bool.not_eq_true', decide_eq_false_iff_not]
  exact and_congr_right fun hx => not_congr ⟨eq_of_first_eq h hx ho, congrArg _⟩

theorem freeBlocks_leftOut {out : Run} {l : List Run} (h : freeListSound l = true) (ho : out ∈ l) :
    freeBlocks (leftOut out l) + out.length = freeBlocks l := by
  induction l with
  | nil => simp at ho
  | cons x rest ih =>
    obtain ⟨hx, hrest, hsound⟩ := (freeListSound_cons _ _).1 h
    rcases List.mem_cons.1 ho with rfl | ho
    · have : leftOut out rest = rest := List.filter_eq_self.2 fun y hy => by have := hrest y hy; simp; omega
      simp only [leftOut] at this
      simp [leftOut, this]; omega
    · have hne : x.first ≠ out.first := by have := hrest out ho; omega
      have := ih hsound ho
      simp only [leftOut] at this ⊢
      simp [hne]; omega

/-! ### Release -/

/-- What a release comes to: the list with the run inserted, or, past 2,048 entries, that list without its smallest run,
whose blocks are stranded (R13). -/
theorem releaseRun_cases (r : Run) (s : State) :
    ((insertRun r s.free.list).length ≤ 2048 ∧ releaseRun r s = setFreeList (insertRun r s.free.list) s) ∨
    ∃ out, 2048 < (insertRun r s.free.list).length ∧ smallestRun (insertRun r s.free.list) = some out ∧
      releaseRun r s = raiseStranded out.length (some out.first)
        { s with free := { s.free with
            list := leftOut out (insertRun r s.free.list), stranded := s.free.stranded + out.length } } := by
  unfold releaseRun
  dsimp only
  split
  · exact .inl ⟨by assumption, rfl⟩
  · rename_i hlen
    split
    · rename_i hn
      rw [smallestRun_none hn] at hlen
      simp at hlen
    · rename_i out hout
      exact .inr ⟨out, by omega, hout, rfl⟩

@[simp] theorem raiseStranded_free (n : Nat) (first : Option Nat) (s : State) : (raiseStranded n first s).free = s.free := rfl

/-- A release takes the list past 2,048 entries from no list that holds as many or fewer. -/
theorem releaseRun_length (r : Run) {s : State} (h : s.free.list.length ≤ 2048) :
    (releaseRun r s).free.list.length ≤ 2048 := by
  rcases releaseRun_cases r s with ⟨hlen, he⟩ | ⟨out, -, hout, he⟩
  · simpa [he] using hlen
  · rw [he]
    have := length_leftOut (smallestRun_mem hout)
    have := length_insertRun r s.free.list
    simp only [raiseStranded_free]
    omega

/-- The blocks free after a release are of the run released or were free. -/
theorem releaseRun_sound {r : Run} {s : State} (hr : 0 < r.length) (hl : freeListSound s.free.list = true)
    (ho : outside r s.free.list) :
    freeListSound (releaseRun r s).free.list = true ∧
      ∀ b, inRuns (releaseRun r s).free.list b → inRuns s.free.list b ∨ (r.first ≤ b ∧ b < r.first + r.length) := by
  obtain ⟨hsound, -, -⟩ := insertRun_cases hr hl ho
  rcases releaseRun_cases r s with ⟨-, he⟩ | ⟨out, -, -, he⟩
  · rw [he]
    exact ⟨hsound, fun b hb => (inRuns_insertRun r _ b).1 hb⟩
  · rw [he]
    refine ⟨leftOut_sound hsound, fun b ⟨x, hx, hb⟩ => ?_⟩
    exact (inRuns_insertRun r _ b).1 ⟨x, List.mem_of_mem_filter hx, hb⟩

/-- A release by R13 of a run that lies in no free extent. -/
theorem releaseRun_spec {r : Run} {s : State} (hr : 0 < r.length) (hl : freeListSound s.free.list = true)
    (hlen : s.free.list.length ≤ 2048) (ho : outside r s.free.list) :
    let u := releaseRun r s
    freeBlocks u.free.list + u.free.stranded = freeBlocks s.free.list + s.free.stranded + r.length ∧
    freeBlocks s.free.list ≤ freeBlocks u.free.list ∧
    (touches r s.free.list ∨ s.free.list.length < 2048 → u.free.stranded = s.free.stranded ∧ u.notices = s.notices ∧
      ∀ b, inRuns u.free.list b ↔ inRuns s.free.list b ∨ (r.first ≤ b ∧ b < r.first + r.length)) ∧
    (¬ touches r s.free.list → s.free.list.length = 2048 → ∃ out, (out = r ∨ out ∈ s.free.list) ∧
      (∀ x, x = r ∨ x ∈ s.free.list → out.length < x.length ∨ (out.length = x.length ∧ out.first ≤ x.first)) ∧
      (∀ x, x ∈ u.free.list ↔ (x = r ∨ x ∈ s.free.list) ∧ x ≠ out) ∧
      u.free.stranded = s.free.stranded + out.length ∧
      u.notices = (raise .blocksStranded
        (Layout.num 3 out.length ++ Layout.opt (Layout.num 3) (some out.first)) s).notices) := by
  obtain ⟨hsound, htouch, hfree⟩ := insertRun_cases hr hl ho
  rcases releaseRun_cases r s with ⟨hle, he⟩ | ⟨out, hgt, hout, he⟩
  · rw [he]
    refine ⟨?_, ?_, fun _ => ⟨rfl, rfl, inRuns_insertRun r _⟩, fun hn hfull => ?_⟩
    · simp only [setFreeList_free, freeBlocks_insertRun]; omega
    · simp only [setFreeList_free, freeBlocks_insertRun]; omega
    · obtain ⟨hlen', -⟩ := hfree hn
      omega
  · have hn : ¬ touches r s.free.list := fun h => by have := htouch h; omega
    obtain ⟨hlen', hmem⟩ := hfree hn
    obtain ⟨hom, hmin⟩ := smallestRun_spec hsound hout
    have hblocks := freeBlocks_leftOut hsound hom
    rw [freeBlocks_insertRun] at hblocks
    have hsmall := hmin r ((hmem r).2 (.inl rfl))
    rw [he]
    refine ⟨?_, ?_, fun h => ?_, fun _ _ => ⟨out, (hmem out).1 hom, fun x hx => hmin x ((hmem x).2 hx), fun x => ?_, rfl,
      rfl⟩⟩
    · simp only [raiseStranded_free]; omega
    · simp only [raiseStranded_free]; omega
    · rcases h with h | h
      · exact absurd h hn
      · omega
    · rw [← hmem]; exact mem_leftOut hsound hom x

end Machine
end Sys2Proof
end

section
/-!
What a command can do to the data area (R2, R11): the free-extent list, the track table and the extent lists. Each law of the
data area is then proved of these few changes.
-/
namespace Sys2Proof
namespace Machine

/-! ### Operations that leave the track table and the extent lists -/

@[simp] theorem setComposition_area (id : Nat) (c : Option Composition) (s : State) :
    (setComposition id c s).catalogue.tracks = s.catalogue.tracks ∧
    (setComposition id c s).catalogue.extents = s.catalogue.extents := ⟨rfl, rfl⟩

@[simp] theorem setAwaiting_area (id : Nat) (l : Option (List ReelNumbers)) (s : State) :
    (setAwaiting id l s).catalogue.tracks = s.catalogue.tracks ∧
    (setAwaiting id l s).catalogue.extents = s.catalogue.extents := ⟨rfl, rfl⟩

@[simp] theorem takeComposition_area (id : Nat) (change : CompositionChange) (s : State) :
    (takeComposition id change s).catalogue.tracks = s.catalogue.tracks ∧
    (takeComposition id change s).catalogue.extents = s.catalogue.extents := by
  unfold takeComposition; (repeat' split) <;> simp

@[simp] theorem queueComposition_area (id : Nat) (change : CompositionChange) (engine closes : Bool) (s : State) :
    (queueComposition id change engine closes s).catalogue.tracks = s.catalogue.tracks ∧
    (queueComposition id change engine closes s).catalogue.extents = s.catalogue.extents := by
  unfold queueComposition; split <;> simp

@[simp] theorem resolveAll_area (l : List (Nat × List ReelNumbers)) (s : State) :
    (resolveAll l s).catalogue.tracks = s.catalogue.tracks ∧
    (resolveAll l s).catalogue.extents = s.catalogue.extents := by
  induction l generalizing s with
  | nil => simp [resolveAll]
  | cons p l ih => simp [resolveAll, ih]

@[simp] theorem completeClose_area (s : State) :
    (completeClose s).catalogue.tracks = s.catalogue.tracks ∧
    (completeClose s).catalogue.extents = s.catalogue.extents := by
  simp only [completeClose]; (repeat' split) <;> simp

@[simp] theorem setShown_area (id shown : Nat) (s : State) :
    (setShown id shown s).catalogue.tracks = s.catalogue.tracks ∧
    (setShown id shown s).catalogue.extents = s.catalogue.extents := by
  unfold setShown; split <;> simp

@[simp] theorem performCount_area (c : Count) (s : State) :
    (performCount c s).catalogue.tracks = s.catalogue.tracks ∧
    (performCount c s).catalogue.extents = s.catalogue.extents := by
  simp only [performCount]; (repeat' split) <;> simp

@[simp] theorem countShowing_area (s : State) :
    (countShowing s).catalogue.tracks = s.catalogue.tracks ∧
    (countShowing s).catalogue.extents = s.catalogue.extents := by
  simp only [countShowing]; (repeat' split) <;> simp

@[simp] theorem fireCount_area (n : Nat) (s : State) :
    (fireCount n s).catalogue.tracks = s.catalogue.tracks ∧
    (fireCount n s).catalogue.extents = s.catalogue.extents := by
  induction n generalizing s with
  | zero => simp [fireCount]
  | succ n ih => unfold fireCount; (repeat' split) <;> simp [ih]

@[simp] theorem judgeUnits_area (s : State) :
    (judgeUnits s).catalogue.tracks = s.catalogue.tracks ∧
    (judgeUnits s).catalogue.extents = s.catalogue.extents := by
  unfold judgeUnits; simp

@[simp] theorem frameTick_area (s : State) :
    (frameTick s).catalogue.tracks = s.catalogue.tracks ∧
    (frameTick s).catalogue.extents = s.catalogue.extents := by
  unfold frameTick; (repeat' split) <;> simp

@[simp] theorem clockTick_area (s : State) :
    (clockTick s).catalogue.tracks = s.catalogue.tracks ∧
    (clockTick s).catalogue.extents = s.catalogue.extents := by
  unfold clockTick; (repeat' split) <;> simp

@[simp] theorem syncEdge_area (rising : Bool) (s : State) :
    (syncEdge rising s).catalogue.tracks = s.catalogue.tracks ∧
    (syncEdge rising s).catalogue.extents = s.catalogue.extents := by
  simp only [syncEdge]; (repeat' split) <;> simp

@[simp] theorem loseSync_area (s : State) :
    (loseSync s).catalogue.tracks = s.catalogue.tracks ∧
    (loseSync s).catalogue.extents = s.catalogue.extents := by
  unfold loseSync; simp

@[simp] theorem generatorTicks_area (s : State) :
    (generatorTicks s).catalogue.tracks = s.catalogue.tracks ∧
    (generatorTicks s).catalogue.extents = s.catalogue.extents := by
  unfold generatorTicks; (repeat' split) <;> simp

@[simp] theorem serveCompositionDelete_area (turn : Bool) (frame : Frame) (id : Nat) (s : State) :
    (serveCompositionDelete turn frame id s).catalogue.tracks = s.catalogue.tracks ∧
    (serveCompositionDelete turn frame id s).catalogue.extents = s.catalogue.extents := by
  unfold serveCompositionDelete whenRoom; (repeat' split) <;> simp

/-- A release of a track takes its extent list away (R13). -/
@[simp] theorem releaseTrack_catalogue (id : Nat) (s : State) :
    (releaseTrack id s).catalogue = { s.catalogue with extents := s.catalogue.extents.erase id } := by
  unfold releaseTrack; simp [Table.set]

/-! ### The changes -/

/-- The free list, the track table and the extent lists are the same. -/
def sameArea (s u : State) : Prop :=
  u.free.list = s.free.list ∧ u.catalogue.tracks = s.catalogue.tracks ∧ u.catalogue.extents = s.catalogue.extents

/-- What a command other than the end of a sweep's read and a full reset can do to the data area. -/
inductive AreaChange : State → State → Prop
  /-- the data area stays -/
  | same {s u : State} (h : sameArea s u) : AreaChange s u
  /-- an entry is written with the number of extents it had, if it was there -/
  | entry {s u : State} (k : Nat) (e : TrackEntry)
      (hcount : ∀ x, s.catalogue.tracks.find k = some x → e.extentCount = x.extentCount)
      (hfree : u.free.list = s.free.list) (htracks : u.catalogue.tracks = s.catalogue.tracks.put k e)
      (hextents : u.catalogue.extents = s.catalogue.extents) : AreaChange s u
  /-- a new track takes its extents from the free list (R12, R28) -/
  | allocate {s u : State} (k need : Nat) (e : TrackEntry) (extents : List Extent) (left : List Run)
      (hnew : s.catalogue.tracks.find k = none) (hmade : allocate need s.free.list = some (extents, left))
      (hcount : e.extentCount = extents.length) (hfree : u.free.list = left)
      (htracks : u.catalogue.tracks = s.catalogue.tracks.put k e)
      (hextents : u.catalogue.extents = s.catalogue.extents.put k extents) : AreaChange s u
  /-- a track gives its extents back (R13) -/
  | release {s u : State} (k : Nat) (e : Option TrackEntry) (hfree : u.free.list = (releaseTrack k s).free.list)
      (htracks : u.catalogue.tracks = s.catalogue.tracks.set k e)
      (hextents : u.catalogue.extents = s.catalogue.extents.erase k) : AreaChange s u
  /-- a sweep finds no track with extents (R14) -/
  | sweep {s u : State} (hnone : tracksToSweep s = [])
      (hfree : u.free.list = complement s.store.size []) (htracks : u.catalogue.tracks = s.catalogue.tracks)
      (hextents : u.catalogue.extents = s.catalogue.extents) : AreaChange s u
  | trans {s u v : State} (h : AreaChange s u) (h' : AreaChange u v) : AreaChange s v

namespace AreaChange

/-- A change goes on being one through operations that leave the data area. -/
theorem andThen {s u v : State} (h : AreaChange s u) (h' : sameArea u v) : AreaChange s v := h.trans (.same h')

theorem refl (s : State) : AreaChange s s := .same ⟨rfl, rfl, rfl⟩

theorem foldl {α : Type} {act : State → α → State} (h : ∀ u a, AreaChange u (act u a)) (l : List α) (s : State) :
    AreaChange s (l.foldl act s) := by
  induction l generalizing s with
  | nil => exact .refl s
  | cons a l ih => exact (h s a).trans (ih _)

theorem ite {s a b : State} {p : Prop} [Decidable p] (ha : AreaChange s a) (hb : AreaChange s b) :
    AreaChange s (if p then a else b) := by
  split
  · exact ha
  · exact hb

end AreaChange

/-! ### What each operation does to the data area -/

theorem damageTrack_change (n : Nat) (slot : TrackSlot) (reason : DamageReason) (content : Option ContentCode) (s : State) :
    AreaChange s (damageTrack n slot reason content s) := by
  unfold damageTrack
  split
  · exact .same (by simp [sameArea])
  · rename_i e he
    exact .entry slot.track { e with status := .damaged reason } (fun x hx => by cases he.symm.trans hx; rfl)
      (by simp) (by simp [Table.set]) (by simp)

theorem damage_then_drop (n : Nat) (slot : TrackSlot) (reason : DamageReason) (content : Option ContentCode) (s : State) :
    AreaChange s (dropSegment (damageTrack n slot reason content s)) :=
  (damageTrack_change n slot reason content s).andThen (by simp [sameArea])

theorem judgeData_change (n : Nat) (slot : TrackSlot) (g : Segment) (s : State) : AreaChange s (judgeData n slot g s) := by
  unfold judgeData
  have refused : ∀ r, AreaChange s (refuseSegment r s) := fun r => .same (by simp [sameArea])
  refine .ite (refused _) (.ite (.ite (refused _) (.ite (damage_then_drop _ _ _ _ _) (.ite (damage_then_drop _ _ _ _ _) ?_)))
    (.ite ?_ (.ite (refused _) (damage_then_drop _ _ _ _ _))))
  · exact .same (by simp [sameArea])
  · exact .same (by simp [sameArea])

theorem takeAllocation_free (left : List Run) (s : State) : (takeAllocation left s).free.list = left := by
  unfold takeAllocation; dsimp only; split <;> rfl

theorem openTrack_change {n id : Nat} {g : Segment} {h : TrackHeader} {s : State}
    (hnew : s.catalogue.tracks.find id = none) : AreaChange s (openTrack n id g h s) := by
  unfold openTrack
  dsimp only
  split
  · exact .entry id _ (fun x hx => by cases hnew.symm.trans hx) (by simp) (by simp [Table.set]; rfl) (by simp)
  · rename_i extents left hmade
    repeat' split
    · exact .same (by simp [sameArea])
    · exact .refl s
    · exact .allocate id h.length _ extents left hnew hmade rfl (by simp [takeAllocation_free])
        (by simp [Table.set]; rfl) (by simp [Table.set])

theorem find_lowestFree {α : Type} {t : Table α} {bound k : Nat} (h : t.lowestFree bound = some k) : t.find k = none := by
  simpa using List.find?_some h

theorem judgeHeader_change (g : Segment) (s : State) : AreaChange s (judgeHeader g s) := by
  unfold judgeHeader
  repeat' split
  case h_2 id hid => exact openTrack_change (find_lowestFree hid)
  all_goals exact .same (by simp [sameArea])

theorem actOnSegment_change (g : Segment) (s : State) : AreaChange s (actOnSegment g s) := by
  unfold actOnSegment
  split
  · exact .same (by simp [sameArea])
  · split
    · exact .same (by simp [sameArea])
    · split
      · exact .same (by simp [sameArea])
      · split
        · split
          · exact judgeData_change _ _ _ _
          · exact .same (by split <;> simp [sameArea])
          · exact .same (by simp [sameArea])
        · split
          · exact judgeHeader_change _ _
          · exact .same (by simp [sameArea])

theorem pumpSegment_change (s : State) : AreaChange s (pumpSegment s) := by
  unfold pumpSegment
  repeat' split
  · exact .refl s
  · exact .refl s
  · exact actOnSegment_change _ _

theorem deleteTrack_change (track : Nat) (s : State) : AreaChange s (deleteTrack track s) :=
  .release track none (by simp [deleteTrack]) (by simp [deleteTrack]) (by simp [deleteTrack])

theorem serveTrackDelete_change (turn : Bool) (frame : Frame) (track : Nat) (s : State) :
    AreaChange s (serveTrackDelete turn frame track s) := by
  unfold serveTrackDelete
  repeat' split
  on_goal -1 =>
    unfold whenRoom
    split
    · exact (deleteTrack_change track s).andThen (by simp [sameArea])
    · exact .same (by simp [sameArea])
  all_goals exact .same (by simp [sameArea])

theorem leaveOut_of_short {l : List Run} (n : Nat) (h : l.length ≤ 2048) : leaveOut n l = (l, 0) := by
  cases n <;> simp [leaveOut, h]

theorem length_complement_nil (size : Nat) : (complement size []).length ≤ 1 := by
  simp only [complement, List.flatMap_nil, List.foldl_nil, gapsBetween]; split <;> simp

theorem endSweep_free (sw : Sweep) (s : State) : (endSweep sw s).free =
    { list := (leaveOut (complement s.store.size sw.taken).length (complement s.store.size sw.taken)).1
      stranded := (leaveOut (complement s.store.size sw.taken).length (complement s.store.size sw.taken)).2
      sweep := none } := by
  unfold endSweep
  dsimp only
  cases sw.kind <;> simp <;> split <;> simp

theorem endSweep_requested_catalogue (sw : Sweep) (s : State) (h : sw.kind = .requested) :
    (endSweep sw s).catalogue = s.catalogue := by
  unfold endSweep
  simp only [h]
  split <;> simp

theorem serveStoreSweep_change (frame : Frame) (s : State) : AreaChange s (serveStoreSweep frame s) := by
  unfold serveStoreSweep
  repeat' split
  · exact .same (by simp [sameArea])
  · exact .same (by simp [sameArea])
  · unfold beginSweep
    dsimp only
    split
    · rename_i hnone
      refine .sweep (by simpa [tracksToSweep] using hnone) ?_ ?_ ?_
      · rw [endSweep_free, leaveOut_of_short _ ((length_complement_nil _).trans (by norm_num))]
        simp
      · simp [endSweep_requested_catalogue]
      · simp [endSweep_requested_catalogue]
    · exact .same (by simp [sameArea])

theorem completeTrack_change {n : Nat} {slot : TrackSlot} {e : TrackEntry} {s : State}
    (he : s.catalogue.tracks.find slot.track = some e) : AreaChange s (completeTrack n slot e s) :=
  .entry slot.track { e with status := .ready } (fun x hx => by cases he.symm.trans hx; rfl)
    (by simp [completeTrack]) (by simp [completeTrack, Table.set]) (by simp [completeTrack])

theorem completeDescription_change {n : Nat} {slot : TrackSlot} {e : TrackEntry} (block : List Byte) {s : State}
    (he : s.catalogue.tracks.find slot.track = some e) : AreaChange s (completeDescription n slot e block s) := by
  unfold completeDescription
  repeat' split
  · exact (damageTrack_change n slot .check (some .noEntry) s).andThen (by simp [sameArea])
  · exact completeTrack_change he
  · exact (completeTrack_change (n := n) he).andThen (by simp [sameArea])

theorem gatherWritten_change (g : Gather) (s : State) : AreaChange s (gatherWritten g s) := by
  unfold gatherWritten
  repeat' split
  · exact .refl s
  · exact .refl s
  · exact .refl s
  · exact completeDescription_change _ ‹_›
  · exact completeTrack_change ‹_›

theorem gatherFailed_change (g : Gather) (s : State) : AreaChange s (gatherFailed g s) := by
  unfold gatherFailed
  split
  · exact .refl s
  · exact damageTrack_change _ _ _ _ _

/-- The state in which the outcome of a data write is acted on: its blocks stand in the store, and the writer is free. -/
def dataStored (ok : Bool) (g : Gather) (s : State) : State :=
  { s with
    store := s.store.writeRun g.store
      (if ok then g.blocks else (List.range g.blocks.length).map fun i => Config.lostBlock (s.freeUses + i))
    ingest := { s.ingest with writing := none }
    freeUses := if ok then s.freeUses else s.freeUses + g.blocks.length }

theorem dataWritten_eq (ok : Bool) (g : Gather) (dropped : Bool) (s : State) : dataWritten ok g dropped s =
    pumpSegment (if dropped then dataStored ok g s else if ok then gatherWritten g (dataStored ok g s)
      else gatherFailed g (dataStored ok g s)) := by
  cases ok <;> rfl

theorem dataWritten_change (ok : Bool) (g : Gather) (dropped : Bool) (s : State) :
    AreaChange s (dataWritten ok g dropped s) := by
  rw [dataWritten_eq]
  refine .trans (.trans (u := dataStored ok g s) (.same ⟨rfl, rfl, rfl⟩) ?_) (pumpSegment_change _)
  repeat' split
  · exact .refl _
  · exact gatherWritten_change _ _
  · exact gatherFailed_change _ _

theorem mapWritten_change (ok : Bool) (m : MapBlock) (reply : Option Reply) (s : State) :
    AreaChange s (mapWritten ok m reply s) := by
  unfold mapWritten
  dsimp only
  refine .trans (.trans (u := storeMap ok m (updateIngest (fun i => { i with writing := none }) s))
    (.same (by simp [sameArea])) ?_) (pumpSegment_change _)
  split
  · exact .same (by simp [sameArea])
  · rename_i e _
    split
    · exact .same (by simp [sameArea])
    · refine .release m.track (some { e with status := .damaged .storeFault, extentCount := 0 }) ?_ ?_ ?_
      all_goals split <;> simp

theorem interruptTrack_change (id : Nat) (s : State) : AreaChange s (interruptTrack id s) := by
  unfold interruptTrack
  split
  · exact .refl s
  · rename_i e he
    exact .entry id { e with status := .damaged .interrupted } (fun x hx => by cases he.symm.trans hx; rfl)
      (by simp) (by simp [Table.set]) (by simp)

theorem serveIngestAbort_change (frame : Frame) (s : State) : AreaChange s (serveIngestAbort frame s) := by
  unfold serveIngestAbort
  dsimp only
  split
  · exact .same (by simp [sameArea])
  · have hfold : AreaChange s ((fillingTracks s).foldl (fun s id => interruptTrack id s)
        (clearReceived { s with queue := { s.queue with waiters := s.queue.waiters.filterMap Waiter.afterAbort } })) :=
      AreaChange.trans (.same (by simp [sameArea])) (.foldl (fun u a => interruptTrack_change a u) _ _)
    refine hfold.andThen ?_
    (repeat' split) <;> simp [sameArea]

end Machine
end Sys2Proof
end

section
/-!
The accounts of the data area (R2, R11) under the changes of a command, and the changes of every command.
-/
namespace Sys2Proof

/-! ### Tables -/

section
variable {α β : Type}

/-- In a table with rising keys an entry is a member exactly when it is found. -/
theorem Table.mem_iff_find {t : Table α} (h : t.rising = true) (k : Nat) (x : α) : (k, x) ∈ t ↔ t.find k = some x := by
  induction t with
  | nil => simp
  | cons p rest ih =>
    obtain ⟨j, y⟩ := p
    obtain ⟨hj, hr⟩ := (Table.rising_cons j y rest).1 h
    simp only [Table.find, List.mem_cons, Prod.mk.injEq, ih hr]
    split
    · rename_i he
      subst he
      have : Table.find rest j ≠ some x := fun hf => absurd (hj _ ((ih hr).2 hf)) (lt_irrefl _)
      simp [this, eq_comm]
    · rename_i he
      simp [Ne.symm he]

@[simp] theorem Table.erase_put (t : Table α) (k : Nat) (x : α) : (t.put k x).erase k = t.erase k := by
  induction t with
  | nil => simp [Table.put, Table.erase]
  | cons p rest ih =>
    obtain ⟨j, y⟩ := p
    simp only [Table.put]
    split
    · simp [Table.erase]
    · split
      · simp [Table.erase, *]
      · simp [Table.erase, *]

theorem Table.erase_of_lt {t : Table α} {k : Nat} (h : ∀ p ∈ t, k < p.1) : t.erase k = t := by
  induction t with
  | nil => rfl
  | cons p rest ih =>
    obtain ⟨j, y⟩ := p
    have hj : k < j := h (j, y) (by simp)
    simp [Table.erase, Nat.ne_of_gt hj, ih fun p hp => h p (by simp [hp])]

/-- The members of all lists of a table, split into those under a key and the rest. -/
theorem Table.flatMap_perm {t : Table (List β)} (h : t.rising = true) (k : Nat) :
    (t.flatMap (·.2)).Perm ((t.find k).getD [] ++ (t.erase k).flatMap (·.2)) := by
  induction t with
  | nil => simp [Table.erase]
  | cons p rest ih =>
    obtain ⟨j, y⟩ := p
    obtain ⟨hj, hr⟩ := (Table.rising_cons j y rest).1 h
    simp only [Table.find, Table.erase, List.flatMap_cons]
    split
    · rename_i he
      subst he
      simp [Table.erase_of_lt hj]
    · calc y ++ rest.flatMap (·.2)
        _ |>.Perm (y ++ ((Table.find rest k).getD [] ++ (Table.erase rest k).flatMap (·.2))) := (ih hr).append_left y
        _ |>.Perm _ := by
          simp only [List.flatMap_cons, ← List.append_assoc]
          exact List.perm_append_comm.append_right _
end

namespace Machine

/-! ### Runs and blocks -/

/-- A block lies in a run. -/
def Run.covers (r : Run) (b : Nat) : Prop := r.first ≤ b ∧ b < r.first + r.length

theorem Run.apart_comm {a b : Run} : a.apart b ↔ b.apart a := by simp only [Run.apart]; tauto

/-- Two runs that are not empty are apart exactly when no block lies in both. -/
theorem Run.apart_iff {a b : Run} (ha : 0 < a.length) (hb : 0 < b.length) :
    a.apart b ↔ ∀ n, a.covers n → ¬ b.covers n := by
  simp only [Run.apart, Run.covers]
  constructor
  · intros; omega
  · intro h
    have h1 := h a.first
    have h2 := h b.first
    omega

/-- A run that is not empty lies outside a list exactly when none of its blocks lies in it. -/
theorem outside_iff {r : Run} {l : List Run} (hr : 0 < r.length) (hl : ∀ x ∈ l, 0 < x.length) :
    outside r l ↔ ∀ n, r.covers n → ¬ inRuns l n := by
  constructor
  · rintro h n hn ⟨x, hx, hxn⟩
    exact (Run.apart_iff (hl x hx) hr).1 (h x hx) n hxn hn
  · intro h x hx
    exact (Run.apart_iff (hl x hx) hr).2 fun n hxn hrn => h n hrn ⟨x, hx, hxn⟩

/-! ### The accounts -/

/-- All extents of the tracks. -/
def State.allExtents (s : State) : List Extent := s.catalogue.extents.flatMap (·.2)

/-- No two extents of a list share a block, and each has one. -/
def extentsApart (l : List Extent) : Prop :=
  (∀ x ∈ l, 0 < x.length) ∧ l.Pairwise fun a b => a.run.apart b.run

theorem extentsApart_perm {l m : List Extent} (h : l.Perm m) : extentsApart l ↔ extentsApart m := by
  unfold extentsApart
  rw [h.pairwise_iff fun hab => Run.apart_comm.1 hab]
  simp only [h.mem_iff]

theorem extentsApart_append {l m : List Extent} :
    extentsApart (l ++ m) ↔ extentsApart l ∧ extentsApart m ∧ ∀ x ∈ l, ∀ y ∈ m, x.run.apart y.run := by
  simp only [extentsApart, List.pairwise_append, List.mem_append]
  constructor
  · rintro ⟨h, hl, hm, hlm⟩
    exact ⟨⟨fun x hx => h x (.inl hx), hl⟩, ⟨fun x hx => h x (.inr hx), hm⟩, hlm⟩
  · rintro ⟨⟨h, hl⟩, ⟨h', hm⟩, hlm⟩
    exact ⟨fun x hx => hx.elim (h x) (h' x), hl, hm, hlm⟩

/-- The accounts (R2, R11), said of blocks and of what is found under a track id. -/
theorem accounts_iff (s : State) : s.accounts ↔
    freeListSound s.free.list = true ∧ s.catalogue.tracks.rising = true ∧ s.catalogue.extents.rising = true ∧
      extentsApart s.allExtents ∧ (∀ x ∈ s.allExtents, ∀ n, x.run.covers n → ¬ inRuns s.free.list n) ∧
      ∀ k l, s.catalogue.extents.find k = some l → l ≠ [] → ∃ e, s.catalogue.tracks.find k = some e ∧ 0 < e.extentCount := by
  unfold State.accounts State.allExtents extentsApart
  refine and_congr_right fun hfree => and_congr_right fun htracks => and_congr_right fun hextents => ?_
  obtain ⟨hpos, hpair⟩ := (freeListSound_iff _).1 hfree
  have hown : ∀ p : Nat × List Extent, (∃ q ∈ s.catalogue.tracks, q.1 = p.1 ∧ 0 < q.2.extentCount) ↔
      ∃ e, s.catalogue.tracks.find p.1 = some e ∧ 0 < e.extentCount := fun p => by
    constructor
    · rintro ⟨⟨k, e⟩, hq, hk, he⟩
      exact ⟨e, (Table.mem_iff_find htracks _ _).1 (hk ▸ hq), he⟩
    · rintro ⟨e, hf, he⟩
      exact ⟨(p.1, e), (Table.mem_iff_find htracks _ _).2 hf, rfl, he⟩
  have hpair' : s.free.list.Pairwise Run.apart := hpair.imp fun h => .inl h.le
  simp only [hown, List.pairwise_append, List.pairwise_map, hpair', true_and, List.mem_map, forall_exists_index, and_imp,
    forall_apply_eq_imp_iff₂]
  constructor
  · rintro ⟨⟨hall, hcross⟩, hlast⟩
    have hx : ∀ x ∈ s.catalogue.extents.flatMap (·.2), 0 < x.length := fun x hx => by
      obtain ⟨p, hp, hx⟩ := List.mem_flatMap.1 hx
      exact (hlast p hp).1 x hx
    refine ⟨⟨hx, hall⟩, fun x hxm n hn ⟨r, hr, hrn⟩ => ?_, fun k l hf hl => ?_⟩
    · exact (Run.apart_iff (hx x hxm) (hpos r hr)).1 (hcross x hxm r hr) n hn hrn
    · exact ((hlast (k, l) ((Table.mem_iff_find hextents _ _).2 hf)).2).resolve_left hl
  · rintro ⟨⟨hx, hall⟩, hcross, hlast⟩
    refine ⟨⟨hall, fun x hxm r hr => (Run.apart_iff (hx x hxm) (hpos r hr)).2 fun n hn hrn => hcross x hxm n hn ⟨r, hr, hrn⟩⟩,
      fun p hp => ⟨fun x hxp => hx x (List.mem_flatMap.2 ⟨p, hp, hxp⟩), ?_⟩⟩
    rw [or_iff_not_imp_left]
    exact hlast p.1 p.2 ((Table.mem_iff_find hextents _ _).1 hp)

/-! ### Release of a track -/

/-- The extents of a track released one by one leave the list in its form, and only their blocks join it. -/
theorem releaseRuns_sound (l : List Extent) {s : State} (hl : extentsApart l) (hfree : freeListSound s.free.list = true)
    (ho : ∀ x ∈ l, ∀ n, x.run.covers n → ¬ inRuns s.free.list n) :
    let u := l.foldl (fun s e => releaseRun { first := e.store, length := e.length } s) s
    freeListSound u.free.list = true ∧ ∀ n, inRuns u.free.list n → inRuns s.free.list n ∨ ∃ x ∈ l, x.run.covers n := by
  induction l generalizing s with
  | nil => exact ⟨hfree, fun n hn => .inl hn⟩
  | cons x rest ih =>
    obtain ⟨hpos, hpair⟩ := hl
    obtain ⟨hxr, hpair⟩ := List.pairwise_cons.1 hpair
    have hx := hpos x (by simp)
    obtain ⟨hsound, hblocks⟩ := releaseRun_sound (r := x.run) hx hfree
      ((outside_iff hx ((freeListSound_iff _).1 hfree).1).2 (ho x (by simp)))
    obtain ⟨hsound', hblocks'⟩ := ih (s := releaseRun x.run s) ⟨fun y hy => hpos y (by simp [hy]), hpair⟩ hsound
      fun y hy n hn hin => by
        rcases hblocks n hin with h | h
        · exact ho y (by simp [hy]) n hn h
        · exact (Run.apart_iff hx (hpos y (by simp [hy]))).1 (hxr y hy) n h hn
    refine ⟨hsound', fun n hn => ?_⟩
    rcases hblocks' n hn with h | ⟨y, hy, h⟩
    · rcases hblocks n h with h | h
      · exact .inl h
      · exact .inr ⟨x, by simp, h⟩
    · exact .inr ⟨y, by simp [hy], h⟩

/-- Releases take the list past 2,048 entries from no list that holds as many or fewer. -/
theorem releaseRuns_length (l : List Extent) {s : State} (h : s.free.list.length ≤ 2048) :
    (l.foldl (fun s e => releaseRun { first := e.store, length := e.length } s) s).free.list.length ≤ 2048 := by
  induction l generalizing s with
  | nil => exact h
  | cons x rest ih => exact ih (releaseRun_length _ h)

/-! ### Extents of an allocation -/

/-- Extents that cover consecutive track blocks in ascending store order are apart. -/
theorem extentsFrom_apart {l : List Extent} {block store : Nat} (h : extentsFrom block store l = true) :
    extentsApart l ∧ ∀ x ∈ l, store ≤ x.store := by
  induction l generalizing block store with
  | nil => simp [extentsApart]
  | cons e rest ih =>
    simp only [extentsFrom, Bool.and_eq_true, decide_eq_true_eq] at h
    obtain ⟨⟨⟨-, hs⟩, hpos⟩, hrest⟩ := h
    obtain ⟨⟨hp, hpair⟩, hfirst⟩ := ih hrest
    refine ⟨⟨?_, List.pairwise_cons.2 ⟨fun y hy => .inl (hfirst y hy), hpair⟩⟩, ?_⟩
    · simpa [hpos] using hp
    · refine List.forall_mem_cons.2 ⟨hs, fun y hy => ?_⟩
      have := hfirst y hy
      omega

/-! ### The two laws under the changes -/

theorem AreaChange.length_le {s u : State} (h : AreaChange s u) (hs : s.free.list.length ≤ 2048) :
    u.free.list.length ≤ 2048 := by
  induction h with
  | same h => rw [h.1]; exact hs
  | entry k e hcount hfree => rw [hfree]; exact hs
  | @allocate s u k need e extents left hnew hmade hcount hfree =>
    obtain ⟨-, htake⟩ := allocate_some hmade
    have := takeRuns_length need 0 s.free.list
    rw [htake] at this
    rw [hfree]
    exact this.trans hs
  | @release s u k e hfree =>
    rw [hfree]
    exact releaseRuns_length _ hs
  | sweep hnone hfree => rw [hfree]; exact (length_complement_nil _).trans (by norm_num)
  | trans _ _ ih ih' => exact ih' (ih hs)

/-! ### The accounts under each change -/

theorem accounts_of_same {s u : State} (h : sameArea s u) (hs : s.accounts) : u.accounts := by
  obtain ⟨hfree, htracks, hextents⟩ := h
  unfold State.accounts
  rw [hfree, htracks, hextents]
  exact hs

theorem accounts_of_entry {s u : State} {k : Nat} {e : TrackEntry}
    (hcount : ∀ x, s.catalogue.tracks.find k = some x → e.extentCount = x.extentCount)
    (hfree : u.free.list = s.free.list) (htracks : u.catalogue.tracks = s.catalogue.tracks.put k e)
    (hextents : u.catalogue.extents = s.catalogue.extents) (hs : s.accounts) : u.accounts := by
  rw [accounts_iff] at hs ⊢
  obtain ⟨hsound, hrt, hre, hapart, hcross, hown⟩ := hs
  unfold State.allExtents at *
  rw [hfree, htracks, hextents]
  refine ⟨hsound, Table.rising_put _ _ hrt, hre, hapart, hcross, fun n l hf hl => ?_⟩
  obtain ⟨x, hx, hpos⟩ := hown n l hf hl
  by_cases hn : n = k
  · subst hn
    exact ⟨e, Table.find_put_same _ _ _, by rw [hcount x hx]; exact hpos⟩
  · exact ⟨x, by rw [Table.find_put_other _ _ hn, hx], hpos⟩

theorem accounts_of_allocate {s u : State} {k need : Nat} {e : TrackEntry} {extents : List Extent} {left : List Run}
    (hnew : s.catalogue.tracks.find k = none) (hmade : allocate need s.free.list = some (extents, left))
    (hcount : e.extentCount = extents.length) (hfree : u.free.list = left)
    (htracks : u.catalogue.tracks = s.catalogue.tracks.put k e)
    (hextents : u.catalogue.extents = s.catalogue.extents.put k extents) (hs : s.accounts) : u.accounts := by
  rw [accounts_iff] at hs ⊢
  obtain ⟨hsound, hrt, hre, hapart, hcross, hown⟩ := hs
  obtain ⟨-, htake⟩ := allocate_some hmade
  have hleft := (takeRuns_left need 0 _ hsound).1
  have hblocks := takeRuns_inRuns need 0 s.free.list
  obtain ⟨hnewApart, -⟩ := extentsFrom_apart (takeRuns_extents need 0 _ (store := 0) (by simp) hsound)
  have hlow := takeRuns_lowest need 0 _ hsound
  rw [htake] at hleft hblocks hnewApart hlow
  have hnone : (s.catalogue.extents.find k).getD [] = [] := by
    cases hf : s.catalogue.extents.find k with
    | none => rfl
    | some l =>
      by_contra hl
      obtain ⟨x, hx, -⟩ := hown k l hf hl
      exact absurd (hnew.symm.trans hx) (by simp)
  have hperm : s.allExtents.Perm ((s.catalogue.extents.erase k).flatMap (·.2)) := by
    simpa [State.allExtents, hnone] using Table.flatMap_perm hre k
  have hperm' : u.allExtents.Perm (extents ++ (s.catalogue.extents.erase k).flatMap (·.2)) := by
    unfold State.allExtents
    rw [hextents]
    simpa using Table.flatMap_perm (Table.rising_put k extents hre) k
  have hin : ∀ x ∈ extents, ∀ n, x.run.covers n → inRuns s.free.list n := fun x hx n hn =>
    (hblocks n).2 (.inl ⟨x.run, List.mem_map_of_mem hx, hn⟩)
  rw [hfree, htracks, hextents]
  refine ⟨hleft, Table.rising_put _ _ hrt, Table.rising_put _ _ hre, ?_, fun x hx n hn => ?_, fun n l hf hl => ?_⟩
  · rw [extentsApart_perm hperm', extentsApart_append]
    refine ⟨hnewApart, (extentsApart_perm hperm).1 hapart, fun x hx y hy => ?_⟩
    have hy' := hperm.mem_iff.2 hy
    exact (Run.apart_iff (hnewApart.1 x hx) (hapart.1 y hy')).2 fun n hxn hyn => hcross y hy' n hyn (hin x hx n hxn)
  · rcases List.mem_append.1 (hperm'.mem_iff.1 hx) with hx | hx
    · rintro ⟨r, hr, hrn⟩
      have := hlow x hx r hr
      simp only [Run.covers, Extent.run] at hn
      omega
    · exact fun h => hcross x (hperm.mem_iff.2 hx) n hn ((hblocks n).2 (.inr h))
  · by_cases hn : n = k
    · subst hn
      rw [Table.find_put_same] at hf
      cases hf
      exact ⟨e, Table.find_put_same _ _ _, by rw [hcount]; exact List.length_pos_of_ne_nil hl⟩
    · rw [Table.find_put_other _ _ hn] at hf ⊢
      exact hown n l hf hl

theorem accounts_of_release {s u : State} {k : Nat} {e : Option TrackEntry}
    (hfree : u.free.list = (releaseTrack k s).free.list) (htracks : u.catalogue.tracks = s.catalogue.tracks.set k e)
    (hextents : u.catalogue.extents = s.catalogue.extents.erase k) (hs : s.accounts) : u.accounts := by
  rw [accounts_iff] at hs ⊢
  obtain ⟨hsound, hrt, hre, hapart, hcross, hown⟩ := hs
  have hperm : s.allExtents.Perm ((s.catalogue.extents.find k).getD [] ++ u.allExtents) := by
    unfold State.allExtents
    rw [hextents]
    exact Table.flatMap_perm hre k
  obtain ⟨hgone, hstay, hbetween⟩ := extentsApart_append.1 ((extentsApart_perm hperm).1 hapart)
  have hmem : ∀ x, x ∈ s.allExtents ↔ x ∈ (s.catalogue.extents.find k).getD [] ∨ x ∈ u.allExtents := fun x => by
    rw [hperm.mem_iff, List.mem_append]
  obtain ⟨hfreeSound, hblocks⟩ := releaseRuns_sound _ (s := setExtents k none s) hgone hsound
    fun x hx => hcross x ((hmem x).2 (.inl hx))
  rw [hfree, htracks, hextents]
  refine ⟨hfreeSound, ?_, Table.rising_erase _ hre, hstay, fun x hx n hn hin => ?_, fun n l hf hl => ?_⟩
  · cases e with
    | none => exact Table.rising_erase _ hrt
    | some e => exact Table.rising_put _ _ hrt
  · rcases hblocks n hin with h | ⟨y, hy, h⟩
    · exact hcross x ((hmem x).2 (.inr hx)) n hn h
    · exact (Run.apart_iff (hgone.1 y hy) (hstay.1 x hx)).1 (hbetween y hy x hx) n h hn
  · have hn : n ≠ k := fun hn => by rw [hn, Table.find_erase_same] at hf; cases hf
    rw [Table.find_erase_other _ hn] at hf
    obtain ⟨x, hx, hpos⟩ := hown n l hf hl
    refine ⟨x, ?_, hpos⟩
    cases e with
    | none => rw [Table.set, Table.find_erase_other _ hn, hx]
    | some e => rw [Table.set, Table.find_put_other _ _ hn, hx]

theorem complement_nil_sound (size : Nat) : freeListSound (complement size []) = true := by
  simp only [complement, List.flatMap_nil, List.foldl_nil, gapsBetween]
  split
  · simp [freeListSound]; omega
  · rfl

theorem accounts_of_sweep {s u : State} (hnone : tracksToSweep s = []) (hfree : u.free.list = complement s.store.size [])
    (htracks : u.catalogue.tracks = s.catalogue.tracks) (hextents : u.catalogue.extents = s.catalogue.extents)
    (hs : s.accounts) : u.accounts := by
  rw [accounts_iff] at hs ⊢
  obtain ⟨-, hrt, hre, hapart, -, hown⟩ := hs
  have hempty : s.allExtents = [] := by
    refine List.flatMap_eq_nil_iff.2 fun p hp => ?_
    by_contra hl
    obtain ⟨e, he, hpos⟩ := hown p.1 p.2 ((Table.mem_iff_find hre _ _).1 hp) hl
    have : p.1 ∈ tracksToSweep s := List.mem_map.2 ⟨(p.1, e), List.mem_filter.2
      ⟨(Table.mem_iff_find hrt _ _).2 he, by simpa using hpos⟩, rfl⟩
    rw [hnone] at this
    cases this
  unfold State.allExtents at *
  rw [hfree, htracks, hextents, hempty]
  exact ⟨complement_nil_sound _, hrt, hre, hempty ▸ hapart, by simp, hown⟩

theorem AreaChange.accounts {s u : State} (h : AreaChange s u) (hs : s.accounts) : u.accounts := by
  induction h with
  | same h => exact accounts_of_same h hs
  | entry k e hcount hfree htracks hextents => exact accounts_of_entry hcount hfree htracks hextents hs
  | allocate k need e extents left hnew hmade hcount hfree htracks hextents =>
    exact accounts_of_allocate hnew hmade hcount hfree htracks hextents hs
  | release k e hfree htracks hextents => exact accounts_of_release hfree htracks hextents hs
  | sweep hnone hfree htracks hextents => exact accounts_of_sweep hnone hfree htracks hextents hs
  | trans _ _ ih ih' => exact ih' (ih hs)

end Machine
end Sys2Proof
end

section
/-!
The changes of the data area by every command, and the laws of a release (R11, R13).
-/
namespace Sys2Proof
namespace Machine

theorem serve_change (turn : Bool) (c : Instr) (s : State) : AreaChange s (serve turn c s) := by
  cases c
  case trackDelete f track => exact serveTrackDelete_change _ _ _ _
  case storeSweep f => exact serveStoreSweep_change _ _
  case ingestAbort f => exact serveIngestAbort_change _ _
  all_goals exact .same (by simp [serve, sameArea])

theorem serveDeferred_change (n : Nat) (s : State) : AreaChange s (serveDeferred n s) := by
  induction n generalizing s with
  | zero => exact .refl s
  | succ n ih =>
    unfold serveDeferred
    split
    · exact .refl s
    · rename_i tag c _
      exact .trans (.trans (u := takeSlot tag s) (.same (by simp [sameArea])) (serve_change false c _)) (ih _)

theorem serveWaiter_change (w : Waiter) (s : State) : AreaChange s (serveWaiter w s) := by
  cases w
  case request c => exact serve_change _ _ _
  all_goals exact .same (by simp only [serveWaiter]; (repeat' split) <;> simp [sameArea])

theorem queueWaiting_change (s : State) : AreaChange s (queueWaiting s) := by
  unfold queueWaiting
  repeat' split
  · exact .refl s
  · rename_i w rest _
    exact .trans (.trans (u := { s with queue := { s.queue with waiters := rest } }) (.same ⟨rfl, rfl, rfl⟩)
      (serveWaiter_change w _)) (pumpSegment_change _)
  · exact .refl s

/-- A completed transfer changes the data area as its client's act does. -/
theorem completeTransfer_change {c : Client} {ok : Bool} {act : Transfer → State → State}
    (h : ∀ t u, AreaChange u (act t u)) (s : State) : AreaChange s (completeTransfer c ok act s) := by
  obtain ⟨a, n, he | ⟨t, -, -, he⟩⟩ := completeTransfer_cases c ok act s
  · exact .same (by rw [he]; exact ⟨rfl, rfl, rfl⟩)
  · rw [he]
    exact .trans (.trans (u := { s with arbiter := a, notices := n }) (.same ⟨rfl, rfl, rfl⟩) (h t _))
      (.same (by simp [sameArea]))

theorem mapBlockWriteComplete_change (ok : Bool) (s : State) : AreaChange s (mapBlockWriteComplete ok s) := by
  unfold mapBlockWriteComplete
  split
  · exact completeTransfer_change (fun _ _ => mapWritten_change _ _ _ _) s
  · exact .refl s

/-- What an event other than the end of a sweep's read and a reset does to the data area. -/
theorem event_change {c : Instr} (s : State) (hc : requestOf c = none) (hsweep : ∀ ok, c ≠ .sweepReadComplete ok)
    (hreset : ∀ size ran landed, c ≠ .fullReset size ran landed) (hsend : c ≠ .outgoingSendComplete) :
    ∃ u, exec c s = finish u ∧ AreaChange s u := by
  cases c <;> try cases hc
  all_goals refine ⟨_, rfl, ?_⟩
  case fullReset => exact absurd rfl (hreset _ _ _)
  case outgoingSendComplete => exact absurd rfl hsend
  case sweepReadComplete => exact absurd rfl (hsweep _)
  case segmentTaken g =>
    refine .ite (.same (by simp [sameArea])) (.ite (.refl s) (.trans (.same ?_) (actOnSegment_change _ _)))
    simp [sameArea]
  case mapBlockWriteComplete ok => exact (mapBlockWriteComplete_change ok s).trans (serveDeferred_change _ _)
  case ingestWriteComplete ok =>
    split
    · exact completeTransfer_change (fun _ _ => dataWritten_change _ _ _ _) s
    · exact .refl s
  case queueWaitingWrite => exact (queueWaiting_change s).trans (serveDeferred_change _ _)
  all_goals exact .same (by (repeat' split) <;> simp [sameArea])

/-- What a command other than the end of a sweep's read and a reset does to the data area. -/
theorem exec_change {c : Instr} {s t : State} (hsweep : ∀ ok, c ≠ .sweepReadComplete ok)
    (hreset : ∀ size ran landed, c ≠ .fullReset size ran landed) (hsend : c ≠ .outgoingSendComplete)
    (ht : exec c s = .next t) : AreaChange s t :=
  exec_keeps (P := AreaChange s) (fun _ _ _ h => h.andThen ⟨rfl, rfl, rfl⟩) (fun u h => h.trans (serve_change _ _ u))
    (fun hc => event_change s hc hsweep hreset hsend) (.refl s) ht

/-! ### The length of the list at the end of a sweep -/

/-- Runs left out one at a time leave 2,048 or fewer (R14). -/
theorem length_leaveOut (n : Nat) {l : List Run} (h : l.length ≤ n) : (leaveOut n l).1.length ≤ 2048 := by
  induction n generalizing l with
  | zero => simp [leaveOut]; omega
  | succ n ih =>
    unfold leaveOut
    split
    · assumption
    · split
      · rename_i hn
        simp [smallestRun_none hn]
      · rename_i out hout
        have := length_leftOut (smallestRun_mem hout)
        exact ih (by simp only [leftOut] at this; omega)

theorem endSweep_length (sw : Sweep) (s : State) : (endSweep sw s).free.list.length ≤ 2048 := by
  rw [endSweep_free]; exact length_leaveOut _ le_rfl

theorem beginSweep_length (kind : SweepKind) {s : State} (h : s.free.list.length ≤ 2048) :
    (beginSweep kind s).free.list.length ≤ 2048 := by
  unfold beginSweep
  dsimp only
  split
  · exact endSweep_length _ _
  · simpa using h

theorem sweepRead_length (ok : Bool) {s : State} (h : s.free.list.length ≤ 2048) :
    (sweepRead ok s).free.list.length ≤ 2048 := by
  unfold sweepRead
  split
  · exact h
  · split
    · exact h
    · dsimp only
      split
      · split
        · exact endSweep_length _ _
        · simpa using h
      · split
        · exact beginSweep_length _ (by simpa using h)
        · simpa using h

theorem beginStartUp_length {s : State} (h : s.free.list.length ≤ 2048) :
    (beginStartUp s).free.list.length ≤ 2048 := by
  unfold beginStartUp
  split
  · simpa using h
  · exact beginSweep_length _ h

theorem resetUnits_free (reported ran : Nat) (landed : Bool) (s : State) :
    (resetUnits reported ran landed s).free = State.reset.free := rfl

theorem fullReset_length (reported ran : Nat) (landed : Bool) (s : State) :
    (fullReset reported ran landed s).free.list.length ≤ 2048 := by
  unfold fullReset
  refine beginStartUp_length ?_
  simp [resetUnits_free, State.reset]

theorem resetAfterReply_length (s : State) : (resetAfterReply s).free.list.length ≤ 2048 := by
  unfold resetAfterReply; exact fullReset_length _ _ _ _

/-- Every command keeps the list at 2,048 entries or fewer. -/
theorem exec_length {c : Instr} {s t : State} (h : s.free.list.length ≤ 2048) (ht : exec c s = .next t) :
    t.free.list.length ≤ 2048 := by
  have hserve : ∀ u : State, u.free.list.length ≤ 2048 → (serve false c u).free.list.length ≤ 2048 :=
    fun u hu => (serve_change _ _ u).length_le hu
  refine exec_keeps (P := fun u => u.free.list.length ≤ 2048) (fun _ _ _ h => h) hserve (fun hc => ?_) h ht
  by_cases hsweep : ∃ ok, c = .sweepReadComplete ok
  · obtain ⟨ok, rfl⟩ := hsweep
    exact ⟨_, rfl, completeTransfer_keeps (P := fun u => u.free.list.length ≤ 2048) (fun _ _ _ h => h)
      (fun _ _ hu => sweepRead_length ok hu) h⟩
  by_cases hreset : ∃ size ran landed, c = .fullReset size ran landed
  · obtain ⟨size, ran, landed, rfl⟩ := hreset
    exact ⟨_, rfl, fullReset_length _ _ _ _⟩
  by_cases hsend : c = .outgoingSendComplete
  · subst hsend
    refine ⟨_, rfl, ?_⟩
    obtain ⟨p, hp | hp⟩ := completeOutgoing_cases s
    · rw [hp]; exact h
    · rw [hp]; exact resetAfterReply_length _
  obtain ⟨u, hu, hchange⟩ := event_change s hc (fun ok h => hsweep ⟨ok, h⟩)
    (fun size ran landed h => hreset ⟨size, ran, landed, h⟩) hsend
  exact ⟨u, hu, hchange.length_le h⟩

/-- Settles O21: the release case by case, the list's length and the accounts by the changes a command can make. -/
theorem releaseKeepsTheAccounts : Obligations.ReleaseKeepsTheAccounts := by
  refine ⟨fun r s hr hl hlen ho => ?_, fun s t h ht => ?_, fun c s t h hsweep hreset hsend ht => ?_⟩
  · exact ⟨(releaseRun_sound hr hl ho).1, releaseRun_length r hlen, releaseRun_spec hr hl hlen ho⟩
  · exact step_keeps (P := fun u => u.free.list.length ≤ 2048) (fun _ _ h => h) (fun u h => by simpa using h)
      (fun c u v hu hv => exec_length hu hv) h ht
  · exact (exec_change hsweep hreset hsend ht).accounts h

end Machine
end Sys2Proof
end

section
/-!
The requests that report and change nothing (R17, R20, R25, R65, R85, R174, R186, R192): each is answered at once from the
state in which it has been received.
-/
namespace Sys2Proof
namespace Machine

section
variable {kind : Nat} {f : Frame} {c : Instr} {act : State → State} {s : State}

/-- A request answered OK that changes nothing. -/
theorem request_reports {body : List Byte} (h : s.accepts kind f)
    (hs : act (s.received kind f) = answerOk kind f body (s.received kind f)) :
    request kind f c act s = .next (s.ok kind f body) := request_ok (v := s) h hs rfl

/-- A request refused that changes nothing. -/
theorem request_refuses {reason : Reason} (h : s.accepts kind f)
    (hs : act (s.received kind f) = refuse kind f reason (s.received kind f)) :
    request kind f c act s = .next (s.no kind f reason) := request_no (v := s) h hs rfl

/-- A request turned away that changes nothing. -/
theorem request_turns {status : Status} (h : s.accepts kind f)
    (hs : act (s.received kind f) = turnAway kind f status (s.received kind f)) :
    request kind f c act s = .next (s.answering kind f status none []) := request_away (v := s) h hs rfl
end

/-- IDENTIFY's part number as its two bytes (R192). -/
theorem num_partNumber : Layout.num 2 2640 = [0x50#8, 0x0A#8] := by decide

/-- A line's report with its levels as flags (R186). -/
theorem lineReport_eq (interlocked : Bool) (l : Line) : lineReport interlocked l =
    if l.output then
      Layout.code 1 ++ Layout.flag l.idle ++ Layout.flag l.safe ++ Layout.flag l.latch ++
        Layout.flag (if interlocked then l.safe else l.latch) ++ Layout.flag interlocked ++
        Layout.opt (Layout.num 1) l.pulse
    else
      Layout.code 0 ++ Layout.code l.condition.code ++ Layout.num 1 l.debounce ++ Layout.code l.function.code ++
        Layout.flag l.wire ++ Layout.flag l.level ++ Layout.opt (fun t => Layout.flag (Prod.fst t)) l.timer ++
        Layout.flag l.holding ++ Layout.num 2 l.onsets := by
  unfold lineReport Line.pin
  split
  · simp [*]; rfl
  · rfl

/-- Settles O16: the owner of each answers with its report of the state received, which is that of the state itself. -/
theorem statusRequestsChangeNothing : Obligations.StatusRequestsChangeNothing := by
  intro f s
  refine ⟨fun h => request_reports h rfl, fun h => request_reports h rfl, fun h => request_reports h rfl,
    fun h => request_reports h rfl, fun h => request_reports h rfl, fun h => request_reports h rfl,
    fun h => request_reports h rfl, fun h => request_reports h rfl, fun h => ?_, fun h => ?_,
    fun h => request_reports h rfl, rfl, rfl⟩
  · simp only [← lineReport_eq]
    exact request_reports h rfl
  · rw [← num_partNumber]
    exact request_reports h rfl

/-- The status of a track has the code of a TRACK LIST state (R17, R198). -/
theorem trackStateOf_eq {n : Nat} (h : n ≠ 0) (h' : n ≤ 3) :
    ∃ is, trackStateOf n = some is ∧ ∀ st : TrackStatus, is st = decide (st.code = n) := by
  obtain rfl | rfl | rfl : n = 1 ∨ n = 2 ∨ n = 3 := by omega
  all_goals exact ⟨_, rfl, fun st => by cases st <;> rfl⟩

theorem trackStateOf_none {n : Nat} (h : n = 0 ∨ 3 < n) : trackStateOf n = none := by
  unfold trackStateOf
  split <;> first | omega | rfl

theorem exec_trackList_state {f : Frame} {s : State} (first n : Nat) (h : s.accepts 1 f) :
    exec (.trackList f first (some n)) s = .next
      (if 511 < first ∨ n = 0 ∨ 3 < n then s.no 1 f .outOfRange
       else s.ok 1 f (page 2 trackReport
        (s.catalogue.tracks.filter fun p => decide (first ≤ p.1) && decide (p.2.status.code = n)))) := by
  show request 1 f _ (serveTrackList f first (some n)) s = _
  by_cases hfirst : 511 < first
  · rw [if_pos (.inl hfirst)]
    exact request_refuses h (by simp [serveTrackList, hfirst])
  · by_cases hn : n = 0 ∨ 3 < n
    · rw [if_pos (.inr hn)]
      exact request_refuses h (by simp [serveTrackList, hfirst, trackStateOf_none hn])
    · rw [if_neg (by tauto)]
      obtain ⟨is, hw, his⟩ := trackStateOf_eq (n := n) (by omega) (by omega)
      exact request_reports h (by simp [serveTrackList, hfirst, hw, his])

theorem exec_logRead {f : Frame} {s : State} (h : s.accepts 45 f) (first count : Nat) :
    (count = 0 ∨ 8 < count → exec (.logRead f first count) s =
      .next (s.answering 45 f .refused (some .outOfRange) (logTrailer s.log))) ∧
    (1 ≤ count → count ≤ 8 → (∀ o, s.log.oldest = some o → first < o) → exec (.logRead f first count) s =
      .next (s.answering 45 f .refused (some .notFound) (logTrailer s.log))) ∧
    (∀ o, 1 ≤ count → count ≤ 8 → s.log.oldest = some o → o ≤ first → exec (.logRead f first count) s =
      .next (s.ok 45 f (Layout.rep 1 (recordBody s.log) (s.log.reading first count) ++ logTrailer s.log))) := by
  have refused : ∀ reason, serveLogRead f first count (s.received 45 f) = refuseLogRead f reason (s.received 45 f) →
      exec (.logRead f first count) s = .next (s.answering 45 f .refused (some reason) (logTrailer s.log)) := by
    intro reason hs
    show request 45 f _ (serveLogRead f first count) s = _
    rw [request_of_accepts h, hs]
    exact finish_reply (v := s) h rfl _ _ _
  refine ⟨fun hc => refused _ ?_, fun h1 h8 ho => refused _ ?_, fun o h1 h8 ho hle => ?_⟩
  · rcases hc with rfl | hc
    · simp [serveLogRead]
    · simp [serveLogRead, hc]
  · have hc : ¬ (count = 0 ∨ 8 < count) := by omega
    simp only [serveLogRead, Bool.or_eq_true, decide_eq_true_eq, if_neg hc, received_frame]
    split
    · rfl
    · rename_i o hl; rw [if_pos (ho o hl)]
  · have hc : ¬ (count = 0 ∨ 8 < count) := by omega
    exact request_reports h (by simp [serveLogRead, hc, ho, Nat.not_lt.2 hle])

/-- Settles O17, request by request: the first check that fails refuses it, and otherwise it is answered from its table. -/
theorem tableReadsChangeNothing : Obligations.TableReadsChangeNothing := by
  intro f s
  refine ⟨fun first h => ?_, fun first n h => exec_trackList_state first n h, fun first h => ?_, fun id h => ?_,
    fun list first h => ?_, fun code h => ?_, fun h => exec_logRead h⟩
  · show request 1 f _ (serveTrackList f first none) s = _
    split
    · exact request_refuses h (by simp [serveTrackList, *])
    · exact request_reports h (by simp [serveTrackList, *])
  · show request 3 f _ (serveCompositionList f first) s = _
    split
    · exact request_refuses h (by simp [serveCompositionList, *])
    · exact request_reports h (by simp [serveCompositionList, *])
  · show request 4 f _ (serveCompositionRead f id) s = _
    split
    · exact request_refuses h (by simp [serveCompositionRead, *])
    · split
      · exact request_refuses h (by simp [serveCompositionRead, *])
      · exact request_reports h (by simp [serveCompositionRead, *])
  · by_cases hl : 15 < list
    · exact ⟨[], by rw [if_pos hl]; exact request_refuses h (by simp [serveListRead, hl])⟩
    · exact ⟨_, by
        rw [if_neg hl]
        refine request_reports h ?_
        simp only [serveListRead, if_neg hl, List.append_assoc]
        rfl⟩
  · show request 39 f _ (serveSoundMapRead f code) s = _
    have hfind : findMap s.sound.maps code = s.sound.maps.find? fun p => decide (p.2.code = code) := rfl
    split
    · rename_i hm
      exact request_reports h (by simp [serveSoundMapRead, hfind, hm])
    · rename_i hm
      exact request_refuses h (by simp [serveSoundMapRead, hfind, hm])

end Machine
end Sys2Proof
end

section
/-!
TRACK DELETE and COMPOSITION DELETE (R18, R19).
-/
namespace Sys2Proof
namespace Machine

/-! ### Releases and flushes -/

/-- What a release does to the free-space unit depends on that unit alone. -/
theorem releaseRun_free_congr (r : Run) {s u : State} (h : s.free = u.free) : (releaseRun r s).free = (releaseRun r u).free := by
  unfold releaseRun
  rw [h]
  dsimp only
  split
  · simp [h]
  · split
    · simp [h]
    · simp

theorem releaseRuns_free_congr (l : List Extent) {s u : State} (h : s.free = u.free) :
    (l.foldl (fun v x => releaseRun { first := x.store, length := x.length } v) s).free =
      (l.foldl (fun v x => releaseRun { first := x.store, length := x.length } v) u).free := by
  induction l generalizing s u with
  | nil => exact h
  | cons x rest ih => exact ih (releaseRun_free_congr _ h)

/-- The free-space unit after a track has given its extents back (R13). -/
theorem releaseTrack_free (id : Nat) (s : State) : (releaseTrack id s).free =
    (((s.catalogue.extents.find id).getD []).foldl
      (fun v x => releaseRun { first := x.store, length := x.length } v) s).free :=
  releaseRuns_free_congr (s := setExtents id none s) _ rfl

/-- With no fill to answer, a flush drops the track's entries and no more (R55). -/
theorem flushTrack_of_no_fills (track : Nat) {s : State} (h : s.cache.fills = []) :
    flushTrack track s = invalidate track s := by
  simp [flushTrack, answerAll, h]

@[simp] theorem releaseTrack_cache (id : Nat) (s : State) : (releaseTrack id s).cache = s.cache := by
  simp [releaseTrack]

theorem entries_invalidate (track : Nat) (s : State) : ∀ p ∈ (invalidate track s).cache.entries, p.2.track ≠ track := by
  intro p hp
  simpa using (List.mem_filter.1 hp).2

/-! ### The two requests -/

/-- A request that finds room acts at once (R8). -/
theorem whenRoom_of_room {turn : Bool} {command : Instr} {act : State → State} {s : State}
    (hw : s.queue.writes.length < 8) (hr : s.queue.waiters = []) : whenRoom turn command act s = act s := by
  simp [whenRoom, State.hasRoom, hw, hr]

theorem exec_trackDelete_deletes {f : Frame} {s : State} {track : Nat} {e : TrackEntry} (hw : s.queue.writes.length < 8)
    (hr : s.queue.waiters = []) (h : s.accepts 2 f) (hsweep : s.free.sweep = none) (ht : track ≤ 511)
    (he : s.catalogue.tracks.find track = some e) (hfill : e.status ≠ .filling) (hplay : s.playsTrack track = false)
    (href : ∀ p ∈ s.catalogue.compositions, p.2.references track = false) :
    exec (.trackDelete f track) s = .next { deleteTrack track (s.received 2 f) with
      port := s.port.answers 2 f .ok none [] } := by
  show request 2 f _ (serveTrackDelete false f track) s = _
  have hany : (s.catalogue.compositions.any fun p => p.2.references track) = false := by
    simpa using href
  have hserve : serveTrackDelete false f track (s.received 2 f) =
      answerOk 2 f [] (deleteTrack track (s.received 2 f)) := by
    have hplay' : (s.received 2 f).playsTrack track = false := hplay
    simp only [serveTrackDelete, received_frame, hsweep, Option.isSome_none, Bool.false_eq_true, if_false, Nat.not_lt.2 ht, he,
      hfill, hplay', hany]
    exact whenRoom_of_room (by simpa using hw) (by simpa using hr)
  rw [request_of_accepts h, hserve]
  exact finish_answer h (by simp) _ _ _

theorem exec_compositionDelete_deletes {f : Frame} {s : State} {id : Nat} {c : Composition}
    (hw : s.queue.writes.length < 8) (hr : s.queue.waiters = []) (h : s.accepts 5 f) (hid : id ≤ 63)
    (hc : s.catalogue.compositions.find id = some c) (ha : s.catalogue.awaiting.find id = none) (hplay : s.plays id = false) :
    exec (.compositionDelete f id) s = .next (State.ok 5 f []
      { s with
        catalogue := { s.catalogue with compositions := s.catalogue.compositions.erase id }
        queue := { s.queue with
          writes := s.queue.writes ++ [{ write := .composition id none, forCheck := false }] } }) := by
  show request 5 f _ (serveCompositionDelete false f id) s = _
  refine request_ok h ?_ rfl
  have hplay' : (s.received 5 f).plays id = false := hplay
  simp only [serveCompositionDelete, received_frame, Nat.not_lt.2 hid, if_false, hc, ha, Option.isSome_none,
    Bool.false_eq_true, hplay']
  rw [whenRoom_of_room (by simpa using hw) (by simpa using hr)]
  simp only [pushComposition, setComposition, Table.set, Table.find_erase_same]
  rfl

/-- The checks of TRACK DELETE in their order (R18). -/
theorem exec_trackDelete_refused {f : Frame} {s : State} (track : Nat) (h : s.accepts 2 f) :
    (s.free.sweep.isSome = true → exec (.trackDelete f track) s = .next (s.answering 2 f .busy none [])) ∧
    (s.free.sweep = none →
      (511 < track → exec (.trackDelete f track) s = .next (s.no 2 f .outOfRange)) ∧
      (track ≤ 511 →
        (s.catalogue.tracks.find track = none → exec (.trackDelete f track) s = .next (s.no 2 f .notFound)) ∧
        (∀ e, s.catalogue.tracks.find track = some e →
          (e.status = .filling → exec (.trackDelete f track) s = .next (s.no 2 f .wrongState)) ∧
          (e.status ≠ .filling →
            (s.playsTrack track = true → exec (.trackDelete f track) s = .next (s.no 2 f .inUse)) ∧
            (s.playsTrack track = false → (∃ p ∈ s.catalogue.compositions, p.2.references track = true) →
              exec (.trackDelete f track) s = .next (s.no 2 f .referenced)))))) := by
  have refused : ∀ reason, serveTrackDelete false f track (s.received 2 f) = refuse 2 f reason (s.received 2 f) →
      exec (.trackDelete f track) s = .next (s.no 2 f reason) := fun _ hs => request_refuses h hs
  have hplays : (s.received 2 f).playsTrack track = s.playsTrack track := rfl
  refine ⟨fun hsweep => request_turns h (by simp [serveTrackDelete, hsweep]), fun hsweep => ⟨fun ht => refused _ ?_,
    fun ht => ⟨fun hf => refused _ ?_, fun e he => ⟨fun hs => refused _ ?_, fun hs => ⟨fun hp => refused _ ?_,
      fun hp hc => refused _ ?_⟩⟩⟩⟩⟩
  · simp [serveTrackDelete, hsweep, ht]
  · simp [serveTrackDelete, hsweep, Nat.not_lt.2 ht, hf]
  · simp [serveTrackDelete, hsweep, Nat.not_lt.2 ht, he, hs]
  · simp [serveTrackDelete, hsweep, Nat.not_lt.2 ht, he, hs, hplays, hp]
  · have hany : (s.catalogue.compositions.any fun p => p.2.references track) = true := by simpa using hc
    simp [serveTrackDelete, hsweep, Nat.not_lt.2 ht, he, hs, hplays, hp, hany]

/-- The checks of COMPOSITION DELETE in their order (R19). -/
theorem exec_compositionDelete_refused {f : Frame} {s : State} (id : Nat) (h : s.accepts 5 f) :
    (63 < id → exec (.compositionDelete f id) s = .next (s.no 5 f .outOfRange)) ∧
    (id ≤ 63 → s.catalogue.compositions.find id = none →
      exec (.compositionDelete f id) s = .next (s.no 5 f .notFound)) ∧
    (∀ c, id ≤ 63 → s.catalogue.compositions.find id = some c →
      ((s.catalogue.awaiting.find id).isSome = true →
        exec (.compositionDelete f id) s = .next (s.no 5 f .wrongState)) ∧
      (s.catalogue.awaiting.find id = none → s.plays id = true →
        exec (.compositionDelete f id) s = .next (s.no 5 f .inUse))) := by
  have refused : ∀ reason, serveCompositionDelete false f id (s.received 5 f) = refuse 5 f reason (s.received 5 f) →
      exec (.compositionDelete f id) s = .next (s.no 5 f reason) := fun _ hs => request_refuses h hs
  have hplays : (s.received 5 f).plays id = s.plays id := rfl
  refine ⟨fun hid => refused _ ?_, fun hid hf => refused _ ?_, fun c hid hc => ⟨fun ha => refused _ ?_,
    fun ha hp => refused _ ?_⟩⟩
  · simp [serveCompositionDelete, hid]
  · simp [serveCompositionDelete, Nat.not_lt.2 hid, hf]
  · simp [serveCompositionDelete, Nat.not_lt.2 hid, hc, ha]
  · simp [serveCompositionDelete, Nat.not_lt.2 hid, hc, ha, hplays, hp]

/-- Settles O22: what each request does when its checks pass, and the first check that fails otherwise. -/
theorem deletesFreeOrAreRefused : Obligations.DeletesFreeOrAreRefused := by
  refine ⟨fun f s hw hr => ⟨fun track e h hsweep ht he hfill hplay href hfills => ?_,
    fun id c h hid hc ha hplay => exec_compositionDelete_deletes hw hr h hid hc ha hplay⟩,
    fun f s => ⟨fun track h => exec_trackDelete_refused track h, fun id h => exec_compositionDelete_refused id h⟩⟩
  have hflush : ∀ p ∈ (deleteTrack track (s.received 2 f)).cache.entries, p.2.track ≠ track := by
    simp only [deleteTrack, pushTrack, pushWrite_cache]
    rw [flushTrack_of_no_fills track (by simpa using hfills)]
    exact entries_invalidate track _
  refine ⟨_, exec_trackDelete_deletes hw hr h hsweep ht he hfill hplay href, rfl, ?_, ?_, ?_, ?_, ?_, hflush, ?_, ?_, ?_⟩
  · simp [deleteTrack, Table.set]
  · simp [deleteTrack]
  · simp [deleteTrack]
  · simp [deleteTrack, pushTrack, Table.set]
  · simp only [deleteTrack, pushTrack_frame, flushTrack_frame, setTrack_frame]
    rw [releaseTrack_free]
    exact congrArg FreeSpace.list (releaseRuns_free_congr (s := s.received 2 f) (u := s) _ rfl)
  · simp
  · simp
  · simp

end Machine
end Sys2Proof
end

section
/-!
Transfers completed in full, the causes a command leaves raised, and sweeps (R11, R14 to R16, R43, R46).
-/
namespace Sys2Proof
namespace Machine

/-! ### The completion of a transfer, outcome by outcome -/

section
variable {c : Client} {act : Transfer → State → State} {s : State} {t : Transfer}

/-- A transfer succeeds at its first attempt. -/
theorem completeTransfer_first (hcur : s.arbiter.current = some t) (hc : t.request.client = c) (hd : t.dropped = false)
    (hr : t.retry = false) : completeTransfer c true act s = grantNext (act t s) := by
  simp [completeTransfer, hcur, hc, hd, hr]

/-- A transfer succeeds: its client acts on a state in which only the count of retries may have changed. -/
theorem completeTransfer_ok (hcur : s.arbiter.current = some t) (hc : t.request.client = c) (hd : t.dropped = false) :
    ∃ a : Arbiter, completeTransfer c true act s = grantNext (act t { s with arbiter := a }) := by
  cases hr : t.retry
  · exact ⟨s.arbiter, completeTransfer_first hcur hc hd hr⟩
  · exact ⟨{ s.arbiter with retries := bump max32 s.arbiter.retries }, by simp [completeTransfer, hcur, hc, hd, hr]⟩

/-- The state in which a client learns that its transfer has failed twice: STORE_FAULT is raised and counted (R46). -/
def faulted (t : Transfer) (s : State) : State :=
  raise .storeFault (storeFaultDetail t.request)
    { s with arbiter := { s.arbiter with faults := bump max32 s.arbiter.faults } }

/-- A transfer fails at its second attempt. -/
theorem completeTransfer_failed (hcur : s.arbiter.current = some t) (hc : t.request.client = c) (hd : t.dropped = false)
    (hr : t.retry = true) : completeTransfer c false act s = grantNext (act t (faulted t s)) := by
  simp [completeTransfer, hcur, hc, hd, hr, faulted]
end

@[simp] theorem faulted_frame (t : Transfer) (s : State) :
    (faulted t s).startUp = s.startUp ∧ (faulted t s).store = s.store ∧ (faulted t s).nvm = s.nvm ∧
    (faulted t s).catalogue = s.catalogue ∧ (faulted t s).queue = s.queue ∧ (faulted t s).free = s.free ∧
    (faulted t s).ingest = s.ingest ∧ (faulted t s).cache = s.cache ∧ (faulted t s).port = s.port ∧
    (faulted t s).arbiter = { s.arbiter with faults := bump max32 s.arbiter.faults } ∧
    (faulted t s).freeUses = s.freeUses := by
  simp [faulted]

@[simp] theorem grantNext_faults (s : State) : (grantNext s).arbiter.faults = s.arbiter.faults := by
  unfold grantNext; dsimp only; split <;> rfl

/-! ### Causes raised -/

/-- A cause has occurred once more than `x` had, with a detail (R194); nothing is said of its being sent. -/
def occurred (x : Cause) (detail : List Byte) (l : List Cause) (k : Nat) : Prop :=
  ∃ y, l[k]? = some y ∧ y.pending = true ∧ y.count = bump 255 x.count ∧ y.latest.map (·.detail) = some detail

/-- A cause raised has occurred once more. -/
theorem occurred_raise {c : NoticeCause} {detail : List Byte} {s : State} {x : Cause}
    (h : s.notices.causes[c.number]? = some x) : occurred x detail (raise c detail s).notices.causes c.number :=
  ⟨_, raise_causes_same h, rfl, rfl, rfl⟩

/-- Another cause raised leaves it. -/
theorem occurred_raise_other {c : NoticeCause} {detail detail' : List Byte} {s : State} {x : Cause} {k : Nat} (hk : k ≠ c.number)
    (h : occurred x detail s.notices.causes k) : occurred x detail (raise c detail' s).notices.causes k := by
  unfold occurred; rw [raise_causes_other c detail' s hk]; exact h

/-- The outgoing direction's choice marks at most one cause sent. -/
theorem settle_causes (s : State) (k : Nat) :
    (settle s).notices.causes[k]? = s.notices.causes[k]? ∨
      (settle s).notices.causes[k]? = s.notices.causes[k]?.map fun c => { c with sent := true } := by
  unfold settle
  split
  · exact .inl rfl
  · split
    · exact .inl rfl
    · split
      · rename_i n _
        unfold beginNotice
        split
        · simp only [getElem?_updateAt]
          split
          · exact .inr rfl
          · exact .inl rfl
        · exact .inl rfl
      · exact .inl rfl

/-- The outgoing direction's choice leaves what has occurred. -/
theorem occurred_settle {x : Cause} {detail : List Byte} {s : State} {k : Nat} (h : occurred x detail s.notices.causes k) :
    occurred x detail (settle s).notices.causes k := by
  obtain ⟨y, hy, hp, hc, hl⟩ := h
  rcases settle_causes s k with he | he
  · exact ⟨y, by rw [he, hy], hp, hc, hl⟩
  · exact ⟨{ y with sent := true }, by rw [he, hy]; rfl, hp, hc, hl⟩

/-! ### The complement of the extents read (R14) -/

theorem mem_insertByStore (e x : Extent) (l : List Extent) : x ∈ insertByStore e l ↔ x = e ∨ x ∈ l := by
  induction l with
  | nil => simp [insertByStore]
  | cons y rest ih =>
    simp only [insertByStore]
    split
    · simp
    · simp only [List.mem_cons, ih]; tauto

theorem insertByStore_sorted (e : Extent) {l : List Extent} (h : l.Pairwise fun a b => a.store ≤ b.store) :
    (insertByStore e l).Pairwise fun a b => a.store ≤ b.store := by
  induction l with
  | nil => simp [insertByStore]
  | cons y rest ih =>
    obtain ⟨hy, hrest⟩ := List.pairwise_cons.1 h
    simp only [insertByStore]
    split
    · rename_i hlt
      refine List.pairwise_cons.2 ⟨List.forall_mem_cons.2 ⟨hlt.le, fun z hz => hlt.le.trans (hy z hz)⟩, h⟩
    · refine List.pairwise_cons.2 ⟨fun z hz => ?_, ih hrest⟩
      rcases (mem_insertByStore e z rest).1 hz with rfl | hz
      · omega
      · exact hy z hz

theorem insertAll_spec (l m : List Extent) (h : m.Pairwise fun a b => a.store ≤ b.store) :
    (l.foldl (fun l e => insertByStore e l) m).Pairwise (fun a b => a.store ≤ b.store) ∧
      ∀ x, x ∈ l.foldl (fun l e => insertByStore e l) m ↔ x ∈ l ∨ x ∈ m := by
  induction l generalizing m with
  | nil => simpa using h
  | cons e rest ih =>
    obtain ⟨hsorted, hmem⟩ := ih (insertByStore e m) (insertByStore_sorted e h)
    refine ⟨hsorted, fun x => ?_⟩
    rw [List.foldl_cons, hmem, mem_insertByStore, List.mem_cons]
    tauto

/-- The gaps are in the form of the free list, and begin no earlier than asked. -/
theorem gapsBetween_sound (start stop : Nat) {l : List Extent} (hpos : ∀ x ∈ l, 0 < x.length) :
    freeListSound (gapsBetween start stop l) = true ∧ ∀ r ∈ gapsBetween start stop l, start ≤ r.first := by
  induction l generalizing start with
  | nil => simp only [gapsBetween]; split <;> simp [freeListSound]; omega
  | cons e rest ih =>
    obtain ⟨he, hpos⟩ := List.forall_mem_cons.1 hpos
    obtain ⟨hsound, hfirst⟩ := ih (max start (e.store + e.length)) hpos
    simp only [gapsBetween]
    split
    · refine ⟨(freeListSound_cons _ _).2 ⟨by dsimp only; omega, fun x hx => ?_, hsound⟩,
        List.forall_mem_cons.2 ⟨le_rfl, fun x hx => ?_⟩⟩
      · have := hfirst x hx; dsimp only; omega
      · have := hfirst x hx; omega
    · exact ⟨hsound, fun x hx => by have := hfirst x hx; omega⟩

/-- A block lies in a gap exactly when it lies in none of the extents. -/
theorem inRuns_gapsBetween (start stop : Nat) {l : List Extent} (hsorted : l.Pairwise fun a b => a.store ≤ b.store) (b : Nat) :
    inRuns (gapsBetween start stop l) b ↔
      start ≤ b ∧ b < stop ∧ ∀ x ∈ l, b < x.store ∨ x.store + x.length ≤ b := by
  induction l generalizing start with
  | nil =>
    simp only [gapsBetween]
    split <;> simp <;> omega
  | cons e rest ih =>
    obtain ⟨he, hrest⟩ := List.pairwise_cons.1 hsorted
    have hbelow : b < e.store → ∀ x ∈ rest, b < x.store ∨ x.store + x.length ≤ b :=
      fun h x hx => .inl (h.trans_le (he x hx))
    simp only [gapsBetween, List.forall_mem_cons]
    split
    · simp only [inRuns_cons, ih _ hrest]
      constructor
      · rintro (⟨h, h'⟩ | ⟨h, h', hall⟩)
        · exact ⟨h, by omega, .inl (by omega), hbelow (by omega)⟩
        · exact ⟨by omega, h', .inr (by omega), hall⟩
      · rintro ⟨h, h', h'' | h'', hall⟩
        · exact .inl ⟨h, by omega⟩
        · exact .inr ⟨by omega, h', hall⟩
    · rw [ih _ hrest]
      constructor
      · rintro ⟨h, h', hall⟩
        exact ⟨by omega, h', .inr (by omega), hall⟩
      · rintro ⟨h, h', h'' | h'', hall⟩
        · omega
        · exact ⟨by omega, h', hall⟩

theorem complement_spec (size : Nat) {taken : Table (List Extent)} (hpos : ∀ p ∈ taken, ∀ x ∈ p.2, 0 < x.length) :
    freeListSound (complement size taken) = true ∧
    ∀ b, inRuns (complement size taken) b ↔
      512 ≤ b ∧ b < size ∧ ∀ p ∈ taken, ∀ x ∈ p.2, b < x.store ∨ x.store + x.length ≤ b := by
  obtain ⟨hsorted, hmem⟩ := insertAll_spec (taken.flatMap (·.2)) [] List.Pairwise.nil
  have hall : ∀ P : Extent → Prop, (∀ x ∈ (taken.flatMap (·.2)).foldl (fun l e => insertByStore e l) [], P x) ↔
      ∀ p ∈ taken, ∀ x ∈ p.2, P x := fun P => by
    simp only [hmem, List.mem_flatMap, List.not_mem_nil, or_false]
    exact ⟨fun h p hp x hx => h x ⟨p, hp, hx⟩, fun h x ⟨p, hp, hx⟩ => h p hp x hx⟩
  refine ⟨(gapsBetween_sound 512 size ((hall _).2 hpos)).1, fun b => ?_⟩
  rw [complement, inRuns_gapsBetween 512 size hsorted, hall]

/-! ### Sweeps -/

theorem endSweep_startUp (sw : Sweep) (s : State) :
    (endSweep sw s).startUp = if sw.kind = .startup then false else s.startUp := by
  unfold endSweep
  dsimp only
  cases sw.kind <;> simp <;> split <;> simp

theorem beginSweep_of_tracks {s : State} (kind : SweepKind) {first : Nat} {rest : List Nat}
    (h : tracksToSweep s = first :: rest) : beginSweep kind s =
      askStore { client := .sweep, writes := false, first := first, count := 1, track := some first }
        { s with free := { s.free with sweep := some { kind := kind, toRead := first :: rest, read := 0, taken := [] } } } := by
  simp [beginSweep, h, askSweep]

/-- A map block read brings its extents, and the next read is asked for. -/
theorem sweepRead_more {s : State} {sw : Sweep} {track next : Nat} {rest : List Nat} {m : MapBlock}
    (hsw : s.free.sweep = some sw) (hread : sw.toRead = track :: next :: rest) (hm : s.store.read track = .map m) :
    sweepRead true s =
      askStore { client := .sweep, writes := false, first := next, count := 1, track := some next }
        { s with free := { s.free with sweep := some { sw with
            toRead := next :: rest, read := sw.read + 1, taken := sw.taken.put track m.extents } } } := by
  simp [sweepRead, hsw, hread, hm, askSweep]

/-- The last map block read ends the sweep. -/
theorem sweepRead_last {s : State} {sw : Sweep} {track : Nat} {m : MapBlock} (hsw : s.free.sweep = some sw)
    (hread : sw.toRead = [track]) (hm : s.store.read track = .map m) :
    sweepRead true s =
      endSweep { sw with toRead := [], read := sw.read + 1, taken := sw.taken.put track m.extents } s := by
  simp [sweepRead, hsw, hread, hm]

/-- The state after a failed read has been reported (R14, R11). -/
def sweepFailed (sw : Sweep) (s : State) : State :=
  raiseIfLow (raise .sweepDone (Layout.code 1 ++ Layout.code sw.kind.code) { s with free := { s.free with sweep := none } })

/-- A failed read ends a requested sweep, and begins a start-up sweep again (R14, R16). -/
theorem sweepRead_failed {s : State} {sw : Sweep} (hsw : s.free.sweep = some sw) (hread : sw.toRead ≠ []) :
    sweepRead false s = match sw.kind with
      | .startup => beginSweep .startup (sweepFailed sw s)
      | .requested => sweepFailed sw s := by
  obtain ⟨track, rest, hread⟩ := List.exists_cons_of_ne_nil hread
  simp only [sweepRead, hsw, hread, sweepFailed]
  cases sw.kind <;> rfl

@[simp] theorem sweepFailed_frame (sw : Sweep) (s : State) :
    (sweepFailed sw s).free = { s.free with sweep := none } ∧ (sweepFailed sw s).startUp = s.startUp ∧
    (sweepFailed sw s).arbiter = s.arbiter ∧ (sweepFailed sw s).catalogue = s.catalogue := by
  simp [sweepFailed]

@[simp] theorem askStore_faults (r : StoreRequest) (s : State) : (askStore r s).arbiter.faults = s.arbiter.faults := by
  unfold askStore; dsimp only; (repeat' split) <;> rfl

/-- What a second failure of a sweep's read leaves raised is what the report of it raised, when a track has extents. -/
theorem exec_sweepRead_failed_causes {s : State} {tr : Transfer} {sw : Sweep} (hcur : s.arbiter.current = some tr)
    (hc : tr.request.client = .sweep) (hd : tr.dropped = false) (hr : tr.retry = true) (hsw : s.free.sweep = some sw)
    (hread : sw.toRead ≠ []) (htracks : tracksToSweep s ≠ []) :
    ∃ u, exec (.sweepReadComplete false) s = finish u ∧ u.notices = (sweepFailed sw (faulted tr s)).notices := by
  refine ⟨_, congrArg finish (completeTransfer_failed hcur hc hd hr), ?_⟩
  rw [sweepRead_failed (sw := sw) (by simpa using hsw) hread]
  split
  · obtain ⟨first, rest, hfirst⟩ := List.exists_cons_of_ne_nil htracks
    rw [beginSweep_of_tracks .startup (first := first) (rest := rest) (by simpa [tracksToSweep] using hfirst)]
    simp
  · simp

/-- STORE_FAULT raised leaves the other causes. -/
theorem faulted_other {s : State} {x : Cause} {k : Nat} (tr : Transfer) (hk : k ≠ NoticeCause.storeFault.number)
    (hx : s.notices.causes[k]? = some x) : (faulted tr s).notices.causes[k]? = some x := by
  rw [faulted, raise_causes_other _ _ _ hk]; exact hx

/-- A failed read raises SWEEP_DONE with FAILED (R14). -/
theorem sweepFailed_done (sw : Sweep) {s : State} {x : Cause} (hx : s.notices.causes[33]? = some x) :
    occurred x (Layout.code 1 ++ Layout.code sw.kind.code) (sweepFailed sw s).notices.causes 33 := by
  have hdone := occurred_raise (c := .sweepDone) (s := { s with free := { s.free with sweep := none } })
    (detail := Layout.code 1 ++ Layout.code sw.kind.code) hx
  unfold sweepFailed raiseIfLow
  dsimp only
  split
  · exact occurred_raise_other (by decide) hdone
  · exact hdone

theorem sweepFailed_of_low (sw : Sweep) {s : State} (h : freeBlocks s.free.list < s.dataBlocks / 32) :
    sweepFailed sw s = raise .storeLow (Layout.num 3 (freeBlocks s.free.list))
      (raise .sweepDone (Layout.code 1 ++ Layout.code sw.kind.code)
        { s with free := { s.free with sweep := none } }) := if_pos h

/-- A failed read with few blocks free raises STORE_LOW (R11). -/
theorem sweepFailed_low (sw : Sweep) {s : State} {x : Cause} (hlow : freeBlocks s.free.list < s.dataBlocks / 32)
    (hx : s.notices.causes[31]? = some x) :
    occurred x (Layout.num 3 (freeBlocks s.free.list)) (sweepFailed sw s).notices.causes 31 := by
  rw [sweepFailed_of_low sw hlow]
  refine occurred_raise (c := .storeLow) ?_
  rw [show NoticeCause.storeLow.number = 31 from rfl, raise_causes_other _ _ _ (by decide)]
  exact hx

/-- Settles O23: each outcome of a sweep's read, and the complement by the recursion of `gapsBetween`. -/
theorem sweepReadsMapBlocks : Obligations.SweepReadsMapBlocks := by
  refine ⟨fun f s h => ⟨fun hi => ?_, fun hi hb => ?_, fun track rest hi hs hw ht => ?_⟩,
    fun s tr sw track next rest m hcur hc hd hr hsw hread hm => ?_,
    fun s tr sw track m hcur hc hd hsw hread hm hlen => ?_,
    fun s tr sw hcur hc hd hr hsw hk hread => ?_,
    fun s tr sw first rest hcur hc hd hr hsw hk hread htracks => ?_,
    fun s tr sw x hcur hc hd hr hsw hread htracks hx => ?_,
    fun s tr sw x hcur hc hd hr hsw hread htracks hlow hx => ?_,
    fun size taken hpos => complement_spec size hpos⟩
  · exact request_refuses h (by simp [serveStoreSweep, hi])
  · have hbusy : (s.free.sweep.isSome || s.ingest.writing.isSome) = true := by simpa using hb
    exact request_turns h (by simp only [serveStoreSweep, received_frame, hi, hbusy]; rfl)
  · refine request_ok h ?_ (by simp)
    have hserve : serveStoreSweep f (s.received 7 f) = beginSweep .requested (answerOk 7 f [] (s.received 7 f)) := by
      simp [serveStoreSweep, hi, hs, hw]
    rw [hserve, beginSweep_of_tracks .requested (first := track) (rest := rest) (by simpa [tracksToSweep] using ht)]
    rfl
  · exact congrArg finish ((completeTransfer_first hcur hc hd hr).trans
      (congrArg grantNext (sweepRead_more hsw hread hm)))
  · obtain ⟨a, ha⟩ := completeTransfer_ok (act := fun _ => sweepRead true) hcur hc hd
    refine ⟨_, congrArg finish ha, ?_, ?_⟩
    · rw [(settle_frame _).2.2.2.2.2.2.1, (grantNext_frame _).2.2.2.2.2.2.1,
        sweepRead_last (s := { s with arbiter := a }) hsw hread hm, endSweep_free, leaveOut_of_short _ hlen]
    · rw [(settle_frame _).2.1, (grantNext_frame _).2.1, sweepRead_last (s := { s with arbiter := a }) hsw hread hm,
        endSweep_startUp]
  · refine ⟨_, congrArg finish (completeTransfer_failed hcur hc hd hr), ?_⟩
    simp [sweepRead_failed (s := faulted tr s) (sw := sw) (by simpa using hsw) hread, hk]
  · refine ⟨_, congrArg finish (completeTransfer_failed hcur hc hd hr), ?_⟩
    have htracks' : tracksToSweep (sweepFailed sw (faulted tr s)) = first :: rest := by simpa [tracksToSweep] using htracks
    simp [sweepRead_failed (s := faulted tr s) (sw := sw) (by simpa using hsw) hread, hk,
      beginSweep_of_tracks .startup htracks']
  · obtain ⟨u, hu, hn⟩ := exec_sweepRead_failed_causes hcur hc hd hr hsw hread htracks
    obtain ⟨y, hy⟩ := occurred_settle (s := u) (hn ▸ sweepFailed_done sw (faulted_other tr (by decide) hx))
    exact ⟨_, y, hu, hy⟩
  · obtain ⟨u, hu, hn⟩ := exec_sweepRead_failed_causes hcur hc hd hr hsw hread htracks
    obtain ⟨y, hy⟩ := occurred_settle (s := u)
      (hn ▸ sweepFailed_low sw (s := faulted tr s) hlow (faulted_other tr (by decide) hx))
    exact ⟨_, y, hu, hy⟩

end Machine
end Sys2Proof
end

section
/-!
The store writes of the ingest writer (R2, R33, R34, R36, R37).
-/
namespace Sys2Proof
namespace Machine

/-! ### What waits -/

/-- With no request left to its owner's turn, none is taken. -/
theorem nextDeferred_none {s : State} (h : ∀ r ∈ s.port.slots, ∀ c, r.phase ≠ .deferred c) : nextDeferred s = none := by
  unfold nextDeferred
  generalize s.port.slots = l at h
  suffices ∀ busy, nextDeferred.go l busy = none from this []
  induction l with
  | nil => intro busy; rfl
  | cons r rest ih =>
    obtain ⟨hr, hrest⟩ := List.forall_mem_cons.1 h
    intro busy
    unfold nextDeferred.go
    split
    · exact ih hrest _
    · exact ih hrest _
    · rename_i c hc; exact absurd hc (hr c)

theorem serveDeferred_of_none {s : State} (n : Nat) (h : ∀ r ∈ s.port.slots, ∀ c, r.phase ≠ .deferred c) :
    serveDeferred n s = s := by
  cases n <;> simp [serveDeferred, nextDeferred_none h]

theorem conclude_of_none {s : State} (h : ∀ r ∈ s.port.slots, ∀ c, r.phase ≠ .deferred c) : conclude s = finish s := by
  rw [conclude, serveDeferred_of_none 4 h]

theorem pumpSegment_of_none {s : State} (h : s.ingest.received = none) : pumpSegment s = s := by simp [pumpSegment, h]

theorem hasRoom_of {s : State} (hw : s.queue.writes.length < 8) (hr : s.queue.waiters = []) : s.hasRoom = true := by
  simp [State.hasRoom, hw, hr]

/-- A track entry's write that finds room is queued at once. -/
theorem queueTrack_of_room {id : Nat} {engine : Bool} {s : State} (h : s.hasRoom = true) :
    queueTrack id engine none s = pushTrack id s := by simp [queueTrack, h]

/-! ### The blocks of a write -/

@[simp] theorem Store.bytes_write_same (st : Store) (block : Nat) (b : List Byte) :
    (st.write block (.data b)).bytes block = trimZeros b := by
  rcases hb : trimZeros b with _ | ⟨c, cs⟩ <;> simp [Store.write, hb, Store.bytes, Store.read]

/-- Block `i` of a run holds its contents without trailing zeros. -/
theorem Store.bytes_writeRun (l : List (List Byte)) (first : Nat) (st : Store) {i : Nat} {b : List Byte} (h : l[i]? = some b) :
    (st.writeRun first l).bytes (first + i) = trimZeros b := by
  induction l generalizing first st i with
  | nil => simp at h
  | cons c rest ih =>
    cases i with
    | zero =>
      simp only [List.getElem?_cons_zero, Option.some.injEq] at h
      subst h
      have hread : ((st.write first (.data c)).writeRun (first + 1) rest).read first = (st.write first (.data c)).read first :=
        Store.read_writeRun_other _ _ _ (by omega)
      have := Store.bytes_write_same st first c
      simp only [Store.bytes] at this ⊢
      simpa [Store.writeRun, hread] using this
    | succ i =>
      have := ih (first + 1) (st.write first (.data c)) (i := i) (by simpa using h)
      rwa [show first + 1 + i = first + (i + 1) by omega] at this

/-! ### A track damaged -/

/-- A track made DAMAGED while nothing of it waits to be written, no fill stands and the write queue has room (R32). -/
theorem damageTrack_fields (n : Nat) (slot : TrackSlot) (reason : DamageReason) (content : Option ContentCode) {e : TrackEntry}
    {s : State} (he : s.catalogue.tracks.find slot.track = some e) (hfills : s.cache.fills = [])
    (hg : s.ingest.gather = none) (hwr : s.ingest.writing = none) (hw : s.queue.writes.length < 8)
    (hr : s.queue.waiters = []) :
    let u := damageTrack n slot reason content s
    u.arbiter = s.arbiter ∧
    u.ingest = { s.ingest with
      slots := replaceAt s.ingest.slots n (some { slot with mode := .damaged })
      counters := { s.ingest.counters with damaged := bump max32 s.ingest.counters.damaged } } ∧
    u.catalogue = { s.catalogue with
      tracks := s.catalogue.tracks.put slot.track { e with status := .damaged reason } } ∧
    u.queue = { s.queue with writes := s.queue.writes ++
      [{ write := .track slot.track (some { e with status := .damaged reason }), forCheck := false }] } := by
  have hdiscard : ∀ v : State, v.ingest.gather = none → v.ingest.writing = none → discardWrites slot.track v = v :=
    fun v hg hw => by simp [discardWrites, hg, hw]
  simp only [damageTrack, he]
  rw [hdiscard _ (by simpa [setSlot] using hg) (by simpa [setSlot] using hwr),
    flushTrack_of_no_fills _ (by simpa [setSlot] using hfills), queueTrack_of_room (hasRoom_of (by simpa) (by simpa))]
  simp [reportDamage, pushTrack, countIngest, setSlot, Table.set]

/-! ### A gather written -/

/-- The entry of a slot's track is READY, its slot free, and its write queued (R33). -/
theorem completeTrack_fields (n : Nat) (slot : TrackSlot) (e : TrackEntry) {s : State} (hw : s.queue.writes.length < 8)
    (hr : s.queue.waiters = []) :
    let u := completeTrack n slot e s
    u.catalogue = { s.catalogue with tracks := s.catalogue.tracks.put slot.track { e with status := .ready } } ∧
    u.ingest = { s.ingest with
      slots := replaceAt s.ingest.slots n none
      counters := { s.ingest.counters with ready := bump max32 s.ingest.counters.ready } } ∧
    u.queue = { s.queue with writes := s.queue.writes ++
      [{ write := .track slot.track (some { e with status := .ready }), forCheck := false }] } := by
  simp only [completeTrack]
  rw [queueTrack_of_room (hasRoom_of (by simpa) (by simpa))]
  simp [pushTrack, countIngest, setSlot, Table.set]

@[simp] theorem discardWrites_received (track : Nat) (s : State) :
    (discardWrites track s).ingest.received = s.ingest.received := by
  simp only [discardWrites]; (repeat' split) <;> simp

@[simp] theorem damageTrack_received (n : Nat) (slot : TrackSlot) (reason : DamageReason) (content : Option ContentCode)
    (s : State) : (damageTrack n slot reason content s).ingest.received = s.ingest.received := by
  unfold damageTrack; split <;> simp [reportDamage, countIngest, setSlot]

@[simp] theorem completeTrack_received (n : Nat) (slot : TrackSlot) (e : TrackEntry) (s : State) :
    (completeTrack n slot e s).ingest.received = s.ingest.received := by
  simp [completeTrack, countIngest, setSlot]

@[simp] theorem takeComposition_received (id : Nat) (change : CompositionChange) (s : State) :
    (takeComposition id change s).ingest.received = s.ingest.received := by
  unfold takeComposition; (repeat' split) <;> simp [countResolved]

@[simp] theorem gatherWritten_received (g : Gather) (s : State) :
    (gatherWritten g s).ingest.received = s.ingest.received := by
  unfold gatherWritten completeDescription queueComposition
  (repeat' split) <;> simp [countIngest]

@[simp] theorem gatherFailed_received (g : Gather) (s : State) :
    (gatherFailed g s).ingest.received = s.ingest.received := by
  unfold gatherFailed; split <;> simp

section
variable {s : State} {tr : Transfer} {g : Gather}

/-- A completion of a data write, while no segment waits: what is done of the track is done on a state with the write's blocks
in the store and the writer free. -/
theorem exec_ingestWrite (ok : Bool) {u : State} (hwr : s.ingest.writing = some (.data g false))
    (hu : u.ingest.received = none)
    (hact : completeTransfer .ingest ok (fun _ => dataWritten ok g false) s = grantNext (dataWritten ok g false u)) :
    exec (.ingestWriteComplete ok) s = finish (grantNext
      (if ok then gatherWritten g (dataStored ok g u) else gatherFailed g (dataStored ok g u))) := by
  show finish (match s.ingest.writing with
    | some (.data g dropped) => completeTransfer .ingest ok (fun _ => dataWritten ok g dropped) s
    | _ => s) = _
  rw [hwr]
  dsimp only
  rw [hact, dataWritten_eq, if_neg (by simp), pumpSegment_of_none]
  split
  · rw [gatherWritten_received]; exact hu
  · rw [gatherFailed_received]; exact hu

theorem exec_ingestWrite_ok (hcur : s.arbiter.current = some tr) (hc : tr.request.client = .ingest) (hd : tr.dropped = false)
    (hwr : s.ingest.writing = some (.data g false)) (hrec : s.ingest.received = none) :
    ∃ a : Arbiter, exec (.ingestWriteComplete true) s =
      finish (grantNext (gatherWritten g (dataStored true g { s with arbiter := a }))) := by
  obtain ⟨a, ha⟩ := completeTransfer_ok (act := fun _ => dataWritten true g false) hcur hc hd
  exact ⟨a, exec_ingestWrite true hwr hrec ha⟩

theorem exec_ingestWrite_failed (hcur : s.arbiter.current = some tr) (hc : tr.request.client = .ingest)
    (hd : tr.dropped = false) (hr : tr.retry = true) (hwr : s.ingest.writing = some (.data g false))
    (hrec : s.ingest.received = none) :
    exec (.ingestWriteComplete false) s = finish (grantNext (gatherFailed g (dataStored false g (faulted tr s)))) :=
  exec_ingestWrite false hwr (by simpa using hrec) (completeTransfer_failed hcur hc hd hr)

/-- The completions of a map block write likewise, while no request waits for its owner's turn. -/
theorem exec_mapWrite (ok : Bool) {m : MapBlock} {u v : State} (hwr : s.ingest.writing = some (.map m none))
    (hact : completeTransfer .ingest ok (fun _ => mapWritten ok m none) s = grantNext (mapWritten ok m none u))
    (hv : mapWritten ok m none u = v) (hslots : ∀ r ∈ v.port.slots, ∀ c, r.phase ≠ .deferred c) :
    exec (.mapBlockWriteComplete ok) s = finish (grantNext v) := by
  show conclude (mapBlockWriteComplete ok s) = _
  have hmap : mapBlockWriteComplete ok s = grantNext v := by
    simp only [mapBlockWriteComplete, hwr]
    rw [hact, hv]
  rw [hmap]
  exact conclude_of_none (by simpa using hslots)
end

/-! ### A map block written -/

/-- The slot of the track whose map block is written, if it is FILLING. -/
abbrev mapSlot (m : MapBlock) (l : List (Option TrackSlot)) : Option (Nat × TrackSlot) :=
  findSlot (fun x => decide (x.track = m.track) && decide (x.mode = .filling)) l

/-- The state in which the outcome of a map block write is acted on. -/
def mapStored (ok : Bool) (m : MapBlock) (s : State) : State :=
  storeMap ok m (updateIngest (fun i => { i with writing := none }) s)

theorem mappedEntry_mapStored {ok : Bool} {m : MapBlock} {s : State} {e : TrackEntry}
    (he : s.catalogue.tracks.find m.track = some e) (hx : s.catalogue.extents.find m.track = some m.extents) :
    mappedEntry m (mapStored ok m s) = some e := by
  simp [mappedEntry, mapStored, hx, he]

theorem mapWritten_ok {m : MapBlock} {s : State} {e : TrackEntry} {n : Nat} {slot : TrackSlot}
    (he : s.catalogue.tracks.find m.track = some e) (hx : s.catalogue.extents.find m.track = some m.extents)
    (hrec : s.ingest.received = none) (hs : mapSlot m s.ingest.slots = some (n, slot))
    (hw : s.queue.writes.length < 8) (hr : s.queue.waiters = []) :
    mapWritten true m none s = pushTrack m.track (mapStored true m s) := by
  have hs' : mapSlot m (mapStored true m s).ingest.slots = some (n, slot) := by simpa [mapStored] using hs
  unfold mapSlot at hs'
  unfold mapWritten
  dsimp only
  rw [← mapStored, mappedEntry_mapStored he hx]
  dsimp only
  rw [if_pos rfl, hs', queueTrack_of_room (hasRoom_of (by simpa [mapStored]) (by simpa [mapStored])), pumpSegment_of_none]
  simpa [mapStored] using hrec

/-- The entry of a track whose map block could not be written (R36). -/
def mapFailed (e : TrackEntry) : TrackEntry := { e with status := .damaged .storeFault, extentCount := 0 }

theorem mapWritten_failed {m : MapBlock} {s : State} {e : TrackEntry} {n : Nat} {slot : TrackSlot}
    (he : s.catalogue.tracks.find m.track = some e) (hx : s.catalogue.extents.find m.track = some m.extents)
    (hrec : s.ingest.received = none) (hs : mapSlot m s.ingest.slots = some (n, slot)) (hfills : s.cache.fills = [])
    (hw : s.queue.writes.length < 8) (hr : s.queue.waiters = []) :
    mapWritten false m none s = reportDamage m.track (mapFailed e) .storeFault none
      (pushTrack m.track (setSlot n (some { slot with mode := .damaged })
        (invalidate m.track (setTrack m.track (some (mapFailed e)) (releaseTrack m.track (mapStored false m s)))))) := by
  have hs' : mapSlot m (mapStored false m s).ingest.slots = some (n, slot) := by simpa [mapStored] using hs
  unfold mapSlot at hs'
  unfold mapWritten
  dsimp only
  rw [← mapStored, mappedEntry_mapStored he hx]
  dsimp only
  rw [if_neg (by simp), hs']
  dsimp only
  rw [flushTrack_of_no_fills _ (by simpa [mapStored] using hfills),
    queueTrack_of_room (hasRoom_of (by simpa [mapStored, setSlot]) (by simpa [mapStored, setSlot])), pumpSegment_of_none]
  · rfl
  · simpa [mapStored, reportDamage, countIngest, setSlot] using hrec

/-! ### The statement's cases -/

section
variable {s : State}

theorem exec_gatherIdleTimeout {g : Gather} (hg : s.ingest.gather = some g) :
    exec .gatherIdleTimeout s = .next (settle
      (askStore { client := .ingest, writes := true, first := g.store, count := g.blocks.length, track := some g.track }
        { s with ingest := { s.ingest with gather := none, idleCycles := 0, writing := some (.data g false) } })) := by
  show finish (closeGather s) = _
  simp [closeGather, hg, askIngest, updateIngest, finish]

variable {tr : Transfer} {m : MapBlock} {g : Gather} {e : TrackEntry} {n : Nat} {slot : TrackSlot}

theorem exec_mapWrite_ok (hcur : s.arbiter.current = some tr) (hc : tr.request.client = .ingest) (hd : tr.dropped = false)
    (hwr : s.ingest.writing = some (.map m none)) (hrec : s.ingest.received = none)
    (hslots : ∀ r ∈ s.port.slots, ∀ c, r.phase ≠ .deferred c) (he : s.catalogue.tracks.find m.track = some e)
    (hx : s.catalogue.extents.find m.track = some m.extents) (hs : mapSlot m s.ingest.slots = some (n, slot))
    (hw : s.queue.writes.length < 8) (hr : s.queue.waiters = []) :
    ∃ t, exec (.mapBlockWriteComplete true) s = .next t ∧
      t.store.read m.track = .map m ∧ (∀ b, b ≠ m.track → t.store.read b = s.store.read b) ∧
      t.ingest.writing = none ∧ t.ingest.slots = s.ingest.slots ∧ t.catalogue = s.catalogue ∧
      t.queue = { s.queue with
        writes := s.queue.writes ++ [{ write := .track m.track (some e), forCheck := false }] } ∧ t.nvm = s.nvm := by
  obtain ⟨a, ha⟩ := completeTransfer_ok (act := fun _ => mapWritten true m none) hcur hc hd
  refine ⟨_, exec_mapWrite true hwr ha (mapWritten_ok (s := { s with arbiter := a }) he hx hrec hs hw hr)
    (by simpa [mapStored] using hslots), ?_⟩
  have hstore : (mapStored true m { s with arbiter := a }).store = s.store.write m.track (.map m) := by
    simp [mapStored, storeMap]
  simp only [settle_frame, grantNext_frame, pushTrack_frame, hstore, Store.read_write_map, true_and]
  refine ⟨fun b hb => Store.read_write_other _ _ hb, ?_⟩
  simp [mapStored, pushTrack, he]

theorem exec_mapWrite_failed (hcur : s.arbiter.current = some tr) (hc : tr.request.client = .ingest) (hd : tr.dropped = false)
    (hwr : s.ingest.writing = some (.map m none)) (hrec : s.ingest.received = none)
    (hslots : ∀ r ∈ s.port.slots, ∀ c, r.phase ≠ .deferred c) (he : s.catalogue.tracks.find m.track = some e)
    (hx : s.catalogue.extents.find m.track = some m.extents) (hs : mapSlot m s.ingest.slots = some (n, slot))
    (hw : s.queue.writes.length < 8) (hr : s.queue.waiters = []) (hretry : tr.retry = true) (hfills : s.cache.fills = []) :
    ∃ t, exec (.mapBlockWriteComplete false) s = .next t ∧
      (∀ b, b ≠ m.track → t.store.read b = s.store.read b) ∧ t.ingest.writing = none ∧
      t.ingest.slots = replaceAt s.ingest.slots n (some { slot with mode := .damaged }) ∧
      t.ingest.counters = { s.ingest.counters with damaged := bump max32 s.ingest.counters.damaged } ∧
      t.catalogue = { s.catalogue with
        tracks := s.catalogue.tracks.put m.track (mapFailed e), extents := s.catalogue.extents.erase m.track } ∧
      t.free = (m.extents.foldl (fun u x => releaseRun { first := x.store, length := x.length } u) s).free ∧
      t.queue = { s.queue with
        writes := s.queue.writes ++ [{ write := .track m.track (some (mapFailed e)), forCheck := false }] } ∧
      t.arbiter.faults = bump max32 s.arbiter.faults ∧ t.nvm = s.nvm := by
  have hfailed := mapWritten_failed (s := faulted tr s) (m := m) (by simpa using he) (by simpa using hx)
    (by simpa using hrec) (by simpa using hs) (by simpa using hfills) (by simpa using hw) (by simpa using hr)
  refine ⟨_, exec_mapWrite false hwr (completeTransfer_failed hcur hc hd hretry) hfailed
    (by simpa [mapStored, reportDamage, countIngest, setSlot] using hslots), ?_⟩
  have hstore : ∀ b, b ≠ m.track → (mapStored false m (faulted tr s)).store.read b = s.store.read b := fun b hb => by
    simp [mapStored, storeMap, Store.read_write_other _ _ hb]
  have hfree : (releaseTrack m.track (mapStored false m (faulted tr s))).free =
      (m.extents.foldl (fun u x => releaseRun { first := x.store, length := x.length } u) s).free := by
    rw [releaseTrack_free, show (mapStored false m (faulted tr s)).catalogue = s.catalogue by simp [mapStored], hx]
    exact releaseRuns_free_congr _ (by simp [mapStored])
  refine ⟨fun b hb => by simpa [reportDamage, countIngest, setSlot] using hstore b hb, ?_⟩
  simp [reportDamage, countIngest, setSlot, hfree]
  simp [mapStored, pushTrack, Table.set]

theorem exec_dataWrite_ok (hcur : s.arbiter.current = some tr) (hc : tr.request.client = .ingest) (hd : tr.dropped = false)
    (hwr : s.ingest.writing = some (.data g false)) (hrec : s.ingest.received = none)
    (hs : findSlot (fun x => decide (x.track = g.track) && decide (x.mode = .filling)) s.ingest.slots = some (n, slot))
    (he : s.catalogue.tracks.find slot.track = some e) (hkind : e.header.info ≠ .description)
    (hw : s.queue.writes.length < 8) (hr : s.queue.waiters = []) :
    ∃ t, exec (.ingestWriteComplete true) s = .next t ∧
      (∀ i b, g.blocks[i]? = some b → t.store.bytes (g.store + i) = trimZeros b) ∧
      (∀ b, b < g.store ∨ g.store + g.blocks.length ≤ b → t.store.read b = s.store.read b) ∧
      t.ingest.writing = none ∧ t.nvm = s.nvm ∧
      (g.block + g.blocks.length < slot.length → t.catalogue = s.catalogue ∧ t.ingest.slots = s.ingest.slots ∧
        t.queue = s.queue) ∧
      (slot.length ≤ g.block + g.blocks.length →
        t.catalogue.tracks = s.catalogue.tracks.put slot.track { e with status := .ready } ∧
        t.ingest.slots = replaceAt s.ingest.slots n none ∧
        t.ingest.counters = { s.ingest.counters with ready := bump max32 s.ingest.counters.ready } ∧
        t.queue = { s.queue with writes := s.queue.writes ++
          [{ write := .track slot.track (some { e with status := .ready }), forCheck := false }] }) := by
  obtain ⟨a, ha⟩ := exec_ingestWrite_ok hcur hc hd hwr hrec
  have hwritten : gatherWritten g (dataStored true g { s with arbiter := a }) =
      if g.block + g.blocks.length < slot.length then dataStored true g { s with arbiter := a }
      else completeTrack n slot e (dataStored true g { s with arbiter := a }) := by
    simp [gatherWritten, dataStored, hs, he, hkind]
  refine ⟨_, ha, ?_⟩
  simp only [settle_frame, grantNext_frame, gatherWritten_frame]
  refine ⟨fun i b hb => Store.bytes_writeRun _ _ _ hb, fun b hb => Store.read_writeRun_other _ _ _ hb, ?_, rfl,
    fun hlt => ?_, fun hle => ?_⟩
  · rw [hwritten]
    split
    · rfl
    · obtain ⟨-, hing, -⟩ := completeTrack_fields (s := dataStored true g { s with arbiter := a }) n slot e hw hr
      rw [hing]
      rfl
  · rw [hwritten, if_pos hlt]
    exact ⟨rfl, rfl, rfl⟩
  · obtain ⟨hcat, hing, hque⟩ := completeTrack_fields (s := dataStored true g { s with arbiter := a }) n slot e hw hr
    rw [hwritten, if_neg (by omega), hcat, hing, hque]
    exact ⟨rfl, rfl, rfl, rfl⟩

theorem exec_dataWrite_failed (hcur : s.arbiter.current = some tr) (hc : tr.request.client = .ingest)
    (hd : tr.dropped = false) (hretry : tr.retry = true) (hwr : s.ingest.writing = some (.data g false))
    (hrec : s.ingest.received = none) (hg : s.ingest.gather = none)
    (hs : findSlot (fun x => decide (x.track = g.track) && decide (x.mode = .filling)) s.ingest.slots = some (n, slot))
    (he : s.catalogue.tracks.find slot.track = some e) (hfills : s.cache.fills = [])
    (hw : s.queue.writes.length < 8) (hr : s.queue.waiters = []) :
    ∃ t, exec (.ingestWriteComplete false) s = .next t ∧
      (∀ b, b < g.store ∨ g.store + g.blocks.length ≤ b → t.store.read b = s.store.read b) ∧
      t.ingest = { s.ingest with
        writing := none, slots := replaceAt s.ingest.slots n (some { slot with mode := .damaged })
        counters := { s.ingest.counters with damaged := bump max32 s.ingest.counters.damaged } } ∧
      t.catalogue = { s.catalogue with
        tracks := s.catalogue.tracks.put slot.track { e with status := .damaged .storeFault } } ∧
      t.queue = { s.queue with writes := s.queue.writes ++
        [{ write := .track slot.track (some { e with status := .damaged .storeFault }), forCheck := false }] } ∧
      t.arbiter.faults = bump max32 s.arbiter.faults ∧ t.free = s.free ∧ t.nvm = s.nvm := by
  have hfailed : gatherFailed g (dataStored false g (faulted tr s)) =
      damageTrack n slot .storeFault none (dataStored false g (faulted tr s)) := by
    simp [gatherFailed, dataStored, hs]
  obtain ⟨harb, hing, hcat, hque⟩ := damageTrack_fields (s := dataStored false g (faulted tr s)) n slot .storeFault none he
    hfills hg rfl hw hr
  refine ⟨_, (exec_ingestWrite_failed hcur hc hd hretry hwr hrec).trans (congrArg (finish ∘ grantNext) hfailed), ?_⟩
  simp only [settle_frame, grantNext_frame, grantNext_faults, damageTrack_frame, harb, hing, hcat, hque]
  refine ⟨fun b hb => ?_, rfl, rfl, rfl, rfl, rfl, rfl⟩
  exact Store.read_writeRun_other _ _ _ (by simpa using hb)

theorem exec_descriptionWrite (hcur : s.arbiter.current = some tr) (hc : tr.request.client = .ingest)
    (hd : tr.dropped = false) (hwr : s.ingest.writing = some (.data g false)) (hrec : s.ingest.received = none)
    (hg : s.ingest.gather = none)
    (hs : findSlot (fun x => decide (x.track = g.track) && decide (x.mode = .filling)) s.ingest.slots = some (n, slot))
    (he : s.catalogue.tracks.find slot.track = some e) (hkind : e.header.info = .description)
    (hlen : slot.length ≤ g.block + g.blocks.length) {block : List Byte} (hblock : g.blocks.getLast? = some block)
    (hfills : s.cache.fills = []) (hw : s.queue.writes.length < 7) (hr : s.queue.waiters = []) :
    (∀ k d, s.catalogue.compositions.lowestFree 64 = some k →
      parseDescription block (24 + 16 * field block 17 1) = some d →
      ∃ t, exec (.ingestWriteComplete true) s = .next t ∧
      t.catalogue = { s.catalogue with
        tracks := s.catalogue.tracks.put slot.track { e with status := .ready }
        compositions := s.catalogue.compositions.put k (newComposition e.package d)
        awaiting := s.catalogue.awaiting.put k d.reels } ∧
      t.ingest.slots = replaceAt s.ingest.slots n none ∧
      t.queue = { s.queue with writes := s.queue.writes ++
        [{ write := .track slot.track (some { e with status := .ready }), forCheck := false },
         { write := .composition k (some (newComposition e.package d)), forCheck := false }] }) ∧
    (s.catalogue.compositions.lowestFree 64 = none →
      ∃ t, exec (.ingestWriteComplete true) s = .next t ∧
      t.catalogue = { s.catalogue with
        tracks := s.catalogue.tracks.put slot.track { e with status := .damaged .check } } ∧
      t.ingest.slots = replaceAt s.ingest.slots n (some { slot with mode := .damaged }) ∧
      t.ingest.counters = { s.ingest.counters with
        noEntry := bump max32 s.ingest.counters.noEntry, damaged := bump max32 s.ingest.counters.damaged } ∧
      t.queue = { s.queue with writes := s.queue.writes ++
        [{ write := .track slot.track (some { e with status := .damaged .check }), forCheck := false }] }) := by
  obtain ⟨a, ha⟩ := exec_ingestWrite_ok hcur hc hd hwr hrec
  have hwritten : gatherWritten g (dataStored true g { s with arbiter := a }) =
      completeDescription n slot e block (dataStored true g { s with arbiter := a }) := by
    simp [gatherWritten, dataStored, hs, he, hkind, Nat.not_lt.2 hlen, hblock]
  rw [hwritten] at ha
  generalize hv : dataStored true g { s with arbiter := a } = v at ha
  have hvcat : v.catalogue = s.catalogue := hv ▸ rfl
  have hvque : v.queue = s.queue := hv ▸ rfl
  have hving : v.ingest = { s.ingest with writing := none } := hv ▸ rfl
  have hvfills : v.cache.fills = [] := hv ▸ hfills
  refine ⟨fun k d hk hp => ⟨_, ha, ?_⟩, fun hk => ⟨_, ha, ?_⟩⟩
  · obtain ⟨hcat, hing, hque⟩ := completeTrack_fields (s := v) n slot e (by rw [hvque]; omega) (by rw [hvque]; exact hr)
    have hroom : (completeTrack n slot e v).hasRoom = true :=
      hasRoom_of (by rw [hque, hvque]; simp; omega) (by rw [hque, hvque]; exact hr)
    have hdone : completeDescription n slot e block v =
        pushComposition k (setAwaiting k (some d.reels) (setComposition k (some (newComposition e.package d))
          (completeTrack n slot e v))) := by
      simp [completeDescription, hvcat, hk, hp, queueComposition, hroom, takeComposition]
    rw [hdone]
    simp [pushComposition, setComposition, setAwaiting, Table.set, hcat, hing, hque, hvcat, hvque, hving]
  · obtain ⟨-, hing, hcat, hque⟩ := damageTrack_fields (s := v) n slot .check (some .noEntry) (by rw [hvcat]; exact he) hvfills
      (by rw [hving]; exact hg) (by rw [hving]) (by rw [hvque]; omega) (by rw [hvque]; exact hr)
    have hdone : completeDescription n slot e block v =
        countIngest (fun c => { c with noEntry := bump max32 c.noEntry })
          (damageTrack n slot .check (some .noEntry) v) := by
      simp [completeDescription, hvcat, hk]
    rw [hdone]
    simp [countIngest, hing, hcat, hque, hvcat, hvque, hving]
end

/-- Settles O27, case by case. -/
theorem ingestWritesReachTheStore : Obligations.IngestWritesReachTheStore := by
  intro s
  refine ⟨fun g hg => exec_gatherIdleTimeout hg,
    fun tr m e n slot hcur hc hd hwr hrec hslots he hx hs hw hr =>
      ⟨exec_mapWrite_ok hcur hc hd hwr hrec hslots he hx hs hw hr,
        fun hretry hfills => exec_mapWrite_failed hcur hc hd hwr hrec hslots he hx hs hw hr hretry hfills⟩,
    fun tr g e n slot hcur hc hd hwr hrec hs he hkind hw hr => exec_dataWrite_ok hcur hc hd hwr hrec hs he hkind hw hr,
    fun tr g e n slot hcur hc hd hretry hwr hrec hg hs he hfills hw hr =>
      exec_dataWrite_failed hcur hc hd hretry hwr hrec hg hs he hfills hw hr,
    fun tr g e n slot block hcur hc hd hwr hrec hg hs he hkind hlen hblock hfills hw hr =>
      exec_descriptionWrite hcur hc hd hwr hrec hg hs he hkind hlen hblock hfills hw hr⟩

end Machine
end Sys2Proof
end

section
/-!
The two events of the write queue (R8, R9).
-/
namespace Sys2Proof
namespace Machine

/-! ### Nonvolatile memory takes a record -/

theorem Table.find_set_same {α : Type} (t : Table α) (k : Nat) (v : Option α) : (t.set k v).find k = v := by
  cases v <;> simp [Table.set]

/-- A count charges the grant that nonvolatile memory holds in the slot. -/
theorem countInGrants_find {grants : Table Grant} {slot : Nat} {g : Grant} (shows : Nat) (state : GrantState)
    (h : grants.find slot = some g) :
    (countInGrants grants (slot, shows, state)).find slot = some { g with shows := shows, state := state } := by
  simp [countInGrants, h]

/-! ### The head of the queue completes -/

theorem completeWrite_nil {s : State} (ok : Bool) (h : s.queue.writes = []) : completeWrite ok s = s := by
  simp [completeWrite, h]

theorem ite_updateLog (c : Prop) [Decidable c] (f : ShowLog → ShowLog) (s : State) :
    (if c then s else updateLog f s) = { s with log := if c then s.log else f s.log } := by
  split <;> rfl

/-- The log learns of the completion of a record's write, unless another write of the record stands in the queue (R172). -/
theorem completeLogWrite_eq (w : Write) (s : State) :
    completeLogWrite w s = { s with log :=
      match w with
      | .log r =>
        if (s.queue.writes.any fun q =>
            match q.write with
            | .log x => decide (x.sequence = r.sequence)
            | _ => false)
        then s.log
        else { s.log with uncompleted := s.log.uncompleted.filter fun n => !decide (n = r.sequence) }
      | _ => s.log } := by
  cases w with
  | log r => exact ite_updateLog _ _ s
  | _ => rfl

/-! ### The requester at the head -/

/-- No request of the port is left to its owner's turn. -/
def Undeferred (s : State) : Prop := ∀ r ∈ s.port.slots, ∀ c, r.phase ≠ .deferred c

theorem Undeferred.of_port {s t : State} (h : Undeferred s) (ht : t.port = s.port) : Undeferred t := by
  simpa [Undeferred, ht] using h

theorem Undeferred.sendReply {s : State} (h : Undeferred s) (r : Reply) : Undeferred (sendReply r s) := by
  intro x hx c
  simp only [Machine.sendReply] at hx
  split at hx
  · exact h x hx c
  · obtain ⟨y, hy, rfl⟩ := List.mem_map.1 hx
    simp only [RequestSlot.answer]
    split
    · simp
    · exact h y hy c

/-- Without room or a requester the event brings nothing about. -/
theorem queueWaiting_of_idle {s : State} (h : 8 ≤ s.queue.writes.length ∨ s.queue.waiters = []) : queueWaiting s = s := by
  have : s.waiterReady = false := by
    rcases h with h | h
    · simp [State.waiterReady]; omega
    · simp [State.waiterReady, h]
  simp [queueWaiting, this]

/-- With room the requester that has waited longest is served. -/
theorem exec_queueWaiting {s : State} {w : Waiter} {rest : List Waiter} (hroom : s.queue.writes.length < 8)
    (hw : s.queue.waiters = w :: rest)
    (hr : (serveWaiter w { s with queue := { s.queue with waiters := rest } }).ingest.received = none)
    (hd : Undeferred (serveWaiter w { s with queue := { s.queue with waiters := rest } })) :
    exec .queueWaitingWrite s =
      .next (settle (serveWaiter w { s with queue := { s.queue with waiters := rest } })) := by
  have hq : queueWaiting s = serveWaiter w { s with queue := { s.queue with waiters := rest } } := by
    have : s.waiterReady = true := by simp [State.waiterReady, hroom, hw]
    rw [queueWaiting, if_pos this, hw]
    exact pumpSegment_of_none hr
  show conclude (queueWaiting s) = _
  rw [hq, conclude_of_none hd, finish]

/-! ### The window check goes on -/

/-- A slot's grant gets the state of the check time, and its write is the check's (R70). -/
theorem changeGrant_fields (n : Nat) (g : Grant) (target : GrantState) (s : State) :
    (changeGrant n g target s).keys = { s.keys with grants := s.keys.grants.put n { g with state := target } } ∧
    (changeGrant n g target s).queue = { s.queue with writes := s.queue.writes ++
      [{ write := .grant n (some { g with state := target }), forCheck := true }] } := by
  simp only [changeGrant]; (repeat' split) <;> simp [pushGrant, Table.set]

/-- What judging the slots from `checkNext` on comes to, with the grants as they stood (R70). -/
structure Judged (grants : Table Grant) (s t : State) : Prop where
  next : s.keys.checkNext ≤ t.keys.checkNext
  time : t.keys.checkTime = s.keys.checkTime
  ends : 32 ≤ t.keys.checkNext ∨ Waiter.check ∈ t.queue.waiters
  writes : ∃ l, t.queue.writes = s.queue.writes ++ l ∧ ∀ w ∈ l, w.forCheck = true ∧
    ∃ n g, grants.find n = some g ∧ checkedState s.keys.checkTime g ≠ g.state ∧
      w.write = .grant n (some { g with state := checkedState s.keys.checkTime g })

/-- A slot passed over leaves what is judged after it. -/
theorem Judged.of_passed {grants : Table Grant} {s t : State}
    (h : Judged grants (updateKeys (fun k => { k with checkNext := s.keys.checkNext + 1 }) s) t) : Judged grants s t :=
  ⟨Nat.le_of_succ_le h.next, h.time, h.ends, h.writes⟩

/-- A slot judged anew is the first of the check's writes. -/
theorem Judged.of_changed {grants : Table Grant} {s u t : State} {g : Grant}
    (hn : u.keys.checkNext = s.keys.checkNext + 1) (ht : u.keys.checkTime = s.keys.checkTime)
    (hq : u.queue.writes = s.queue.writes ++ [{
      write := .grant s.keys.checkNext (some { g with state := checkedState s.keys.checkTime g }), forCheck := true }])
    (hg : grants.find s.keys.checkNext = some g) (hne : checkedState s.keys.checkTime g ≠ g.state) (h : Judged grants u t) :
    Judged grants s t := by
  obtain ⟨hnext, htime, hends, l, hl, hall⟩ := h
  refine ⟨by omega, htime.trans ht, hends, _ :: l, by rw [hl, hq, List.append_assoc]; rfl, ?_⟩
  rintro w (_ | ⟨_, hw⟩)
  · exact ⟨rfl, _, g, hg, hne, rfl⟩
  · simpa only [ht] using hall w hw

theorem judgeGrants_judged (grants : Table Grant) (fuel : Nat) (turn : Bool) (s : State) (hf : 32 < fuel + s.keys.checkNext)
    (hg : ∀ n, s.keys.checkNext ≤ n → s.keys.grants.find n = grants.find n) : Judged grants s (judgeGrants fuel turn s) := by
  induction fuel generalizing turn s with
  | zero => exact ⟨Nat.le_refl _, rfl, .inl (by simp only [judgeGrants]; omega), [], by simp [judgeGrants]⟩
  | succ fuel ih =>
    have hpass : Judged grants s
        (judgeGrants fuel turn (updateKeys (fun k => { k with checkNext := s.keys.checkNext + 1 }) s)) :=
      .of_passed (ih turn _ (by simp [updateKeys]; omega) fun n hn => hg n (Nat.le_of_succ_le hn))
    unfold judgeGrants
    dsimp only
    split
    next h => exact ⟨Nat.le_refl _, rfl, .inl h, [], by simp⟩
    split
    next => exact hpass
    rename_i g hfind
    split
    next => exact hpass
    rename_i hne
    split
    · obtain ⟨hk, hq⟩ := changeGrant_fields s.keys.checkNext g (checkedState s.keys.checkTime g) s
      refine .of_changed (g := g) (by simp [updateKeys]) (by simp [updateKeys, hk]) (by simp [updateKeys, hq])
        (by rw [← hg _ (Nat.le_refl _), hfind]) hne (ih false _ (by simp [updateKeys]; omega) fun n hn => ?_)
      have hn' : s.keys.checkNext < n := hn
      simp only [updateKeys, hk]
      rw [Table.find_put_other _ _ (by omega), hg n (by omega)]
    · exact ⟨Nat.le_refl _, rfl, .inr (by simp), [], by simp⟩

/-- A table holds what it finds. -/
theorem Table.mem_of_find {α : Type} {t : Table α} {k : Nat} {x : α} (h : t.find k = some x) : (k, x) ∈ t := by
  induction t with
  | nil => simp at h
  | cons p rest ih =>
    obtain ⟨j, y⟩ := p
    simp only [Table.find] at h
    split at h
    · cases h; subst_vars; simp
    · exact List.mem_cons_of_mem _ (ih h)

/-! ### The log's turn -/

/-- The log's turn does nothing to the port but answer a LOG RELEASE that waits (R175). -/
theorem queueLogHead_port (s : State) :
    (queueLogHead s).port = s.port ∨ ∃ r, (queueLogHead s).port = (sendReply r s).port := by
  have hreply : ∀ (r : Reply) {v : State}, v.port = s.port → (sendReply r v).port = (sendReply r s).port :=
    fun r v hv => by simp [sendReply, hv]
  unfold queueLogHead
  dsimp only
  (repeat' split) <;> simp
  all_goals exact .inr ⟨_, hreply _ (by simp)⟩

theorem Undeferred.queueLogHead {s : State} (h : Undeferred s) : Undeferred (queueLogHead s) := by
  rcases queueLogHead_port s with hp | ⟨r, hp⟩
  · exact h.of_port hp
  · exact (h.sendReply r).of_port hp

theorem Undeferred.carryLog {s : State} (h : Undeferred s) : Undeferred (carryLog s) := by
  unfold Machine.carryLog
  generalize s.log.unwritten.length = n
  induction n generalizing s with
  | zero => exact h
  | succ n ih =>
    unfold pumpLog
    split
    · exact h
    · split
      · exact ih h.queueLogHead
      · exact h.of_port (by simp)

/-- The log's writes join the end of the queue. -/
theorem queueLogHead_prefix (s : State) : s.queue.writes <+: (queueLogHead s).queue.writes := by
  simp only [queueLogHead]; (repeat' split) <;> simp

theorem pumpLog_prefix (n : Nat) (s : State) : s.queue.writes <+: (pumpLog n s).queue.writes := by
  induction n generalizing s with
  | zero => exact List.prefix_rfl
  | succ n ih =>
    unfold pumpLog
    split
    · exact List.prefix_rfl
    · split
      · exact (queueLogHead_prefix s).trans (ih _)
      · simp

/-- The record at the head of the unwritten list is queued as it stands (R172). -/
theorem queueLogHead_fields {s : State} {q : Nat} {more : List Nat} {r : LogRecord} (hu : s.log.unwritten = q :: more)
    (hr : s.log.find q = some r) :
    (queueLogHead s).queue = { s.queue with writes := s.queue.writes ++ [{ write := .log r, forCheck := false }] } ∧
    (queueLogHead s).log.unwritten = more ∧ q ∈ (queueLogHead s).log.uncompleted := by
  have hfind : ∀ l c, ({ s.log with unwritten := l, uncompleted := c } : ShowLog).find q = some r := fun _ _ => hr
  unfold queueLogHead
  split
  next h => rw [hu] at h; cases h
  next q' rest' h =>
    rw [hu] at h
    obtain ⟨rfl, rfl⟩ := List.cons.inj h
    dsimp only [updateLog]
    rw [hfind]
    dsimp only
    (repeat' split) <;> simp_all

/-! ### A resolution and a count -/

/-- A composition's resolution takes effect as its write is queued (R24). -/
theorem takeComposition_resolve {s : State} {n : Nat} {c : Composition} (numbers : List ReelNumbers)
    (h : s.catalogue.compositions.find n = some c) :
    let r := resolveComposition s.catalogue.tracks numbers c
    let t := takeComposition n (.resolve numbers) s
    t.queue = { s.queue with writes := s.queue.writes ++ [{ write := .composition n (some r), forCheck := false }] } ∧
    t.catalogue = { s.catalogue with
      compositions := s.catalogue.compositions.put n r, awaiting := s.catalogue.awaiting.erase n } ∧
    t.ingest = { s.ingest with resolved := if r.incomplete = none then (s.ingest.resolved.1 + 1, s.ingest.resolved.2)
      else (s.ingest.resolved.1, s.ingest.resolved.2 + 1) } := by
  simp only [takeComposition, h]
  generalize resolveComposition s.catalogue.tracks numbers c = r
  refine ⟨?_, ?_, ?_⟩
  · simp [pushComposition, Table.set]
  · simp [Table.set]
  · simp [countResolved, updateIngest]

/-- The log names a record by its number, whatever of it a change touches. -/
theorem ShowLog.mem_change {l : ShowLog} {n : Nat} {f : LogRecord → LogRecord} {r : LogRecord}
    (h : r ∈ (l.change n f).records) : ∃ x ∈ l.records, r = if x.sequence = n then f x else x := by
  obtain ⟨x, hx, rfl⟩ := List.mem_map.1 h
  exact ⟨x, hx, rfl⟩

/-- A count of a showing whose grant still holds its slot (R76, R77). -/
theorem performCount_fields {s : State} {c : Count} {slot key : Nat} {g : Grant} {x : Composition}
    (hc : c.grant = some (slot, key)) (hg : s.keys.grants.find slot = some g) (hk : g.key = key)
    (hx : s.catalogue.compositions.find c.composition = some x) :
    let t := performCount c s
    t.queue = { s.queue with writes := s.queue.writes ++ [{
      write := .count { grant := some (slot, g.charge.shows, g.charge.state)
                        composition := (c.composition, min 65535 (x.shown + 1)), record := (c.record, c.time) }
      forCheck := false }] } ∧
    t.keys = { s.keys with grants := s.keys.grants.put slot g.charge } ∧
    t.catalogue.compositions = s.catalogue.compositions.put c.composition { x with shown := min 65535 (x.shown + 1) } ∧
    t.log = s.log.change c.record (LogRecord.changeShowing fun y => { y with counted := some c.time }) := by
  have hcharged : chargedGrant c s = some (slot, g) := by simp [chargedGrant, hc, hg, hk]
  have hraise : ∀ a b u, (raiseCount c a b u).queue = u.queue ∧ (raiseCount c a b u).keys = u.keys ∧
      (raiseCount c a b u).catalogue = u.catalogue ∧ (raiseCount c a b u).log = u.log := by simp
  simp only [performCount, hcharged, hx, hraise]
  simp [setShown, setCharged, countWrite, updateLog, hx, Table.set]

/-! ### The obligation -/

section
variable {s : State} {w : Waiter} {rest : List Waiter}

/-- Serving a requester leaves the segment that waits and the requests' turns as they are, where it changes the port by
replies alone. -/
theorem exec_queueWaiting_eq {u : State} (hroom : s.queue.writes.length < 8) (hw : s.queue.waiters = w :: rest)
    (hu : serveWaiter w { s with queue := { s.queue with waiters := rest } } = u) (hr : u.ingest.received = none)
    (hd : Undeferred u) : exec .queueWaitingWrite s = .next (settle u) := by
  subst hu; exact exec_queueWaiting hroom hw hr hd

end

/-- Settles O19: what each event makes of the queue's head, then the requester at the head case by case, each served on the
state without it in the line. -/
theorem queuedWritesComplete : Obligations.QueuedWritesComplete := by
  unfold Obligations.QueuedWritesComplete
  refine ⟨fun s ok h => ?_, fun w rest s h => ?_, fun m => ?_, fun s hd h => ?_, fun waiter rest s hroom hw hrec hd => ?_⟩
  · show finish (completeWrite ok s) = _
    rw [completeWrite_nil ok h, finish]
  · have hlog := completeLogWrite_eq w.write { s with queue := { s.queue with writes := rest } }
    constructor
    · show finish (completeWrite true s) = _
      simp only [completeWrite, h, hlog, finish, if_true] <;> rfl
    · show finish (completeWrite false s) = _
      simp only [completeWrite, h, hlog, finish] <;> rfl
  · refine ⟨fun k e => Table.find_set_same _ _ _, fun n c => Table.find_set_same _ _ _,
      fun slot g => Table.find_set_same _ _ _, fun r => by simp [Nvm.apply], fun b => rfl, fun p => rfl, fun c => ⟨?_, ?_⟩⟩
    · intro slot shows state g hc hg
      simp only [Nvm.apply, hc]
      exact countInGrants_find shows state hg
    · intro x hx
      simp [Nvm.apply, hx]
  · show conclude (queueWaiting s) = _
    rw [queueWaiting_of_idle h, conclude_of_none hd, finish]
  have hd0 : Undeferred { s with queue := { s.queue with waiters := rest } } := hd
  refine ⟨?_, ?_, ?_, ?_, ?_, ?_, ?_, ?_, ?_, ?_⟩
  · rintro k engine rfl
    exact exec_queueWaiting_eq hroom hw rfl hrec hd
  · rintro k engine reply rfl
    exact exec_queueWaiting_eq hroom hw rfl hrec (Undeferred.sendReply hd0 reply)
  · rintro n v awaiting engine rfl
    refine exec_queueWaiting_eq hroom hw ?_ hrec hd
    simp [serveWaiter, takeComposition, pushComposition, pushWrite, setAwaiting, setComposition, Table.set]
  · rintro n numbers engine closes c rfl hc
    obtain ⟨hq, hcat, hing⟩ := takeComposition_resolve (s := { s with queue := { s.queue with waiters := rest } }) numbers hc
    cases closes with
    | false =>
      refine ⟨_, exec_queueWaiting hroom hw ?_ ?_, ?_⟩
      · simpa [serveWaiter] using hrec
      · exact hd0.of_port (by simp [serveWaiter])
      · simp [serveWaiter, hq, hcat, hing]
    | true =>
      refine ⟨_, exec_queueWaiting hroom hw ?_ ?_, ?_⟩
      · simpa [serveWaiter, endPackage, updateIngest] using hrec
      · exact hd0.of_port (by simp [serveWaiter])
      · simp [serveWaiter, hq, hcat, hing, endPackage, updateIngest]
  · rintro count slot key g x rfl hc hg hk hx
    obtain ⟨hq, hkeys, hcomp, hlog⟩ :=
      performCount_fields (s := { s with queue := { s.queue with waiters := rest } }) hc hg hk hx
    refine ⟨_, exec_queueWaiting hroom hw (by simpa [serveWaiter] using hrec) (hd0.of_port (by simp [serveWaiter])), ?_⟩
    simp only [serveWaiter, settle_frame, hq, hkeys, hcomp, hlog]
    refine ⟨by simp [Grant.charge], by simp [Grant.charge], trivial, ?_⟩
    intro r hr hseq y hy
    obtain ⟨z, -, rfl⟩ := ShowLog.mem_change hr
    split at hy
    · obtain ⟨v, -, rfl⟩ := Option.map_eq_some_iff.1 hy
      rfl
    · rename_i hne
      rw [if_neg hne] at hseq
      exact absurd hseq hne
  · rintro rfl
    have hj := judgeGrants_judged s.keys.grants 33 true { s with queue := { s.queue with waiters := rest } } (by omega)
      (fun _ _ => rfl)
    refine ⟨_, exec_queueWaiting hroom hw (by simpa [serveWaiter] using hrec) (hd0.of_port (by simp [serveWaiter])), ?_⟩
    obtain ⟨hn, ht, hends, l, hl, hall⟩ := hj
    simp only [serveWaiter, settle_frame]
    refine ⟨hn, ht, hends, by simp [hl], ?_⟩
    intro w hmem
    rw [hl, List.drop_left] at hmem
    obtain ⟨hc, n, g, hfind, hne, hwr⟩ := hall w hmem
    exact ⟨hc, (n, g), Table.mem_of_find hfind, hne, hwr⟩
  · rintro rfl
    constructor
    · intro hend
      refine exec_queueWaiting_eq hroom hw ?_ hrec hd
      have : s.keys.budget.ended s.keys.clock = true := decide_eq_true hend
      simp [serveWaiter, testBudget, this, pushBudget, Budget.renew, budgetPeriod, pushWrite, updateKeys]
    · intro hend
      refine exec_queueWaiting_eq hroom hw ?_ hrec hd
      have : s.keys.budget.ended s.keys.clock = false := decide_eq_false (Nat.not_le.2 hend)
      simp [serveWaiter, testBudget, this]
  · rintro q more r rfl hu hr
    obtain ⟨hq, hmore, hun⟩ := queueLogHead_fields (s := { s with queue := { s.queue with waiters := rest } }) hu hr
    have hlog : Undeferred (carryLog (queueLogHead { s with queue := { s.queue with waiters := rest } })) :=
      hd0.queueLogHead.carryLog
    refine ⟨_, exec_queueWaiting hroom hw (by simpa [serveWaiter] using hrec) hlog, ?_⟩
    simp only [serveWaiter, settle_frame]
    constructor
    · have := pumpLog_prefix (queueLogHead { s with queue := { s.queue with waiters := rest } }).log.unwritten.length
        (queueLogHead { s with queue := { s.queue with waiters := rest } })
      rw [List.prefix_iff_eq_take, hq] at this
      simpa [carryLog] using this.symm
    · rintro rfl
      rw [carryLog, hmore]
      exact ⟨hq, hmore, hun⟩
  · rintro f projector rfl h1 h2 hidle
    have hserve : serveWaiter (.request (.pair f projector)) { s with queue := { s.queue with waiters := rest } } =
        answerOk 34 f [] (pairProjector projector { s with queue := { s.queue with waiters := rest } }) := by
      show servePair true f projector _ = _
      simp only [servePair]
      rw [if_neg (by simp; omega), if_neg (by simpa using hidle)]
      rfl
    refine exec_queueWaiting_eq hroom hw ?_ hrec (Undeferred.sendReply hd0 _)
    rw [hserve]
    congr 1
    simp only [pairProjector, requestLinkCheck, updateLink, pushWrite]
    split <;> simp_all
  · rintro f slot rfl hslot hnone
    refine exec_queueWaiting_eq hroom hw ?_ hrec (Undeferred.sendReply hd0 _)
    show serveGrantPurge true f slot _ = _
    rw [serveGrantPurge, if_neg (by omega)]
    dsimp only
    rw [hnone]

end Machine
end Sys2Proof
end

section
/-!
The start of start-up (R7, R10, R16, R59): what its changes leave in the tables and in the write queue.
-/
namespace Sys2Proof

variable {α β : Type}

/-! ### Tables filtered and filled -/

theorem Table.find_of_lt {t : Table α} {k : Nat} (h : ∀ p ∈ t, k < p.1) : t.find k = none := by
  induction t with
  | nil => rfl
  | cons p rest ih =>
    obtain ⟨hp, hrest⟩ := List.forall_mem_cons.1 h
    simp only [Table.find]
    rw [if_neg (by omega), ih hrest]

theorem Table.rising_filter {t : Table α} (c : Nat × α → Bool) (h : t.rising = true) :
    Table.rising (t.filter c) = true := by
  induction t with
  | nil => rfl
  | cons p rest ih =>
    obtain ⟨j, y⟩ := p
    obtain ⟨hj, hr⟩ := (Table.rising_cons j y rest).1 h
    rw [List.filter_cons]
    split
    · exact (Table.rising_cons _ _ _).2 ⟨fun p hp => hj p (List.mem_filter.1 hp).1, ih hr⟩
    · exact ih hr

theorem Table.find_filter {t : Table α} (c : Nat × α → Bool) (h : t.rising = true) (k : Nat) :
    Table.find (t.filter c) k = (t.find k).filter fun x => c (k, x) := by
  ext x
  rw [Option.filter_eq_some_iff, ← Table.mem_iff_find (Table.rising_filter c h), ← Table.mem_iff_find h, List.mem_filter]

/-- A table into which the entries of a rising one are put, each changed. -/
theorem Table.find_foldl_put (g : α → α) {l : Table α} (hl : l.rising = true) (t : Table α) (k : Nat) :
    (l.foldl (fun t p => Table.put t p.1 (g p.2)) t).find k = ((l.find k).map g).or (t.find k) := by
  induction l generalizing t with
  | nil => simp
  | cons p rest ih =>
    obtain ⟨j, y⟩ := p
    obtain ⟨hj, hr⟩ := (Table.rising_cons j y rest).1 hl
    rw [List.foldl_cons, ih hr, Table.find]
    split
    next h => subst h; simp [Table.find_of_lt hj]
    next h => rw [Table.find_put_other _ _ (Ne.symm h)]

namespace Machine

/-! ### The write queue grows -/

/-- The write queue and the requesters that wait have grown at their ends alone, by writes and requesters of one kind. -/
structure QueueGrows (W : Write → Prop) (V : Waiter → Prop) (s t : State) : Prop where
  writes : ∃ l, t.queue.writes = s.queue.writes ++ l ∧ ∀ w ∈ l, w.forCheck = false ∧ W w.write
  waiters : ∃ l, t.queue.waiters = s.queue.waiters ++ l ∧ ∀ v ∈ l, V v
  faults : t.queue.faults = s.queue.faults

namespace QueueGrows
variable {W W' : Write → Prop} {V V' : Waiter → Prop} {s t u : State}

theorem of_queue (h : t.queue = s.queue) : QueueGrows W V s t :=
  ⟨⟨[], by simp [h], by simp⟩, ⟨[], by simp [h], by simp⟩, by rw [h]⟩

theorem of_write {w : Write} (hw : W w)
    (h : t.queue = { s.queue with writes := s.queue.writes ++ [{ write := w, forCheck := false }] }) : QueueGrows W V s t :=
  ⟨⟨_, by rw [h], by simpa using hw⟩, ⟨[], by simp [h], by simp⟩, by rw [h]⟩

theorem of_waiter {v : Waiter} (hv : V v) (h : t.queue = { s.queue with waiters := s.queue.waiters ++ [v] }) :
    QueueGrows W V s t :=
  ⟨⟨[], by simp [h], by simp⟩, ⟨_, by rw [h], by simpa using hv⟩, by rw [h]⟩

theorem mono (h : QueueGrows W V s t) (hW : ∀ w, W w → W' w) (hV : ∀ v, V v → V' v) : QueueGrows W' V' s t := by
  obtain ⟨⟨l, hl, hw⟩, ⟨m, hm, hv⟩, hf⟩ := h
  exact ⟨⟨l, hl, fun w h => ⟨(hw w h).1, hW _ (hw w h).2⟩⟩, ⟨m, hm, fun v h => hV v (hv v h)⟩, hf⟩

theorem trans (h : QueueGrows W V s t) (h' : QueueGrows W V t u) : QueueGrows W V s u := by
  obtain ⟨⟨l, hl, hw⟩, ⟨m, hm, hv⟩, hf⟩ := h
  obtain ⟨⟨l', hl', hw'⟩, ⟨m', hm', hv'⟩, hf'⟩ := h'
  exact ⟨⟨l ++ l', by rw [hl', hl, List.append_assoc], List.forall_mem_append.2 ⟨hw, hw'⟩⟩,
    ⟨m ++ m', by rw [hm', hm, List.append_assoc], List.forall_mem_append.2 ⟨hv, hv'⟩⟩, hf'.trans hf⟩

theorem of_start {r : State} (h : QueueGrows W V s t) (hs : s.queue = r.queue) : QueueGrows W V r t :=
  ⟨hs ▸ h.writes, hs ▸ h.waiters, hs ▸ h.faults⟩

theorem mem_writes (h : QueueGrows W V s t) {w : QueuedWrite} (hw : w ∈ s.queue.writes) : w ∈ t.queue.writes := by
  obtain ⟨l, hl, -⟩ := h.writes; rw [hl]; exact List.mem_append_left _ hw

theorem mem_waiters (h : QueueGrows W V s t) {v : Waiter} (hv : v ∈ s.queue.waiters) : v ∈ t.queue.waiters := by
  obtain ⟨l, hl, -⟩ := h.waiters; rw [hl]; exact List.mem_append_left _ hv

end QueueGrows

/-- A write stands in the queue. -/
def Stands (w : Write) (s : State) : Prop := ∃ q ∈ s.queue.writes, q.write = w

theorem Stands.of_write {s t : State} {w : Write}
    (h : t.queue = { s.queue with writes := s.queue.writes ++ [{ write := w, forCheck := false }] }) : Stands w t :=
  ⟨{ write := w, forCheck := false }, by rw [h]; simp, rfl⟩

theorem Stands.grows {W : Write → Prop} {V : Waiter → Prop} {s t : State} {w : Write} (h : Stands w s)
    (hg : QueueGrows W V s t) : Stands w t := by
  obtain ⟨q, hq, rfl⟩ := h; exact ⟨q, hg.mem_writes hq, rfl⟩

/-! ### FILLING entries (R10) -/

/-- A track entry that start-up finds FILLING. -/
def TrackEntry.interrupted (e : TrackEntry) : TrackEntry := { e with status := .damaged .interrupted }

/-- The entry's write is queued, or waits for room. -/
theorem queueTrack_queue (id : Nat) (s : State) : (queueTrack id false none s).queue =
    if s.hasRoom then { s.queue with writes := s.queue.writes ++
      [{ write := .track id (s.catalogue.tracks.find id), forCheck := false }] }
    else { s.queue with waiters := s.queue.waiters ++ [.track id false none] } := by
  unfold queueTrack; split <;> simp [pushTrack]

@[simp] theorem queueTrack_port (id : Nat) (s : State) : (queueTrack id false none s).port = s.port := by
  unfold queueTrack; split <;> simp

/-- A track found FILLING becomes DAMAGED (INTERRUPTED), its write queued. -/
def interruptEntry (s : State) (p : Nat × TrackEntry) : State :=
  queueTrack p.1 false none (setTrack p.1 (some p.2.interrupted) s)

theorem interruptFilling_eq (s : State) : interruptFilling s =
    (s.catalogue.tracks.filter fun p => decide (p.2.status = .filling)).foldl interruptEntry s := rfl

/-- The tables after the tracks of a list have become DAMAGED; the queue holds a write of each, or it waits. -/
theorem foldl_interruptEntry (l : Table TrackEntry) (s : State) :
    let t := l.foldl interruptEntry s
    t.catalogue = { s.catalogue with
      tracks := l.foldl (fun m p => Table.put m p.1 (TrackEntry.interrupted p.2)) s.catalogue.tracks } ∧
    t.port = s.port ∧
    QueueGrows (fun w => ∃ p ∈ l, w = .track p.1 (some p.2.interrupted)) (fun v => ∃ p ∈ l, v = .track p.1 false none) s t ∧
    ∀ p ∈ l, Stands (.track p.1 (some p.2.interrupted)) t ∨ Waiter.track p.1 false none ∈ t.queue.waiters := by
  induction l generalizing s with
  | nil => exact ⟨rfl, rfl, .of_queue rfl, by simp⟩
  | cons p rest ih =>
    obtain ⟨hcat, hport, hgrow, hall⟩ := ih (interruptEntry s p)
    have hq := queueTrack_queue p.1 (setTrack p.1 (some p.2.interrupted) s)
    simp only [setTrack_queue, setTrack_catalogue, Table.set, Table.find_put_same] at hq
    have hstep : QueueGrows (fun w => w = .track p.1 (some p.2.interrupted)) (fun v => v = .track p.1 false none) s
          (interruptEntry s p) ∧
        (Stands (.track p.1 (some p.2.interrupted)) (interruptEntry s p) ∨
          Waiter.track p.1 false none ∈ (interruptEntry s p).queue.waiters) := by
      split at hq
      · exact ⟨.of_write rfl hq, .inl (.of_write hq)⟩
      · exact ⟨.of_waiter rfl hq, .inr (by rw [interruptEntry, hq]; simp)⟩
    refine ⟨?_, ?_, ?_, List.forall_mem_cons.2 ⟨?_, hall⟩⟩
    · rw [List.foldl_cons, hcat]; simp [interruptEntry, Table.set]
    · rw [List.foldl_cons, hport]; simp [interruptEntry]
    · exact (hstep.1.mono (by rintro w rfl; exact ⟨p, by simp, rfl⟩) (by rintro w rfl; exact ⟨p, by simp, rfl⟩)).trans
        (hgrow.mono (fun w ⟨q, hq, h⟩ => ⟨q, by simp [hq], h⟩) (fun w ⟨q, hq, h⟩ => ⟨q, by simp [hq], h⟩))
    · exact hstep.2.imp (·.grows hgrow) hgrow.mem_waiters

/-! ### READY compositions (R10) -/

/-- The composition is entered as its write is queued, or waits for room. -/
theorem queueComposition_enter (n : Nat) (c : Composition) (s : State) :
    let t := queueComposition n (.enter c none) false false s
    t.ingest = s.ingest ∧
    ((t.catalogue = { s.catalogue with
        compositions := s.catalogue.compositions.put n c, awaiting := s.catalogue.awaiting.erase n } ∧
      t.queue = { s.queue with writes := s.queue.writes ++ [{ write := .composition n (some c), forCheck := false }] }) ∨
    (t.catalogue = s.catalogue ∧
      t.queue = { s.queue with waiters := s.queue.waiters ++ [.composition n (.enter c none) false false] })) := by
  unfold queueComposition
  split <;> simp [takeComposition, pushComposition, Table.set]

/-- A composition becomes what `g` makes of it. -/
def changeEntry (g : Composition → Composition) (s : State) (p : Nat × Composition) : State :=
  queueComposition p.1 (.enter (g p.2) none) false false s

theorem unsettleCompositions_eq (s : State) : unsettleCompositions s =
    (s.catalogue.compositions.filter fun p =>
      p.2.incomplete.isNone && p.2.tracks.any (notReady s.catalogue.tracks)).foldl
      (changeEntry (unsettle s.catalogue.tracks)) s := by
  unfold unsettleCompositions
  generalize hm : s.catalogue.tracks = m
  generalize List.filter _ _ = l
  induction l generalizing s with
  | nil => rfl
  | cons p rest ih =>
    rw [List.foldl_cons, List.foldl_cons, hm]
    exact ih _ ((queueComposition_area _ _ _ _ _).1.trans hm)

/-- The requesters that changes of compositions leave waiting, with what the changes leave alone. -/
theorem foldl_changeEntry_grows (g : Composition → Composition) (l : Table Composition) (s : State) :
    let t := l.foldl (changeEntry g) s
    t.ingest = s.ingest ∧ (s.catalogue.awaiting = [] → t.catalogue.awaiting = []) ∧
    t.catalogue.tracks = s.catalogue.tracks ∧ t.catalogue.extents = s.catalogue.extents ∧
    QueueGrows (fun _ => True) (fun v => ∃ n c, v = .composition n (.enter c none) false false) s t := by
  induction l generalizing s with
  | nil => exact ⟨rfl, id, rfl, rfl, .of_queue rfl⟩
  | cons p rest ih =>
    obtain ⟨hing, haw, htr, hex, hgrow⟩ := ih (changeEntry g s p)
    obtain ⟨hi, ⟨hcat, hq⟩ | ⟨hcat, hq⟩⟩ := queueComposition_enter p.1 (g p.2) s
    · refine ⟨hing.trans hi, fun h => haw ?_, htr.trans ?_, hex.trans ?_, (QueueGrows.of_write trivial hq).trans hgrow⟩ <;>
        simp [changeEntry, hcat]
      simp [h, Table.erase]
    · refine ⟨hing.trans hi, fun h => haw ?_, htr.trans ?_, hex.trans ?_,
        (QueueGrows.of_waiter ⟨_, _, rfl⟩ hq).trans hgrow⟩ <;> simp [changeEntry, hcat]
      exact h

/-- The compositions of a rising list, each changed with its write in the queue, or as before while the change waits. -/
theorem foldl_changeEntry_find (g : Composition → Composition) {l : Table Composition} (hl : l.rising = true) (s : State) :
    let t := l.foldl (changeEntry g) s
    let held := fun n => t.catalogue.compositions.find n
    (∀ n, l.find n = none → held n = s.catalogue.compositions.find n) ∧
    (∀ p ∈ l, (held p.1 = some (g p.2) ∧ Stands (.composition p.1 (some (g p.2))) t) ∨
      (held p.1 = s.catalogue.compositions.find p.1 ∧
        Waiter.composition p.1 (.enter (g p.2) none) false false ∈ t.queue.waiters)) ∧
    QueueGrows (fun w => ∃ p ∈ l, w = .composition p.1 (some (g p.2)) ∧ held p.1 = some (g p.2)) (fun _ => True) s t := by
  induction l generalizing s with
  | nil => exact ⟨fun _ _ => rfl, by simp, .of_queue rfl⟩
  | cons p rest ih =>
    obtain ⟨j, c⟩ := p
    obtain ⟨hj, hr⟩ := (Table.rising_cons j c rest).1 hl
    obtain ⟨hsame, hall, hgrow⟩ := ih hr (changeEntry g s (j, c))
    dsimp only at hsame hall hgrow
    have hother : ∀ n, n ≠ j →
        (changeEntry g s (j, c)).catalogue.compositions.find n = s.catalogue.compositions.find n := by
      intro n hn
      obtain ⟨-, ⟨hcat, -⟩ | ⟨hcat, -⟩⟩ := queueComposition_enter j (g c) s <;> simp only [changeEntry, hcat]
      exact Table.find_put_other _ _ hn
    have hat := hsame j (Table.find_of_lt hj)
    simp only [List.foldl_cons]
    refine ⟨fun n hn => ?_, List.forall_mem_cons.2 ⟨?_, fun p hp => ?_⟩, ?_⟩
    · simp only [Table.find] at hn
      split at hn
      · cases hn
      · next h => rw [hsame n hn, hother n (Ne.symm h)]
    · obtain ⟨-, ⟨hcat, hq⟩ | ⟨hcat, hq⟩⟩ := queueComposition_enter j (g c) s
      · refine .inl ⟨?_, (Stands.of_write hq).grows hgrow⟩
        rw [hat, changeEntry, hcat]; simp
      · refine .inr ⟨?_, hgrow.mem_waiters ?_⟩
        · rw [hat, changeEntry, hcat]
        · rw [changeEntry, hq]; simp
    · have := hj p hp
      simpa only [hother p.1 (by omega)] using hall p hp
    · refine QueueGrows.trans ?_
        (hgrow.mono (fun w ⟨p, hp, h⟩ => ⟨p, List.mem_cons_of_mem _ hp, h⟩) fun _ _ => trivial)
      obtain ⟨-, ⟨hcat, hq⟩ | ⟨-, hq⟩⟩ := queueComposition_enter j (g c) s
      · exact .of_write ⟨(j, c), by simp, rfl, by rw [hat, changeEntry, hcat]; simp⟩ hq
      · exact .of_waiter trivial hq

/-! ### The trim budget (R59) -/

theorem Budget.ended_iff (b : Budget) (clock : Nat) : b.ended clock = true ↔ b.start + budgetPeriod ≤ clock :=
  decide_eq_true_iff

theorem Budget.renew_of_ended {b : Budget} {clock : Nat} (h : b.ended clock = true) :
    b.renew clock = { start := b.start + budgetPeriod * ((clock - b.start) / budgetPeriod), used := 0 } := if_pos h

theorem pushBudget_fields (b : Budget) (s : State) :
    (pushBudget b s).catalogue = s.catalogue ∧ (pushBudget b s).keys = { s.keys with budget := b } ∧
    (pushBudget b s).queue = { s.queue with writes := s.queue.writes ++ [{ write := .budget b, forCheck := false }] } :=
  ⟨rfl, rfl, rfl⟩

/-- A budget period that has ended is renewed with its write queued, or the budget waits for room. -/
theorem testBudget_cases (s : State) :
    let t := testBudget false s
    t.catalogue = s.catalogue ∧
    t.keys = { s.keys with budget := t.keys.budget } ∧
    QueueGrows (fun w => w = .budget t.keys.budget ∧ s.keys.budget.ended s.keys.clock = true) (fun v => v = .budget) s t ∧
    (s.keys.budget.ended s.keys.clock = false → t.keys.budget = s.keys.budget) ∧
    (s.keys.budget.ended s.keys.clock = true →
      (t.keys.budget = s.keys.budget.renew s.keys.clock ∧ Stands (.budget t.keys.budget) t) ∨
      (t.keys.budget = s.keys.budget ∧ Waiter.budget ∈ t.queue.waiters)) := by
  generalize hb : s.keys.budget.renew s.keys.clock = b
  simp only [testBudget, hb]
  generalize s.keys.budget.ended s.keys.clock = ended
  cases ended with
  | false => exact ⟨rfl, rfl, .of_queue rfl, fun _ => rfl, by simp⟩
  | true =>
    rw [if_pos rfl]
    split
    · obtain ⟨hcat, hkeys, hq⟩ := pushBudget_fields b s
      rw [hkeys]
      exact ⟨hcat, rfl, .of_write ⟨rfl, rfl⟩ hq, by simp, fun _ => .inl ⟨rfl, .of_write hq⟩⟩
    split
    next hw =>
      refine ⟨rfl, rfl, .of_queue rfl, by simp, fun _ => .inr ⟨rfl, ?_⟩⟩
      obtain ⟨v, hv, hb⟩ := List.any_eq_true.1 hw
      cases v <;> simp_all
    next => exact ⟨rfl, rfl, .of_waiter rfl rfl, by simp, fun _ => .inr ⟨rfl, by simp⟩⟩

end Machine
end Sys2Proof
end

section
/-!
The end of start-up's first step (R1, R16, R176, R177): the show log, the sweep, and the notices it raises.
-/
namespace Sys2Proof
namespace Machine

/-! ### The show log (R177) -/

/-- A record of the run stands in its place of the ring, or is a lost one. -/
theorem mem_ringRun {ring : Table LogRecord} {fuel q : Nat} {r : LogRecord} (h : r ∈ ringRun ring fuel q) :
    ∃ x, ring.find (r.sequence % 1024) = some x ∧ r = if x.sequence = r.sequence then x else lostRecord r.sequence := by
  induction fuel generalizing q with
  | zero => simp [ringRun] at h
  | succ fuel ih =>
    unfold ringRun at h
    split at h
    · simp at h
    · next x hx =>
      rcases List.mem_append.1 h with h | h
      · split at h
        · simp at h
        · exact ih h
      · have hr := List.mem_singleton.1 h
        have hseq : r.sequence = q := by rw [hr]; split <;> simp_all [lostRecord]
        exact ⟨x, hseq ▸ hx, hseq ▸ hr⟩

theorem LogRecord.interrupt_sequence (time : Nat) (r : LogRecord) : (r.interrupt time).sequence = r.sequence := by
  unfold LogRecord.interrupt; split <;> simp [LogRecord.changeShowing]

/-- A record that start-up changes is not the one that stands in its place of the ring. -/
theorem find_formLog_changed {ring : Table LogRecord} {time q : Nat} {r : LogRecord} (hq : q ∈ (formLog ring time).2)
    (hr : (formLog ring time).1.find q = some r) :
    r ∈ (formLog ring time).1.records ∧ ring.find (r.sequence % 1024) ≠ some r := by
  refine ⟨List.mem_of_find?_eq_some hr, ?_⟩
  unfold formLog at hq hr
  split at hq
  · simp at hq
  · next newest hn =>
    simp only [hn] at hr
    obtain ⟨x, hx, rfl⟩ := List.mem_map.1 hq
    obtain ⟨hxrun, hxc⟩ := List.mem_filter.1 hx
    obtain ⟨y, hyrun, rfl⟩ := List.mem_map.1 (List.mem_of_find?_eq_some hr)
    have hseq : y.sequence = x.sequence := by
      have := List.find?_some hr
      rw [← LogRecord.interrupt_sequence time y]
      simpa using this
    obtain ⟨a, ha, hxa⟩ := mem_ringRun hxrun
    obtain ⟨b, hb, hyb⟩ := mem_ringRun hyrun
    have hab : a = b := by rw [hseq, ha] at hb; exact Option.some.inj hb
    have hyx : y = x := by rw [hyb, hxa, hab, hseq]
    subst hyx
    rw [LogRecord.interrupt_sequence]
    cases ho : y.outcome with
    | some o =>
      have hsame : y.interrupt time = y := by simp [LogRecord.interrupt, ho]
      simpa [hsame, ho] using hxc
    | none =>
      intro h
      have hay : a = y := by
        rw [hxa]; split
        · rfl
        · next hne => rw [if_neg hne] at hxa; rw [hxa] at ho; cases ho
      have : a.outcome ≠ none := by
        rw [ha] at h; rw [Option.some.inj h]; simp [LogRecord.interrupt, ho]
      exact this (hay ▸ ho)

/-- The log's writes are those of records of its unwritten list, as they stand. -/
theorem queueLogHead_start {s : State} (h : s.log.release = none) :
    let t := queueLogHead s
    t.port = s.port ∧ t.log.release = none ∧ t.log.records = s.log.records ∧
    (∀ q ∈ t.log.unwritten, q ∈ s.log.unwritten) ∧
    QueueGrows (fun w => ∃ q ∈ s.log.unwritten, ∃ r, s.log.find q = some r ∧ w = .log r) (fun v => v = .log) s t := by
  unfold queueLogHead
  split
  next => exact ⟨rfl, h, rfl, by simp_all, .of_queue rfl⟩
  next q rest hu =>
    have hfind : ∀ c, ({ s.log with unwritten := rest, uncompleted := c } : ShowLog).find q = s.log.find q := fun _ => rfl
    dsimp only [updateLog]
    rw [hfind]
    cases hf : s.log.find q with
    | none => exact ⟨by simp [h], by simp [h], by simp [h], by simp +contextual [h, hu], .of_queue (by simp [h])⟩
    | some r =>
      exact ⟨by simp [h], by simp [h], by simp [h], by simp +contextual [h, hu],
        .of_write ⟨q, by simp [hu], r, hf, rfl⟩ (by simp [h])⟩

theorem pumpLog_start (n : Nat) {s : State} (h : s.log.release = none) :
    let t := pumpLog n s
    t.port = s.port ∧ t.log.release = none ∧ t.log.records = s.log.records ∧
    QueueGrows (fun w => ∃ q ∈ s.log.unwritten, ∃ r, s.log.find q = some r ∧ w = .log r) (fun v => v = .log) s t := by
  induction n generalizing s with
  | zero => exact ⟨rfl, h, rfl, .of_queue rfl⟩
  | succ n ih =>
    unfold pumpLog
    split
    · exact ⟨rfl, h, rfl, .of_queue rfl⟩
    split
    · obtain ⟨hport, hrel, hrec, hun, hgrow⟩ := queueLogHead_start h
      obtain ⟨hport', hrel', hrec', hgrow'⟩ := ih hrel
      refine ⟨hport'.trans hport, hrel', hrec'.trans hrec, hgrow.trans (hgrow'.mono ?_ fun _ => id)⟩
      rintro w ⟨q, hq, r, hr, rfl⟩
      exact ⟨q, hun q hq, r, by rwa [ShowLog.find, hrec] at hr, rfl⟩
    · exact ⟨rfl, h, rfl, .of_waiter rfl rfl⟩

/-! ### The notices of start-up -/

/-- The notices as a reset leaves them, but for what the causes that `P` names have met. -/
structure ResetBut (P : Nat → Prop) (n : Notices) : Prop where
  levels : n.levels = Notices.reset.levels
  mask : n.mask = 0
  causes : ∀ k c, n.causes[k]? = some c → c.enabled = true ∧ (P k ∨ c = Cause.clear true)

namespace ResetBut
variable {P : Nat → Prop}

theorem reset : ResetBut P Notices.reset := by
  refine ⟨rfl, rfl, fun k c h => ?_⟩
  have : c = Cause.clear true := by
    simp only [Notices.reset, List.getElem?_replicate] at h
    split at h
    · exact (Option.some.inj h).symm
    · cases h
  exact ⟨by rw [this]; rfl, .inr this⟩

theorem mono {Q : Nat → Prop} {n : Notices} (h : ResetBut P n) (hPQ : ∀ k, P k → Q k) : ResetBut Q n :=
  ⟨h.levels, h.mask, fun k c hc => ⟨(h.causes k c hc).1, (h.causes k c hc).2.imp_left (hPQ k)⟩⟩

theorem raise {s : State} (h : ResetBut P s.notices) {c : NoticeCause} (detail : List Byte) (hc : P c.number) :
    ResetBut P (raise c detail s).notices := by
  refine ⟨h.levels, h.mask, fun k x hx => ?_⟩
  by_cases hk : k = c.number
  · subst hk
    simp only [Machine.raise, getElem?_updateAt, if_true, Option.map_eq_some_iff] at hx
    obtain ⟨y, hy, rfl⟩ := hx
    exact ⟨(h.causes _ y hy).1, .inl hc⟩
  · rw [raise_causes_other c detail s hk] at hx
    exact h.causes k x hx

end ResetBut

/-- The outgoing direction chooses a cause that is due. -/
theorem choose_go_due (n : Notices) (l : List Cause) (number : Nat) (best : Option Nat) {k : Nat}
    (h : Notices.choose.go n l number best = some k) :
    best = some k ∨ ∃ j c, l[j]? = some c ∧ k = number + j ∧ n.isDue k c = true := by
  induction l generalizing number best with
  | nil => exact .inl h
  | cons c rest ih =>
    unfold Notices.choose.go at h
    rcases ih _ _ h with h | ⟨j, d, hd, hk, hdue⟩
    · have hite : ∀ b : Bool, (if b then some number else best) = some k → (b = true ∧ number = k) ∨ best = some k := by
        rintro (_ | _) h <;> simp_all
      rcases hite _ h with ⟨hb, rfl⟩ | h
      · exact .inr ⟨0, c, rfl, rfl, (Bool.and_eq_true_iff.1 hb).1⟩
      · exact .inl h
    · exact .inr ⟨j + 1, d, hd, by omega, hdue⟩

theorem choose_due {n : Notices} {k : Nat} (h : n.choose = some k) : ∃ c, n.causes[k]? = some c ∧ n.isDue k c = true := by
  rcases choose_go_due n _ _ _ h with h | ⟨j, c, hc, hk, hdue⟩
  · cases h
  · exact ⟨c, by rw [hk, Nat.zero_add]; exact hc, hdue⟩

/-- With nothing to send but notices, the outgoing direction starts at most one notice of a cause that was met. -/
theorem settle_resetBut {P : Nat → Prop} {s : State} (hp : s.port = ControlPort.reset) (h : ResetBut P s.notices) :
    ResetBut P (settle s).notices ∧ (settle s).port = { ControlPort.reset with sending := (settle s).port.sending } ∧
    ∀ r, (settle s).port.sending ≠ some (.reply r) := by
  have hrest : ResetBut P s.notices ∧ s.port = { ControlPort.reset with sending := s.port.sending } ∧
      ∀ r, s.port.sending ≠ some (.reply r) := by rw [hp]; exact ⟨h, rfl, by simp [ControlPort.reset]⟩
  unfold settle
  split
  · exact hrest
  split
  next hr => rw [hp] at hr; cases hr
  split
  next n hn =>
    obtain ⟨c, hc, hdue⟩ := choose_due hn
    have hP : P n := by
      refine (h.causes n c hc).2.resolve_right fun hclear => ?_
      rw [hclear] at hdue
      cases hdue
    unfold beginNotice
    rw [hc]
    refine ⟨⟨h.levels, h.mask, fun k x hx => ?_⟩, by rw [hp], by simp⟩
    simp only [getElem?_updateAt] at hx
    split at hx
    next hk =>
      obtain ⟨y, hy, rfl⟩ := Option.map_eq_some_iff.1 hx
      exact ⟨(h.causes k y hy).1, .inl (hk ▸ hP)⟩
    next => exact h.causes k x hx
  next => exact hrest

/-! ### The log started, and the sweep -/

/-- The notices of the log's thresholds (R176). -/
def raiseLogThresholds (s : State) : State :=
  let s := if 960 ≤ s.log.uncollected then raise .logNearFull (logDetail s.log) s else s
  if s.log.uncollected = 1024 then raise .logFull (logDetail s.log) s else s

theorem raiseLogThresholds_fields {P : Nat → Prop} {s : State} (h : ResetBut P s.notices) :
    let t := raiseLogThresholds s
    t.port = s.port ∧ t.log = s.log ∧ t.queue = s.queue ∧
    ResetBut (fun k => P k ∨ (k = 34 ∧ 960 ≤ s.log.uncollected) ∨ (k = 35 ∧ s.log.uncollected = 1024)) t.notices := by
  have h' : ResetBut (fun k => P k ∨ (k = 34 ∧ 960 ≤ s.log.uncollected) ∨ (k = 35 ∧ s.log.uncollected = 1024)) s.notices :=
    h.mono fun _ => .inl
  unfold raiseLogThresholds
  split
  next h1 =>
    have h34 := h'.raise (c := .logNearFull) (logDetail s.log) (.inr (.inl ⟨rfl, h1⟩))
    dsimp only
    split
    next h2 => exact ⟨by simp, by simp, by simp, h34.raise _ (.inr (.inr ⟨rfl, h2⟩))⟩
    next => exact ⟨by simp, by simp, by simp, h34⟩
  next h1 =>
    dsimp only
    rw [if_neg (by omega)]
    exact ⟨rfl, rfl, rfl, h'⟩

theorem startLog_eq (s : State) : startLog s = raiseLogThresholds (carryLog { s with
    log := { (formLog s.nvm.log s.keys.clock).1 with unwritten := (formLog s.nvm.log s.keys.clock).2 } }) := rfl

theorem formLog_release (ring : Table LogRecord) (time : Nat) : (formLog ring time).1.release = none := by
  unfold formLog; split <;> rfl

/-- The log formed, the records that start-up changed queued or waiting, and its notices raised (R177). -/
theorem startLog_fields {P : Nat → Prop} {s : State} (h : ResetBut P s.notices) :
    let t := startLog s
    t.port = s.port ∧ t.log.release = none ∧
    QueueGrows (fun w => ∃ r ∈ t.log.records, w = .log r ∧ s.nvm.log.find (r.sequence % 1024) ≠ some r) (fun v => v = .log)
      s t ∧
    ResetBut (fun k => P k ∨ (k = 34 ∧ 960 ≤ t.log.uncollected) ∨ (k = 35 ∧ t.log.uncollected = 1024)) t.notices := by
  obtain ⟨hport, hrel, hrec, hgrow⟩ := pumpLog_start (formLog s.nvm.log s.keys.clock).2.length (s := { s with
    log := { (formLog s.nvm.log s.keys.clock).1 with unwritten := (formLog s.nvm.log s.keys.clock).2 } })
    (formLog_release _ _)
  rw [startLog_eq, carryLog]
  generalize hu : pumpLog _ _ = u at hport hrel hrec hgrow ⊢
  have hn : u.notices = s.notices := by rw [← hu]; simp
  obtain ⟨hp, hl, hq, hres⟩ := raiseLogThresholds_fields (P := P) (s := u) (hn ▸ h)
  refine ⟨hp.trans hport, by rw [hl, hrel], ?_, by rw [hl]; exact hres⟩
  refine ((hgrow.of_start (r := s) rfl).mono ?_ fun _ => id).trans (.of_queue hq)
  rintro w ⟨q, hchanged, r, hr, rfl⟩
  obtain ⟨hmem, hne⟩ := find_formLog_changed hchanged hr
  exact ⟨r, by rw [hl, hrec]; exact hmem, rfl, hne⟩

theorem complement_nil {size : Nat} (h : 512 < size) : complement size [] = [{ first := 512, length := size - 512 }] := by
  simp [complement, gapsBetween, h]

/-- With every block of the data area free, the store is not low (R11). -/
theorem raiseIfLow_of_empty {n : Nat} {u : State} (hfree : u.free.list = [{ first := 512, length := n - 512 }])
    (hsize : u.store.size = n) : raiseIfLow u = u := by
  have hnum : ¬ n - 512 < (n - 512) / 32 := by omega
  have hblocks : freeBlocks [{ first := 512, length := n - 512 }] = n - 512 := by
    simp only [freeBlocks, total, List.map_cons, List.map_nil, List.foldl_cons, List.foldl_nil, Nat.zero_add]
  unfold raiseIfLow State.lowThreshold State.dataBlocks
  rw [hfree, hsize]
  simp only [hblocks, if_neg hnum]

/-- A start-up sweep with no map block to read ends at once: all blocks are free (R14, R16). -/
theorem endSweep_of_none {s : State} (hs : 512 < s.store.size) (he : s.catalogue.extents = []) :
    ∃ detail, endSweep { kind := .startup, toRead := [], read := 0, taken := [] } s = raise .sweepDone detail { s with
      startUp := false
      free := { list := [{ first := 512, length := s.store.size - 512 }], stranded := 0, sweep := none } } := by
  have hcat : { s.catalogue with extents := [] } = s.catalogue := by rw [← he]
  simp only [endSweep, complement_nil hs, leaveOut_of_short (l := [{ first := 512, length := s.store.size - 512 }]) _
    (by simp), hcat]
  rw [if_neg (Nat.lt_irrefl 0), raiseIfLow_of_empty (u := raise _ _ { s with startUp := _, free := _ }) rfl rfl]
  exact ⟨_, rfl⟩

/-- Start-up begins with the first map block's read; or its sweep ends at once; or the store is not used (R1, R16). -/
theorem beginStartUp_fields {P : Nat → Prop} {s : State} (harb : s.arbiter = State.reset.arbiter)
    (hfree : s.free = State.reset.free) (hup : s.startUp = true) (he : s.catalogue.extents = [])
    (hsize : s.store.size = 0 ∨ 512 < s.store.size) (h : ResetBut P s.notices) :
    let t := beginStartUp s
    t.catalogue = s.catalogue ∧
    ResetBut (fun k => P k ∨ (k = 0 ∧ s.store.size = 0) ∨ (k = 33 ∧ s.store.size ≠ 0 ∧ t.startUp = false)) t.notices ∧
    t.arbiter = { State.reset.arbiter with current := t.arbiter.current } ∧
    (s.store.size = 0 → t.startUp = true ∧ t.free = State.reset.free ∧ t.arbiter.current = none) ∧
    (512 < s.store.size →
      (tracksToSweep s = [] → t.startUp = false ∧ t.arbiter.current = none ∧
        t.free = { list := [{ first := 512, length := s.store.size - 512 }], stranded := 0, sweep := none }) ∧
      (∀ first rest, tracksToSweep s = first :: rest → t.startUp = true ∧
        t.arbiter.current = some (Transfer.begin
          { client := .sweep, writes := false, first := first, count := 1, track := some first }) ∧
        t.free = { list := [], stranded := 0
                   sweep := some { kind := .startup, toRead := first :: rest, read := 0, taken := [] } })) := by
  unfold beginStartUp
  rcases hsize with h0 | hs
  · rw [if_pos h0]
    refine ⟨by simp, ?_, ?_, fun _ => ⟨?_, ?_, ?_⟩, fun h => by omega⟩
    · exact (h.mono fun _ => .inl).raise _ (.inr (.inl ⟨rfl, h0⟩))
    · simp [harb, State.reset]
    · simpa using hup
    · simpa using hfree
    · simp [harb, State.reset]
  rw [if_neg (by omega)]
  cases hswept : tracksToSweep s with
  | nil =>
    obtain ⟨detail, hend⟩ := endSweep_of_none hs he
    have hbegin : beginSweep .startup s = endSweep { kind := .startup, toRead := [], read := 0, taken := [] } s := by
      simp [beginSweep, hswept]
    rw [hbegin, hend]
    refine ⟨by simp, ?_, ?_, fun h => by omega, fun _ => ⟨fun _ => ⟨?_, ?_, ?_⟩, by simp⟩⟩
    · exact ResetBut.raise (h.mono fun _ => .inl) detail (.inr (.inr ⟨rfl, by omega, by simp⟩))
    · simp [harb, State.reset]
    · simp
    · simp [harb, State.reset]
    · simp
  | cons first rest =>
    have hpos : 0 < s.store.size := by omega
    rw [beginSweep_of_tracks .startup hswept]
    refine ⟨by simp, ?_, ?_, fun h => by omega, fun _ => ⟨by simp, ?_⟩⟩
    · simpa using h.mono fun _ => Or.inl
    · simp [askStore, harb, State.reset, hpos]
    · intro first' rest' heq
      obtain ⟨rfl, rfl⟩ := List.cons.inj heq
      refine ⟨by simpa using hup, ?_, ?_⟩
      · simp [askStore, harb, State.reset, hpos]
      · simp [hfree]; exact ⟨rfl, rfl⟩

end Machine
end Sys2Proof
end

section
/-!
The full reset: the part's state right after power-on or the reset line (R10, R16, R177).
-/
namespace Sys2Proof
namespace Machine

/-! ### The changes of start-up -/

/-- A track's entry as start-up leaves it (R10). -/
def TrackEntry.atStart (e : TrackEntry) : TrackEntry := if e.status = .filling then e.interrupted else e

/-- A READY composition that names a track that is not READY. -/
def Composition.unready (m : Table TrackEntry) (c : Composition) : Bool := c.incomplete.isNone && c.tracks.any (notReady m)

/-- The changes of start-up: the catalogue's, the trim budget's and the show log's. -/
def startUpChanges (s : State) : State := startLog (testBudget false (unsettleCompositions (interruptFilling s)))

/-- The requesters of a write of start-up. -/
def StartWaiter (v : Waiter) : Prop :=
  (∃ k, v = .track k false none) ∨ (∃ n c, v = .composition n (.enter c none) false false) ∨ v = .budget ∨ v = .log

/-- The writes of start-up, from the tables before the changes to the state after them. -/
def StartWrite (s t : State) (w : Write) : Prop :=
  (∃ k e, s.catalogue.tracks.find k = some e ∧ e.status = .filling ∧ w = .track k (some e.interrupted)) ∨
  (∃ n c, s.catalogue.compositions.find n = some c ∧ c.unready t.catalogue.tracks = true ∧
    w = .composition n (some (unsettle t.catalogue.tracks c)) ∧
    t.catalogue.compositions.find n = some (unsettle t.catalogue.tracks c)) ∨
  (w = .budget t.keys.budget ∧ s.keys.budget.ended s.keys.clock = true) ∨
  (∃ r ∈ t.log.records, w = .log r ∧ s.nvm.log.find (r.sequence % 1024) ≠ some r)

section
variable (s : State)

theorem interruptFilling_fields :
    let t := interruptFilling s
    t.catalogue = { s.catalogue with tracks := t.catalogue.tracks } ∧ t.port = s.port ∧
    QueueGrows (fun w => ∃ p ∈ s.catalogue.tracks, p.2.status = .filling ∧ w = .track p.1 (some p.2.interrupted))
      (fun v => ∃ k, v = .track k false none) s t ∧
    (∀ p ∈ s.catalogue.tracks, p.2.status = .filling →
      Stands (.track p.1 (some p.2.interrupted)) t ∨ Waiter.track p.1 false none ∈ t.queue.waiters) := by
  obtain ⟨hcat, hport, hgrow, hall⟩ :=
    foldl_interruptEntry (s.catalogue.tracks.filter fun p => decide (p.2.status = .filling)) s
  rw [← interruptFilling_eq] at hcat hport hgrow hall
  refine ⟨by rw [hcat], hport, hgrow.mono ?_ fun v ⟨p, _, h⟩ => ⟨_, h⟩, fun p hp hf => hall p ?_⟩
  · rintro w ⟨p, hp, h⟩
    obtain ⟨hp, hf⟩ := List.mem_filter.1 hp
    exact ⟨p, hp, of_decide_eq_true hf, h⟩
  · exact List.mem_filter.2 ⟨hp, decide_eq_true hf⟩

theorem interruptFilling_find (h : s.catalogue.tracks.rising = true) (k : Nat) :
    (interruptFilling s).catalogue.tracks.find k = (s.catalogue.tracks.find k).map TrackEntry.atStart := by
  obtain ⟨hcat, -⟩ := foldl_interruptEntry (s.catalogue.tracks.filter fun p => decide (p.2.status = .filling)) s
  rw [interruptFilling_eq, hcat]
  dsimp only
  rw [Table.find_foldl_put _ (Table.rising_filter _ h), Table.find_filter _ h]
  cases s.catalogue.tracks.find k with
  | none => rfl
  | some e =>
    by_cases hf : e.status = .filling <;> simp [TrackEntry.atStart, hf, Option.filter]

end

/-- The compositions after the READY ones that name a track that is not READY have been changed (R10). -/
theorem unsettleCompositions_find {s : State} (hr : s.catalogue.compositions.rising = true) :
    let t := unsettleCompositions s
    let m := s.catalogue.tracks
    t.catalogue.tracks = m ∧
    (∀ n, s.catalogue.compositions.find n = none → t.catalogue.compositions.find n = none) ∧
    (∀ n c, s.catalogue.compositions.find n = some c →
      (c.unready m = false → t.catalogue.compositions.find n = some c) ∧
      (c.unready m = true →
        (t.catalogue.compositions.find n = some (unsettle m c) ∧ Stands (.composition n (some (unsettle m c))) t) ∨
        (t.catalogue.compositions.find n = some c ∧
          Waiter.composition n (.enter (unsettle m c) none) false false ∈ t.queue.waiters))) ∧
    QueueGrows (fun w => ∃ n c, s.catalogue.compositions.find n = some c ∧ c.unready m = true ∧
      w = .composition n (some (unsettle m c)) ∧ t.catalogue.compositions.find n = some (unsettle m c)) (fun _ => True) s t := by
  intro t m
  have ht : t = (s.catalogue.compositions.filter fun p => p.2.unready m).foldl (changeEntry (unsettle m)) s :=
    unsettleCompositions_eq s
  have hrise := Table.rising_filter (fun p : Nat × Composition => p.2.unready m) hr
  have hin := Table.find_filter (fun p : Nat × Composition => p.2.unready m) hr
  obtain ⟨-, -, htracks, -⟩ :=
    foldl_changeEntry_grows (unsettle m) (s.catalogue.compositions.filter fun p => p.2.unready m) s
  obtain ⟨hsame, hall, hgrow⟩ := foldl_changeEntry_find (unsettle m) hrise s
  rw [← ht] at htracks hsame hall hgrow
  refine ⟨htracks, fun n hn => ?_, fun n c hc => ⟨fun hu => ?_, fun hu => ?_⟩, hgrow.mono ?_ fun _ => id⟩
  · exact (hsame n (by rw [hin, hn]; rfl)).trans hn
  · exact (hsame n (by simp [hin, hc, hu, Option.filter])).trans hc
  · have hmem : (n, c) ∈ s.catalogue.compositions.filter fun p => p.2.unready m :=
      List.mem_filter.2 ⟨(Table.mem_iff_find hr n c).2 hc, hu⟩
    exact (hall _ hmem).imp_right fun ⟨h, hv⟩ => ⟨h.trans hc, hv⟩
  · rintro w ⟨⟨n, c⟩, hmem, hw, hheld⟩
    obtain ⟨hp, hu⟩ := List.mem_filter.1 hmem
    exact ⟨n, c, (Table.mem_iff_find hr n c).1 hp, hu, hw, hheld⟩

/-- What the changes of start-up leave alone, and whom they leave waiting. -/
theorem startUpChanges_fields {s : State} (hn : s.notices = Notices.reset) :
    let t := startUpChanges s
    t.port = s.port ∧ t.ingest = s.ingest ∧ t.log.release = none ∧ t.catalogue.extents = s.catalogue.extents ∧
    (s.catalogue.awaiting = [] → t.catalogue.awaiting = []) ∧ t.keys = { s.keys with budget := t.keys.budget } ∧
    QueueGrows (fun _ => True) StartWaiter s t ∧
    ResetBut (fun k => (k = 34 ∧ 960 ≤ t.log.uncollected) ∨ (k = 35 ∧ t.log.uncollected = 1024)) t.notices := by
  obtain ⟨hcat1, hport1, hgrow1, -⟩ := interruptFilling_fields s
  obtain ⟨hing, haw, -, hex, hgrow2⟩ := foldl_changeEntry_grows (unsettle (interruptFilling s).catalogue.tracks)
    ((interruptFilling s).catalogue.compositions.filter fun p =>
      p.2.incomplete.isNone && p.2.tracks.any (notReady (interruptFilling s).catalogue.tracks)) (interruptFilling s)
  rw [← unsettleCompositions_eq] at hing haw hex hgrow2
  obtain ⟨hcat3, hkeys, hgrow3, -⟩ := testBudget_cases (unsettleCompositions (interruptFilling s))
  obtain ⟨hport4, hrel, hgrow4, hnot⟩ :=
    startLog_fields (P := fun _ => False) (s := testBudget false (unsettleCompositions (interruptFilling s)))
      (by simpa [hn] using ResetBut.reset)
  unfold startUpChanges
  refine ⟨?_, ?_, hrel, ?_, fun h => ?_, ?_, ?_, hnot.mono fun k h => h.resolve_left id⟩
  · rw [hport4]; simpa using hport1
  · simpa using hing
  · simp only [startLog_frame, hcat3, hex]; rw [hcat1]
  · simp only [startLog_frame, hcat3]; exact haw (by rw [hcat1, h])
  · simpa using hkeys
  · exact (hgrow1.mono (fun _ _ => trivial) fun _ => .inl).trans
      ((hgrow2.mono (fun _ _ => trivial) fun _ h => .inr (.inl h)).trans
        ((hgrow3.mono (fun _ _ => trivial) fun _ h => .inr (.inr (.inl h))).trans
          (hgrow4.mono (fun _ _ => trivial) fun _ h => .inr (.inr (.inr h)))))

/-- The trim budget after the changes of start-up. -/
theorem startUpChanges_budget {s : State} (hn : s.notices = Notices.reset) :
    let t := startUpChanges s
    (s.keys.budget.ended s.keys.clock = false → t.keys.budget = s.keys.budget) ∧
    (s.keys.budget.ended s.keys.clock = true →
      (t.keys.budget = s.keys.budget.renew s.keys.clock ∧ Stands (.budget t.keys.budget) t) ∨
      (t.keys.budget = s.keys.budget ∧ Waiter.budget ∈ t.queue.waiters)) := by
  obtain ⟨-, -, -, hkeep, hend⟩ := testBudget_cases (unsettleCompositions (interruptFilling s))
  obtain ⟨-, -, hgrow, -⟩ :=
    startLog_fields (P := fun _ => False) (s := testBudget false (unsettleCompositions (interruptFilling s)))
      (by simpa [hn] using ResetBut.reset)
  simp only [unsettleCompositions_frame, interruptFilling_frame] at hkeep hend
  refine ⟨fun h => by simpa [startUpChanges] using hkeep h, fun h => ?_⟩
  simp only [startUpChanges, startLog_frame]
  exact (hend h).imp (fun ⟨hb, hw⟩ => ⟨hb, hw.grows hgrow⟩) fun ⟨hb, hv⟩ => ⟨hb, hgrow.mem_waiters hv⟩

/-- The tables and the writes after the changes of start-up (R10). -/
theorem startUpChanges_tables {s : State} (hn : s.notices = Notices.reset) (htr : s.catalogue.tracks.rising = true)
    (hcr : s.catalogue.compositions.rising = true) :
    let t := startUpChanges s
    (∀ k, t.catalogue.tracks.find k = (s.catalogue.tracks.find k).map TrackEntry.atStart) ∧
    (∀ k e, s.catalogue.tracks.find k = some e → e.status = .filling →
      Stands (.track k (some e.interrupted)) t ∨ Waiter.track k false none ∈ t.queue.waiters) ∧
    (∀ n, s.catalogue.compositions.find n = none → t.catalogue.compositions.find n = none) ∧
    (∀ n c, s.catalogue.compositions.find n = some c →
      (c.unready t.catalogue.tracks = false → t.catalogue.compositions.find n = some c) ∧
      (c.unready t.catalogue.tracks = true →
        (t.catalogue.compositions.find n = some (unsettle t.catalogue.tracks c) ∧
          Stands (.composition n (some (unsettle t.catalogue.tracks c))) t) ∨
        (t.catalogue.compositions.find n = some c ∧
          Waiter.composition n (.enter (unsettle t.catalogue.tracks c) none) false false ∈ t.queue.waiters))) ∧
    QueueGrows (StartWrite s t) (fun _ => True) s t := by
  obtain ⟨hcat1, -, hgrow1, hall1⟩ := interruptFilling_fields s
  have hcomp1 : (interruptFilling s).catalogue.compositions = s.catalogue.compositions := by rw [hcat1]
  obtain ⟨htracks2, hnone, hsome, hgrow2⟩ := unsettleCompositions_find (s := interruptFilling s) (by rw [hcomp1]; exact hcr)
  obtain ⟨-, -, hgrow3, -⟩ := testBudget_cases (unsettleCompositions (interruptFilling s))
  obtain ⟨-, -, hgrow4, -⟩ :=
    startLog_fields (P := fun _ => False) (s := testBudget false (unsettleCompositions (interruptFilling s)))
      (by simpa [hn] using ResetBut.reset)
  have ht : startLog (testBudget false (unsettleCompositions (interruptFilling s))) = startUpChanges s := rfl
  have hcat : (startUpChanges s).catalogue = (unsettleCompositions (interruptFilling s)).catalogue := by simp [startUpChanges]
  have hkeys : (testBudget false (unsettleCompositions (interruptFilling s))).keys = (startUpChanges s).keys := by
    simp [startUpChanges]
  have hm : (startUpChanges s).catalogue.tracks = (interruptFilling s).catalogue.tracks := by rw [hcat, htracks2]
  rw [ht] at hgrow4
  simp only [hkeys, testBudget_frame, unsettleCompositions_frame, interruptFilling_frame] at hgrow3 hgrow4
  generalize startUpChanges s = t at hcat hm hgrow3 hgrow4 ⊢
  have hgrow34 := (hgrow3.mono (fun _ => Or.inl) fun _ _ => trivial).trans
    (hgrow4.mono (fun _ => Or.inr) (V' := fun _ => True) fun _ _ => trivial)
  have hgrow24 := (hgrow2.mono (fun _ => Or.inl) fun _ => id).trans (hgrow34.mono (fun _ => Or.inr) fun _ => id)
  rw [hcomp1] at hnone hsome
  refine ⟨fun k => by rw [hm]; exact interruptFilling_find s htr k, fun k e he hf => ?_, fun n hn => ?_, fun n c hc => ?_, ?_⟩
  · exact (hall1 (k, e) ((Table.mem_iff_find htr k e).2 he) hf).imp (·.grows hgrow24) hgrow24.mem_waiters
  · rw [hcat]; exact hnone n hn
  · rw [hm, hcat]
    obtain ⟨hkeep, hchange⟩ := hsome n c hc
    exact ⟨hkeep, fun hu => (hchange hu).imp (fun ⟨h, hw⟩ => ⟨h, hw.grows hgrow34⟩) fun ⟨h, hv⟩ => ⟨h, hgrow34.mem_waiters hv⟩⟩
  · refine (hgrow1.mono ?_ fun _ _ => trivial).trans (hgrow24.mono ?_ fun _ => id)
    · rintro w ⟨⟨k, e⟩, hp, hf, hw⟩
      exact .inl ⟨k, e, (Table.mem_iff_find htr k e).1 hp, hf, hw⟩
    · rintro w (⟨n, c, hc, hu, hw, hheld⟩ | ⟨hw, hend⟩ | ⟨r, hr, hw, hne⟩)
      · exact .inr (.inl ⟨n, c, hcomp1 ▸ hc, hm ▸ hu, hm ▸ hw, by rw [hm, hcat]; exact hheld⟩)
      · exact .inr (.inr (.inl ⟨hw, hend⟩))
      · exact .inr (.inr (.inr ⟨r, hr, hw, hne⟩))

end Machine
end Sys2Proof
end

section
/-!
What a full reset leaves (R1, R7, R10, R48): the obligation.
-/
namespace Sys2Proof
namespace Machine

/-! ### The reset itself -/

/-- The part with every unit reset and its tables loaded, before start-up changes them. -/
def loadedAtReset (size ran : Nat) (landed : Bool) (s : State) : State := loadNvm (resetUnits size ran landed s)

theorem fullReset_eq (size ran : Nat) (landed : Bool) (s : State) :
    fullReset size ran landed s = beginStartUp (startUpChanges (loadedAtReset size ran landed s)) := rfl

/-- A store that is not being written keeps its blocks (R48). -/
theorem loadedAtReset_blocks (size ran : Nat) (landed : Bool) {s : State}
    (h : ∀ tr, s.arbiter.current = some tr → tr.request.writes = false) :
    (loadedAtReset size ran landed s).store.blocks = s.store.blocks := by
  have hflight : blocksInFlight s = (0, []) := by
    unfold blocksInFlight
    split
    · rfl
    · next tr htr => rw [h tr htr]; rfl
  show (abandonBlocks s.freeUses s.store (blocksInFlight s).1 (blocksInFlight s).2).blocks = _
  rw [hflight, abandonBlocks]

theorem loadedAtReset_nvm (size ran : Nat) (landed : Bool) (s : State) :
    (loadedAtReset size ran landed s).nvm = nvmAtReset landed s := rfl

/-- The volatile state right after a full reset, with the memory it has been loaded from. -/
theorem loadedAtReset_fields (size ran : Nat) (landed : Bool) (s : State) :
    let t := loadedAtReset size ran landed s
    t.pending = s.pending ∧ t.store.reported = size ∧ t.store.size = sizeTaken size ∧
    t.ingest = Ingest.reset ∧ t.cache = Cache.reset ∧ t.seq = Sequencer.reset ∧ t.time = Timeline.reset ∧
    t.frames = FrameSide.reset ∧ t.sound = Sound.reset ∧ t.subs = Subtitles.reset ∧
    t.link = { LinkSide.reset with paired := t.nvm.paired } ∧ t.lines = s.lines.map (fun l => Line.reset l.wire) ∧
    t.port = ControlPort.reset ∧ t.notices = Notices.reset ∧ t.queue = State.reset.queue ∧
    t.keys = { Keys.reset with
      clock := min max32 (s.keys.clock + ran), budget := t.nvm.budget, grants := t.nvm.grants } ∧
    t.catalogue = { tracks := t.nvm.tracks, extents := [], compositions := t.nvm.compositions, awaiting := [] } ∧
    t.arbiter = State.reset.arbiter ∧ t.free = State.reset.free ∧ t.startUp = true :=
  ⟨rfl, rfl, rfl, rfl, rfl, rfl, rfl, rfl, rfl, rfl, rfl, rfl, rfl, rfl, rfl, rfl, rfl, rfl, rfl, rfl⟩

/-- The units that the changes of start-up leave alone. -/
theorem startUpChanges_frame (s : State) :
    let t := startUpChanges s
    t.pending = s.pending ∧ t.store = s.store ∧ t.nvm = s.nvm ∧ t.cache = s.cache ∧ t.seq = s.seq ∧ t.time = s.time ∧
    t.frames = s.frames ∧ t.sound = s.sound ∧ t.subs = s.subs ∧ t.link = s.link ∧ t.lines = s.lines ∧
    t.arbiter = s.arbiter ∧ t.free = s.free ∧ t.startUp = s.startUp := by
  simp [startUpChanges]

/-! ### What the changes come to, by the tables that nonvolatile memory holds -/

/-- An entry names its tracks alike for two tables that hold the same ids. -/
theorem unsettle_congr {m m' : Table TrackEntry} (h : ∀ k, (m.find k).isSome = (m'.find k).isSome) (c : Composition) :
    unsettle m c = unsettle m' c := by
  have hnone : ∀ k, (m.find k).isNone = (m'.find k).isNone := fun k => by
    rw [← Option.not_isSome, ← Option.not_isSome, h]
  have hkeep : keepTrack m = keepTrack m' := by funext x; simp only [keepTrack, h]
  simp only [unsettle, hnone, hkeep]

theorem Composition.unready_iff (m : Table TrackEntry) (c : Composition) : c.unready m = true ↔
    c.incomplete = none ∧ ∃ k ∈ c.tracks, (m.find k).map (·.status) ≠ some .ready := by
  have hk : ∀ k, notReady m k = true ↔ (m.find k).map (·.status) ≠ some .ready := by
    intro k; unfold notReady; cases m.find k <;> simp
  simp only [Composition.unready, Bool.and_eq_true, Option.isNone_iff_eq_none, List.any_eq_true, hk]

theorem sizeTaken_cases (size : Nat) :
    (size < 4096 ∧ sizeTaken size = 0) ∨ (4096 ≤ size ∧ sizeTaken size = min size 16777216 ∧ 512 < sizeTaken size) := by
  unfold sizeTaken
  split
  · exact .inl ⟨by assumption, rfl⟩
  · exact .inr ⟨by omega, rfl, by omega⟩

theorem Keys.reset_with_budget {k : Keys} {clock : Nat} {budget : Budget} {grants : Table Grant} (b : Budget)
    (h : k = { Keys.reset with clock := clock, budget := budget, grants := grants }) :
    { k with budget := b } = { Keys.reset with clock := clock, budget := b, grants := grants } := by
  subst h; rfl

/-- The end of a budget period, in seconds. -/
theorem Budget.ended_iff_seconds (b : Budget) (clock : Nat) : b.ended clock = true ↔ b.start + 31536000 ≤ clock := by
  rw [Budget.ended_iff, budgetPeriod]

theorem isSome_of_atStart {m m' : Table TrackEntry} (h : ∀ k, m'.find k = (m.find k).map TrackEntry.atStart) (k : Nat) :
    (m'.find k).isSome = (m.find k).isSome := by rw [h, Option.isSome_map]

/-- A write of start-up carries what the tables then hold, and nonvolatile memory held something else. -/
theorem StartWrite.of_loaded {u v : State} {w : Write} (h : StartWrite u v w)
    (htracks : u.catalogue.tracks = u.nvm.tracks) (hcomps : u.catalogue.compositions = u.nvm.compositions)
    (hbudget : u.keys.budget = u.nvm.budget)
    (hfind : ∀ k, v.catalogue.tracks.find k = (u.nvm.tracks.find k).map TrackEntry.atStart) :
    (∃ k e, w = .track k (some e) ∧ v.catalogue.tracks.find k = some e ∧
      (u.nvm.tracks.find k).map (·.status) = some .filling ∧ e.status = .damaged .interrupted) ∨
    (∃ n c, w = .composition n (some c) ∧ v.catalogue.compositions.find n = some c ∧
      (u.nvm.compositions.find n).map (·.incomplete) = some none ∧ c.incomplete ≠ none) ∨
    (w = .budget v.keys.budget ∧ u.nvm.budget.start + 31536000 ≤ u.keys.clock) ∨
    (∃ r ∈ v.log.records, w = .log r ∧ u.nvm.log.find (r.sequence % 1024) ≠ some r) := by
  rcases h with ⟨k, e, he, hf, hw⟩ | ⟨n, c, hc, hu, hw, hheld⟩ | ⟨hw, hend⟩ | hlog
  · rw [htracks] at he
    exact .inl ⟨k, e.interrupted, hw, by rw [hfind, he, Option.map_some, TrackEntry.atStart, if_pos hf],
      by rw [he, Option.map_some, hf], rfl⟩
  · rw [hcomps] at hc
    have hready := ((Composition.unready_iff _ c).1 hu).1
    exact .inr (.inl ⟨n, _, hw, hheld, by rw [hc, Option.map_some, hready], by simp [unsettle]⟩)
  · exact .inr (.inr (.inl ⟨hw, hbudget ▸ (Budget.ended_iff_seconds _ _).1 hend⟩))
  · exact .inr (.inr (.inr hlog))

/-- Settles O18: the reset's own values, the changes of start-up to the tables it loads, the beginning of the sweep, and the
notice that the outgoing direction may start. -/
theorem fullResetBeginsStartUp : Obligations.FullResetBeginsStartUp := by
  unfold Obligations.FullResetBeginsStartUp
  intro size ran landed s
  refine ⟨settle (fullReset size ran landed s), rfl, ?_⟩
  have hlen := fullReset_writes size ran landed s
  have hblocks := loadedAtReset_blocks size ran landed (s := s)
  have hnvm := loadedAtReset_nvm size ran landed s
  obtain ⟨hpend, hrep, hsize, hing, hcache, hseq, htime, hframes, hsound, hsubs, hlink, hlines, hport, hnot, hqueue, hkeys,
    hcat, harb, hfree, hup⟩ := loadedAtReset_fields size ran landed s
  rw [fullReset_eq] at hlen ⊢
  generalize loadedAtReset size ran landed s = u at *
  obtain ⟨fpend, fstore, fnvm, fcache, fseq, ftime, fframes, fsound, fsubs, flink, flines, farb, ffree, fup⟩ :=
    startUpChanges_frame u
  obtain ⟨cport, cing, crel, cext, caw, ckeys, cgrow, cnot⟩ := startUpChanges_fields hnot
  have cbudget := startUpChanges_budget hnot
  have ctables := fun htr hcr => startUpChanges_tables hnot (s := u) (by rw [hcat]; exact htr) (by rw [hcat]; exact hcr)
  generalize startUpChanges u = v at *
  obtain ⟨bcat, bnot, barb, bzero, bsize⟩ := beginStartUp_fields (farb.trans harb) (ffree.trans hfree) (fup.trans hup)
    (cext.trans (by rw [hcat])) (by
      rw [fstore, hsize]
      rcases sizeTaken_cases size with ⟨-, h⟩ | ⟨-, -, h⟩
      · exact .inl h
      · exact .inr h) cnot
  obtain ⟨bpend, bstore, bnvm, bqueue, bing, bcache, bkeys, bseq, btime, bframes, blink, bsound, bsubs, blog, blines, bport, -⟩ :=
    beginStartUp_frame v
  generalize beginStartUp v = x at *
  obtain ⟨snot, sport, ssend⟩ := settle_resetBut (bport.trans (cport.trans hport)) bnot
  simp only [settle_frame]
  generalize (settle x).notices = n at *
  generalize (settle x).port = p at *
  rw [bnvm, fnvm]
  refine ⟨?_, ?_, ?_, ?_, ?_, ?_, ?_, ?_, ?_, ?_, ?_, ?_, ?_, ?_, sport, ssend, snot.levels, snot.mask, ?_, ?_⟩
  · rw [bpend, fpend, hpend]
  · rw [hnvm, nvmAtReset]; cases s.queue.writes <;> rfl
  · rw [bstore, fstore, hrep]
  · rw [bstore, fstore, hsize, sizeTaken]
  · intro h; rw [bstore, fstore, hblocks h]
  · rw [bing, cing, hing]
  · rw [bcache, fcache, hcache]
  · rw [bseq, fseq, hseq]
  · rw [btime, ftime, htime]
  · rw [bframes, fframes, hframes]
  · rw [bsound, fsound, hsound]
  · rw [bsubs, fsubs, hsubs]
  · rw [blink, flink, hlink]
  · rw [blines, flines, hlines]
  · intro k c hc
    obtain ⟨he, h⟩ := snot.causes k c hc
    rw [bstore, fstore, hsize] at *
    refine ⟨he, ?_⟩
    rw [blog]
    rcases h with ((h | h) | ⟨h, h0⟩ | ⟨h, h0, hs⟩) | h
    · exact .inr (.inr (.inl h))
    · exact .inr (.inr (.inr (.inl h)))
    · exact .inl ⟨h, (sizeTaken_cases size).resolve_right (by omega) |>.1⟩
    · exact .inr (.inl ⟨h, (sizeTaken_cases size).resolve_left (by omega) |>.1, hs⟩)
    · exact .inr (.inr (.inr (.inr h)))
  have hgrants : x.keys = { Keys.reset with
      clock := min max32 (s.keys.clock + ran), budget := x.keys.budget, grants := u.nvm.grants } := by
    rw [bkeys]; exact ckeys.trans (Keys.reset_with_budget _ hkeys)
  have hstart : u.keys.budget = u.nvm.budget := by rw [hkeys]
  have hclock : x.keys.clock = u.keys.clock := by rw [bkeys, ckeys]
  have hempty : u.queue.writes = [] ∧ u.queue.waiters = [] ∧ u.queue.faults = 0 := by rw [hqueue]; exact ⟨rfl, rfl, rfl⟩
  refine ⟨?_, ?_, ?_, ?_, hgrants, ?_, ?_, ?_, ?_, ?_, ?_, ?_, ?_, ?_, ?_, ?_⟩
  · rw [barb]; rfl
  · rw [barb]; rfl
  · rw [barb]; rfl
  · rw [barb]; rfl
  · intro h
    rw [hclock, ← hstart] at h
    rw [bkeys, ← hstart]
    exact cbudget.1 (Bool.eq_false_iff.2 fun he => absurd ((Budget.ended_iff_seconds _ _).1 he) (Nat.not_le.2 h))
  · intro h
    rw [hclock, ← hstart] at h
    rw [hclock, bqueue, bkeys, ← hstart]
    have hend := (Budget.ended_iff_seconds _ _).2 h
    refine (cbudget.2 hend).imp_left fun ⟨hb, hw⟩ => ⟨hb.trans ?_, hw⟩
    rw [Budget.renew_of_ended hend, budgetPeriod]
  · rw [bcat, cext, hcat]
  · rw [bcat]; exact caw (by rw [hcat])
  · rw [blog]; exact crel
  · exact hlen
  · rw [bqueue, cgrow.faults]; exact hempty.2.2
  · intro w hw
    obtain ⟨l, hl, hall⟩ := cgrow.waiters
    rw [bqueue, hl, hempty.2.1, List.nil_append] at hw
    exact hall w hw
  · intro htr hcr
    obtain ⟨hfind, hfill, hnone, hsome, hgrow⟩ := ctables htr hcr
    rw [bcat, bqueue, hclock, bkeys, blog]
    have hfind' : ∀ k, v.catalogue.tracks.find k = (u.nvm.tracks.find k).map TrackEntry.atStart := by rw [hcat] at hfind; exact hfind
    have hsettle := unsettle_congr (isSome_of_atStart hfind')
    rw [hcat] at hfill hnone hsome
    refine ⟨fun k hk => by rw [hfind', hk]; rfl, fun k e he => ⟨by rw [hfind', he]; rfl, hfill k e he⟩, hnone, fun n c hc => ?_, ?_⟩
    · obtain ⟨hkeep, hchange⟩ := hsome n c hc
      rw [hsettle] at hchange
      exact ⟨fun hu => hkeep (Bool.eq_false_iff.2 fun h => hu ((Composition.unready_iff _ c).1 h)),
        fun hu => hchange ((Composition.unready_iff _ c).2 hu)⟩
    · intro w hw
      obtain ⟨l, hl, hall⟩ := hgrow.writes
      rw [hl, hempty.1, List.nil_append] at hw
      obtain ⟨hcheck, h⟩ := hall w hw
      exact ⟨hcheck, h.of_loaded (by rw [hcat]) (by rw [hcat]) hstart hfind'⟩
  · intro h
    have h0 := (sizeTaken_cases size).resolve_right (by omega)
    exact bzero (by rw [fstore, hsize, h0.2])
  · intro h
    obtain ⟨-, hmin, h512⟩ := (sizeTaken_cases size).resolve_left (by omega)
    have hb := bsize (by rw [fstore, hsize]; exact h512)
    rw [fstore, hsize, hmin] at hb
    rw [bcat]
    exact hb

end Machine
end Sys2Proof
end

section
/-!
Segments as the ingest engine takes them (R27, R30 to R32).
-/
namespace Sys2Proof
namespace Machine

/-! ### A segment reaches its judgement -/

/-- The engine with a segment in its receive buffer (R27). -/
def segmentIn (g : Segment) (s : State) : State := updateIngest (fun i => { i with received := some g, idleCycles := 0 }) s

theorem exec_segmentTaken_idle {g : Segment} {s : State} (h : s.ingest.state = .idle) :
    exec (.segmentTaken g) s =
      finish (updateIngest (fun i => { i with idleForeign := bump max32 i.idleForeign }) s) := by
  show finish _ = _
  rw [if_pos h]

/-- With a package open and the port not held a segment is judged at once. -/
theorem exec_segmentTaken {g : Segment} {s : State} (h : s.ingest.state ≠ .idle) (hport : s.portHeld = false) :
    exec (.segmentTaken g) s = finish (actOnSegment g (segmentIn g s)) := by
  show finish _ = _
  rw [if_neg h, hport]
  rfl

section
variable {g : Segment} {s : State} {package : Nat} {mode : WriteMode}

theorem actOnSegment_foreign (hpkg : s.ingest.package = some (package, mode)) (h : g.package ≠ package) :
    actOnSegment g s = refuseSegment .foreign s := by simp [actOnSegment, hpkg, h]

theorem actOnSegment_long (hpkg : s.ingest.package = some (package, mode)) (h : g.package = package)
    (hlen : Config.blockBytes < g.length) : actOnSegment g s = refuseSegment .malformed s := by
  simp [actOnSegment, hpkg, h, hlen]

/-- A segment of the open package and of a lawful length goes by the slot that has its track number. -/
theorem actOnSegment_slot {n : Nat} {slot : TrackSlot} (hpkg : s.ingest.package = some (package, mode))
    (h : g.package = package) (hlen : g.length ≤ Config.blockBytes)
    (hfind : findSlot (fun x => decide (x.number = g.track)) s.ingest.slots = some (n, slot)) :
    (slot.mode = .filling → actOnSegment g s = judgeData n slot g s) ∧
    (slot.mode = .held →
      actOnSegment g s = dropSegment (if g.index = slot.length then setSlot n none s else s)) ∧
    (slot.mode = .damaged → actOnSegment g s = dropSegment s) := by
  refine ⟨fun hm => ?_, fun hm => ?_, fun hm => ?_⟩ <;> simp [actOnSegment, hpkg, h, Nat.not_lt.2 hlen, hfind, hm]

theorem actOnSegment_noSlot (hpkg : s.ingest.package = some (package, mode)) (h : g.package = package)
    (hlen : g.length ≤ Config.blockBytes)
    (hfind : findSlot (fun x => decide (x.number = g.track)) s.ingest.slots = none) :
    actOnSegment g s = if g.index = 0 then judgeHeader g s else refuseSegment .noTrack s := by
  simp [actOnSegment, hpkg, h, Nat.not_lt.2 hlen, hfind]
end

/-! ### The judgement of a data segment, check by check -/

section
variable {n : Nat} {slot : TrackSlot} {g : Segment} {s : State}

theorem judgeData_beyond (h : slot.length < g.index) : judgeData n slot g s = refuseSegment .beyond s := if_pos h

theorem judgeData_duplicate (hle : g.index ≤ slot.length) (h : g.index + 1 = slot.next) :
    judgeData n slot g s = countIngest (fun c => { c with duplicates := bump max32 c.duplicates }) (clearReceived s) := by
  rw [judgeData, if_neg (Nat.not_lt.2 hle), if_neg (by omega), if_pos h]

theorem judgeData_stale (hle : g.index ≤ slot.length) (h : g.index + 1 < slot.next) :
    judgeData n slot g s = refuseSegment .stale s := by
  rw [judgeData, if_neg (Nat.not_lt.2 hle), if_neg (by omega), if_neg (by omega), if_pos (by omega)]

theorem judgeData_gap (hle : g.index ≤ slot.length) (h : slot.next < g.index) :
    judgeData n slot g s = dropSegment (damageTrack n slot .gap none s) := by
  rw [judgeData, if_neg (Nat.not_lt.2 hle), if_neg (by omega), if_neg (by omega), if_neg (by omega)]

/-- The segment expected next is of the length its place asks for, or it is refused (R30). -/
theorem judgeData_next_malformed (hle : g.index ≤ slot.length) (h : g.index = slot.next)
    (hwrong : if g.index < slot.length then g.length ≠ Config.blockBytes else g.length = 0) :
    judgeData n slot g s = refuseSegment .malformed s := by
  rw [judgeData, if_neg (Nat.not_lt.2 hle), if_pos h]
  refine if_pos fun hright => ?_
  split at hwrong
  · rename_i hlt; rw [if_pos hlt] at hright; exact hwrong hright
  · rename_i hlt; rw [if_neg hlt] at hright; omega

variable (hle : g.index ≤ slot.length) (h : g.index = slot.next) (hlen : g.length ≤ Config.blockBytes)
  (hright : if g.index < slot.length then g.length = Config.blockBytes else 1 ≤ g.length)
include hle h hlen hright

/-- One of the right length goes by its check (R30, R32). -/
theorem judgeData_next : judgeData n slot g s =
    if payloadCheck g.payload ≠ g.check then dropSegment (damageTrack n slot .check none s)
    else if isDescription slot.track s && (parseDescription g.payload g.length).isNone then
      dropSegment (damageTrack n slot .check (some .content) s)
    else acceptData n slot g s := by
  rw [judgeData, if_neg (Nat.not_lt.2 hle), if_pos h]
  refine if_neg (not_not_intro ?_)
  split
  · rename_i hlt; rwa [if_pos hlt] at hright
  · rename_i hlt; rw [if_neg hlt] at hright; exact ⟨hright, hlen⟩

theorem judgeData_badCheck (hcheck : payloadCheck g.payload ≠ g.check) :
    judgeData n slot g s = dropSegment (damageTrack n slot .check none s) := by
  rw [judgeData_next hle h hlen hright, if_pos hcheck]

theorem judgeData_accepts (hcheck : payloadCheck g.payload = g.check) (hdesc : isDescription slot.track s = false) :
    judgeData n slot g s = acceptData n slot g s := by
  rw [judgeData_next hle h hlen hright, if_neg (not_not_intro hcheck), hdesc]
  rfl
end

/-! ### The judgement of a header, check by check -/

section
variable {g : Segment} {s : State}

theorem judgeHeader_late (h : s.ingest.state = .closing) : judgeHeader g s = refuseSegment .late s := if_pos h

theorem judgeHeader_badCheck (h : s.ingest.state ≠ .closing) (hcheck : payloadCheck g.payload ≠ g.check) :
    judgeHeader g s = refuseSegment .check s := by
  rw [judgeHeader, if_neg h, if_pos hcheck]
end

/-! ### A track damaged by a segment -/

@[simp] theorem dropSegment_ingest (s : State) : (dropSegment s).ingest = { s.ingest with
    received := none, counters := { s.ingest.counters with dropped := bump max32 s.ingest.counters.dropped } } := rfl

/-- A track made DAMAGED while nothing of it waits to be written and the write queue has room (R32), whatever fills the
cache holds. -/
theorem damageTrack_of_free_writer (n : Nat) (slot : TrackSlot) (reason : DamageReason) (content : Option ContentCode)
    {e : TrackEntry} {s : State} (he : s.catalogue.tracks.find slot.track = some e) (hg : s.ingest.gather = none)
    (hwr : s.ingest.writing = none) (hw : s.queue.writes.length < 8) (hr : s.queue.waiters = []) :
    let u := damageTrack n slot reason content s
    u.ingest = { s.ingest with
      slots := replaceAt s.ingest.slots n (some { slot with mode := .damaged })
      counters := { s.ingest.counters with damaged := bump max32 s.ingest.counters.damaged } } ∧
    u.catalogue = { s.catalogue with
      tracks := s.catalogue.tracks.put slot.track { e with status := .damaged reason } } ∧
    u.queue = { s.queue with writes := s.queue.writes ++
      [{ write := .track slot.track (some { e with status := .damaged reason }), forCheck := false }] } := by
  have hdiscard : ∀ v : State, v.ingest.gather = none → v.ingest.writing = none → discardWrites slot.track v = v :=
    fun v hg hw => by simp [discardWrites, hg, hw]
  simp only [damageTrack, he]
  rw [hdiscard _ (by simpa [setSlot] using hg) (by simpa [setSlot] using hwr),
    queueTrack_of_room (hasRoom_of (by simpa) (by simpa))]
  simp [reportDamage, pushTrack, countIngest, setSlot, Table.set]

/-! ### A block taken -/

/-- A request has been made: it is the current transfer, or waits, or is held back by its client (R43, R42). -/
theorem askStore_made (r : StoreRequest) (s : State) :
    (askStore r s).arbiter.current = some (Transfer.begin r) ∨ r ∈ (askStore r s).arbiter.waiting ∨
      (askStore r s).arbiter.held = some r := by
  unfold askStore
  dsimp only
  split
  · exact .inl rfl
  · split
    · exact .inr (.inr rfl)
    · exact .inr (.inl (by simp))

/-- The state with a block joined to a gather, before the gather is closed if it is full (R31, R34). -/
def blockJoined (n : Nat) (slot : TrackSlot) (g : Gather) (s : State) : State :=
  { s with ingest := { s.ingest with
      received := none
      slots := replaceAt s.ingest.slots n (some { slot with next := slot.next + 1 })
      counters := { s.ingest.counters with written := bump max32 s.ingest.counters.written }
      gather := some g } }

/-- The open gather becomes one store write (R34). -/
theorem closeGather_of_open {g : Gather} {s : State} (h : s.ingest.gather = some g) :
    closeGather s =
      askStore { client := .ingest, writes := true, first := g.store, count := g.blocks.length, track := some g.track }
        { s with ingest := { s.ingest with gather := none, idleCycles := 0, writing := some (.data g false) } } := by
  simp [closeGather, h, askIngest, updateIngest]

theorem takeBlock_eq (n : Nat) (slot : TrackSlot) (g : Gather) (s : State) :
    takeBlock n slot g s =
      if gatherFull g ((s.catalogue.extents.find slot.track).getD []) then closeGather (blockJoined n slot g s)
      else blockJoined n slot g s := rfl

/-- A block begins a gather when none is open and the writer is free (R34). -/
theorem acceptData_begins {n : Nat} {slot : TrackSlot} {g : Segment} {s : State} {i : Nat} {x : Extent}
    (hg : s.ingest.gather = none) (hwr : s.ingest.writing = none)
    (hx : extentAt ((s.catalogue.extents.find slot.track).getD []) (slot.next - 1) = some (i, x)) :
    acceptData n slot g s = takeBlock n slot
      { track := slot.track, block := slot.next - 1, store := x.store + (slot.next - 1 - x.block), blocks := [g.payload]
        room := s.gatherRoom } s := by
  simp [acceptData, hg, hwr, hx]

/-- The block that follows those of the open gather joins it while it has room (R34). -/
theorem acceptData_joins {n : Nat} {slot : TrackSlot} {g : Segment} {s : State} {h : Gather}
    (hg : s.ingest.gather = some h) (htrack : h.track = slot.track) (hblock : slot.next - 1 = h.block + h.blocks.length)
    (hroom : h.blocks.length < h.room) :
    acceptData n slot g s = takeBlock n slot { h with blocks := h.blocks ++ [g.payload] } s := by
  simp [acceptData, hg, htrack, hblock, hroom]

section
variable {n : Nat} {slot : TrackSlot} {gather : Gather} {s : State}

/-- What a block taken does to the engine as its segment comes in: the gather stays open, or is full and becomes a store
write. -/
theorem takeBlock_ingest (hidle : s.ingest.idleCycles = 0) : (takeBlock n slot gather s).ingest =
    let full := gatherFull gather ((s.catalogue.extents.find slot.track).getD [])
    { s.ingest with
      received := none
      slots := replaceAt s.ingest.slots n (some { slot with next := slot.next + 1 })
      counters := { s.ingest.counters with written := bump max32 s.ingest.counters.written }
      gather := if full then none else some gather
      writing := if full then some (.data gather false) else s.ingest.writing } := by
  rw [takeBlock_eq]
  split
  · rename_i hfull
    rw [closeGather_of_open (g := gather) rfl]
    simp [hfull, blockJoined, hidle]
  · rename_i hopen
    simp [hopen, blockJoined]

/-- The store write of a gather that a block has filled is asked for. -/
theorem takeBlock_asks (hfull : gatherFull gather ((s.catalogue.extents.find slot.track).getD []) = true) :
    ∃ r : StoreRequest, r.client = .ingest ∧ r.writes = true ∧ r.first = gather.store ∧ r.count = gather.blocks.length ∧
      ((takeBlock n slot gather s).arbiter.current = some (Transfer.begin r) ∨
        r ∈ (takeBlock n slot gather s).arbiter.waiting ∨ (takeBlock n slot gather s).arbiter.held = some r) := by
  rw [takeBlock_eq, if_pos hfull, closeGather_of_open (g := gather) rfl]
  exact ⟨_, rfl, rfl, rfl, rfl, askStore_made _ _⟩
end

/-! ### The statement's cases -/

section
variable {g : Segment} {s : State} {package : Nat} {mode : WriteMode} (hstate : s.ingest.state ≠ .idle)
  (hport : s.portHeld = false) (hpkg : s.ingest.package = some (package, mode))
include hstate hport hpkg

/-- What a segment of the open package and of a lawful length does, by the slot with its track number. -/
theorem exec_segmentTaken_slot {n : Nat} {slot : TrackSlot} (h : g.package = package)
    (hlen : g.length ≤ Config.blockBytes)
    (hfind : findSlot (fun x => decide (x.number = g.track)) s.ingest.slots = some (n, slot)) :
    (slot.mode = .filling → exec (.segmentTaken g) s = finish (judgeData n slot g (segmentIn g s))) ∧
    (slot.mode = .held → exec (.segmentTaken g) s =
      finish (dropSegment (if g.index = slot.length then setSlot n none (segmentIn g s) else segmentIn g s))) ∧
    (slot.mode = .damaged → exec (.segmentTaken g) s = finish (dropSegment (segmentIn g s))) := by
  rw [exec_segmentTaken hstate hport]
  obtain ⟨hfilling, hheld, hdamaged⟩ := actOnSegment_slot (s := segmentIn g s) hpkg h hlen hfind
  exact ⟨fun hm => congrArg finish (hfilling hm), fun hm => congrArg finish (hheld hm),
    fun hm => congrArg finish (hdamaged hm)⟩

theorem exec_segmentTaken_noSlot (h : g.package = package) (hlen : g.length ≤ Config.blockBytes)
    (hfind : findSlot (fun x => decide (x.number = g.track)) s.ingest.slots = none) :
    exec (.segmentTaken g) s =
      finish (if g.index = 0 then judgeHeader g (segmentIn g s) else refuseSegment .noTrack (segmentIn g s)) := by
  rw [exec_segmentTaken hstate hport, actOnSegment_noSlot (s := segmentIn g s) hpkg h hlen hfind]
end

/-- A FILLING track damaged by a segment, which is dropped (R32). -/
theorem finish_damaged {g : Segment} {s : State} {n : Nat} {slot : TrackSlot} {e : TrackEntry} (reason : DamageReason)
    (he : s.catalogue.tracks.find slot.track = some e) (hg : s.ingest.gather = none) (hwr : s.ingest.writing = none)
    (hw : s.queue.writes.length < 8) (hr : s.queue.waiters = []) :
    ∃ t, finish (dropSegment (damageTrack n slot reason none (segmentIn g s))) = .next t ∧
      t.catalogue = { s.catalogue with
        tracks := s.catalogue.tracks.put slot.track { e with status := .damaged reason } } ∧
      t.ingest = { s.ingest with
        received := none, idleCycles := 0
        slots := replaceAt s.ingest.slots n (some { slot with mode := .damaged })
        counters := { s.ingest.counters with
          dropped := bump max32 s.ingest.counters.dropped
          damaged := bump max32 s.ingest.counters.damaged } } ∧
      t.queue = { s.queue with writes := s.queue.writes ++
        [{ write := .track slot.track (some { e with status := .damaged reason }), forCheck := false }] } ∧
      t.store = s.store ∧ t.free = s.free := by
  obtain ⟨hing, hcat, hque⟩ := damageTrack_of_free_writer (s := segmentIn g s) n slot reason none he hg hwr hw hr
  refine ⟨_, rfl, ?_⟩
  simp only [settle_frame, dropSegment_frame, damageTrack_frame, hcat, hque, dropSegment_ingest, hing]
  exact ⟨rfl, rfl, rfl, rfl, rfl⟩

/-- A block taken, with its segment gone from the receive buffer. -/
theorem finish_taken {g : Segment} {s : State} (n : Nat) (slot : TrackSlot) (gather : Gather) :
    let full := gatherFull gather ((s.catalogue.extents.find slot.track).getD [])
    ∃ t, finish (takeBlock n slot gather (segmentIn g s)) = .next t ∧
      t.ingest = { s.ingest with
        received := none, idleCycles := 0
        slots := replaceAt s.ingest.slots n (some { slot with next := slot.next + 1 })
        counters := { s.ingest.counters with written := bump max32 s.ingest.counters.written }
        gather := if full then none else some gather
        writing := if full then some (.data gather false) else s.ingest.writing } ∧
      (full = true → ∃ r : StoreRequest, r.client = .ingest ∧ r.writes = true ∧
        r.first = gather.store ∧ r.count = gather.blocks.length ∧
        (t.arbiter.current = some (Transfer.begin r) ∨ r ∈ t.arbiter.waiting ∨ t.arbiter.held = some r)) ∧
      t.catalogue = s.catalogue ∧ t.queue = s.queue ∧ t.store = s.store := by
  refine ⟨_, rfl, ?_, fun hfull => ?_, ?_⟩
  · simp only [settle_frame]
    exact takeBlock_ingest (s := segmentIn g s) rfl
  · simp only [settle_frame]
    exact takeBlock_asks (s := segmentIn g s) hfull
  · simp [segmentIn]

/-- Settles O25: the judgement of R27, and for a FILLING slot the checks of R30 to R32, each in its order. -/
theorem segmentsAreJudgedInOrder : Obligations.SegmentsAreJudgedInOrder := by
  intro g s
  refine ⟨fun hidle => exec_segmentTaken_idle hidle, fun package mode hstate hport hpkg => ?_⟩
  intro counted refused
  refine ⟨fun h => ?_, fun h hlong => ?_, fun h hlen => ⟨fun n slot hfind => ?_, fun hfind => ?_⟩⟩
  · exact (exec_segmentTaken hstate hport).trans (congrArg finish (actOnSegment_foreign (s := segmentIn g s) hpkg h))
  · exact (exec_segmentTaken hstate hport).trans (congrArg finish (actOnSegment_long (s := segmentIn g s) hpkg h hlong))
  · obtain ⟨hfilling, hheld, hdamaged⟩ := exec_segmentTaken_slot hstate hport hpkg h hlen hfind
    refine ⟨hdamaged, fun hm hi => ?_, fun hm => ?_⟩
    · rw [hheld hm, if_neg hi]
      rfl
    · rw [hfilling hm]
      refine ⟨fun hi => ?_, fun hle hi => ?_, fun hle hi => ?_, fun hle hi hwrong => ?_,
        fun e hle he hg hwr hw hr => ?_, fun hle hi hright hcheck hdesc => ?_⟩
      · exact congrArg finish (judgeData_beyond hi)
      · exact congrArg finish (judgeData_duplicate hle hi)
      · exact congrArg finish (judgeData_stale hle hi)
      · exact congrArg finish (judgeData_next_malformed hle hi hwrong)
      · refine ⟨fun hi => ?_, fun hi hright hcheck => ?_⟩
        · rw [judgeData_gap hle hi]
          exact finish_damaged .gap he hg hwr hw hr
        · rw [judgeData_badCheck hle hi hlen hright hcheck]
          exact finish_damaged .check he hg hwr hw hr
      · rw [judgeData_accepts (s := segmentIn g s) hle hi hlen hright hcheck hdesc]
        refine ⟨fun i x hg hwr hx => ?_, fun k hg htrack hblock hroom => ?_⟩
        · rw [acceptData_begins (s := segmentIn g s) hg hwr hx]
          exact finish_taken n slot _
        · rw [acceptData_joins (s := segmentIn g s) hg htrack hblock hroom]
          exact finish_taken n slot _
  · rw [exec_segmentTaken_noSlot hstate hport hpkg h hlen hfind]
    refine ⟨fun hi => ?_, fun hi hclosing => ?_, fun hi hclosing hcheck => ?_⟩
    · rw [if_neg hi]
      rfl
    · rw [if_pos hi, judgeHeader_late (s := segmentIn g s) hclosing]
      rfl
    · rw [if_pos hi, judgeHeader_badCheck (s := segmentIn g s) hclosing hcheck]
      rfl

end Machine
end Sys2Proof
end

section
/-!
Track headers and the slots they open (R27 to R29).
-/
namespace Sys2Proof
namespace Machine

/-! ### A header that opens no new track -/

section
variable {g : Segment} {s : State} (hstate : s.ingest.state ≠ .closing) (hcheck : payloadCheck g.payload = g.check)
include hstate hcheck

theorem judgeHeader_malformed (h : g.length ≠ 24 ∨ parseHeader g.payload = none) :
    judgeHeader g s = refuseSegment .malformed s := by
  have hnone : (if g.length = 24 then parseHeader g.payload else none) = none := by
    split
    · rename_i h24; exact h.resolve_left (not_not_intro h24)
    · rfl
  simp [judgeHeader, hstate, hcheck, hnone]

variable {h : TrackHeader} (h24 : g.length = 24) (hparse : parseHeader g.payload = some h)
include h24 hparse

theorem judgeHeader_noSlot (hslot : freeSlot s.ingest.slots = none) : judgeHeader g s = refuseSegment .noSlot s := by
  simp [judgeHeader, hstate, hcheck, h24, hparse, hslot]

variable {n : Nat} (hslot : freeSlot s.ingest.slots = some n)
include hslot

/-- A header whose track the package has READY opens a HELD slot (R29). -/
theorem judgeHeader_held {id : Nat} {e : TrackEntry}
    (hready : readyTrack s.catalogue.tracks g.package g.track = some (id, e)) :
    judgeHeader g s = countIngest (fun c => { c with held := bump max32 c.held })
      (dropSegment (setSlot n
        (some { number := g.track, mode := .held, track := id, length := h.length, next := 0 }) s)) := by
  simp [judgeHeader, hstate, hcheck, h24, hparse, hslot, hready]

variable (hready : readyTrack s.catalogue.tracks g.package g.track = none)
include hready

theorem judgeHeader_noId (hid : s.catalogue.tracks.lowestFree 512 = none) : judgeHeader g s = refuseSegment .noId s := by
  simp [judgeHeader, hstate, hcheck, h24, hparse, hslot, hready, hid]

theorem judgeHeader_opens {id : Nat} (hid : s.catalogue.tracks.lowestFree 512 = some id) :
    judgeHeader g s = openTrack n id g h s := by
  simp [judgeHeader, hstate, hcheck, h24, hparse, hslot, hready, hid]
end

/-! ### A header that opens a track -/

section
variable {n id : Nat} {g : Segment} {h : TrackHeader} {s : State}

/-- With no allocation the track is DAMAGED from its opening (R28). -/
theorem openTrack_refused (ha : allocate h.length s.free.list = none) (hw : s.queue.writes.length < 8)
    (hr : s.queue.waiters = []) :
    let e : TrackEntry := { status := .damaged .storeFull, package := g.package, number := g.track, header := h
                            extentCount := 0 }
    let t := openTrack n id g h s
    t.catalogue = { s.catalogue with tracks := s.catalogue.tracks.put id e } ∧ t.free = s.free ∧
    t.ingest = { s.ingest with
      received := none
      slots := replaceAt s.ingest.slots n (some
        { number := g.track, mode := .damaged, track := id, length := h.length, next := 1 })
      counters := { s.ingest.counters with damaged := bump max32 s.ingest.counters.damaged } } ∧
    t.queue = { s.queue with writes := s.queue.writes ++ [{ write := .track id (some e), forCheck := false }] } ∧
    t.arbiter = s.arbiter := by
  simp only [openTrack, ha]
  rw [queueTrack_of_room (hasRoom_of (by simpa) (by simpa))]
  simp [reportDamage, pushTrack, countIngest, clearReceived, setSlot, Table.set]

/-- With an allocation made and the writer free the track is FILLING and its map block is to be written (R28, R34). -/
theorem openTrack_allocated {extents : List Extent} {left : List Run}
    (ha : allocate h.length s.free.list = some (extents, left)) (hg : s.ingest.gather = none)
    (hwr : s.ingest.writing = none) :
    let e : TrackEntry := { status := .filling, package := g.package, number := g.track, header := h
                            extentCount := extents.length }
    let t := openTrack n id g h s
    t.catalogue = { s.catalogue with
      tracks := s.catalogue.tracks.put id e, extents := s.catalogue.extents.put id extents } ∧
    t.free = { s.free with list := left } ∧
    t.ingest = { s.ingest with
      received := none
      slots := replaceAt s.ingest.slots n (some
        { number := g.track, mode := .filling, track := id, length := h.length, next := 1 })
      writing := some (.map (mapBlockOf id e extents) none) } ∧
    t.queue = s.queue ∧
    ∃ r : StoreRequest, r.client = .ingest ∧ r.writes = true ∧ r.first = id ∧ r.count = 1 ∧
      (t.arbiter.current = some (Transfer.begin r) ∨ r ∈ t.arbiter.waiting ∨ t.arbiter.held = some r) := by
  have hfree : (takeAllocation left s).free = { s.free with list := left } := by
    unfold takeAllocation; dsimp only; split <;> rfl
  simp only [openTrack, ha, hg, hwr, Option.isSome_none, Bool.false_eq_true, if_false]
  refine ⟨?_, ?_, ?_, ?_, _, rfl, rfl, rfl, rfl, askStore_made _ _⟩
  · simp [Table.set]
  · simp [hfree]
  · simp [askIngest, clearReceived, setSlot, mapBlockOf, hg]
  · simp
end

/-! ### The statement's cases -/

section
variable {g : Segment} {s : State} {package : Nat} {mode : WriteMode} (hstate : s.ingest.state = .opened)
  (hport : s.portHeld = false) (hpkg : s.ingest.package = some (package, mode)) (h : g.package = package)
include hstate hport hpkg h

/-- A segment of index 0 with the number of no busy slot is judged as a header (R27). -/
theorem exec_segmentTaken_header (hlen : g.length ≤ Config.blockBytes) (hindex : g.index = 0)
    (hfind : findSlot (fun x => decide (x.number = g.track)) s.ingest.slots = none) :
    exec (.segmentTaken g) s = finish (judgeHeader g (segmentIn g s)) := by
  rw [exec_segmentTaken_noSlot (by simp [hstate]) hport hpkg h hlen hfind, if_pos hindex]

variable {hd : TrackHeader} {n id : Nat} (hindex : g.index = 0) (h24 : g.length = 24)
  (hcheck : payloadCheck g.payload = g.check) (hparse : parseHeader g.payload = some hd)
  (hfind : findSlot (fun x => decide (x.number = g.track)) s.ingest.slots = none)
  (hslot : freeSlot s.ingest.slots = some n) (hready : readyTrack s.catalogue.tracks package g.track = none)
  (hid : s.catalogue.tracks.lowestFree 512 = some id)
include hindex h24 hcheck hparse hfind hslot hready hid

theorem exec_segmentTaken_opens : exec (.segmentTaken g) s = finish (openTrack n id g hd (segmentIn g s)) := by
  have hclosing : (segmentIn g s).ingest.state ≠ .closing := by simp [segmentIn, hstate]
  rw [exec_segmentTaken_header hstate hport hpkg h (by simp [h24, Config.blockBytes]) hindex hfind,
    judgeHeader_opens hclosing hcheck h24 hparse hslot (h ▸ hready) hid]
end

/-- Settles O26: the checks of a header in the order of R27, and what the track it opens brings. -/
theorem headersOpenTracks : Obligations.HeadersOpenTracks := by
  refine ⟨fun g s package mode hd n id hstate hport hpkg h hindex h24 hcheck hparse hfind hslot hready hid hg hwr => ?_,
    fun g s package mode hstate hport hpkg h hlen => ?_⟩
  · rw [exec_segmentTaken_opens hstate hport hpkg h hindex h24 hcheck hparse hfind hslot hready hid]
    subst h
    refine ⟨fun extents left ha => ⟨_, rfl, ?_⟩, fun ha hw hr => ⟨_, rfl, ?_⟩⟩
    · obtain ⟨hcat, hfree, hing, hque, hask⟩ := openTrack_allocated (s := segmentIn g s) (n := n) (id := id) (g := g)
        ha hg hwr
      simp only [settle_frame, hcat, hfree, hing, hque, openTrack_frame]
      exact ⟨rfl, rfl, rfl, rfl, rfl, trivial, rfl, hask, rfl, rfl, rfl⟩
    · obtain ⟨hcat, hfree, hing, hque, harb⟩ := openTrack_refused (s := segmentIn g s) (n := n) (id := id) (g := g)
        ha hw hr
      simp only [settle_frame, hcat, hfree, hing, hque, harb, openTrack_frame]
      exact ⟨rfl, rfl, rfl, rfl, rfl, by simp [segmentIn], rfl, rfl⟩
  · have hclosing : (segmentIn g s).ingest.state ≠ .closing := by simp [segmentIn, hstate]
    refine ⟨fun hindex hcheck hfind => ?_, fun n slot hfind hm hi => ?_⟩
    · rw [exec_segmentTaken_header hstate hport hpkg h hlen hindex hfind]
      subst h
      refine ⟨fun hbad => ?_, fun hd h24 hparse => ⟨fun hslot => ?_, fun n hslot => ⟨fun id e hready => ?_,
        fun hready hid => ?_⟩⟩⟩
      · exact congrArg finish (judgeHeader_malformed hclosing hcheck hbad)
      · exact congrArg finish (judgeHeader_noSlot hclosing hcheck h24 hparse hslot)
      · rw [judgeHeader_held (s := segmentIn g s) hclosing hcheck h24 hparse hslot hready]
        simp only [countIngest, dropSegment, clearReceived, setSlot, segmentIn, updateIngest, finish]
      · exact congrArg finish (judgeHeader_noId hclosing hcheck h24 hparse hslot hready hid)
    · obtain ⟨-, hheld, -⟩ := exec_segmentTaken_slot (by simp [hstate]) hport hpkg h hlen hfind
      rw [hheld hm, if_pos hi]
      rfl

end Machine
end Sys2Proof
end

section
/-!
Packages opened, closed and aborted, and the resolution of their compositions (R22 to R24, R38, R39).
-/
namespace Sys2Proof

/-- In a table with rising keys the first entry that satisfies a test has the lowest key. -/
theorem Table.find?_lowest {α : Type} {t : Table α} (hr : t.rising = true) {q : Nat × α → Bool} {a p : Nat × α}
    (h : t.find? q = some a) (hp : p ∈ t) (hq : q p = true) : a.1 ≤ p.1 := by
  induction t with
  | nil => cases hp
  | cons b rest ih =>
    obtain ⟨hlt, hrest⟩ := (Table.rising_cons b.1 b.2 rest).1 hr
    by_cases hb : q b = true
    · rw [List.find?_cons_of_pos hb] at h
      obtain rfl := Option.some.inj h
      rcases List.mem_cons.1 hp with rfl | hp
      · exact le_rfl
      · exact (hlt p hp).le
    · rw [List.find?_cons_of_neg hb] at h
      rcases List.mem_cons.1 hp with rfl | hp
      · exact absurd hq hb
      · exact ih hrest h hp

namespace Machine

/-! ### INGEST OPEN and CLOSE -/

theorem writeModeOf_of_le {mode : Nat} (h : mode ≤ 1) :
    writeModeOf mode = some (if mode = 0 then .steal else .run) := by
  obtain rfl | rfl : mode = 0 ∨ mode = 1 := by omega
  · rfl
  · rfl

theorem writeModeOf_of_lt {mode : Nat} (h : 1 < mode) : writeModeOf mode = none := by
  obtain ⟨n, rfl⟩ : ∃ n, mode = n + 2 := ⟨mode - 2, by omega⟩
  rfl

theorem closeGather_of_none {s : State} (h : s.ingest.gather = none) : closeGather s = s := by simp [closeGather, h]

section
variable {f : Frame} {s : State}

/-- The checks of INGEST OPEN in their order, and the package it opens (R22). -/
theorem exec_ingestOpen (package mode : Nat) (h : s.accepts 8 f) :
    (s.free.sweep.isSome = true → exec (.ingestOpen f package mode) s = .next (s.answering 8 f .busy none [])) ∧
    (s.free.sweep = none → s.ingest.state ≠ .idle →
      exec (.ingestOpen f package mode) s = .next (s.no 8 f .wrongState)) ∧
    (s.free.sweep = none → s.ingest.state = .idle → 1 < mode →
      exec (.ingestOpen f package mode) s = .next (s.no 8 f .outOfRange)) ∧
    (s.free.sweep = none → s.ingest.state = .idle → mode ≤ 1 →
      exec (.ingestOpen f package mode) s = .next (State.ok 8 f []
        { s with ingest := { s.ingest with
            state := .opened, package := some (package, if mode = 0 then .steal else .run),
            counters := PackageCounters.zero, slots := [none, none, none, none] } })) := by
  refine ⟨fun hsweep => request_turns h ?_, fun hsweep hidle => request_refuses h ?_,
    fun hsweep hidle hmode => request_refuses h ?_, fun hsweep hidle hmode => request_ok h ?_ rfl⟩
  · simp [serveIngestOpen, hsweep]
  · simp [serveIngestOpen, hsweep, hidle]
  · simp [serveIngestOpen, hsweep, hidle, writeModeOf_of_lt hmode]
  · simp only [serveIngestOpen, received_frame, hsweep, hidle, writeModeOf_of_le hmode]
    rfl

/-- INGEST CLOSE closes the open gather and begins the close (R23). -/
theorem exec_ingestClose (h : s.accepts 9 f) :
    (s.ingest.state ≠ .opened → exec (.ingestClose f) s = .next (s.no 9 f .wrongState)) ∧
    (s.ingest.state = .opened → s.ingest.gather = none →
      exec (.ingestClose f) s = .next (State.ok 9 f [] { s with ingest := { s.ingest with state := .closing } })) ∧
    (∀ g, s.ingest.state = .opened → s.ingest.gather = some g →
      exec (.ingestClose f) s = .next (State.ok 9 f []
        (askStore { client := .ingest, writes := true, first := g.store, count := g.blocks.length, track := some g.track }
          { s with ingest := { s.ingest with
              state := .closing, gather := none, idleCycles := 0, writing := some (.data g false) } }))) := by
  refine ⟨fun hstate => request_refuses h ?_, fun hstate hg => request_ok h ?_ rfl,
    fun g hstate hg => request_ok h ?_ (by simp)⟩
  · simp [serveIngestClose, hstate]
  · have hclose := closeGather_of_none (s := updateIngest (fun i => { i with state := .closing }) (s.received 9 f))
      (by simpa using hg)
    simp only [serveIngestClose, received_frame, hstate, hclose]
    rfl
  · have hclose := closeGather_of_open (g := g)
      (s := updateIngest (fun i => { i with state := .closing }) (s.received 9 f)) (by simpa using hg)
    simp only [serveIngestClose, received_frame, hstate, hclose]
    rfl
end

/-! ### INGEST ABORT -/

theorem interrupted_interrupted : TrackEntry.interrupted ∘ TrackEntry.interrupted = TrackEntry.interrupted := rfl

@[simp] theorem discardWrites_package (track : Nat) (s : State) :
    (discardWrites track s).ingest.package = s.ingest.package := by
  simp only [discardWrites]; (repeat' split) <;> simp

/-- What the interruption of a track leaves of the engine, and what it does to the catalogue. -/
theorem interruptTrack_effect (id : Nat) (s : State) :
    (interruptTrack id s).ingest.package = s.ingest.package ∧ (interruptTrack id s).ingest.received = s.ingest.received ∧
    (interruptTrack id s).catalogue.extents = s.catalogue.extents ∧
    (interruptTrack id s).catalogue.compositions = s.catalogue.compositions ∧
    ∀ k, (interruptTrack id s).catalogue.tracks.find k =
      if k = id then (s.catalogue.tracks.find k).map TrackEntry.interrupted else s.catalogue.tracks.find k := by
  unfold interruptTrack
  split
  · rename_i hfind
    refine ⟨rfl, rfl, rfl, rfl, fun k => ?_⟩
    split
    · rename_i hk; rw [hk, hfind]; rfl
    · rfl
  · rename_i e hfind
    refine ⟨by simp [reportDamage, countIngest], by simp [reportDamage, countIngest], by simp, by simp, fun k => ?_⟩
    split
    · rename_i hk; subst hk; simp [hfind, Table.set, TrackEntry.interrupted]
    · rename_i hk; simp [Table.set, Table.find_put_other _ _ hk]

/-- The interruption of several tracks likewise. -/
theorem interruptTracks_effect (ids : List Nat) (s : State) :
    let u := ids.foldl (fun u id => interruptTrack id u) s
    u.ingest.package = s.ingest.package ∧ u.ingest.received = s.ingest.received ∧
    u.catalogue.extents = s.catalogue.extents ∧ u.catalogue.compositions = s.catalogue.compositions ∧
    ∀ k, u.catalogue.tracks.find k =
      if k ∈ ids then (s.catalogue.tracks.find k).map TrackEntry.interrupted else s.catalogue.tracks.find k := by
  induction ids generalizing s with
  | nil => simp
  | cons id rest ih =>
    obtain ⟨hpackage, hreceived, hextents, hcompositions, hfind⟩ := interruptTrack_effect id s
    obtain ⟨ihpackage, ihreceived, ihextents, ihcompositions, ihfind⟩ := ih (interruptTrack id s)
    refine ⟨ihpackage.trans hpackage, ihreceived.trans hreceived, ihextents.trans hextents,
      ihcompositions.trans hcompositions, fun k => ?_⟩
    rw [List.foldl_cons, ihfind, hfind]
    by_cases hk : k = id
    · subst hk
      simp [Option.map_map, interrupted_interrupted]
    · simp [hk]

/-- The tracks of the FILLING slots. -/
theorem mem_fillingTracks {slot : TrackSlot} {s : State} (h : some slot ∈ s.ingest.slots) (hmode : slot.mode = .filling) :
    slot.track ∈ fillingTracks s :=
  List.mem_filterMap.2 ⟨some slot, h, if_pos hmode⟩

/-- The state in which the entry writes of an aborted package's tracks are queued (R24): the tracks interrupted, the awaiting
marks of the package gone and the package ended. -/
def packageAborted (package : Nat) (s : State) : State :=
  let u := (fillingTracks s).foldl (fun u id => interruptTrack id u)
    (clearReceived { s with queue := { s.queue with waiters := s.queue.waiters.filterMap Waiter.afterAbort } })
  let marked := (awaitingOf package u.catalogue).map (·.1)
  endPackage true 0 0 (updateIngest (fun i => { i with gather := none })
    { u with catalogue := { u.catalogue with
        awaiting := u.catalogue.awaiting.filter fun p => !marked.contains p.1 } })

/-- The requests for entry writes that end an INGEST ABORT change nothing of the state `packageAborted` but the write queue,
the port and the reply held with a map block's write. -/
theorem serveIngestAbort_ends {f : Frame} {s : State} {package : Nat} {mode : WriteMode}
    (hpkg : s.ingest.package = some (package, mode)) :
    (serveIngestAbort f s).catalogue = (packageAborted package s).catalogue ∧
    ∃ w, (serveIngestAbort f s).ingest = { (packageAborted package s).ingest with writing := w } := by
  simp only [serveIngestAbort, hpkg]
  rw [← packageAborted]
  split
  · split
    · exact ⟨by simp, _, by simp; rfl⟩
    · exact ⟨by simp, _, by simp; rfl⟩
  · exact ⟨by simp, _, by simp; rfl⟩

/-- What INGEST ABORT leaves when a package is open or closing (R24). -/
theorem serveIngestAbort_aborts {f : Frame} {s : State} {package : Nat} {mode : WriteMode}
    (hpkg : s.ingest.package = some (package, mode)) :
    let t := serveIngestAbort f s
    t.ingest.state = .idle ∧ t.ingest.package = none ∧ t.ingest.slots = [none, none, none, none] ∧
    t.ingest.received = none ∧ t.ingest.gather = none ∧
    (∃ r, t.ingest.report = some r ∧ r.package = package ∧ r.aborted = true ∧ r.resolvedReady = 0 ∧
      r.resolvedIncomplete = 0) ∧
    (∀ slot e, some slot ∈ s.ingest.slots → slot.mode = .filling → s.catalogue.tracks.find slot.track = some e →
      t.catalogue.tracks.find slot.track = some { e with status := .damaged .interrupted }) ∧
    t.catalogue.extents = s.catalogue.extents ∧ t.catalogue.compositions = s.catalogue.compositions := by
  obtain ⟨hcat, w, hing⟩ := serveIngestAbort_ends (f := f) hpkg
  obtain ⟨hpackage, hreceived, hextents, hcompositions, hfind⟩ := interruptTracks_effect (fillingTracks s)
    (clearReceived { s with queue := { s.queue with waiters := s.queue.waiters.filterMap Waiter.afterAbort } })
  simp only [hcat, hing]
  refine ⟨rfl, rfl, rfl, hreceived, rfl, ⟨_, rfl, ?_, rfl, rfl, rfl⟩, fun slot e hslot hmode he => ?_, hextents,
    hcompositions⟩
  · have hpkg' := hpackage.trans hpkg
    simp [hpkg']
  · refine (hfind slot.track).trans ?_
    rw [if_pos (mem_fillingTracks hslot hmode)]
    exact congrArg (Option.map TrackEntry.interrupted) he

theorem exec_ingestAbort {f : Frame} {s : State} (h : s.accepts 10 f) :
    (s.ingest.package = none → exec (.ingestAbort f) s = .next (s.no 10 f .wrongState)) ∧
    (∀ package mode, s.ingest.package = some (package, mode) → ∃ t,
      exec (.ingestAbort f) s = .next t ∧ t.ingest.state = .idle ∧ t.ingest.package = none ∧
      t.ingest.slots = [none, none, none, none] ∧ t.ingest.received = none ∧ t.ingest.gather = none ∧
      (∃ r, t.ingest.report = some r ∧ r.package = package ∧ r.aborted = true ∧ r.resolvedReady = 0 ∧
        r.resolvedIncomplete = 0) ∧
      (∀ slot e, some slot ∈ s.ingest.slots → slot.mode = .filling → s.catalogue.tracks.find slot.track = some e →
        t.catalogue.tracks.find slot.track = some { e with status := .damaged .interrupted }) ∧
      t.catalogue.extents = s.catalogue.extents ∧ t.catalogue.compositions = s.catalogue.compositions ∧
      t.nvm = s.nvm ∧ t.store = s.store) := by
  refine ⟨fun hpkg => request_refuses h (by simp [serveIngestAbort, hpkg]),
    fun package mode hpkg => ⟨_, request_of_accepts h, ?_⟩⟩
  simp only [settle_frame]
  obtain ⟨hstate, hnone, hslots, hreceived, hgather, hreport, hfind, hextents, hcompositions⟩ :=
    serveIngestAbort_aborts (f := f) (s := s.received 10 f) hpkg
  exact ⟨hstate, hnone, hslots, hreceived, hgather, hreport, hfind, hextents, hcompositions, by simp, by simp⟩

/-! ### The close of a package -/

/-- The state in which the close of a package begins to resolve its compositions (R23). -/
def closeBegun (s : State) : State :=
  updateIngest (fun i => { i with slots := [none, none, none, none], resolved := (0, 0) }) s

theorem completeClose_of_ready {s : State} {package : Nat} {mode : WriteMode} (hready : s.closeReady = true)
    (hpkg : s.ingest.package = some (package, mode)) :
    completeClose s =
      if (resolveAll (awaitingOf package s.catalogue) (closeBegun s)).engineWaits then
        resolveAll (awaitingOf package s.catalogue) (closeBegun s)
      else endPackage false (resolveAll (awaitingOf package s.catalogue) (closeBegun s)).ingest.resolved.1
        (resolveAll (awaitingOf package s.catalogue) (closeBegun s)).ingest.resolved.2
        (resolveAll (awaitingOf package s.catalogue) (closeBegun s)) := by
  unfold completeClose
  rw [if_pos hready, hpkg]
  rfl

/-- A close can complete only while the engine does not wait for room (R23). -/
theorem engineWaits_of_closeReady {s : State} (h : s.closeReady = true) : s.engineWaits = false := by
  simp only [State.closeReady, Bool.and_eq_true, Bool.not_eq_true'] at h
  obtain ⟨⟨-, hwaits⟩, -⟩ := h
  exact hwaits

theorem exec_packageClose_empty {s : State} {package : Nat} {mode : WriteMode} (hready : s.closeReady = true)
    (hpkg : s.ingest.package = some (package, mode)) (hnone : awaitingOf package s.catalogue = []) :
    ∃ t, exec .packageCloseComplete s = .next t ∧
      t.ingest = { s.ingest with
        state := .idle, package := none, slots := [none, none, none, none], resolved := (0, 0)
        report := some { package := package, aborted := false, counters := s.ingest.counters, resolvedReady := 0
                         resolvedIncomplete := 0 } } ∧
      t.catalogue = s.catalogue ∧ t.queue = s.queue ∧ t.arbiter = s.arbiter ∧ t.free = s.free := by
  have hclose : completeClose s = endPackage false 0 0 (closeBegun s) := by
    rw [completeClose_of_ready hready hpkg, hnone]
    have hwaits : (closeBegun s).engineWaits = false := (engineWaits_of_closeReady hready :)
    exact if_neg (by simp [resolveAll, hwaits])
  refine ⟨_, congrArg finish hclose, ?_⟩
  simp only [settle_frame, endPackage_frame]
  refine ⟨?_, rfl, rfl, rfl, rfl⟩
  simp [endPackage, closeBegun, hpkg]

/-- A close that resolves one composition while the write queue has room (R23, R38). -/
theorem exec_packageClose_one {s : State} {package : Nat} {mode : WriteMode} {n : Nat} {numbers : List ReelNumbers}
    {c : Composition} (hready : s.closeReady = true) (hpkg : s.ingest.package = some (package, mode))
    (hone : awaitingOf package s.catalogue = [(n, numbers)]) (hc : s.catalogue.compositions.find n = some c)
    (hw : s.queue.writes.length < 8) (hr : s.queue.waiters = []) :
    let r := resolveComposition s.catalogue.tracks numbers c
    ∃ t, exec .packageCloseComplete s = .next t ∧
      t.catalogue = { s.catalogue with
        compositions := s.catalogue.compositions.put n r, awaiting := s.catalogue.awaiting.erase n } ∧
      t.queue = { s.queue with
        writes := s.queue.writes ++ [{ write := .composition n (some r), forCheck := false }] } ∧
      t.ingest = { s.ingest with
        state := .idle, package := none, slots := [none, none, none, none], resolved := (0, 0)
        report := some { package := package, aborted := false, counters := s.ingest.counters
                         resolvedReady := if r.incomplete = none then 1 else 0
                         resolvedIncomplete := if r.incomplete = none then 0 else 1 } } := by
  intro r
  obtain ⟨hque, hcat, hing⟩ := takeComposition_resolve (s := closeBegun s) numbers hc
  have hall : resolveAll (awaitingOf package s.catalogue) (closeBegun s) =
      takeComposition n (.resolve numbers) (closeBegun s) := by
    rw [hone]
    exact if_pos (hasRoom_of (s := closeBegun s) hw hr)
  have hclose := completeClose_of_ready hready hpkg
  rw [hall] at hclose
  generalize takeComposition n (.resolve numbers) (closeBegun s) = u at hque hcat hing hclose
  have hwait : u.engineWaits = false := by simp [State.engineWaits, hque, closeBegun, hr]
  rw [if_neg (by simp [hwait])] at hclose
  refine ⟨_, congrArg finish hclose, ?_⟩
  simp only [settle_frame, endPackage_frame, hcat, hque]
  refine ⟨rfl, rfl, ?_⟩
  have hresolved : u.ingest = { (closeBegun s).ingest with
      resolved := if r.incomplete = none then (1, 0) else (0, 1) } := hing
  simp only [endPackage, raise_ingest, updateIngest_ingest, hresolved, closeBegun, hpkg]
  split <;> rfl

/-! ### The track that a number maps to (R38) -/

theorem readyTrack_some {tracks : Table TrackEntry} {package number k : Nat} {e : TrackEntry}
    (h : readyTrack tracks package number = some (k, e)) :
    (k, e) ∈ tracks ∧ e.package = package ∧ e.number = number ∧ e.status = .ready := by
  have hp := List.find?_some h
  simp only [Bool.and_eq_true, decide_eq_true_eq] at hp
  obtain ⟨⟨hstatus, hpackage⟩, hnumber⟩ := hp
  exact ⟨List.mem_of_find?_eq_some h, hpackage, hnumber, hstatus⟩

/-- With no READY track under a number, its tracks are FILLING or DAMAGED. -/
theorem filling_or_damaged {tracks : Table TrackEntry} {package number : Nat}
    (h : readyTrack tracks package number = none) {p : Nat × TrackEntry} (hp : p ∈ tracks) (hpackage : p.2.package = package)
    (hnumber : p.2.number = number) : p.2.status = .filling ∨ ∃ reason, p.2.status = .damaged reason := by
  have hnot := List.find?_eq_none.1 h p hp
  rcases hstatus : p.2.status with _ | _ | reason
  · exact .inl rfl
  · simp [hstatus, hpackage, hnumber] at hnot
  · exact .inr ⟨reason, rfl⟩

theorem status_code_eq_three (status : TrackStatus) : status.code = 3 ↔ ∃ reason, status = .damaged reason := by
  cases status <;> simp [TrackStatus.code]

section
variable {tracks : Table TrackEntry} {package number : Nat}

/-- Without a READY track under the number, the first DAMAGED one is taken. -/
theorem mapNumber_of_no_ready (h : readyTrack tracks package number = none) :
    mapNumber tracks package number = tracks.find? fun p =>
      decide (p.2.status.code = 3) && decide (p.2.package = package) && decide (p.2.number = number) := by
  simp [mapNumber, h]

theorem mapNumber_of_ready {p : Nat × TrackEntry} (h : readyTrack tracks package number = some p) :
    mapNumber tracks package number = some p := by simp [mapNumber, h]

theorem mapNumber_some {k : Nat} {e : TrackEntry} (hr : tracks.rising = true)
    (h : mapNumber tracks package number = some (k, e)) :
    (k, e) ∈ tracks ∧ e.package = package ∧ e.number = number ∧ (e.status = .ready ∨
      ((∃ reason, e.status = .damaged reason) ∧ ∀ p ∈ tracks, p.2.package = package → p.2.number = number →
        p.2.status = .filling ∨ ((∃ reason, p.2.status = .damaged reason) ∧ k ≤ p.1))) := by
  rcases hready : readyTrack tracks package number with _ | q
  · rw [mapNumber_of_no_ready hready] at h
    have he := List.find?_some h
    simp only [Bool.and_eq_true, decide_eq_true_eq, status_code_eq_three] at he
    obtain ⟨⟨hdamaged, hpackage⟩, hnumber⟩ := he
    refine ⟨List.mem_of_find?_eq_some h, hpackage, hnumber, .inr ⟨hdamaged, fun p hp hpp hpn => ?_⟩⟩
    refine (filling_or_damaged hready hp hpp hpn).imp_right fun hd => ⟨hd, Table.find?_lowest hr h hp ?_⟩
    simp [hpp, hpn, (status_code_eq_three _).2 hd]
  · obtain rfl : q = (k, e) := Option.some.inj ((mapNumber_of_ready hready).symm.trans h)
    obtain ⟨hmem, hpackage, hnumber, hstatus⟩ := readyTrack_some hready
    exact ⟨hmem, hpackage, hnumber, .inl hstatus⟩

theorem mapNumber_none (h : mapNumber tracks package number = none) :
    ∀ p ∈ tracks, p.2.package = package → p.2.number = number → p.2.status = .filling := by
  intro p hp hpackage hnumber
  rcases hready : readyTrack tracks package number with _ | q
  · rw [mapNumber_of_no_ready hready] at h
    refine (filling_or_damaged hready hp hpackage hnumber).resolve_right fun hd => ?_
    have hnot := List.find?_eq_none.1 h p hp
    simp [hpackage, hnumber, (status_code_eq_three _).2 hd] at hnot
  · rw [mapNumber_of_ready hready] at h
    cases h

theorem mapNumber_mem {p : Nat × TrackEntry} (h : mapNumber tracks package number = some p) : p ∈ tracks := by
  unfold mapNumber at h
  split at h
  · rename_i q hq
    exact Option.some.inj h ▸ List.mem_of_find?_eq_some hq
  · exact List.mem_of_find?_eq_some h
end

/-! ### The checks of a resolution (R38) -/

/-- A reel's numbers all map exactly when none of those given maps to nothing. -/
theorem allMapped_eq_false (tracks : Table TrackEntry) (package : Nat) (m : ReelNumbers) :
    (mapReel tracks package m).allMapped = false ↔
      mapNumber tracks package m.picture = none ∨ (∃ n, m.sound = some n ∧ mapNumber tracks package n = none) ∨
        ∃ n, some n ∈ m.subtitles ∧ mapNumber tracks package n = none := by
  have hsub : ((m.subtitles.zip (m.subtitles.map (mapOptional tracks package))).all
      fun p => p.1.isNone || p.2.isSome) = false ↔ ∃ n, some n ∈ m.subtitles ∧ mapNumber tracks package n = none := by
    generalize m.subtitles = l
    induction l with
    | nil => simp
    | cons x rest ih =>
      cases x with
      | none => simpa using ih
      | some n => rcases hn : mapNumber tracks package n with _ | p <;> simp [mapOptional, hn, ih]
  have hsound : (m.sound.isNone || (mapOptional tracks package m.sound).isSome) = false ↔
      ∃ n, m.sound = some n ∧ mapNumber tracks package n = none := by
    cases m.sound <;> simp [mapOptional]
  simp only [mapReel, MappedReel.allMapped, Bool.and_eq_false_iff, hsub, hsound]
  simp [or_assoc]

theorem resolutionFailure_missing (rate : Nat) (l : List MappedReel) :
    resolutionFailure rate l = some .missing ↔ ∃ m ∈ l, m.allMapped = false := by
  unfold resolutionFailure
  by_cases h : l.all (·.allMapped) = true
  · simp only [h]
    have : ¬ ∃ m ∈ l, m.allMapped = false := by simpa using h
    simp only [this, iff_false]
    (repeat' split) <;> simp_all
  · simp only [h]
    simpa using h

/-- A resolution without a failing check has passed each of them. -/
theorem checks_of_resolved {rate : Nat} {l : List MappedReel} (h : resolutionFailure rate l = none) :
    (∀ m ∈ l, m.allMapped = true) ∧ (∀ e ∈ l.flatMap (·.tracks), e.status = .ready) ∧
    (∀ m ∈ l, m.rateFits rate = true) ∧ (∀ m ∈ l, m.longEnough = true) ∧
    ∀ k ∈ scrambledKeys l, (scrambledKeys l).head? = some k := by
  unfold resolutionFailure at h
  repeat' split at h
  case isFalse.isFalse.isFalse.isFalse.isFalse.isFalse hmapped hready hkind hrate hlong hkeys =>
    simp only [Bool.not_eq_true', Bool.not_eq_false, List.all_eq_true, decide_eq_true_eq] at hmapped hready hrate hlong hkeys
    exact ⟨hmapped, hready, hrate, hlong, hkeys⟩
  all_goals cases h

/-! ### The resolution (R38) -/

section
variable {tracks : Table TrackEntry} {numbers : List ReelNumbers} {c : Composition}

/-- The reel that a resolution makes of a mapped one. -/
def MappedReel.resolved (m : MappedReel) : Reel :=
  { picture := m.picture.map (·.1), entry := m.numbers.entry, duration := m.numbers.duration
    sound := m.sound.map (·.1), subtitles := m.subtitles.map fun t => t.map (·.1) }

theorem resolveComposition_reels : (resolveComposition tracks numbers c).reels =
    numbers.map fun m => (mapReel tracks c.package m).resolved := by
  simp [resolveComposition, MappedReel.resolved]

theorem resolveComposition_incomplete : (resolveComposition tracks numbers c).incomplete =
    resolutionFailure c.rate (numbers.map (mapReel tracks c.package)) := rfl

theorem resolveComposition_missing : (resolveComposition tracks numbers c).incomplete = some .missing ↔
    ∃ m ∈ numbers, mapNumber tracks c.package m.picture = none ∨
      (∃ n, m.sound = some n ∧ mapNumber tracks c.package n = none) ∨
      ∃ n, some n ∈ m.subtitles ∧ mapNumber tracks c.package n = none := by
  rw [resolveComposition_incomplete, resolutionFailure_missing]
  simp only [List.mem_map, exists_exists_and_eq_and, allMapped_eq_false]

theorem resolveComposition_failed_key (h : (resolveComposition tracks numbers c).incomplete ≠ none) :
    (resolveComposition tracks numbers c).key = none := by
  rw [resolveComposition_incomplete] at h
  simp [resolveComposition, h]

theorem resolveComposition_key (h : (resolveComposition tracks numbers c).incomplete = none) :
    (resolveComposition tracks numbers c).key = (scrambledKeys (numbers.map (mapReel tracks c.package))).head? := by
  rw [resolveComposition_incomplete] at h
  simp [resolveComposition, h]

/-- A picture track that a reel maps to, with its header's checks passed. -/
theorem picture_of_checks {m : MappedReel} {rate k : Nat} {e : TrackEntry} (hpicture : m.picture = some (k, e))
    (hrate : m.rateFits rate = true) (hlong : m.longEnough = true) :
    ∃ frames span, e.header.info = .picture rate frames span ∧ m.numbers.entry + m.numbers.duration ≤ frames := by
  simp only [MappedReel.rateFits, MappedReel.longEnough, hpicture, Option.all_some] at hrate hlong
  split at hrate
  · rename_i r frames span hinfo
    rw [hinfo] at hlong
    obtain rfl := of_decide_eq_true hrate
    exact ⟨frames, span, hinfo, of_decide_eq_true hlong⟩
  · cases hrate

/-- A READY outcome names READY picture tracks that passed the checks of their reels. -/
theorem resolveComposition_ready (h : (resolveComposition tracks numbers c).incomplete = none) :
    ∀ m ∈ (resolveComposition tracks numbers c).reels, ∃ k e frames span, m.picture = some k ∧ (k, e) ∈ tracks ∧
      e.status = .ready ∧ e.header.info = .picture c.rate frames span ∧ m.entry + m.duration ≤ frames ∧
      (e.header.key = none ∨ e.header.key = (resolveComposition tracks numbers c).key) := by
  obtain ⟨hmapped, hready, hrate, hlong, hkeys⟩ := checks_of_resolved (resolveComposition_incomplete.symm.trans h)
  intro m hm
  rw [resolveComposition_reels] at hm
  obtain ⟨x, hx, rfl⟩ := List.mem_map.1 hm
  have hin : mapReel tracks c.package x ∈ numbers.map (mapReel tracks c.package) := List.mem_map_of_mem hx
  rcases hpicture : mapNumber tracks c.package x.picture with _ | ⟨k, e⟩
  · have hfalse := (allMapped_eq_false tracks c.package x).2 (.inl hpicture)
    rw [hmapped _ hin] at hfalse
    cases hfalse
  have hnamed : e ∈ (numbers.map (mapReel tracks c.package)).flatMap (·.tracks) :=
    List.mem_flatMap.2 ⟨_, hin, by simp [MappedReel.tracks, mapReel, hpicture]⟩
  obtain ⟨frames, span, hinfo, hfit⟩ := picture_of_checks (m := mapReel tracks c.package x) hpicture (hrate _ hin)
    (hlong _ hin)
  refine ⟨k, e, frames, span, by simp [MappedReel.resolved, mapReel, hpicture], mapNumber_mem hpicture, hready e hnamed,
    hinfo, hfit, ?_⟩
  rcases hkey : e.header.key with _ | key
  · exact .inl rfl
  · rw [resolveComposition_key h]
    exact .inr (hkeys key (List.mem_filterMap.2 ⟨e, hnamed, hkey⟩)).symm
end

/-- Settles O24: the requests in the order of their checks, the close by what it has to resolve, and the resolution by the
checks of R38. -/
theorem packagesOpenCloseAndAbort : Obligations.PackagesOpenCloseAndAbort := by
  intro f s
  refine ⟨fun package mode h => exec_ingestOpen package mode h, fun h => exec_ingestClose h, fun h => exec_ingestAbort h,
    fun package mode hready hpkg hnone => exec_packageClose_empty hready hpkg hnone,
    fun package mode n numbers c hready hpkg hone hc hw hr => exec_packageClose_one hready hpkg hone hc hw hr,
    fun tracks package number hr => ⟨fun k e h => mapNumber_some hr h, mapNumber_none⟩,
    fun tracks numbers c => ⟨rfl, rfl, rfl, rfl, rfl, rfl, ?_, ?_, resolveComposition_missing,
      resolveComposition_failed_key, resolveComposition_ready⟩⟩
  · simp [resolveComposition_reels, MappedReel.resolved, mapReel]
  · simp [resolveComposition_reels, MappedReel.resolved, mapReel]

end Machine
end Sys2Proof
end

section
/-!
The store arbiter's order and its second attempts (R43, R46).
-/
namespace Sys2Proof
namespace Machine

/-! ### The order of the clients (R43) -/

theorem bestRequest_eq_none (l : List StoreRequest) : bestRequest l = none ↔ l = [] := by
  cases l with
  | nil => simp [bestRequest]
  | cons r rest =>
    unfold bestRequest
    (repeat' split) <;> simp

/-- The request granted is a waiting one, and no waiting one has a higher priority. -/
theorem bestRequest_some {l : List StoreRequest} {r : StoreRequest} (h : bestRequest l = some r) :
    r ∈ l ∧ ∀ x ∈ l, r.client.rank ≤ x.client.rank := by
  induction l generalizing r with
  | nil => cases h
  | cons a rest ih =>
    unfold bestRequest at h
    rw [List.forall_mem_cons]
    split at h
    · rename_i hnone
      obtain rfl := (bestRequest_eq_none rest).1 hnone
      cases h
      simp
    · rename_i b hb
      obtain ⟨hmem, hle⟩ := ih hb
      split at h <;> cases h
      · exact ⟨.tail _ hmem, by omega, hle⟩
      · exact ⟨.head _, le_rfl, fun x hx => le_trans (by omega) (hle x hx)⟩

/-! ### A first failure (R46) -/

section
variable {s : State} {tr : Transfer}

/-- A transfer whose first attempt has failed is tried again. -/
def retried (tr : Transfer) (s : State) : State :=
  { s with arbiter := { s.arbiter with current := some { tr with retry := true } } }

/-- A first failure is tried again at once, whatever its client would do with an outcome. -/
theorem completeTransfer_retries {c : Client} {act : Transfer → State → State} (hcur : s.arbiter.current = some tr)
    (hr : tr.retry = false) (hc : tr.request.client = c) : completeTransfer c false act s = retried tr s := by
  simp [completeTransfer, hcur, hc, hr, retried]

theorem exec_storeRetry_first (hcur : s.arbiter.current = some tr) (hr : tr.retry = false) :
    exec .storeRetry s = finish (retried tr s) := by
  show execStoreRetry s = _
  simp [execStoreRetry, hcur, hr, retried]

/-- A data write's first failure, whether its gather has been dropped or not. -/
theorem exec_ingestWrite_retries {g : Gather} {dropped : Bool} (hcur : s.arbiter.current = some tr) (hr : tr.retry = false)
    (hc : tr.request.client = .ingest) (hwr : s.ingest.writing = some (.data g dropped)) :
    exec (.ingestWriteComplete false) s = finish (retried tr s) := by
  show execIngestWriteComplete false s = _
  rw [execIngestWriteComplete, hwr]
  exact congrArg finish (completeTransfer_retries hcur hr hc)
end

/-- Settles O28: the order by recursion over the waiting requests, and the second attempt by the one rule of completions. -/
theorem arbiterGrantsAndRetries : Obligations.ArbiterGrantsAndRetries := by
  refine ⟨fun l => ⟨bestRequest_eq_none l, fun r h => bestRequest_some h⟩, fun s tr hcur hr => ?_⟩
  have completes : ∀ {c : Client} {act : Transfer → State → State}, tr.request.client = c →
      finish (completeTransfer c false act s) = finish (retried tr s) :=
    fun hc => congrArg finish (completeTransfer_retries hcur hr hc)
  exact ⟨exec_storeRetry_first hcur hr, completes, completes, completes, completes, completes,
    fun g dropped hc hwr => exec_ingestWrite_retries hcur hr hc hwr⟩

end Machine
end Sys2Proof
end

section
/-!
How many places the frame queue holds after each operation (R124): the reader's beginning of a frame adds one, and no other
operation adds any.
-/
namespace Sys2Proof
namespace Machine

/-! ### Operations that keep the number of places -/

@[simp] theorem endFrameJob_places (c : PlaceCondition) (blocks : List (List Byte)) (s : State) :
    (endFrameJob c blocks s).frames.places.length = s.frames.places.length := by
  simp [endFrameJob]

@[simp] theorem takeOverFrames_places (s : State) :
    (takeOverFrames s).frames.places.length = s.frames.places.length := by
  simp [takeOverFrames]

@[simp] theorem askPicture_places (j : FrameJob) (s : State) :
    (askPicture j s).frames.places.length = s.frames.places.length := by
  unfold askPicture; split <;> simp

/-- A lookup leaves the picture path to its reader. -/
theorem lookup_frames {reader : Reader} {kind : AskKind} {track block : Nat} {s u : State} {a : Answer}
    (h : lookup reader kind track block s = (a, u)) : u.frames = s.frames := by
  rw [show u = (lookup reader kind track block s).2 by rw [h]]
  simp

@[simp] theorem lookUpFrame_places (n : Nat) (j : FrameJob) (s : State) :
    (lookUpFrame n j s).frames.places.length = s.frames.places.length := by
  induction n generalizing j s with
  | zero => simp [lookUpFrame]
  | succ n ih =>
    unfold lookUpFrame
    split
    · simp
    · split <;> rename_i hl <;> simp [ih, lookup_frames hl]

@[simp] theorem pictureAnswer_places (a : Answer) (s : State) :
    (pictureAnswer a s).frames.places.length = s.frames.places.length := by
  unfold pictureAnswer; (repeat' split) <;> simp

@[simp] theorem pictureTransfer_places (ok : Bool) (t : Transfer) (s : State) :
    (pictureTransfer ok t s).frames.places.length = s.frames.places.length := by
  unfold pictureTransfer; (repeat' split) <;> simp

@[simp] theorem beginSend_places (f : Send) (s : State) :
    (beginSend f s).frames.places.length = s.frames.places.length := by
  unfold beginSend; split <;> simp

@[simp] theorem putOnLink_places (f : Send) (s : State) :
    (putOnLink f s).frames.places.length = s.frames.places.length := by
  unfold putOnLink; (repeat' split) <;> simp

@[simp] theorem repeatFrame_places (sh : Showing) (cause : RepeatCause) (s : State) :
    (repeatFrame sh cause s).frames.places.length = s.frames.places.length := by
  simp [repeatFrame]

@[simp] theorem beginLinkCheck_places (s : State) :
    (beginLinkCheck s).frames.places.length = s.frames.places.length := by
  simp [beginLinkCheck]

@[simp] theorem freeLink_places (s : State) : (freeLink s).frames.places.length = s.frames.places.length := by
  simp only [freeLink]; (repeat' split) <;> simp

@[simp] theorem completeSend_places (s : State) :
    (completeSend s).frames.places.length = s.frames.places.length := by
  simp only [completeSend]; (repeat' split) <;> simp [FrameSide.carry]

@[simp] theorem readerAnswer_places (r : Reader) (a : Answer) (s : State) :
    (readerAnswer r a s).frames.places.length = s.frames.places.length := by
  cases r <;> simp [readerAnswer]

/-- A run of operations that each keep the number of places keeps it. -/
theorem foldl_places {α : Type} {act : State → α → State} {l : List α} {s : State}
    (h : ∀ u a, (act u a).frames.places.length = u.frames.places.length) :
    (l.foldl act s).frames.places.length = s.frames.places.length := by
  induction l generalizing s with
  | nil => rfl
  | cons a l ih => exact ih.trans (h s a)

@[simp] theorem answerAll_places (a : Answer) (asks : List Ask) (s : State) :
    (answerAll a asks s).frames.places.length = s.frames.places.length :=
  foldl_places fun u q => by split <;> simp

@[simp] theorem answerFromMap_places (track : Nat) (extents : List Extent) (q : Ask) (s : State) :
    (answerFromMap track extents q s).frames.places.length = s.frames.places.length := by
  simp only [answerFromMap]; (repeat' split) <;> simp

@[simp] theorem completeFill_places (ok : Bool) (s : State) :
    (completeFill ok s).frames.places.length = s.frames.places.length := by
  simp only [completeFill]
  (repeat' split) <;> simp [foldl_places (fun u q => answerFromMap_places _ _ q u)]

@[simp] theorem flushTrack_places (track : Nat) (s : State) :
    (flushTrack track s).frames.places.length = s.frames.places.length := by
  simp [flushTrack]

@[simp] theorem deleteTrack_places (track : Nat) (s : State) :
    (deleteTrack track s).frames.places.length = s.frames.places.length := by
  simp [deleteTrack]

@[simp] theorem serveTrackDelete_places (turn : Bool) (frame : Frame) (track : Nat) (s : State) :
    (serveTrackDelete turn frame track s).frames.places.length = s.frames.places.length := by
  unfold serveTrackDelete whenRoom; (repeat' split) <;> simp

@[simp] theorem damageTrack_places (n : Nat) (slot : TrackSlot) (reason : DamageReason) (content : Option ContentCode)
    (s : State) : (damageTrack n slot reason content s).frames.places.length = s.frames.places.length := by
  unfold damageTrack; split <;> simp

@[simp] theorem judgeData_places (n : Nat) (slot : TrackSlot) (g : Segment) (s : State) :
    (judgeData n slot g s).frames.places.length = s.frames.places.length := by
  simp only [judgeData]; (repeat' split) <;> simp

@[simp] theorem actOnSegment_places (g : Segment) (s : State) :
    (actOnSegment g s).frames.places.length = s.frames.places.length := by
  unfold actOnSegment; (repeat' split) <;> simp

@[simp] theorem pumpSegment_places (s : State) :
    (pumpSegment s).frames.places.length = s.frames.places.length := by
  unfold pumpSegment; (repeat' split) <;> simp

@[simp] theorem completeDescription_places (n : Nat) (slot : TrackSlot) (e : TrackEntry) (block : List Byte) (s : State) :
    (completeDescription n slot e block s).frames.places.length = s.frames.places.length := by
  unfold completeDescription; (repeat' split) <;> simp

@[simp] theorem gatherWritten_places (g : Gather) (s : State) :
    (gatherWritten g s).frames.places.length = s.frames.places.length := by
  unfold gatherWritten; (repeat' split) <;> simp

@[simp] theorem gatherFailed_places (g : Gather) (s : State) :
    (gatherFailed g s).frames.places.length = s.frames.places.length := by
  unfold gatherFailed; split <;> simp

@[simp] theorem dataWritten_places (ok : Bool) (g : Gather) (dropped : Bool) (s : State) :
    (dataWritten ok g dropped s).frames.places.length = s.frames.places.length := by
  rw [dataWritten_eq, pumpSegment_places]
  (repeat' split) <;> simp [dataStored]

@[simp] theorem mapWritten_places (ok : Bool) (m : MapBlock) (reply : Option Reply) (s : State) :
    (mapWritten ok m reply s).frames.places.length = s.frames.places.length := by
  simp only [mapWritten]; (repeat' split) <;> simp

@[simp] theorem interruptTrack_places (id : Nat) (s : State) :
    (interruptTrack id s).frames.places.length = s.frames.places.length := by
  unfold interruptTrack; split <;> simp

@[simp] theorem serveIngestAbort_places (frame : Frame) (s : State) :
    (serveIngestAbort frame s).frames.places.length = s.frames.places.length := by
  simp only [serveIngestAbort]
  (repeat' split) <;> simp [foldl_places (fun u id => interruptTrack_places id u)]

@[simp] theorem preparePlay_places (p : Play) (g : Option (Nat × Grant)) (s : State) :
    (preparePlay p g s).frames.places.length = s.frames.places.length := by
  simp [preparePlay]

@[simp] theorem prepareEnd_places (stop : WalkEnd) (s : State) :
    (prepareEnd stop s).frames.places.length = s.frames.places.length := by
  cases stop <;> simp [prepareEnd]

@[simp] theorem lookAhead_places (start : Pos) (s : State) :
    (lookAhead start s).frames.places.length = s.frames.places.length := by
  simp [lookAhead]

@[simp] theorem lookAheadIfDue_places (s : State) :
    (lookAheadIfDue s).frames.places.length = s.frames.places.length := by
  unfold lookAheadIfDue; split <;> simp

@[simp] theorem enterWait_places (pos : Pos) (timeout : Option Nat) (s : State) :
    (enterWait pos timeout s).frames.places.length = s.frames.places.length := by
  simp [enterWait]

@[simp] theorem beginShowing_places (p : Play) (g : Option (Nat × Grant)) (s : State) :
    (beginShowing p g s).frames.places.length = s.frames.places.length := by
  unfold beginShowing; split <;> simp

@[simp] theorem abandonSend_places (record : Nat) (s : State) :
    (abandonSend record s).frames.places.length = s.frames.places.length := by
  unfold abandonSend; (repeat' split) <;> simp

@[simp] theorem blackenWaiting_places (record : Nat) (s : State) :
    (blackenWaiting record s).frames.places = s.frames.places := rfl

@[simp] theorem blackenLink_places (s : State) : (blackenLink s).frames.places = s.frames.places := rfl

@[simp] theorem enterIdle_frames (s : State) : (enterIdle s).frames = s.frames := rfl

/-! ### Operations that let places go -/

theorem actWalk_frames {start : Pos} {s u : State} {stop : WalkEnd} (h : actWalk start s = (stop, u)) :
    u.frames = s.frames := by
  rw [show u = (actWalk start s).2 by rw [h]]
  simp

theorem recheckPlay_frames {p : Play} {s u : State} {v : Verdict} (h : recheckPlay p s = (v, u)) : u.frames = s.frames := by
  rw [show u = (recheckPlay p s).2 by rw [h]]
  simp

/-- A full reset empties the queue. -/
@[simp] theorem fullReset_places (reported clockRan : Nat) (landed : Bool) (s : State) :
    (fullReset reported clockRan landed s).frames.places = [] := by
  simp [fullReset, resetUnits, State.reset, FrameSide.reset]

@[simp] theorem resetAfterReply_places (s : State) : (resetAfterReply s).frames.places = [] := by
  simp [resetAfterReply]

section
variable {k : Nat} {s : State} (h : s.frames.places.length ≤ k)
include h

theorem keepPlaces_places (keep : Place → Bool) : (keepPlaces keep s).frames.places.length ≤ k := by
  have hkept := (List.length_filter_le keep s.frames.places).trans h
  simp only [keepPlaces]
  split
  · simpa using hkept
  · exact hkept

@[simp] theorem dropCurrentFrames_places : (dropCurrentFrames s).frames.places.length ≤ k := keepPlaces_places h _

@[simp] theorem dropPreparedFrames_places : (dropPreparedFrames s).frames.places.length ≤ k := keepPlaces_places h _

@[simp] theorem dropFramesBeyond_places (last : Nat) : (dropFramesBeyond last s).frames.places.length ≤ k :=
  keepPlaces_places h _

theorem presentDue_places (sh : Showing) : (presentDue sh s).frames.places.length ≤ k := by
  have tail : ∀ {p rest}, s.frames.places = p :: rest → rest.length ≤ k := fun hp => by
    rw [hp, List.length_cons] at h; omega
  simp only [presentDue]
  (repeat' split) <;> simp [h] <;> exact tail ‹_›

theorem presentPicture_places (takeover : Bool) : (presentPicture takeover s).frames.places.length ≤ k := by
  unfold presentPicture
  (repeat' split) <;> simp [h, presentDue_places]

@[simp] theorem discardPrepared_places : (discardPrepared s).frames.places.length ≤ k := by
  unfold discardPrepared; split <;> simp [h]

@[simp] theorem endShowing_places (outcome : ShowingOutcome) : (endShowing outcome s).frames.places.length ≤ k := by
  unfold endShowing; split <;> simp [h]

@[simp] theorem endShow_places (outcome : ShowOutcome) : (endShow outcome s).frames.places.length ≤ k := by
  simp [endShow, h]

@[simp] theorem halt_places (cause : HaltCause) : (halt cause s).frames.places.length ≤ k := by
  simp [halt, h]

@[simp] theorem haltAt_places (pos : Pos) : (haltAt pos s).frames.places.length ≤ k :=
  halt_places (s := updateSeq _ s) h _

@[simp] theorem takeUpWalk_places (stop : WalkEnd) : (takeUpWalk stop s).frames.places.length ≤ k := by
  cases stop <;> simp [takeUpWalk, h]

@[simp] theorem blackGap_places (start : Pos) : (blackGap start s).frames.places.length ≤ k := by
  unfold blackGap
  dsimp only
  split <;> rename_i hw <;> simp [actWalk_frames hw, h]

@[simp] theorem takeOver_places (p : Play) : (takeOver p s).frames.places.length ≤ k := by
  unfold takeOver
  split <;> rename_i hp
  · simp [recheckPlay_frames hp, h]
  · split <;> simp [recheckPlay_frames hp, h]

@[simp] theorem endCurrent_places (outcome : Showing → ShowingOutcome) :
    (endCurrent outcome s).frames.places.length ≤ k := by
  simp only [endCurrent]; (repeat' split) <;> simp [h]

@[simp] theorem boundaryTick_places : (boundaryTick s).frames.places.length ≤ k := by
  simp only [boundaryTick]; split <;> simp [h]

@[simp] theorem skipBoundary_places : (skipBoundary s).frames.places.length ≤ k := by
  simp only [skipBoundary]; split <;> simp [h]

@[simp] theorem leaveWait_places : (leaveWait s).frames.places.length ≤ k := by
  simp only [leaveWait]; split <;> simp [h]

@[simp] theorem leaveLogFull_places : (leaveLogFull s).frames.places.length ≤ k := by
  unfold leaveLogFull
  split
  · exact h
  · split <;> rename_i hp <;> simp [recheckPlay_frames hp, h]

@[simp] theorem expirePause_places : (expirePause s).frames.places.length ≤ k := by
  simp [expirePause, h]

@[simp] theorem checkRepeats_places : (checkRepeats s).frames.places.length ≤ k := by
  unfold checkRepeats; (repeat' split) <;> simp [h]

@[simp] theorem loseLink_places : (loseLink s).frames.places.length ≤ k := by
  unfold loseLink; (repeat' split) <;> simp [h]

@[simp] theorem revokeShowing_places : (revokeShowing s).frames.places.length ≤ k := by
  unfold revokeShowing; split <;> simp [h]

@[simp] theorem takeOverIfReady_places : (takeOverIfReady s).frames.places.length ≤ k := by
  unfold takeOverIfReady; (repeat' split) <;> simp [h]

@[simp] theorem runTick_places : (runTick s).frames.places.length ≤ k := by
  unfold runTick; (repeat' split) <;> simp [h]

@[simp] theorem sequencerTick_places : (sequencerTick s).frames.places.length ≤ k := by
  unfold sequencerTick; split <;> simp [h]

@[simp] theorem frameTick_places : (frameTick s).frames.places.length ≤ k := by
  have htick : (sequencerTick (stepFade (stepPulses s))).frames.places.length ≤ k := by simp [h]
  have hpresent := presentPicture_places (s := lookAheadIfDue (judgeUnits (sequencerTick (stepFade (stepPulses s)))))
    (by simpa using htick) (tookOver s (sequencerTick (stepFade (stepPulses s))))
  simp [frameTick, hpresent]

@[simp] theorem clockTick_places : (clockTick s).frames.places.length ≤ k := by
  unfold clockTick
  exact frameTick_places (s := updateTime _ s) h

@[simp] theorem syncEdge_places (rising : Bool) : (syncEdge rising s).frames.places.length ≤ k := by
  simp only [syncEdge]
  repeat' split
  · exact h
  · simp only [raise_frames]
    exact clockTick_places (s := updateTime _ s) h
  · exact clockTick_places (s := updateTime _ s) h
  · exact h

@[simp] theorem loseSync_places : (loseSync s).frames.places.length ≤ k := by
  simp only [loseSync, raise_frames]
  exact clockTick_places (s := updateTime _ s) h

@[simp] theorem generatorTicks_places : (generatorTicks s).frames.places.length ≤ k := by
  unfold generatorTicks
  repeat' split
  · exact clockTick_places h
  · exact loseSync_places h
  · exact clockTick_places (s := updateTime _ s) h
  · exact clockTick_places (s := updateTime _ s) h
  · exact h

@[simp] theorem concludeCheck_places (outcome : CheckOutcome) (answered : Option Nat) :
    (concludeCheck outcome answered s).frames.places.length ≤ k := by
  have hended : (endLinkCheck outcome answered s).frames.places.length ≤ k := by simpa using h
  simp only [concludeCheck]
  split
  · simpa using loseLink_places hended
  · exact hended

theorem tryGo_places {t : State} (ht : tryGo s = .ok t) : t.frames.places.length ≤ k := by
  unfold tryGo at ht
  (repeat' split at ht) <;> cases ht <;> simp [h]

theorem trySkip_places {t : State} (ht : trySkip s = .ok t) : t.frames.places.length ≤ k := by
  unfold trySkip at ht
  (repeat' split at ht) <;> cases ht <;> simp [h]

theorem tryStop_places {t : State} (ht : tryStop s = .ok t) : t.frames.places.length ≤ k := by
  unfold tryStop at ht
  split at ht <;> cases ht
  · exact h
  · exact endShow_places (endShowing_places h _) _

/-- A request of the sequencer that is refused leaves the queue. -/
theorem answerTry_places (kind : Nat) (frame : Frame) {f : State → Except Reason State}
    (hf : ∀ t, f s = .ok t → t.frames.places.length ≤ k) : (answerTry kind frame f s).frames.places.length ≤ k := by
  unfold answerTry
  split
  · rename_i t ht; simpa using hf t ht
  · simpa using h

@[simp] theorem servePauseLimit_places (frame : Frame) (seconds : Nat) :
    (servePauseLimit frame seconds s).frames.places.length ≤ k := by
  have hended := expirePause_places (s := updateSeq (fun q => { q with pauseLimit := min seconds 3600 }) s) h
  simp only [servePauseLimit]
  (repeat' split) <;> simp [h, hended]

@[simp] theorem revokeGrant_places (slot : Nat) (g : Grant) : (revokeGrant slot g s).frames.places.length ≤ k := by
  simp only [revokeGrant]; split <;> simp [h]

@[simp] theorem serveGrantRevoke_places (turn : Bool) (frame : Frame) (slot : Nat) :
    (serveGrantRevoke turn frame slot s).frames.places.length ≤ k := by
  unfold serveGrantRevoke whenRoom; (repeat' split) <;> simp [h]

@[simp] theorem actFunction_places (n : Nat) (l : Line) : (actFunction n l s).frames.places.length ≤ k := by
  unfold actFunction
  split
  case h_3 =>
    unfold orElseSame
    split
    · rename_i t ht; simpa using tryGo_places h ht
    · simpa using h
  case h_5 =>
    unfold tryPause
    split <;> simpa [orElseSame] using h
  all_goals simpa using h

@[simp] theorem takeOnset_places (n : Nat) : (takeOnset n s).frames.places.length ≤ k := by
  unfold takeOnset
  split
  · exact h
  · exact actFunction_places (s := updateLine _ _ s) h _ _

@[simp] theorem takeLevel_places (n : Nat) (high : Bool) : (takeLevel n high s).frames.places.length ≤ k := by
  simp only [takeLevel]
  repeat' split
  · exact h
  · exact takeOnset_places (s := updateLine _ _ s) h _
  · exact h
  · exact h

@[simp] theorem changePin_places (n : Nat) (high : Bool) : (changePin n high s).frames.places.length ≤ k := by
  simp only [changePin]
  repeat' split
  on_goal 5 => exact takeLevel_places (s := updateLine _ _ s) h _ _
  all_goals exact h

@[simp] theorem setInput_places (n : Nat) (c : LineCondition) (debounce : Nat) (f : LineFunction) :
    (setInput n c debounce f s).frames.places.length ≤ k := by
  have hset : (updateLine n (fun l => { l with
      output := false, condition := c, debounce := debounce, function := f, level := l.wire }) (clearLine n s)).frames.places.length ≤ k := by
    simpa using h
  simp only [setInput]
  repeat' split
  · exact takeOnset_places hset n
  · exact hset
  · exact hset

@[simp] theorem serveLineSetup_places (frame : Frame) (line : Nat) (config : LineRequest) :
    (serveLineSetup frame line config s).frames.places.length ≤ k := by
  unfold serveLineSetup; (repeat' split) <;> simp [h]

@[simp] theorem showResetSequencer_places : (showResetSequencer s).frames.places.length ≤ k := by
  unfold showResetSequencer; split <;> simp [h]

@[simp] theorem showReset_places : (showReset s).frames.places.length ≤ k := by
  have hended : (dropPreparedFrames (showResetSequencer (blackenLink s))).frames.places.length ≤ k :=
    dropPreparedFrames_places (showResetSequencer_places (s := blackenLink s) h)
  simpa [showReset] using hended

@[simp] theorem serveResetShow_places (frame : Frame) : (serveResetShow frame s).frames.places.length ≤ k := by
  simp [serveResetShow, h]

@[simp] theorem serveShowStart_places (frame : Frame) : (serveShowStart frame s).frames.places.length ≤ k := by
  unfold serveShowStart
  split
  · simpa using h
  · split
    rename_i hw
    simp [actWalk_frames hw, h]

@[simp] theorem completeOutgoing_places : (completeOutgoing s).frames.places.length ≤ k := by
  obtain ⟨p, hp | hp⟩ := completeOutgoing_cases s
  · rw [hp]; exact h
  · simp [hp]

@[simp] theorem mapBlockWriteComplete_places (ok : Bool) : (mapBlockWriteComplete ok s).frames.places.length ≤ k := by
  unfold mapBlockWriteComplete
  split
  · exact completeTransfer_keeps (P := fun u => u.frames.places.length ≤ k) (fun _ _ _ hu => hu)
      (fun _ _ hu => by simpa using hu) h
  · exact h

/-- No request adds a place. -/
@[simp] theorem serve_places (turn : Bool) (c : Instr) : (serve turn c s).frames.places.length ≤ k := by
  cases c
  case go f => exact answerTry_places h 26 f fun _ => tryGo_places h
  case skip f => exact answerTry_places h 27 f fun _ => trySkip_places h
  case stop f => exact answerTry_places h 28 f fun _ => tryStop_places h
  all_goals simp [serve, h]

@[simp] theorem serveDeferred_places (n : Nat) : (serveDeferred n s).frames.places.length ≤ k :=
  serveDeferred_keeps (P := fun u => u.frames.places.length ≤ k) (fun _ _ _ hu => hu) (fun c _ hu => serve_places hu false c)
    n h

@[simp] theorem serveWaiter_places (w : Waiter) : (serveWaiter w s).frames.places.length ≤ k := by
  unfold serveWaiter; (repeat' split) <;> simp [h]

@[simp] theorem queueWaiting_places : (queueWaiting s).frames.places.length ≤ k := by
  unfold queueWaiting; (repeat' split) <;> simp [h]

end

/-! ### The reader -/

/-- The reader begins a frame only while the queue holds fewer than 4 places. -/
theorem beginFrame_places {s : State} (h : s.frames.places.length ≤ 4) : (beginFrame s).frames.places.length ≤ 4 := by
  unfold beginFrame
  split
  · exact h
  · rename_i hroom
    simp only [Bool.or_eq_true, decide_eq_true_eq, not_or] at hroom
    split
    · exact h
    · dsimp only
      (repeat' split) <;> simp <;> omega

/-- Every event keeps the queue at 4 places or fewer. -/
theorem event_places {c : Instr} {s : State} (hc : requestOf c = none) (h : s.frames.places.length ≤ 4) :
    ∃ u, exec c s = finish u ∧ u.frames.places.length ≤ 4 := by
  have completes : ∀ {client ok act}, (∀ t u, (act t u).frames.places.length = u.frames.places.length) →
      (completeTransfer client ok act s).frames.places.length ≤ 4 := fun hact =>
    completeTransfer_keeps (P := fun u => u.frames.places.length ≤ 4) (fun _ _ _ hu => hu)
      (fun t u hu => (hact t u).trans_le hu) h
  cases c <;> try cases hc
  all_goals refine ⟨_, rfl, ?_⟩
  case pictureReaderBeginFrame => exact beginFrame_places h
  case pictureTransferComplete | windowFillComplete | soundTransferComplete | subtitleTransferComplete | sweepReadComplete =>
    exact completes fun t u => by simp
  case ingestWriteComplete =>
    split
    · exact completes fun t u => by simp
    · exact h
  all_goals (repeat' split) <;> simp [h]

end Machine
end Sys2Proof
end

section
/-!
The picture reader: its frames begun, its transfers completed or lost (R45, R47, R124, R125).
-/
namespace Sys2Proof
namespace Machine

/-! ### The completion of a transfer, with the arbiter it leaves its client -/

section
variable {c : Client} {act : Transfer → State → State} {s : State} {t : Transfer}

/-- A transfer succeeds: of the arbiter only the count of retries may have changed when its client acts. -/
theorem completeTransfer_succeeds (hcur : s.arbiter.current = some t) (hc : t.request.client = c) (hd : t.dropped = false) :
    ∃ n, completeTransfer c true act s = grantNext (act t { s with arbiter := { s.arbiter with retries := n } }) := by
  cases hr : t.retry
  · exact ⟨s.arbiter.retries, completeTransfer_first hcur hc hd hr⟩
  · exact ⟨bump max32 s.arbiter.retries, by simp [completeTransfer, hcur, hc, hd, hr]⟩
end

/-- A client that asks while its own transfer, which it does not disregard, is the current one waits (R43). -/
theorem askStore_waits {s : State} {t : Transfer} (r : StoreRequest) (hcur : s.arbiter.current = some t)
    (hd : t.dropped = false) :
    askStore r s = { s with arbiter := { s.arbiter with waiting := s.arbiter.waiting ++ [r] } } := by
  simp [askStore, hcur, Arbiter.disregards, hd]

/-! ### The grant of the highest priority -/

/-- Of requests of which one alone is the picture reader's, that one is granted, and the others go on waiting (R42, R43). -/
theorem grantNext_picture {s : State} {l : List StoreRequest} {r : StoreRequest} (hwait : s.arbiter.waiting = l ++ [r])
    (hr : r.client = .picture) (hl : ∀ x ∈ l, x.client ≠ .picture) :
    (grantNext s).arbiter = { s.arbiter with current := some (Transfer.begin r), waiting := l } := by
  have hbest : bestRequest (l ++ [r]) = some r := by
    cases hb : bestRequest (l ++ [r]) with
    | none => simp [bestRequest_eq_none] at hb
    | some b =>
      obtain ⟨hmem, hle⟩ := bestRequest_some hb
      have hrank : b.client.rank ≤ 1 := by simpa [hr, Client.rank] using hle r (by simp)
      have hpicture : b.client = .picture := by
        cases hbc : b.client <;> simp [hbc, Client.rank] at hrank ⊢
      rcases List.mem_append.1 hmem with hin | hin
      · exact absurd hpicture (hl b hin)
      · rw [List.mem_singleton.1 hin]
  have hothers : withoutClient .picture (l ++ [r]) = l := by
    simpa [withoutClient, hr, List.filter_eq_self] using hl
  simp [grantNext, hwait, hbest, hr, hothers]

/-! ### The frame being read -/

/-- The picture path when the reader is done with the frame being read: its place has a condition and blocks (R124, R125). -/
def FrameSide.ended (c : PlaceCondition) (blocks : List (List Byte)) (f : FrameSide) : FrameSide :=
  { f with
    job := none
    places := f.places.map fun p => if p.condition = .filling then { p with condition := c, blocks := blocks } else p }

@[simp] theorem endFrameJob_frames (c : PlaceCondition) (blocks : List (List Byte)) (s : State) :
    (endFrameJob c blocks s).frames = s.frames.ended c blocks := rfl

/-- With no transfer left the frame's place is COMPLETE with the blocks that have arrived (R45). -/
theorem askPicture_complete {j : FrameJob} (h : j.transfers = []) (s : State) :
    askPicture j s = endFrameJob .complete j.blocks s := by
  simp [askPicture, h]

/-- With transfers left the first of them is asked for (R45). -/
theorem askPicture_next {j : FrameJob} {r : Run} {rest : List Run} (h : j.transfers = r :: rest) (s : State) :
    askPicture j s =
      askStore { client := .picture, writes := false, first := r.first, count := r.length, track := some j.track }
        { s with frames := { s.frames with job := some j } } := by
  simp [askPicture, h]

/-! ### A frame begun -/

/-- The picture path as the reader's lookups leave it: a job waits for an answer or a transfer, or the frame has ended
without a block. -/
def FrameSide.lookedUp (f g : FrameSide) : Prop := (∃ job, g = { f with job := job }) ∨ ∃ c, g = f.ended c []

theorem askPicture_lookedUp {j : FrameJob} (s : State) (hj : j.blocks = []) : s.frames.lookedUp (askPicture j s).frames := by
  cases ht : j.transfers with
  | nil => exact .inr ⟨.complete, by rw [askPicture_complete ht, endFrameJob_frames, hj]⟩
  | cons r rest => exact .inl ⟨some j, by simp [askPicture_next ht]⟩

/-- The reader's lookups end with a job, or with the end of the frame: COMPLETE where it has no block to read, MISSING after
a fault (R45). -/
theorem lookUpFrame_lookedUp (n : Nat) {j : FrameJob} (s : State) (hj : j.blocks = []) :
    s.frames.lookedUp (lookUpFrame n j s).frames := by
  induction n generalizing j s with
  | zero => exact askPicture_lookedUp s hj
  | succ n ih =>
    unfold lookUpFrame
    split
    · exact askPicture_lookedUp s hj
    · split
      · rename_i store remaining u hl
        rw [← lookup_frames hl]
        exact ih (j := j.addPiece store remaining) u hj
      · rename_i u hl
        exact .inl ⟨some j, by simp [lookup_frames hl]⟩
      · rename_i u hl
        exact .inr ⟨.missing, by simp [lookup_frames hl]⟩

/-- A queue whose other places are read, with its new place at the tail, after the reader's lookups. -/
theorem FrameSide.lookedUp.places {f g : FrameSide} {old : List Place} {p : Place} (h : f.lookedUp g)
    (hf : f.places = old ++ [p]) (hp : p.condition = .filling) (hblocks : p.blocks = [])
    (hold : ∀ q ∈ old, q.condition ≠ .filling) :
    (∃ c, g.places = old ++ [{ p with condition := c }]) ∧ g.nextCurrent = f.nextCurrent ∧
      g.nextPrepared = f.nextPrepared := by
  obtain ⟨job, rfl⟩ | ⟨c, rfl⟩ := h
  · exact ⟨⟨p.condition, hf⟩, rfl, rfl⟩
  · refine ⟨⟨c, ?_⟩, rfl, rfl⟩
    have hsame : (old.map fun q => if q.condition = .filling then { q with condition := c, blocks := [] } else q) = old := by
      refine (List.map_congr_left fun q hq => ?_).trans (List.map_id old)
      rw [if_neg (hold q hq), id]
    simp only [FrameSide.ended, hf, List.map_append, hsame, List.map_cons, List.map_nil, if_pos hp, hblocks]

/-- The picture path with the reader's next frame at the tail of the queue, before its lookups (R125). -/
def FrameSide.begun (prepared : Bool) (n : Nat) (f : FrameSide) : FrameSide :=
  { f with
    places := f.places ++ [{ prepared := prepared, frame := n, condition := .filling, blocks := [] }]
    nextCurrent := if prepared then f.nextCurrent else n + 1
    nextPrepared := if prepared then n + 1 else f.nextPrepared }

theorem beginFrame_lookedUp {s : State} {play : Play} {n : Nat} {prepared : Bool} (hroom : s.frames.places.length < 4)
    (hold : ∀ p ∈ s.frames.places, p.condition ≠ .filling) (hnext : nextFrame s = some (prepared, play, n)) :
    (s.frames.begun prepared n).lookedUp (beginFrame s).frames := by
  have hfilling : (s.frames.places.any fun p => decide (p.condition = .filling)) = false := by simpa using hold
  have hmissing : (s.frames.begun prepared n).lookedUp ((s.frames.begun prepared n).ended .missing []) := .inr ⟨_, rfl⟩
  unfold beginFrame
  simp only [hnext, hfilling, Nat.not_le.2 hroom, decide_false, Bool.or_false, Bool.false_eq_true, if_false]
  split
  · split
    · exact lookUpFrame_lookedUp _ { s with frames := s.frames.begun prepared n } rfl
    · exact hmissing
  · exact hmissing

section
variable {s : State} {tr : Transfer} {j : FrameJob}

theorem exec_beginFrame {play : Play} {n : Nat} {prepared : Bool} (hroom : s.frames.places.length < 4)
    (hold : ∀ p ∈ s.frames.places, p.condition ≠ .filling) (hnext : nextFrame s = some (prepared, play, n)) :
    ∃ t c, exec .pictureReaderBeginFrame s = .next t ∧
      t.frames.places = s.frames.places ++ [{ prepared := prepared, frame := n, condition := c, blocks := [] }] ∧
      t.frames.nextCurrent = (if prepared then s.frames.nextCurrent else n + 1) ∧
      t.frames.nextPrepared = (if prepared then n + 1 else s.frames.nextPrepared) ∧
      t.catalogue = s.catalogue ∧ t.seq = s.seq ∧ t.sound = s.sound := by
  obtain ⟨⟨c, hplaces⟩, hcurrent, hprepared⟩ := (beginFrame_lookedUp hroom hold hnext).places rfl rfl rfl hold
  refine ⟨settle (beginFrame s), c, rfl, ?_⟩
  simp only [settle_frame, beginFrame_frame, and_true]
  exact ⟨hplaces, hcurrent, hprepared⟩

/-! ### Transfers of the reader -/

/-- The reading key is that of the frame's PLAY, for a track whose header names a key (R125). -/
theorem readingKey_eq {e : TrackEntry} (he : s.catalogue.tracks.find j.track = some e) :
    readingKey j s =
      if e.header.key = none then none else if j.prepared then s.frames.keyPrepared else s.frames.keyCurrent := by
  cases hk : e.header.key <;> simp [readingKey, he, hk]

/-- The frame's job when one more transfer has brought its blocks. -/
def FrameJob.arrive (tr : Transfer) (s : State) (j : FrameJob) : FrameJob :=
  { j with transfers := j.transfers.drop 1, blocks := j.blocks ++ arrivedBlocks j tr s }

/-- A transfer of the reader succeeds: its blocks arrive, and the next is asked for. -/
theorem exec_pictureTransfer_ok (hcur : s.arbiter.current = some tr) (hc : tr.request.client = .picture)
    (hd : tr.dropped = false) (hj : s.frames.job = some j) :
    ∃ n, exec (.pictureTransferComplete true) s =
      finish (grantNext (askPicture (j.arrive tr s) { s with arbiter := { s.arbiter with retries := n } })) := by
  obtain ⟨n, hn⟩ := completeTransfer_succeeds (act := pictureTransfer true) hcur hc hd
  refine ⟨n, congrArg finish (hn.trans (congrArg grantNext ?_))⟩
  simp only [pictureTransfer, hj]
  rfl

/-- More transfers are left: the next is granted at once, since no client ranks higher (R42, R45). -/
theorem exec_pictureTransfer_more (hcur : s.arbiter.current = some tr) (hc : tr.request.client = .picture)
    (hd : tr.dropped = false) (hj : s.frames.job = some j) {a b : Run} {rest : List Run} (ht : j.transfers = a :: b :: rest)
    (hwait : ∀ r ∈ s.arbiter.waiting, r.client ≠ .picture) :
    ∃ t, exec (.pictureTransferComplete true) s = .next t ∧
      t.arbiter.current = some (Transfer.begin { client := .picture, writes := false, first := b.first,
                                                 count := b.length, track := some j.track }) ∧
      t.arbiter.waiting = s.arbiter.waiting ∧
      t.frames = { s.frames with
        job := some { j with transfers := b :: rest, blocks := j.blocks ++ arrivedBlocks j tr s } } := by
  obtain ⟨n, hn⟩ := exec_pictureTransfer_ok hcur hc hd hj
  have hjob : (j.arrive tr s).transfers = b :: rest := by simp [FrameJob.arrive, ht]
  have hwaits := askStore_waits (s := { s with
      arbiter := { s.arbiter with retries := n }, frames := { s.frames with job := some (j.arrive tr s) } })
    { client := .picture, writes := false, first := b.first, count := b.length, track := some j.track } hcur hd
  refine ⟨_, hn.trans (congrArg (finish ∘ grantNext) ((askPicture_next hjob _).trans hwaits)), ?_⟩
  simp only [settle_frame, grantNext_frame]
  rw [grantNext_picture rfl rfl hwait, ← hjob]
  exact ⟨rfl, rfl, rfl⟩

/-- The last transfer completes the frame's place (R45). -/
theorem exec_pictureTransfer_last (hcur : s.arbiter.current = some tr) (hc : tr.request.client = .picture)
    (hd : tr.dropped = false) (hj : s.frames.job = some j) {a : Run} (ht : j.transfers = [a]) :
    ∃ t, exec (.pictureTransferComplete true) s = .next t ∧
      t.frames = s.frames.ended .complete (j.blocks ++ arrivedBlocks j tr s) := by
  obtain ⟨n, hn⟩ := exec_pictureTransfer_ok hcur hc hd hj
  rw [askPicture_complete (by simp [FrameJob.arrive, ht])] at hn
  exact ⟨_, hn, by simp [FrameJob.arrive]⟩

/-- After a second failure the place is MISSING (R47). -/
theorem exec_pictureTransfer_failed (hcur : s.arbiter.current = some tr) (hc : tr.request.client = .picture)
    (hd : tr.dropped = false) (hr : tr.retry = true) (hj : s.frames.job = some j) :
    ∃ t, exec (.pictureTransferComplete false) s = .next t ∧ t.frames = s.frames.ended .missing [] ∧
      t.arbiter.faults = bump max32 s.arbiter.faults := by
  have hlost : pictureTransfer false tr (faulted tr s) = endFrameJob .missing [] (faulted tr s) := by
    simp [pictureTransfer, faulted, hj]
  refine ⟨_, congrArg finish (completeTransfer_failed hcur hc hd hr), ?_⟩
  rw [hlost]
  simp [faulted]
end

/-- Settles O29: a frame begun, the transfers one by one, and the queue's bound by the operations that change it. -/
theorem pictureReaderReadsFrames : Obligations.PictureReaderReadsFrames := by
  refine ⟨fun s play n prepared hroom hold hnext => exec_beginFrame hroom hold hnext,
    fun s tr j e hcur hc hd hj he => ?_, fun s tr j hcur hc hd hr hj => exec_pictureTransfer_failed hcur hc hd hr hj,
    fun s t h ht => ?_⟩
  · have hblocks : arrivedBlocks j tr s = (List.range tr.request.count).map fun i =>
        match (if e.header.key = none then none else if j.prepared then s.frames.keyPrepared else s.frames.keyCurrent) with
        | some material => Config.unscramble material j.track (j.stop - total (j.transfers.map (·.length)) + i)
            (s.store.bytes (tr.request.first + i))
        | none => s.store.bytes (tr.request.first + i) := by
      rw [arrivedBlocks, ← readingKey_eq he]
      rfl
    dsimp only
    constructor
    · intro a b rest hab hwait
      have := exec_pictureTransfer_more hcur hc hd hj hab hwait
      rw [hblocks] at this
      exact this
    · intro a ha
      have := exec_pictureTransfer_last hcur hc hd hj ha
      rw [hblocks] at this
      exact this
  · exact step_keeps (P := fun u => u.frames.places.length ≤ 4) (fun _ _ hu => hu) (fun u hu => by simpa using hu)
      (fun c u v hu hv => exec_keeps (P := fun u => u.frames.places.length ≤ 4) (fun _ _ _ hu => hu)
        (fun u hu => serve_places hu false c) (fun hc => event_places hc hu) hu hv) h ht

end Machine
end Sys2Proof
end

section
/-!
The window cache (R50 to R54): lookups, the fill that begins, extents loaded, and the answers a completed fill gives.
-/
namespace Sys2Proof

/-- Two changes of a list's element that give the same there give the same list. -/
theorem updateAt_congr {α : Type} {f g : α → α} {l : List α} {n : Nat} (h : ∀ x, l[n]? = some x → f x = g x) :
    updateAt f l n = updateAt g l n := by
  induction l generalizing n with
  | nil => rfl
  | cons a l ih =>
    cases n with
    | zero => simp [updateAt, h a rfl]
    | succ n => simp [updateAt, ih h]

namespace Machine

/-- In a table an entry put under a free number is the one found by a property that no other entry has. -/
theorem Table.find?_put {α : Type} {t : Table α} {k : Nat} {x : α} {p : Nat × α → Bool} (hp : p (k, x) = true)
    (hold : ∀ y ∈ t, p y = false) : (t.put k x).find? p = some (k, x) := by
  cases hf : (t.put k x).find? p with
  | none =>
    have hin := Table.mem_of_find (Table.find_put_same t k x)
    exact absurd hp (List.find?_eq_none.1 hf _ hin)
  | some y =>
    rcases Table.mem_put (List.mem_of_find?_eq_some hf) with rfl | hy
    · rfl
    · exact absurd (List.find?_some hf) (by simp [hold y hy])

/-! ### Lookups (R50 to R52) -/

section
variable {s : State} {reader : Reader} {kind : AskKind} {track block : Nat}

theorem lookup_hit {n : Nat} {e : CacheEntry} (hj : judgeLookup reader track block s = none)
    (hf : findCovering s.cache.entries track block = some (n, e)) : lookup reader kind track block s =
      (.hit (e.store + (block - e.block)) (e.count - (block - e.block)),
       { s with cache := { s.cache with hits := bump max32 s.cache.hits, order := toFront n s.cache.order } }) := by
  simp [lookup, hj, hf]

theorem lookup_fault {cause : RangeCause} (hj : judgeLookup reader track block s = some cause) :
    lookup reader kind track block s = (.fault, rangeFault reader track block cause s) := by
  simp [lookup, hj]

theorem lookup_miss (hj : judgeLookup reader track block s = none)
    (hf : findCovering s.cache.entries track block = none) : lookup reader kind track block s =
      (.waiting, { s with cache := { s.cache with
        misses := bump max32 s.cache.misses
        fills := attach track { reader := reader, kind := kind, block := block, live := true } s.cache.fills } }) := by
  simp [lookup, hj, hf]
end

section
variable {track : Nat} {q : Ask}

/-- A question joins the first fill of its track. -/
theorem attach_join {before after : List Fill} {f : Fill} (hbefore : ∀ g ∈ before, g.track ≠ track) (hf : f.track = track) :
    attach track q (before ++ f :: after) = before ++ { f with asks := f.asks ++ [q] } :: after := by
  induction before with
  | nil => simp [attach, hf]
  | cons g before ih =>
    obtain ⟨hg, hrest⟩ := List.forall_mem_cons.1 hbefore
    simp [attach, hg, ih hrest]

/-- A question whose track has no fill makes one, behind the others. -/
theorem attach_make {fills : List Fill} (h : ∀ g ∈ fills, g.track ≠ track) :
    attach track q fills = fills ++ [{ track := track, running := false, stale := false, asks := [q] }] := by
  induction fills with
  | nil => rfl
  | cons g fills ih =>
    obtain ⟨hg, hrest⟩ := List.forall_mem_cons.1 h
    simp [attach, hg, ih hrest]
end

/-! ### The fill that begins (R52) -/

theorem bestFill_ne_none {f : Fill} {l : List Fill} (hf : f.running = false) : bestFill (f :: l) ≠ none := by
  unfold bestFill
  simp only [hf, Bool.false_eq_true, if_false]
  (repeat' split) <;> simp

/-- Of pending fills the best ranks highest. -/
theorem bestFill_rank {l : List Fill} {f : Fill} (h : bestFill l = some f) (hpending : ∀ g ∈ l, g.running = false) :
    ∀ g ∈ l, f.rank ≤ g.rank := by
  induction l generalizing f with
  | nil => cases h
  | cons a rest ih =>
    obtain ⟨ha, hrest⟩ := List.forall_mem_cons.1 hpending
    unfold bestFill at h
    simp only [ha, Bool.false_eq_true, if_false] at h
    rw [List.forall_mem_cons]
    split at h
    · rename_i hnone
      cases rest with
      | nil => cases h; simp
      | cons b rest => exact absurd hnone (bestFill_ne_none (hrest b (by simp)))
    · rename_i b hb
      have hle := ih hb hrest
      split at h <;> cases h
      · exact ⟨by omega, hle⟩
      · exact ⟨le_rfl, fun g hg => le_trans (by omega) (hle g hg)⟩

theorem exec_windowFillBegin {s : State} {f : Fill} (hidle : ∀ g ∈ s.cache.fills, g.running = false)
    (hf : bestFill s.cache.fills = some f) : exec .windowFillBegin s = .next (settle
      (askStore { client := .windowFill, writes := false, first := f.track, count := 1, track := some f.track }
        { s with cache := { s.cache with
            reads := bump max32 s.cache.reads
            fills := s.cache.fills.map fun g => if g.track = f.track then { g with running := true } else g } })) := by
  have hany : s.cache.fills.any (·.running) = false := by simpa using hidle
  show finish (beginFill s) = _
  simp [beginFill, hany, hf, finish]

/-! ### Extents loaded (R53) -/

/-- An extent stands in the cache under a number, at the front of the use order. -/
def Cache.load (n : Nat) (e : CacheEntry) (c : Cache) : Cache :=
  { c with entries := c.entries.put n e, order := toFront n c.order }

section
variable {c : Cache} {e : CacheEntry} {n : Nat}

/-- An extent that no entry holds yet is not found. -/
theorem find?_extent_none {l : Table CacheEntry} {track i : Nat} (h : ∀ p ∈ l, p.2.track = track → p.2.index ≠ i) :
    (l.find? fun p => decide (p.2.track = track) && decide (p.2.index = i)) = none := by
  simpa [List.find?_eq_none] using fun a b hab => h (a, b) hab

theorem loadExtent_free (hnew : ∀ p ∈ c.entries, p.2.track = e.track → p.2.index ≠ e.index)
    (hfree : Table.lowestFree c.entries 8 = some n) : loadExtent e c = c.load n e := by
  simp [loadExtent, find?_extent_none hnew, hfree, Cache.load]

theorem loadExtent_full (hnew : ∀ p ∈ c.entries, p.2.track = e.track → p.2.index ≠ e.index)
    (hfull : Table.lowestFree c.entries 8 = none) (hlast : c.order.getLast? = some n) :
    loadExtent e c = { c.load n e with replaced := bump max32 c.replaced } := by
  simp [loadExtent, find?_extent_none hnew, hfull, hlast, Cache.load]

/-- An extent just loaded is found under its number. -/
theorem find?_load (hnew : ∀ p ∈ c.entries, p.2.track = e.track → p.2.index ≠ e.index) :
    ((c.load n e).entries.find? fun p => decide (p.2.track = e.track) && decide (p.2.index = e.index)) = some (n, e) :=
  Table.find?_put (by simp) fun p hp => by simpa using hnew p hp

@[simp] theorem toFront_toFront (n : Nat) (l : List Nat) : toFront n (toFront n l) = toFront n l := by
  simp [toFront]

end

/-- The extents that one question asks for: the one that covers its block, if any. -/
theorem extentsAsked_one (extents : List Extent) (q : Ask) :
    extentsAsked extents [q] = (extentAt extents q.block).toList := by
  simp only [extentsAsked, List.foldl_cons, List.foldl_nil]
  split <;> simp_all

theorem extentAt_nil (block : Nat) : extentAt [] block = none := rfl

/-- The extent found for a block covers it. -/
theorem extentAt_covers {extents : List Extent} {block i : Nat} {x : Extent} (h : extentAt extents block = some (i, x)) :
    x.block ≤ block ∧ block < x.block + x.length := by
  unfold extentAt at h
  generalize 0 = n at h
  induction extents generalizing n with
  | nil => cases h
  | cons e rest ih =>
    unfold extentAt.go at h
    split at h
    · rename_i hc
      cases h
      simpa using hc
    · exact ih _ h

/-! ### A completed fill -/

/-- The cache with the fills left when the one in progress has ended. -/
def Cache.ended (others : List Fill) (c : Cache) : Cache := { c with fills := others }

/-- The part with the fills left when the one in progress has ended. -/
def fillEnded (others : List Fill) (s : State) : State := { s with cache := s.cache.ended others }

section
variable {s : State} {f : Fill} {others : List Fill}

/-- The fill in progress stands at the head, and no other fill is in progress. -/
theorem completeFill_head (ok : Bool) (hfills : s.cache.fills = f :: others) (hf : f.running = true)
    (ho : ∀ g ∈ others, g.running = false) : completeFill ok s =
      if f.stale then answerAll .waiting f.asks (fillEnded others s)
      else if !ok then answerAll .fault f.asks (fillEnded others s)
      else f.asks.foldl (fun s' q => answerFromMap f.track (mapExtents f.track s) q s')
        (loadExtents f.track (extentsAsked (mapExtents f.track s) f.asks) (fillEnded others s)) := by
  have hleft : others.filter (fun g => !g.running) = others := by simpa [List.filter_eq_self] using ho
  simp only [completeFill, hfills, List.find?_cons, hf, List.filter_cons, Bool.not_true, Bool.false_eq_true, if_false, hleft]
  rfl

variable {q : Ask}

/-- A fill that one question asked for has read its map block. -/
theorem completeFill_one (hfills : s.cache.fills = f :: others) (hf : f.running = true)
    (ho : ∀ g ∈ others, g.running = false) (hs : f.stale = false) (hq : f.asks = [q]) : completeFill true s =
      answerFromMap f.track (mapExtents f.track s) q
        (loadExtents f.track (extentAt (mapExtents f.track s) q.block).toList (fillEnded others s)) := by
  rw [completeFill_head true hfills hf ho, hs, hq, extentsAsked_one]
  rfl

theorem mapExtents_of_map {m : MapBlock} (hm : s.store.read f.track = .map m) (ht : m.track = f.track) :
    mapExtents f.track s = m.extents := by
  simp [mapExtents, hm, ht]

variable {track : Nat} {extents : List Extent}

/-- A preparation of the sequencer whose block an extent covers is answered to no reader. -/
theorem answerFromMap_sequencer {p : Nat × Extent} (hk : q.kind = .sequencerPreparation)
    (hx : extentAt extents q.block = some p) : answerFromMap track extents q s = s := by
  simp [answerFromMap, hx, Ask.answered, hk]

/-- A reader's question is answered as a hit on the extent that covers its block. -/
theorem answerFromMap_reader {i n : Nat} {x : Extent} {e : CacheEntry} (hlive : q.live = true)
    (hk : q.kind ≠ .sequencerPreparation) (hx : extentAt extents q.block = some (i, x))
    (he : (s.cache.entries.find? fun p => decide (p.2.track = track) && decide (p.2.index = i)) = some (n, e)) :
    answerFromMap track extents q s =
      readerAnswer q.reader (.hit (x.store + (q.block - x.block)) (x.length - (q.block - x.block)))
        { s with cache := { s.cache with order := toFront n s.cache.order } } := by
  simp [answerFromMap, hlive, hx, he, Ask.answered, hk]

/-- A question whose block no extent covers is a range fault of cause MAP, and a fault to its reader. -/
theorem answerFromMap_uncovered (hlive : q.live = true) (hx : extentAt extents q.block = none) :
    answerFromMap track extents q s = answerAll .fault [q] (rangeFault q.reader track q.block .map s) := by
  simp [answerFromMap, hlive, hx, answerAll]

theorem loadExtents_one {e : TrackEntry} (he : s.catalogue.tracks.find track = some e) (p : Nat × Extent) :
    loadExtents track [p] s = { s with cache := loadExtent (cacheEntry track e p) s.cache } := by
  simp [loadExtents, he]

theorem loadExtents_nil (track : Nat) (s : State) : loadExtents track [] s = s := by
  unfold loadExtents; split <;> rfl
end

/-! ### The completion of a fill's read -/

section
variable {s : State} {tr : Transfer}

/-- The part with the arbiter and the notices that the end of a transfer leaves its client (R43, R46). -/
def State.reported (a : Arbiter) (n : Notices) (s : State) : State := { s with arbiter := a, notices := n }

/-- A fill's read has ended, after a second attempt where it failed: the fill is completed in a state in which only counts
of the arbiter and the notices may have changed. -/
theorem exec_windowFill {ok : Bool} (hcur : s.arbiter.current = some tr) (hc : tr.request.client = .windowFill)
    (hd : tr.dropped = false) (hr : ok = true ∨ tr.retry = true) :
    ∃ a n, a.current = some tr ∧ a.waiting = s.arbiter.waiting ∧ exec (.windowFillComplete ok) s =
      finish (grantNext (completeFill ok (s.reported a n))) := by
  cases ok with
  | true =>
    obtain ⟨n, hn⟩ := completeTransfer_succeeds (act := fun _ => completeFill true) hcur hc hd
    exact ⟨{ s.arbiter with retries := n }, s.notices, hcur, rfl, congrArg finish hn⟩
  | false =>
    have hretry : tr.retry = true := by simpa using hr
    exact ⟨(faulted tr s).arbiter, (faulted tr s).notices, hcur, rfl,
      congrArg finish (completeTransfer_failed (act := fun _ => completeFill false) hcur hc hd hretry)⟩

variable {f : Fill} {others : List Fill}

/-- A stale fill with no question left loads nothing (R55). -/
theorem exec_windowFill_stale (hcur : s.arbiter.current = some tr) (hc : tr.request.client = .windowFill)
    (hd : tr.dropped = false) (hfills : s.cache.fills = f :: others) (hf : f.running = true)
    (ho : ∀ g ∈ others, g.running = false) (hs : f.stale = true) (hq : f.asks = []) :
    ∃ t, exec (.windowFillComplete true) s = .next t ∧ t.cache = s.cache.ended others := by
  obtain ⟨a, n, -, -, ht⟩ := exec_windowFill hcur hc hd (.inl rfl)
  refine ⟨_, ht, ?_⟩
  rw [completeFill_head (s := s.reported a n) true hfills hf ho, hs, hq]
  simp [answerAll, fillEnded, State.reported]

/-- The fill in progress, which one live question asked for, has its map block in the store, and an extent of it that the
cache does not hold covers the question's block. -/
structure FillLoads (s : State) (f : Fill) (others : List Fill) (q : Ask) (m : MapBlock) (e : TrackEntry) (i : Nat)
    (x : Extent) : Prop where
  fills : s.cache.fills = f :: others
  running : f.running = true
  pending : ∀ g ∈ others, g.running = false
  fresh : f.stale = false
  asks : f.asks = [q]
  live : q.live = true
  map : s.store.read f.track = .map m
  names : m.track = f.track
  extent : extentAt m.extents q.block = some (i, x)
  entry : s.catalogue.tracks.find f.track = some e
  new : ∀ p ∈ s.cache.entries, p.2.track = f.track → p.2.index ≠ i

variable {q : Ask} {m : MapBlock} {e : TrackEntry} {i n : Nat} {x : Extent}

/-- The extent is loaded, and the question answered (R53). -/
theorem FillLoads.exec_answers (h : FillLoads s f others q m e i x) (hcur : s.arbiter.current = some tr)
    (hc : tr.request.client = .windowFill) (hd : tr.dropped = false) :
    ∃ a notices, a.current = some tr ∧ a.waiting = s.arbiter.waiting ∧ exec (.windowFillComplete true) s =
      finish (grantNext (answerFromMap f.track m.extents q { s.reported a notices with
        cache := loadExtent (cacheEntry f.track e (i, x)) (s.cache.ended others) })) := by
  obtain ⟨a, notices, ha, hw, ht⟩ := exec_windowFill hcur hc hd (.inl rfl)
  refine ⟨a, notices, ha, hw, ht.trans (congrArg (finish ∘ grantNext) ?_)⟩
  rw [completeFill_one (s := s.reported a notices) h.fills h.running h.pending h.fresh h.asks,
    mapExtents_of_map (s := s.reported a notices) h.map h.names, h.extent, Option.toList_some,
    loadExtents_one (s := fillEnded others (s.reported a notices)) h.entry]
  rfl

theorem FillLoads.load_free (h : FillLoads s f others q m e i x) (hfree : Table.lowestFree s.cache.entries 8 = some n) :
    loadExtent (cacheEntry f.track e (i, x)) (s.cache.ended others) =
      Cache.load n (cacheEntry f.track e (i, x)) (s.cache.ended others) :=
  loadExtent_free (e := cacheEntry f.track e (i, x)) h.new hfree

theorem FillLoads.load_full (h : FillLoads s f others q m e i x) (hfull : Table.lowestFree s.cache.entries 8 = none)
    (hlast : s.cache.order.getLast? = some n) : loadExtent (cacheEntry f.track e (i, x)) (s.cache.ended others) =
      { Cache.load n (cacheEntry f.track e (i, x)) (s.cache.ended others) with
        replaced := bump max32 s.cache.replaced } :=
  loadExtent_full (e := cacheEntry f.track e (i, x)) h.new hfull hlast

/-- A preparation of the sequencer leaves the extent loaded, into a free entry. -/
theorem FillLoads.exec_sequencer (h : FillLoads s f others q m e i x) (hcur : s.arbiter.current = some tr)
    (hc : tr.request.client = .windowFill) (hd : tr.dropped = false) (hk : q.kind = .sequencerPreparation)
    (hfree : Table.lowestFree s.cache.entries 8 = some n) :
    ∃ t, exec (.windowFillComplete true) s = .next t ∧
      t.cache = Cache.load n (cacheEntry f.track e (i, x)) (s.cache.ended others) := by
  obtain ⟨a, notices, -, -, ht⟩ := h.exec_answers hcur hc hd
  refine ⟨_, ht, ?_⟩
  rw [answerFromMap_sequencer hk h.extent, h.load_free hfree]
  simp

/-- With no entry free it is loaded in place of the entry last in the use order. -/
theorem FillLoads.exec_sequencer_full (h : FillLoads s f others q m e i x) (hcur : s.arbiter.current = some tr)
    (hc : tr.request.client = .windowFill) (hd : tr.dropped = false) (hk : q.kind = .sequencerPreparation)
    (hfull : Table.lowestFree s.cache.entries 8 = none) (hlast : s.cache.order.getLast? = some n) :
    ∃ t, exec (.windowFillComplete true) s = .next t ∧ t.cache =
      { Cache.load n (cacheEntry f.track e (i, x)) (s.cache.ended others) with
        replaced := bump max32 s.cache.replaced } := by
  obtain ⟨a, notices, -, -, ht⟩ := h.exec_answers hcur hc hd
  refine ⟨_, ht, ?_⟩
  rw [answerFromMap_sequencer hk h.extent, h.load_full hfull hlast]
  simp

/-- A reader's question is answered from the extent loaded, which stays at the front of the use order. -/
theorem FillLoads.exec_reader (h : FillLoads s f others q m e i x) (hcur : s.arbiter.current = some tr)
    (hc : tr.request.client = .windowFill) (hd : tr.dropped = false) (hk : q.kind ≠ .sequencerPreparation)
    (hfree : Table.lowestFree s.cache.entries 8 = some n) :
    ∃ a notices, a.current = some tr ∧ a.waiting = s.arbiter.waiting ∧ exec (.windowFillComplete true) s =
      finish (grantNext (readerAnswer q.reader (.hit (x.store + (q.block - x.block)) (x.length - (q.block - x.block)))
        { s.reported a notices with
          cache := Cache.load n (cacheEntry f.track e (i, x)) (s.cache.ended others) })) := by
  obtain ⟨a, notices, ha, hw, ht⟩ := h.exec_answers hcur hc hd
  refine ⟨a, notices, ha, hw, ht.trans (congrArg (finish ∘ grantNext) ?_)⟩
  rw [h.load_free hfree,
    answerFromMap_reader h.live hk h.extent (find?_load (e := cacheEntry f.track e (i, x)) (c := s.cache.ended others) h.new)]
  simp [Cache.load]

/-! ### The transfer a reader asks for (R53) -/

/-- A reader asks for a transfer; the cache is left as it is. -/
def asksFor (r : StoreRequest) (s u : State) : Prop :=
  ∃ v, u = askStore r v ∧ v.arbiter = s.arbiter ∧ v.cache = s.cache

/-- A request made while another client's transfer is at its end is granted then, or waits. -/
theorem grantNext_askStore {v : State} {r : StoreRequest} (hcur : v.arbiter.current = some tr) (hd : tr.dropped = false)
    (hw : ∀ y ∈ v.arbiter.waiting, y.client ≠ r.client) :
    (grantNext (askStore r v)).arbiter.current = some (Transfer.begin r) ∨
      r ∈ (grantNext (askStore r v)).arbiter.waiting := by
  rw [askStore_waits r hcur hd]
  cases hb : bestRequest (v.arbiter.waiting ++ [r]) with
  | none => simp [bestRequest_eq_none] at hb
  | some b =>
    have hmem := (bestRequest_some hb).1
    rcases List.mem_append.1 hmem with hin | hin
    · right
      simp [grantNext, hb, withoutClient, (hw b hin).symm]
    · obtain rfl := List.mem_singleton.1 hin
      left
      simp [grantNext, hb]

/-- A piece is read from its first block on, 8 blocks at a time (R45). -/
theorem splitRun_head {r : Run} (h : 0 < r.length) :
    ∃ rest, splitRun r = { first := r.first, length := min 8 r.length } :: rest := by
  obtain ⟨k, hk⟩ := Nat.exists_eq_succ_of_ne_zero h.ne'
  unfold splitRun
  rw [hk]
  unfold splitRun.go
  rw [if_neg (by omega)]
  split
  · exact ⟨[], by rw [Nat.min_eq_right ‹_›]⟩
  · exact ⟨_, by rw [Nat.min_eq_left (by omega)]⟩

/-- With the whole frame found the picture reader asks for its first transfer (R45). -/
theorem lookUpFrame_found (k : Nat) {j : FrameJob} (h : j.stop ≤ j.next) (s : State) :
    lookUpFrame k j s = askPicture { j with transfers := j.pieces.flatMap splitRun } s := by
  cases k with
  | zero => rfl
  | succ k => simp [lookUpFrame, h]

/-- The reader's job when the frame lies in one piece, which has been found (R45). -/
def FrameJob.found (store : Nat) (j : FrameJob) : FrameJob :=
  { j with
    pieces := [{ first := store, length := j.stop - j.next }]
    next := j.stop
    transfers := splitRun { first := store, length := j.stop - j.next } }

/-- A frame whose blocks all lie in the extent found is asked for from the store block that answers (R45). -/
theorem pictureAnswer_hit {u : State} {j : FrameJob} {store remaining : Nat} (hj : u.frames.job = some j)
    (hnext : j.next < j.stop) (hstop : j.stop - j.next ≤ remaining) (hp : j.pieces = []) :
    asksFor { client := .picture, writes := false, first := store, count := min 8 (j.stop - j.next), track := some j.track }
      u (pictureAnswer (.hit store remaining) u) := by
  obtain ⟨rest, hrest⟩ := splitRun_head (r := { first := store, length := j.stop - j.next }) (by simpa using hnext)
  have hpiece : j.addPiece store remaining =
      { j with pieces := [{ first := store, length := j.stop - j.next }], next := j.stop } := by
    simp [FrameJob.addPiece, hp, Nat.min_eq_right hstop]
    omega
  have hfound : pictureAnswer (.hit store remaining) u = askPicture (j.found store) u := by
    simp only [pictureAnswer, hj, hpiece]
    rw [lookUpFrame_found _ le_rfl]
    simp [FrameJob.found]
  exact ⟨_, hfound.trans (askPicture_next (j := j.found store) hrest u), rfl, rfl⟩

theorem soundAnswer_hit {u : State} {j : SoundJob} {portion : Portion} {p : Play} {k sample store remaining : Nat}
    (hj : u.sound.job = some j) (hportion : u.sound.portions.find? Portion.filling = some portion)
    (hplay : playOf portion.prepared u = some p) (hfirst : firstAwaited portion.cells = some (k, sample)) :
    asksFor { client := .sound, writes := false, first := store,
              count := transferBlocks p k j.track j.block remaining u, track := some j.track }
      u (soundAnswer (.hit store remaining) u) := by
  have hfilling : fillingPortion u = some (portion, p) := by simp [fillingPortion, hportion, hplay]
  have hasks : soundAnswer (.hit store remaining) u =
      askSound j.track j.block (transferBlocks p k j.track j.block remaining u) store u := by
    simp only [soundAnswer, hj, hfilling, hfirst]
  exact ⟨_, hasks, rfl, rfl⟩

theorem subtitleAnswer_hit {u : State} {l : Loader} {store remaining : Nat} (hl : u.subs.loader = some l) :
    asksFor { client := .subtitle, writes := false, first := store, count := min 8 (min remaining (l.total - l.block)),
              track := some l.track }
      u (subtitleAnswer (.hit store remaining) u) := by
  have hasks : subtitleAnswer (.hit store remaining) u = askSubtitle l store remaining u := by
    simp only [subtitleAnswer, hl]
  exact ⟨_, hasks, rfl, rfl⟩

/-- A fill that a reader asked for loads its extent, and the reader asks for the transfer that its answer leads to. -/
theorem FillLoads.exec_asks (h : FillLoads s f others q m e i x) (hcur : s.arbiter.current = some tr)
    (hc : tr.request.client = .windowFill) (hd : tr.dropped = false) (hk : q.kind ≠ .sequencerPreparation)
    (hfree : Table.lowestFree s.cache.entries 8 = some n) (hw : ∀ y ∈ s.arbiter.waiting, y.client ≠ q.reader.client)
    {track count : Nat}
    (hr : ∀ a c notices, asksFor
      { client := q.reader.client, writes := false, first := x.store + (q.block - x.block), count := count,
        track := some track }
      { s.reported a notices with cache := c }
      (readerAnswer q.reader (.hit (x.store + (q.block - x.block)) (x.length - (q.block - x.block)))
        { s.reported a notices with cache := c })) :
    ∃ t, exec (.windowFillComplete true) s = .next t ∧
      t.cache = Cache.load n (cacheEntry f.track e (i, x)) (s.cache.ended others) ∧
      ∃ r : StoreRequest, r.client = q.reader.client ∧ r.writes = false ∧
        r.first = x.store + (q.block - x.block) ∧ r.count = count ∧
        (t.arbiter.current = some (Transfer.begin r) ∨ r ∈ t.arbiter.waiting ∨ t.arbiter.held = some r) := by
  obtain ⟨a, notices, ha, hwait, ht⟩ := h.exec_reader hcur hc hd hk hfree
  obtain ⟨v, hv, harb, hcache⟩ := hr a (Cache.load n (cacheEntry f.track e (i, x)) (s.cache.ended others)) notices
  rw [hv] at ht
  refine ⟨_, ht, by simp [hcache], { client := q.reader.client, writes := false, track := some track, .. },
    rfl, rfl, rfl, rfl, Or.imp_right .inl ?_⟩
  simp only [settle_frame]
  exact grantNext_askStore (by rw [harb]; exact ha) hd (by rw [harb]; exact fun y hy => hw y (hwait ▸ hy))
end

/-! ### The reader's answer to a fault (R47, R53, R54) -/

/-- A subtitle load that fails in an idle bank leaves the bank LOADED and empty (R158). -/
theorem failLoad_idle {l : Loader} {b : Bank} {st : Stream} {u : State} (hst : u.subs.streams[l.stream]? = some st)
    (hb : st.banks[l.bank]? = some b) (hidle : st.live ≠ some l.bank) :
    (failLoad l u).subs.loader = none ∧ (failLoad l u).subs.streams = updateAt (fun x => { x with
      banks := replaceAt x.banks l.bank { b with state := .loaded, cues := [], text := 0 } }) u.subs.streams l.stream := by
  have hbank : loaderBank l u = some b := by simp [loaderBank, hst, hb]
  have hstreams : updateAt (fun x => { x with
        banks := updateAt (fun y => { y with state := .loaded, cues := [], text := 0 }) x.banks l.bank })
      u.subs.streams l.stream = updateAt (fun x => { x with
        banks := replaceAt x.banks l.bank { b with state := .loaded, cues := [], text := 0 } })
      u.subs.streams l.stream := by
    refine updateAt_congr fun x hx => ?_
    obtain rfl : st = x := Option.some.inj (hst.symm.trans hx)
    have hbanks : updateAt (fun y => { y with state := .loaded, cues := [], text := 0 }) st.banks l.bank =
        replaceAt st.banks l.bank { b with state := .loaded, cues := [], text := 0 } :=
      updateAt_congr fun y hy => by rw [Option.some.inj (hb.symm.trans hy)]
    rw [hbanks]
  unfold failLoad
  simp only [hbank]
  rw [if_neg]
  · exact ⟨rfl, hstreams⟩
  · simp [loaderLive, updateBank, updateStream, countDrops, raise, getElem?_updateAt_same, hst, hidle]

/-- The fill in progress, which one live question asked for, ends without an extent for it: its read has failed twice, or the
block read does not name the track or lists no extent over the question's block. -/
structure FillFaults (s : State) (ok : Bool) (f : Fill) (others : List Fill) (q : Ask) : Prop where
  fills : s.cache.fills = f :: others
  running : f.running = true
  pending : ∀ g ∈ others, g.running = false
  fresh : f.stale = false
  asks : f.asks = [q]
  live : q.live = true
  cause : ok = true → ∃ m, s.store.read f.track = .map m ∧ (m.track ≠ f.track ∨ extentAt m.extents q.block = none)

section
variable {s : State} {tr : Transfer} {ok : Bool} {f : Fill} {others : List Fill} {q : Ask}

/-- The cache after such a fill: nothing loaded, and a range fault of cause MAP counted where the block was read. -/
def Cache.faulted (ok : Bool) (others : List Fill) (c : Cache) : Cache :=
  { c with fills := others, ranges := if ok then bumpAt c.ranges 3 else c.ranges }

/-- Its question is answered as a fault, in a state in which the readers and the sequencer are as they were. -/
theorem FillFaults.completeFill (h : FillFaults s ok f others q) :
    ∃ u, Machine.completeFill ok s = answerAll .fault [q] u ∧ u.cache = s.cache.faulted ok others ∧
      u.frames = s.frames ∧ u.sound = s.sound ∧ u.subs = s.subs := by
  cases ok with
  | false =>
    refine ⟨fillEnded others s, ?_, rfl, rfl, rfl, rfl⟩
    rw [completeFill_head false h.fills h.running h.pending, h.fresh, h.asks]
    rfl
  | true =>
    obtain ⟨m, hm, hcause⟩ := h.cause rfl
    have hnone : extentAt (mapExtents f.track s) q.block = none := by
      simp only [mapExtents, hm]
      split
      · exact hcause.resolve_left (fun hne => hne ‹_›)
      · rfl
    refine ⟨rangeFault q.reader f.track q.block .map (fillEnded others s), ?_, rfl, rfl, rfl, rfl⟩
    rw [completeFill_one h.fills h.running h.pending h.fresh h.asks, hnone, answerFromMap_uncovered h.live hnone,
      Option.toList_none, loadExtents_nil]

theorem FillFaults.exec_answers (h : FillFaults s ok f others q) (hcur : s.arbiter.current = some tr)
    (hc : tr.request.client = .windowFill) (hd : tr.dropped = false) (hr : ok = true ∨ tr.retry = true) :
    ∃ u, exec (.windowFillComplete ok) s = finish (grantNext (answerAll .fault [q] u)) ∧
      u.cache = s.cache.faulted ok others ∧ u.frames = s.frames ∧ u.sound = s.sound ∧ u.subs = s.subs := by
  obtain ⟨a, n, -, -, ht⟩ := exec_windowFill hcur hc hd hr
  have h' : FillFaults (s.reported a n) ok f others q :=
    ⟨h.fills, h.running, h.pending, h.fresh, h.asks, h.live, h.cause⟩
  obtain ⟨u, hu, hfields⟩ := h'.completeFill
  exact ⟨u, ht.trans (congrArg (finish ∘ grantNext) hu), hfields⟩

theorem answerAll_sequencer (a : Answer) (hk : q.kind = .sequencerPreparation) (u : State) : answerAll a [q] u = u := by
  simp [answerAll, Ask.answered, hk]

theorem answerAll_reader (a : Answer) (hlive : q.live = true) (hk : q.kind ≠ .sequencerPreparation) (u : State) :
    answerAll a [q] u = readerAnswer q.reader a u := by
  simp [answerAll, Ask.answered, hlive, hk]
end

/-- A fill that one question asked for and that loads nothing, by who attached it. -/
theorem exec_windowFill_faults {s : State} {tr : Transfer} {ok : Bool} {f : Fill} {others : List Fill} {q : Ask}
    (h : FillFaults s ok f others q) (hcur : s.arbiter.current = some tr) (hc : tr.request.client = .windowFill)
    (hd : tr.dropped = false) (hr : ok = true ∨ tr.retry = true) :
    (q.kind = .sequencerPreparation → ∃ t, exec (.windowFillComplete ok) s = .next t ∧
      t.cache = s.cache.faulted ok others ∧ t.frames = s.frames ∧ t.sound = s.sound ∧ t.subs = s.subs) ∧
    (∀ j : FrameJob, q.kind ≠ .sequencerPreparation → q.reader = .picture → s.frames.job = some j →
      ∃ t, exec (.windowFillComplete ok) s = .next t ∧ t.cache = s.cache.faulted ok others ∧
        t.frames = s.frames.ended .missing []) ∧
    (∀ (l : Loader) (b : Bank) (st : Stream), q.kind ≠ .sequencerPreparation → q.reader = .subtitle →
      s.subs.loader = some l → s.subs.streams[l.stream]? = some st → st.banks[l.bank]? = some b →
      st.live ≠ some l.bank → ∃ t, exec (.windowFillComplete ok) s = .next t ∧ t.cache = s.cache.faulted ok others ∧
        t.subs.loader = none ∧
        t.subs.streams = updateAt (fun x => { x with
          banks := replaceAt x.banks l.bank { b with state := .loaded, cues := [], text := 0 } })
          s.subs.streams l.stream) := by
  obtain ⟨u, ht, hcache, hframes, hsound, hsubs⟩ := h.exec_answers hcur hc hd hr
  refine ⟨fun hk => ⟨_, ht, ?_⟩, fun j hk hq hj => ⟨_, ht, ?_⟩, fun l b st hk hq hl hst hb hidle => ⟨_, ht, ?_⟩⟩
  · rw [answerAll_sequencer _ hk]
    simp [hcache, hframes, hsound, hsubs]
  · have hanswer : pictureAnswer .fault u = endFrameJob .missing [] u := by simp [pictureAnswer, hframes, hj]
    rw [answerAll_reader _ h.live hk, hq, readerAnswer, hanswer]
    simp [hcache, hframes]
  · have hanswer : subtitleAnswer .fault u = failLoad l u := by simp [subtitleAnswer, hsubs, hl]
    rw [answerAll_reader _ h.live hk, hq, readerAnswer, hanswer]
    obtain ⟨hloader, hstreams⟩ := failLoad_idle (u := u) (by rw [hsubs]; exact hst) hb hidle
    simp [hcache, hloader, hstreams, hsubs]

/-! ### The obligation -/

/-- Settles O30: a lookup by its three outcomes, the fill that begins, and a completed fill by what its read brings and who
asked for it. -/
theorem windowCacheFillsAndAnswers : Obligations.WindowCacheFillsAndAnswers := by
  refine ⟨fun s reader kind track block n e hj hf => lookup_hit hj hf,
    fun s f hidle hf => ⟨bestFill_rank hf hidle, exec_windowFillBegin hidle hf⟩,
    fun s tr f others q m e i free x hcur hc hd hfills hf ho hs hq hlive hk hm hmt hx he hnew hfree _ =>
      FillLoads.exec_sequencer ⟨hfills, hf, ho, hs, hq, hlive, hm, hmt, hx, he, hnew⟩ hcur hc hd hk hfree,
    fun s tr f others hcur hc hd hfills hf ho hs hq => exec_windowFill_stale hcur hc hd hfills hf ho hs hq,
    fun s reader kind track block => ⟨?_, fun cause hj => ?_, fun hj hf => ?_⟩,
    fun s tr f others q m e i n x hcur hc hd hfills hf ho hs hq hlive hm hmt hx he hnew _ => ?_,
    fun s tr f others q ok hcur hc hd hfills hf ho hs hq hlive hcause => ?_⟩
  · cases reader <;> rfl
  · rw [lookup_fault hj]
    cases reader <;> rfl
  · exact ⟨fun before g after hfills hb hg => by rw [lookup_miss hj hf, hfills, attach_join hb hg],
      fun hnone => by rw [lookup_miss hj hf, attach_make hnone]⟩
  · have h : FillLoads s f others q m e i x := ⟨hfills, hf, ho, hs, hq, hlive, hm, hmt, hx, he, hnew⟩
    refine ⟨fun hfull hlast hk => h.exec_sequencer_full hcur hc hd hk hfull hlast, fun hfree hk hw => ?_⟩
    have hcover := extentAt_covers hx
    refine ⟨fun j hreader hj hnext hstop hend hp => ?_, fun j portion p k sample hreader hj hportion hplay hfirst => ?_,
      fun l hreader hl => ?_⟩
    · exact h.exec_asks hcur hc hd hk hfree hw fun a c notices => by
        rw [hreader]
        exact pictureAnswer_hit (u := { s.reported a notices with cache := c }) hj hstop (by omega) hp
    · exact h.exec_asks hcur hc hd hk hfree hw fun a c notices => by
        rw [hreader]
        exact soundAnswer_hit (u := { s.reported a notices with cache := c }) hj hportion hplay hfirst
    · exact h.exec_asks hcur hc hd hk hfree hw fun a c notices => by
        rw [hreader]
        exact subtitleAnswer_hit (u := { s.reported a notices with cache := c }) hl
  · have h : FillFaults s ok f others q := ⟨hfills, hf, ho, hs, hq, hlive, fun hok => by simpa [hok] using hcause⟩
    have hr : ok = true ∨ tr.retry = true := by
      cases ok with
      | true => exact .inl rfl
      | false => exact .inr hcause
    exact exec_windowFill_faults h hcur hc hd hr

end Machine
end Sys2Proof
end

section
/-!
The grant table under the operations of the sequencer and the lines: they ask for window checks and bind a grant
(R74, R75), and leave the table as it is.
-/
namespace Sys2Proof
namespace Machine

/-! ### Budget, checks and selection -/

@[simp] theorem requestCheck_grants (followOn : Bool) (s : State) :
    (requestCheck followOn s).keys.grants = s.keys.grants ∧ (requestCheck followOn s).keys.bound = s.keys.bound := by
  unfold requestCheck; (repeat' split) <;> simp

@[simp] theorem pushBudget_grants (b : Budget) (s : State) : (pushBudget b s).keys.grants = s.keys.grants := by
  simp [pushBudget]

@[simp] theorem testBudget_grants (turn : Bool) (s : State) : (testBudget turn s).keys.grants = s.keys.grants := by
  unfold testBudget; (repeat' split) <;> simp

@[simp] theorem expireInterval_grants (s : State) : (expireInterval s).keys.grants = s.keys.grants := by
  unfold expireInterval; split <;> simp

@[simp] theorem secondPasses_grants (s : State) : (secondPasses s).keys.grants = s.keys.grants := by
  simp [secondPasses]

@[simp] theorem endCheck_grants (s : State) : (endCheck s).keys.grants = s.keys.grants := by
  unfold endCheck; split <;> simp

@[simp] theorem applyTrim_grants (frame : Frame) (t : Int) (s : State) :
    (applyTrim frame t s).keys.grants = s.keys.grants := by
  simp only [applyTrim, moveClock, renewForTrim, answerTrim_frame]
  (repeat' split) <;> simp

@[simp] theorem serveClockTrim_grants (turn : Bool) (frame : Frame) (t : Int) (s : State) :
    (serveClockTrim turn frame t s).keys.grants = s.keys.grants := by
  unfold serveClockTrim whenRoom; split <;> simp

@[simp] theorem serveGrantCheck_grants (frame : Frame) (s : State) :
    (serveGrantCheck frame s).keys.grants = s.keys.grants := by
  simp [serveGrantCheck]

@[simp] theorem serveCheckInterval_grants (frame : Frame) (seconds : Nat) (s : State) :
    (serveCheckInterval frame seconds s).keys.grants = s.keys.grants := by
  simp only [serveCheckInterval]; split <;> simp

@[simp] theorem selectGrant_grants (key : Nat) (s : State) :
    (selectGrant key s).2.keys.grants = s.keys.grants ∧ (selectGrant key s).2.keys.bound = s.keys.bound := by
  unfold selectGrant; split <;> simp

/-! ### Walks -/

@[simp] theorem checkPlay_grants (pos : Pos) (id : Nat) (first last : Option Nat) (cues : List CueRecord) (s : State) :
    (checkPlay pos id first last cues s).2.keys.grants = s.keys.grants ∧
    (checkPlay pos id first last cues s).2.keys.bound = s.keys.bound := by
  have selected : ∀ {key x u}, selectGrant key s = (x, u) →
      u.keys.grants = s.keys.grants ∧ u.keys.bound = s.keys.bound := fun {key x u} h => by
      have := selectGrant_grants key s
      rwa [h] at this
  simp only [checkPlay]
  repeat' split
  · exact ⟨rfl, rfl⟩
  · exact ⟨rfl, rfl⟩
  · exact ⟨rfl, rfl⟩
  · exact ⟨rfl, rfl⟩
  · exact selected ‹_›
  · exact selected ‹_›
  · exact selected ‹_›

theorem recheckPlay_grants {p : Play} {s u : State} {v : Verdict} (h : recheckPlay p s = (v, u)) :
    u.keys.grants = s.keys.grants := by
  rw [show u = (recheckPlay p s).2 by rw [h]]
  simp [recheckPlay]

@[simp] theorem scan_grants (n : Nat) (pos : Pos) (stack : List Pos) (s : State) :
    (scan n pos stack s).2.keys.grants = s.keys.grants ∧ (scan n pos stack s).2.keys.bound = s.keys.bound := by
  have checked : ∀ {pos id first last cues v s u}, checkPlay pos id first last cues s = (v, u) →
      u.keys.grants = s.keys.grants ∧ u.keys.bound = s.keys.bound := fun {pos id first last cues v s u} h => by
    have := checkPlay_grants pos id first last cues s
    rwa [h] at this
  induction n generalizing pos stack s with
  | zero =>
    unfold scan
    split
    case h_1 => split <;> exact ⟨rfl, rfl⟩
    case h_4 => split <;> exact checked ‹_›
    all_goals exact ⟨rfl, rfl⟩
  | succ n ih =>
    unfold scan
    split
    case h_1 =>
      split
      · exact ⟨rfl, rfl⟩
      · exact ih _ _ _
    case h_4 =>
      split
      · exact checked ‹_›
      · obtain ⟨hg, hb⟩ := checked ‹_›
        simp [ih, hg, hb]
    case h_5 => exact ih _ _ _
    case h_6 => split <;> exact ih _ _ _
    all_goals exact ⟨rfl, rfl⟩

@[simp] theorem actWalk_grants (start : Pos) (s : State) : (actWalk start s).2.keys.grants = s.keys.grants := by
  simp [actWalk]

theorem actWalk_grants_of_eq {start : Pos} {s u : State} {stop : WalkEnd} (h : actWalk start s = (stop, u)) :
    u.keys.grants = s.keys.grants := by
  rw [show u = (actWalk start s).2 by rw [h]]
  simp

/-! ### Preparation and lookahead -/

theorem foldl_raise_sound {α : Type} {p : α → Bool} {detail : α → List Byte} {cause : NoticeCause} (l : List α)
    (s : State) : (l.foldl (fun u a => if p a then raise cause (detail a) u else u) s).sound = s.sound :=
  foldl_sound fun u a => by split <;> simp

@[simp] theorem formRouteSets_portions (p : Play) (s : State) :
    (formRouteSets p s).sound.portions = s.sound.portions := by
  simp [formRouteSets, foldl_raise_sound]

/-- A preparation leaves what is current: the grants and the bound one, the current entry, its frames and portions. -/
@[simp] theorem preparePlay_current (p : Play) (g : Option (Nat × Grant)) (s : State) :
    (preparePlay p g s).keys.grants = s.keys.grants ∧ (preparePlay p g s).keys.bound = s.keys.bound ∧
    (preparePlay p g s).seq.current = s.seq.current ∧ (preparePlay p g s).seq.state = s.seq.state ∧
    (preparePlay p g s).frames.places = s.frames.places ∧
    (preparePlay p g s).sound.portions = s.sound.portions := by
  simp [preparePlay]

@[simp] theorem prepareEnd_current (stop : WalkEnd) (s : State) :
    (prepareEnd stop s).keys.grants = s.keys.grants ∧ (prepareEnd stop s).keys.bound = s.keys.bound ∧
    (prepareEnd stop s).seq.current = s.seq.current ∧ (prepareEnd stop s).seq.state = s.seq.state ∧
    (prepareEnd stop s).frames.places = s.frames.places ∧
    (prepareEnd stop s).sound.portions = s.sound.portions := by
  cases stop <;> simp [prepareEnd]

@[simp] theorem lookAhead_current (start : Pos) (s : State) :
    (lookAhead start s).keys.grants = s.keys.grants ∧ (lookAhead start s).keys.bound = s.keys.bound ∧
    (lookAhead start s).seq.current = s.seq.current ∧ (lookAhead start s).seq.state = s.seq.state ∧
    (lookAhead start s).frames.places = s.frames.places ∧
    (lookAhead start s).sound.portions = s.sound.portions := by
  simp [lookAhead]

@[simp] theorem lookAheadIfDue_current (s : State) :
    (lookAheadIfDue s).keys.grants = s.keys.grants ∧ (lookAheadIfDue s).keys.bound = s.keys.bound ∧
    (lookAheadIfDue s).seq.current = s.seq.current ∧ (lookAheadIfDue s).seq.state = s.seq.state ∧
    (lookAheadIfDue s).frames.places = s.frames.places ∧
    (lookAheadIfDue s).sound.portions = s.sound.portions := by
  unfold lookAheadIfDue; split <;> simp

@[simp] theorem discardPrepared_grants (s : State) : (discardPrepared s).keys.grants = s.keys.grants := by
  unfold discardPrepared; split <;> simp

/-! ### Ends, waiting and running -/

@[simp] theorem endShowing_grants (outcome : ShowingOutcome) (s : State) :
    (endShowing outcome s).keys.grants = s.keys.grants := by
  unfold endShowing; split <;> simp

@[simp] theorem enterIdle_grants (s : State) : (enterIdle s).keys.grants = s.keys.grants := rfl

@[simp] theorem endShow_grants (outcome : ShowOutcome) (s : State) :
    (endShow outcome s).keys.grants = s.keys.grants := by
  simp [endShow]

@[simp] theorem halt_grants (cause : HaltCause) (s : State) : (halt cause s).keys.grants = s.keys.grants := by
  simp [halt]

@[simp] theorem haltAt_grants (pos : Pos) (s : State) : (haltAt pos s).keys.grants = s.keys.grants := by
  simp [haltAt]

@[simp] theorem enterWait_grants (pos : Pos) (timeout : Option Nat) (s : State) :
    (enterWait pos timeout s).keys.grants = s.keys.grants := by
  simp [enterWait]

@[simp] theorem takeUpWalk_grants (stop : WalkEnd) (s : State) : (takeUpWalk stop s).keys.grants = s.keys.grants := by
  cases stop <;> simp [takeUpWalk]

@[simp] theorem blackGap_grants (start : Pos) (s : State) : (blackGap start s).keys.grants = s.keys.grants := by
  simp only [blackGap]; split <;> rename_i h <;> simp [actWalk_grants_of_eq h]

/-! ### Takeovers and boundaries -/

@[simp] theorem beginShowing_grants (p : Play) (g : Option (Nat × Grant)) (s : State) :
    (beginShowing p g s).keys.grants = s.keys.grants := by
  simp only [beginShowing]; split <;> simp

@[simp] theorem takeOver_grants (p : Play) (s : State) : (takeOver p s).keys.grants = s.keys.grants := by
  unfold takeOver
  split <;> rename_i h
  · simp [recheckPlay_grants h]
  · split <;> simp [recheckPlay_grants h]

@[simp] theorem endCurrent_grants (outcome : Showing → ShowingOutcome) (s : State) :
    (endCurrent outcome s).keys.grants = s.keys.grants := by
  simp only [endCurrent]; (repeat' split) <;> simp

@[simp] theorem boundaryTick_grants (s : State) : (boundaryTick s).keys.grants = s.keys.grants := by
  simp only [boundaryTick]; split <;> simp

@[simp] theorem skipBoundary_grants (s : State) : (skipBoundary s).keys.grants = s.keys.grants := by
  simp only [skipBoundary]; split <;> simp

@[simp] theorem leaveWait_grants (s : State) : (leaveWait s).keys.grants = s.keys.grants := by
  simp only [leaveWait]; split <;> simp

@[simp] theorem leaveLogFull_grants (s : State) : (leaveLogFull s).keys.grants = s.keys.grants := by
  unfold leaveLogFull
  split
  · rfl
  · split <;> rename_i h <;> simp [recheckPlay_grants h]

@[simp] theorem expirePause_grants (s : State) : (expirePause s).keys.grants = s.keys.grants := by
  simp [expirePause]

@[simp] theorem checkRepeats_grants (s : State) : (checkRepeats s).keys.grants = s.keys.grants := by
  unfold checkRepeats; (repeat' split) <;> simp

@[simp] theorem loseLink_grants (s : State) : (loseLink s).keys.grants = s.keys.grants := by
  unfold loseLink; (repeat' split) <;> simp

@[simp] theorem concludeCheck_grants (outcome : CheckOutcome) (answered : Option Nat) (s : State) :
    (concludeCheck outcome answered s).keys.grants = s.keys.grants := by
  simp only [concludeCheck]; split <;> simp

@[simp] theorem revokeShowing_grants (s : State) : (revokeShowing s).keys.grants = s.keys.grants := by
  unfold revokeShowing; split <;> simp

@[simp] theorem takeOverIfReady_grants (s : State) : (takeOverIfReady s).keys.grants = s.keys.grants := by
  unfold takeOverIfReady; (repeat' split) <;> simp

@[simp] theorem runTick_grants (s : State) : (runTick s).keys.grants = s.keys.grants := by
  unfold runTick; (repeat' split) <;> simp

@[simp] theorem sequencerTick_grants (s : State) : (sequencerTick s).keys.grants = s.keys.grants := by
  unfold sequencerTick; split <;> simp

/-! ### Requests and lines -/

@[simp] theorem serveShowStart_grants (frame : Frame) (s : State) :
    (serveShowStart frame s).keys.grants = s.keys.grants := by
  unfold serveShowStart; split <;> simp

theorem tryGo_grants {s t : State} (h : tryGo s = .ok t) : t.keys.grants = s.keys.grants := by
  unfold tryGo at h
  (repeat' split at h) <;> cases h <;> simp

theorem trySkip_grants {s t : State} (h : trySkip s = .ok t) : t.keys.grants = s.keys.grants := by
  unfold trySkip at h
  (repeat' split at h) <;> cases h <;> simp

theorem tryStop_grants {s t : State} (h : tryStop s = .ok t) : t.keys.grants = s.keys.grants := by
  unfold tryStop at h
  split at h <;> cases h <;> simp

theorem answerTry_grants {f : State → Except Reason State} {s : State} (kind : Nat) (frame : Frame)
    (hf : ∀ t, f s = .ok t → t.keys.grants = s.keys.grants) :
    (answerTry kind frame f s).keys.grants = s.keys.grants := by
  unfold answerTry
  split
  · rename_i t ht; simp [hf t ht]
  · simp

@[simp] theorem servePauseLimit_grants (frame : Frame) (seconds : Nat) (s : State) :
    (servePauseLimit frame seconds s).keys.grants = s.keys.grants := by
  simp only [servePauseLimit]; (repeat' split) <;> simp

@[simp] theorem actFunction_grants (n : Nat) (l : Line) (s : State) :
    (actFunction n l s).keys.grants = s.keys.grants := by
  unfold actFunction
  split
  case h_3 =>
    unfold orElseSame
    split
    · rename_i t ht; simp [tryGo_grants ht]
    · simp
  case h_5 => unfold tryPause; split <;> simp [orElseSame]
  all_goals simp

@[simp] theorem takeOnset_grants (n : Nat) (s : State) : (takeOnset n s).keys.grants = s.keys.grants := by
  unfold takeOnset; split <;> simp

@[simp] theorem takeLevel_grants (n : Nat) (high : Bool) (s : State) :
    (takeLevel n high s).keys.grants = s.keys.grants := by
  unfold takeLevel; (repeat' split) <;> simp

@[simp] theorem changePin_grants (n : Nat) (high : Bool) (s : State) :
    (changePin n high s).keys.grants = s.keys.grants := by
  unfold changePin; (repeat' split) <;> simp

@[simp] theorem setInput_grants (n : Nat) (c : LineCondition) (debounce : Nat) (f : LineFunction) (s : State) :
    (setInput n c debounce f s).keys.grants = s.keys.grants := by
  simp only [setInput]; (repeat' split) <;> simp

@[simp] theorem serveLineSetup_grants (frame : Frame) (line : Nat) (config : LineRequest) (s : State) :
    (serveLineSetup frame line config s).keys.grants = s.keys.grants := by
  unfold serveLineSetup; (repeat' split) <;> simp

@[simp] theorem serveResetShow_grants (frame : Frame) (s : State) :
    (serveResetShow frame s).keys.grants = s.keys.grants := by
  unfold serveResetShow showReset showResetSequencer; (repeat' split) <;> simp

end Machine
end Sys2Proof
end

section
/-!
The booth clock and the requests for a window check (R58, R68, R72), the check itself (R69 to R71), and selection (R74).
-/
namespace Sys2Proof
namespace Machine

/-! ### The window-check requester (R68) -/

/-- A window-check request makes an idle requester PENDING; the follow-on class marks one that is checking. -/
theorem requestCheck_eq (followOn : Bool) (s : State) : requestCheck followOn s =
    { s with keys := { s.keys with
        requester := if s.keys.requester = .idle then .pending else s.keys.requester
        followOn := if s.keys.requester = .checking ∧ followOn = true then true else s.keys.followOn } } := by
  unfold requestCheck
  split <;> rename_i h
  · rw [if_pos h, if_neg (by simp [h]), updateKeys]
  · rw [if_neg (by simp [h]), if_neg (by simp [h])]
  · have hidle : ¬ s.keys.requester = .idle := by simp [h]
    rw [if_neg hidle]
    cases followOn
    · simp
    · rw [if_pos rfl, if_pos ⟨h, rfl⟩, updateKeys]

theorem expireInterval_running {s : State} (h : s.keys.counter < s.keys.interval) : expireInterval s = s := by
  simp [expireInterval, State.intervalDue, Nat.not_le.2 h]

theorem testBudget_running {s : State} (turn : Bool) (h : s.keys.budget.ended s.keys.clock = false) :
    testBudget turn s = s := by
  simp [testBudget, h]

theorem exec_checkInterval {f : Frame} {s : State} (seconds : Nat) (h : s.accepts 19 f) :
    let taken := clamp 10 3600 seconds
    exec (.checkInterval f seconds) s = .next (State.answering 19 f
      (if taken = seconds then .ok else .clamped) none (if taken = seconds then [] else Layout.num 2 taken)
      (requestCheck true (updateKeys (fun k => { k with interval := taken, counter := 0 }) s))) := by
  show request 19 f _ (serveCheckInterval f seconds) s = _
  by_cases ht : clamp 10 3600 seconds = seconds
  · simp only [ht, if_true]
    exact request_ok h (by simp only [serveCheckInterval, ht, if_true, requestCheck_eq]; rfl) (by simp)
  · simp only [ht, if_false]
    exact request_clamped h (by simp only [serveCheckInterval, ht, if_false, requestCheck_eq]; rfl) (by simp)

/-- Settles O33: each event and request changes the clock and counters of its rule and asks for a check. -/
theorem secondsAndCheckRequests : Obligations.SecondsAndCheckRequests := by
  refine fun s => ⟨fun hc hb => ?_, fun hd => ?_, fun f h => ?_, fun f seconds h => ?_⟩
  · show finish (secondPasses s) = _
    rw [secondPasses, expireInterval_running hc, testBudget_running _ hb]
    rfl
  · show finish (expireInterval s) = _
    simp [expireInterval, State.intervalDue, hd, requestCheck_eq, updateKeys, finish]
  · refine request_ok h ?_ rfl
    simp only [serveGrantCheck, requestCheck_eq]
    simp
  · rw [exec_checkInterval seconds h, requestCheck_eq]
    simp [clamp, updateKeys]
    rfl

/-! ### The window check (R69 to R71) -/

/-- A grant as a check at a time leaves it (R70). -/
def Grant.checked (time : Nat) (g : Grant) : Grant := { g with state := checkedState time g }

/-- The key unit when a check has judged its next slot (R70). -/
def Keys.judgeNext (k : Keys) : Keys :=
  { k with
    checkNext := k.checkNext + 1
    grants := match k.grants.find k.checkNext with
      | some g =>
        if checkedState k.checkTime g = g.state then k.grants else k.grants.put k.checkNext (g.checked k.checkTime)
      | none => k.grants }

/-- Judging goes on from the slot after the next one, or stops where it stands for want of room. -/
theorem judgeGrants_cases (fuel : Nat) (turn : Bool) (s : State) :
    (judgeGrants (fuel + 1) turn s).keys = s.keys ∨
      ∃ turn' u, judgeGrants (fuel + 1) turn s = judgeGrants fuel turn' u ∧ u.keys = s.keys.judgeNext := by
  simp only [judgeGrants]
  split
  · exact .inl rfl
  · split
    · exact .inr ⟨_, _, rfl, by simp [Keys.judgeNext, *]⟩
    · split
      · exact .inr ⟨_, _, rfl, by simp [Keys.judgeNext, *]⟩
      · split
        · exact .inr ⟨_, _, rfl, by simp [Keys.judgeNext, Grant.checked, changeGrant_fields, *]⟩
        · exact .inl rfl

theorem Keys.judgeNext_find (k : Keys) (n : Nat) : k.judgeNext.grants.find n =
    (k.grants.find n).map fun g => if n = k.checkNext then g.checked k.checkTime else g := by
  simp only [Keys.judgeNext]
  by_cases hn : n = k.checkNext
  · subst hn
    cases hg : k.grants.find k.checkNext with
    | none => simp [hg]
    | some g =>
      by_cases hsame : checkedState k.checkTime g = g.state
      · simp [hsame, hg, Grant.checked]
      · simp [hsame]
  · simp only [hn, if_false, Option.map_id']
    (repeat' split) <;> simp [hn, Table.find_put_other]

/-- Judging the slots changes of the key unit the grant table and the slot judged next (R70). -/
theorem judgeGrants_keys (fuel : Nat) (turn : Bool) (s : State) :
    ∃ next grants, (judgeGrants fuel turn s).keys = { s.keys with checkNext := next, grants := grants } := by
  induction fuel generalizing turn s with
  | zero => exact ⟨_, _, rfl⟩
  | succ fuel ih =>
    obtain h | ⟨turn', u, h, hu⟩ := judgeGrants_cases fuel turn s
    · exact ⟨_, _, h⟩
    · obtain ⟨next, grants, hk⟩ := ih turn' u
      exact ⟨next, grants, by rw [h, hk, hu]; rfl⟩

/-- A slot judged holds the state of the check time; the others stay (R70). -/
theorem judgeGrants_find (fuel : Nat) (turn : Bool) (s : State) (n : Nat) (hf : 32 < fuel + s.keys.checkNext) :
    (judgeGrants fuel turn s).keys.grants.find n = (s.keys.grants.find n).map fun g =>
      if s.keys.checkNext ≤ n ∧ n < (judgeGrants fuel turn s).keys.checkNext then g.checked s.keys.checkTime
      else g := by
  have hnone : ¬ (s.keys.checkNext ≤ n ∧ n < s.keys.checkNext) := by omega
  induction fuel generalizing turn s with
  | zero => simp [judgeGrants, hnone]
  | succ fuel ih =>
    obtain h | ⟨turn', u, h, hu⟩ := judgeGrants_cases fuel turn s
    · simp [h, hnone]
    have hnext : u.keys.checkNext = s.keys.checkNext + 1 := by rw [hu]; rfl
    have htime : u.keys.checkTime = s.keys.checkTime := by rw [hu]; rfl
    have hroom : 32 < fuel + u.keys.checkNext := by omega
    have hlater := (judgeGrants_judged u.keys.grants fuel turn' u hroom fun _ _ => rfl).next
    rw [h, ih turn' u hroom (by omega), htime, hnext, hu, Keys.judgeNext_find, Option.map_map]
    congr 1
    funext g
    by_cases hn : n = s.keys.checkNext
    · have : s.keys.checkNext < (judgeGrants fuel turn' u).keys.checkNext := by omega
      simp [hn, this]
    · have : s.keys.checkNext + 1 ≤ n ↔ s.keys.checkNext ≤ n := by omega
      simp [hn, this]

/-- Settles O34: a check that begins judges from slot 0 at the clock's value, and one that is done ends. -/
theorem windowCheckJudgesEverySlot : Obligations.WindowCheckJudgesEverySlot := by
  refine ⟨fun s hp hc _ => ?_, fun s hr hn hw => ?_⟩
  · let u := updateKeys (fun k => { k with
      requester := .checking, followOn := false, checkTime := k.clock, checkNext := 0 }) s
    have hfuel : 32 < 33 + u.keys.checkNext := Nat.le_refl 33
    have hbegin : beginCheck s = judgeGrants 33 false u := by simp [beginCheck, hp, hc, u]
    obtain ⟨next, grants, hk⟩ := judgeGrants_keys 33 false u
    refine ⟨_, congrArg finish hbegin, ?_⟩
    have hends := (judgeGrants_judged u.keys.grants 33 false u hfuel fun _ _ => rfl).ends
    simp only [settle_frame]
    refine ⟨by rw [hk]; rfl, by rw [hk]; rfl, by rw [hk]; rfl, by rw [hk]; rfl, fun n g hg _ => ?_, hends⟩
    rw [judgeGrants_find 33 false u n hfuel]
    simp [u, hg, Grant.checked]
  · show finish (endCheck s) = _
    have hdone : s.checkDone = true := by simpa [State.checkDone, hr, hn] using hw
    rw [endCheck, if_pos hdone, finish, updateKeys]

/-! ### Selection (R74) -/

theorem bestGrant_eq_none {key clock : Nat} {grants : Table Grant} :
    bestGrant key clock grants = none ↔ ∀ p ∈ grants, p.2.eligible key clock = false := by
  induction grants with
  | nil => simp [bestGrant]
  | cons p rest ih =>
    simp only [bestGrant, List.forall_mem_cons, ← ih]
    cases bestGrant key clock rest with
    | none => simp
    | some b => simp only [reduceCtorEq, and_false, iff_false]; split <;> simp

/-- The grant selected from a table is in it and eligible, and comes before every other eligible one: by an earlier end,
or by its slot (R74). -/
theorem bestGrant_some {key clock : Nat} {grants : Table Grant} {b : Nat × Grant} (hr : grants.rising = true)
    (hb : bestGrant key clock grants = some b) :
    b ∈ grants ∧ b.2.eligible key clock = true ∧
      ∀ p ∈ grants, p.2.eligible key clock = true → b.2.stop < p.2.stop ∨ (b.2.stop = p.2.stop ∧ b.1 ≤ p.1) := by
  induction grants generalizing b with
  | nil => simp [bestGrant] at hb
  | cons p rest ih =>
    obtain ⟨hlow, hrest⟩ := (Table.rising_cons p.1 p.2 rest).1 hr
    simp only [bestGrant] at hb
    split at hb
    case h_1 hnone =>
      have hnot := bestGrant_eq_none.1 hnone
      split at hb
      · rename_i he
        cases hb
        refine ⟨List.mem_cons_self, he, fun q hq hqe => ?_⟩
        rcases List.mem_cons.1 hq with rfl | hq
        · exact .inr ⟨rfl, le_rfl⟩
        · simp [hnot q hq] at hqe
      · cases hb
    case h_2 c hc =>
      obtain ⟨hmem, hce, hleast⟩ := ih hrest hc
      have hpc := hlow c hmem
      split at hb
      · rename_i he
        obtain ⟨he, hstop⟩ : p.2.eligible key clock = true ∧ p.2.stop ≤ c.2.stop := by simpa using he
        cases hb
        refine ⟨List.mem_cons_self, he, fun q hq hqe => ?_⟩
        rcases List.mem_cons.1 hq with rfl | hq
        · exact .inr ⟨rfl, le_rfl⟩
        · have := hleast q hq hqe
          have := hlow q hq
          omega
      · rename_i he
        cases hb
        refine ⟨List.mem_cons_of_mem _ hmem, hce, fun q hq hqe => ?_⟩
        rcases List.mem_cons.1 hq with rfl | hq
        · simp only [hqe, Bool.true_and, decide_eq_true_eq] at he
          omega
        · exact hleast q hq hqe

/-- Settles O38, by induction on the table: the slots rise, so a grant found before the best of the rest wins a tie. -/
theorem selectionTakesTheEarliestEnd : Obligations.SelectionTakesTheEarliestEnd := by
  refine fun key clock grants hr => ⟨fun slot g hb => ?_, fun hnone n x hx => bestGrant_eq_none.1 hnone (n, x) hx⟩
  obtain ⟨hmem, he, hleast⟩ := bestGrant_some hr hb
  exact ⟨hmem, he, fun n x hx hxe => hleast (n, x) hx hxe⟩

end Machine
end Sys2Proof
end

section
/-!
The count of a showing (R76, R77), and that shows counted never exceeds the allowance (R61).
-/
namespace Sys2Proof
namespace Machine

/-! ### The law of the grant table (R61) -/

section
variable {s u : State} {slot : Nat} {g : Grant}

theorem showsWithin_of_grants (h : u.keys.grants = s.keys.grants) (hs : s.showsWithin) : u.showsWithin := by
  rwa [State.showsWithin, h]

theorem showsWithin_of_put (h : u.keys.grants = s.keys.grants.put slot g) (hg : g.shows ≤ g.allowance)
    (hs : s.showsWithin) : u.showsWithin := by
  intro p hp
  rw [h] at hp
  rcases Table.mem_put hp with rfl | hp
  · exact hg
  · exact hs p hp

theorem showsWithin_of_erase (h : u.keys.grants = s.keys.grants.erase slot) (hs : s.showsWithin) : u.showsWithin := by
  intro p hp
  rw [h] at hp
  exact hs p (Table.mem_erase hp)

theorem showsWithin_find (hs : s.showsWithin) (hg : s.keys.grants.find slot = some g) : g.shows ≤ g.allowance :=
  hs _ (Table.mem_of_find hg)
end

/-! ### Operations that change grants -/

theorem whenRoom_showsWithin {turn : Bool} {command : Instr} {act : State → State} {s : State}
    (hact : (act s).showsWithin) (hs : s.showsWithin) : (whenRoom turn command act s).showsWithin := by
  unfold whenRoom
  split
  · exact hact
  · exact hs

theorem loadGrant_showsWithin (frame : Frame) (slot : Nat) {g : Grant} (hg : g.shows ≤ g.allowance) {s : State}
    (hs : s.showsWithin) : (loadGrant frame slot g s).showsWithin :=
  showsWithin_of_put (slot := slot) (by simp only [loadGrant]; split <;> simp [Table.set]) hg hs

theorem serveGrantLoad_showsWithin (turn : Bool) (frame : Frame) (key allowance start stop : Nat) (wrapped : List Byte)
    {s : State} (hs : s.showsWithin) : (serveGrantLoad turn frame key allowance start stop wrapped s).showsWithin := by
  have refused : ∀ reason, (refuse 14 frame reason s).showsWithin := fun _ => showsWithin_of_grants (by simp) hs
  unfold serveGrantLoad
  repeat' split
  on_goal -1 => exact whenRoom_showsWithin (loadGrant_showsWithin frame _ (Nat.zero_le allowance) hs) hs
  all_goals exact refused _

theorem revokeGrant_grants (slot : Nat) (g : Grant) (s : State) :
    (revokeGrant slot g s).keys.grants = s.keys.grants.put slot { g with state := .revoked } := by
  simp only [revokeGrant]; split <;> simp [Table.set]

theorem serveGrantRevoke_showsWithin (turn : Bool) (frame : Frame) (slot : Nat) {s : State} (hs : s.showsWithin) :
    (serveGrantRevoke turn frame slot s).showsWithin := by
  have refused : ∀ reason, (refuse 16 frame reason s).showsWithin := fun _ => showsWithin_of_grants (by simp) hs
  unfold serveGrantRevoke
  split
  · exact refused _
  · split
    · exact refused _
    · rename_i g hg
      split
      · exact refused _
      · refine whenRoom_showsWithin ?_ hs
        exact showsWithin_of_put (slot := slot) (g := { g with state := .revoked }) (by simp [revokeGrant_grants])
          (show g.shows ≤ g.allowance from showsWithin_find hs hg) hs

theorem serveGrantPurge_showsWithin (turn : Bool) (frame : Frame) (slot : Nat) {s : State} (hs : s.showsWithin) :
    (serveGrantPurge turn frame slot s).showsWithin := by
  have refused : ∀ reason, (refuse 17 frame reason s).showsWithin := fun _ => showsWithin_of_grants (by simp) hs
  unfold serveGrantPurge
  repeat' split
  on_goal -1 => exact whenRoom_showsWithin (showsWithin_of_erase (slot := slot) (by simp [Table.set]) hs) hs
  all_goals exact refused _

theorem judgeGrants_showsWithin (fuel : Nat) (turn : Bool) {s : State} (hs : s.showsWithin) :
    (judgeGrants fuel turn s).showsWithin := by
  induction fuel generalizing turn s with
  | zero => exact hs
  | succ fuel ih =>
    obtain h | ⟨turn', u, h, hu⟩ := judgeGrants_cases fuel turn s
    · exact showsWithin_of_grants (by rw [h]) hs
    · rw [h]
      refine ih turn' ?_
      have hgrants := congrArg Keys.grants hu
      simp only [Keys.judgeNext] at hgrants
      split at hgrants
      · rename_i g hg
        split at hgrants
        · exact showsWithin_of_grants hgrants hs
        · exact showsWithin_of_put hgrants (show g.shows ≤ g.allowance from showsWithin_find hs hg) hs
      · exact showsWithin_of_grants hgrants hs

theorem beginCheck_showsWithin {s : State} (hs : s.showsWithin) : (beginCheck s).showsWithin := by
  unfold beginCheck
  split
  · exact judgeGrants_showsWithin _ _ hs
  · exact hs

theorem performCount_grants (c : Count) (s : State) : (performCount c s).keys.grants =
    match chargedGrant c s with
    | some (slot, g) => s.keys.grants.put slot g.charge
    | none => s.keys.grants := by
  simp only [performCount]
  cases chargedGrant c s <;> simp [setCharged, Table.set]

theorem performCount_showsWithin (c : Count) {s : State} (hs : s.showsWithin) : (performCount c s).showsWithin := by
  have h := performCount_grants c s
  split at h
  · exact showsWithin_of_put h (Nat.min_le_left _ _) hs
  · exact showsWithin_of_grants h hs

theorem countShowing_showsWithin {s : State} (hs : s.showsWithin) : (countShowing s).showsWithin := by
  unfold countShowing
  split
  · exact hs
  · split
    · exact hs
    · dsimp only
      split
      · exact performCount_showsWithin _ hs
      · exact hs

theorem fireCount_showsWithin (fuel : Nat) {s : State} (hs : s.showsWithin) : (fireCount fuel s).showsWithin := by
  induction fuel generalizing s with
  | zero => exact hs
  | succ fuel ih =>
    unfold fireCount
    split
    · exact ih (countShowing_showsWithin hs)
    · exact hs

/-! ### Frame ticks -/

theorem judgeUnits_showsWithin {s : State} (hs : s.showsWithin) : (judgeUnits s).showsWithin := by
  intro p hp
  simp only [judgeUnits, judgeStreams_frame] at hp
  exact fireCount_showsWithin 3 (showsWithin_of_grants (by simp only [fireCues_frame]) hs) p hp

theorem frameTick_showsWithin {s : State} (hs : s.showsWithin) : (frameTick s).showsWithin := by
  intro p hp
  have htick : (sequencerTick (stepFade (stepPulses s))).showsWithin := showsWithin_of_grants (by simp) hs
  exact judgeUnits_showsWithin htick p (by simpa [frameTick] using hp)

/-- A tick of the frame clock, with its counts changed, and the notice it may bring. -/
theorem clockTick_showsWithin (f : Timeline → Timeline) {s : State} (hs : s.showsWithin) :
    (clockTick (updateTime f s)).showsWithin :=
  frameTick_showsWithin (s := updateTime _ (updateTime f s)) (showsWithin_of_grants (by simp) hs)

theorem raise_showsWithin (c : NoticeCause) (detail : List Byte) {s : State} (hs : s.showsWithin) :
    (raise c detail s).showsWithin := showsWithin_of_grants (by simp) hs

theorem syncEdge_showsWithin (rising : Bool) {s : State} (hs : s.showsWithin) : (syncEdge rising s).showsWithin := by
  simp only [syncEdge]
  repeat' split
  · exact hs
  · exact raise_showsWithin _ _ (clockTick_showsWithin _ hs)
  · exact clockTick_showsWithin _ hs
  · exact hs

theorem loseSync_showsWithin {s : State} (hs : s.showsWithin) : (loseSync s).showsWithin :=
  raise_showsWithin _ _ (clockTick_showsWithin _ hs)

theorem generatorTicks_showsWithin {s : State} (hs : s.showsWithin) : (generatorTicks s).showsWithin := by
  unfold generatorTicks
  repeat' split
  · exact clockTick_showsWithin id hs
  · exact loseSync_showsWithin hs
  · exact clockTick_showsWithin _ hs
  · exact clockTick_showsWithin _ hs
  · exact hs

/-! ### Every command -/

theorem serve_showsWithin (turn : Bool) (c : Instr) {s : State} (hs : s.showsWithin) :
    (serve turn c s).showsWithin := by
  cases c
  case grantLoad => exact serveGrantLoad_showsWithin _ _ _ _ _ _ _ hs
  case grantRevoke => exact serveGrantRevoke_showsWithin _ _ _ hs
  case grantPurge => exact serveGrantPurge_showsWithin _ _ _ hs
  case go => exact showsWithin_of_grants (answerTry_grants _ _ fun _ => tryGo_grants) hs
  case skip => exact showsWithin_of_grants (answerTry_grants _ _ fun _ => trySkip_grants) hs
  case stop => exact showsWithin_of_grants (answerTry_grants _ _ fun _ => tryStop_grants) hs
  case pause => exact showsWithin_of_grants (answerTry_grants _ _ fun _ ht => by simp [tryPause_frame ht]) hs
  case resume => exact showsWithin_of_grants (answerTry_grants _ _ fun _ ht => by simp [tryResume_frame ht]) hs
  all_goals exact showsWithin_of_grants (by simp [serve]) hs

theorem serveWaiter_showsWithin (w : Waiter) {s : State} (hs : s.showsWithin) : (serveWaiter w s).showsWithin := by
  cases w
  case request c => exact serve_showsWithin true c hs
  case count c => exact performCount_showsWithin c hs
  case check => exact judgeGrants_showsWithin _ _ hs
  all_goals exact showsWithin_of_grants (by simp only [serveWaiter]; (repeat' split) <;> simp) hs

theorem queueWaiting_showsWithin {s : State} (hs : s.showsWithin) : (queueWaiting s).showsWithin := by
  unfold queueWaiting
  repeat' split
  · exact hs
  · rename_i w rest _
    exact showsWithin_of_grants (by simp only [pumpSegment_frame])
      (serveWaiter_showsWithin w (s := { s with queue := { s.queue with waiters := rest } }) hs)
  · exact hs

theorem serveDeferred_showsWithin (n : Nat) {s : State} (hs : s.showsWithin) : (serveDeferred n s).showsWithin :=
  serveDeferred_keeps (P := State.showsWithin) (fun _ _ _ h => h) (fun c _ h => serve_showsWithin false c h) n hs

/-- Every event but a reset keeps shows counted within the allowance. -/
theorem event_showsWithin {c : Instr} {s : State} (hc : requestOf c = none)
    (hreset : ∀ size ran landed, c ≠ .fullReset size ran landed) (hsend : c ≠ .outgoingSendComplete)
    (hs : s.showsWithin) :
    ∃ u, exec c s = finish u ∧ u.showsWithin := by
  cases c <;> try cases hc
  all_goals refine ⟨_, rfl, ?_⟩
  case fullReset => exact absurd rfl (hreset _ _ _)
  case outgoingSendComplete => exact absurd rfl hsend
  case frameSyncEdge rising => exact syncEdge_showsWithin rising hs
  case generatorTick => exact generatorTicks_showsWithin hs
  case syncLoss => split <;> [exact loseSync_showsWithin hs; exact hs]
  case boundary => split <;> [exact clockTick_showsWithin id hs; exact hs]
  case windowCheckBegin => exact beginCheck_showsWithin hs
  case queueWaitingWrite => exact serveDeferred_showsWithin _ (queueWaiting_showsWithin hs)
  case mapBlockWriteComplete ok => exact serveDeferred_showsWithin _ (showsWithin_of_grants (by simp) hs)
  all_goals exact showsWithin_of_grants (by (repeat' split) <;> simp) hs

/-- A charge within the allowance raises shows counted by one, and spends an active grant at the allowance (R76). -/
theorem Grant.charge_of_lt {g : Grant} (h : g.shows < g.allowance) : g.charge = { g with
    shows := g.shows + 1
    state := if g.shows + 1 = g.allowance ∧ g.state = .active then .spent else g.state } := by
  simp [Grant.charge, Nat.min_eq_right h]

/-- A record counted in the log holds its count time (R76). -/
theorem ShowLog.counted_of_change {l : ShowLog} {n time : Nat} {r : LogRecord} {y : LogShowing}
    (hr : r ∈ (l.change n (LogRecord.changeShowing fun z => { z with counted := some time })).records)
    (hn : r.sequence = n) (hy : r.showing = some y) : y.counted = some time := by
  obtain ⟨x, -, rfl⟩ := ShowLog.mem_change hr
  by_cases hx : x.sequence = n
  · rw [if_pos hx] at hy
    obtain ⟨z, -, rfl⟩ := Option.map_eq_some_iff.1 hy
    rfl
  · rw [if_neg hx] at hn
    exact absurd hn hx

/-- The first fire of a showing's count point with room in the queue makes its count at once (R77). -/
theorem countShowing_of_room {s : State} {sh : Showing} {slot : Nat} {g : Grant} (hsh : s.showing = some sh)
    (hc : s.keys.counted = false) (hw : s.queue.writes.length < 8) (hr : s.queue.waiters = [])
    (hb : s.keys.bound = some slot) (hg : s.keys.grants.find slot = some g) :
    countShowing s = performCount
      { time := s.keys.clock, composition := sh.play.id, record := sh.record, grant := some (slot, g.key) }
      (updateKeys (fun k => { k with counted := true }) s) := by
  simp [countShowing, State.hasRoom, hsh, hc, hw, hr, hb, hg]

/-- Settles O39: every command that changes grants keeps shows counted within the allowance, and the first fire makes
the count of its showing. -/
theorem showingsAreCountedOnce : Obligations.ShowingsAreCountedOnce := by
  refine ⟨fun c s t hs hreset hsend ht => ?_, fun s sh hsh => ⟨fun hc => ?_, fun slot g x hc hw hr hb hg hx hlt => ?_⟩⟩
  · exact exec_keeps (P := State.showsWithin) (fun _ _ _ h => h) (fun _ h => serve_showsWithin false c h)
      (fun hc => event_showsWithin hc hreset hsend hs) hs ht
  · simp [countShowing, hsh, hc]
  · obtain ⟨hqueue, hkeys, hcat, hlog⟩ := performCount_fields (s := updateKeys (fun k => { k with counted := true }) s)
      (c := { time := s.keys.clock, composition := sh.play.id, record := sh.record, grant := some (slot, g.key) })
      rfl hg rfl hx
    rw [Grant.charge_of_lt hlt] at hqueue hkeys
    rw [countShowing_of_room hsh hc hw hr hb hg]
    refine ⟨hkeys, hcat, hqueue, fun r hmem hseq y hy => ?_, by simp, by simp⟩
    rw [hlog] at hmem
    exact ShowLog.counted_of_change hmem hseq hy

end Machine
end Sys2Proof
end

section
/-!
GRANT LOAD, GRANT REVOKE and GRANT PURGE (R63 to R67), and what a revocation does to the showing of the bound
grant (R105).
-/
namespace Sys2Proof
namespace Machine

/-! ### The states of a grant -/

theorem GrantState.final_iff (t : GrantState) : t.final = true ↔ t = .spent ∨ t = .expired ∨ t = .revoked := by
  cases t <;> simp [GrantState.final]

theorem GrantState.final_eq_false_iff (t : GrantState) : t.final = false ↔ t = .pending ∨ t = .active := by
  cases t <;> simp [GrantState.final]

/-! ### Refusals -/

/-- Settles O37, request by request, in the order of the checks. -/
theorem grantRequestsAreRefusedInOrder : Obligations.GrantRequestsAreRefusedInOrder := by
  intro f s slot
  refine ⟨fun h => ?_, fun h => ?_⟩
  · have refused : ∀ reason, serveGrantRevoke false f slot (s.received 16 f) = refuse 16 f reason (s.received 16 f) →
        exec (.grantRevoke f slot) s = .next (s.no 16 f reason) := fun _ hs => request_refuses h hs
    refine ⟨fun hlt => refused _ ?_, fun hle hnone => refused _ ?_, fun g hle hg hfinal => refused _ ?_⟩
    · simp [serveGrantRevoke, hlt]
    · simp [serveGrantRevoke, Nat.not_lt.2 hle, hnone]
    · simp [serveGrantRevoke, Nat.not_lt.2 hle, hg, (GrantState.final_iff _).2 hfinal]
  · have refused : ∀ reason, serveGrantPurge false f slot (s.received 17 f) = refuse 17 f reason (s.received 17 f) →
        exec (.grantPurge f slot) s = .next (s.no 17 f reason) := fun _ hs => request_refuses h hs
    refine ⟨fun hlt => refused _ ?_, fun hle hnone => refused _ ?_,
      fun g hle hg => ⟨fun hlive => refused _ ?_, fun hfinal hbound => refused _ ?_⟩⟩
    · simp [serveGrantPurge, hlt]
    · simp [serveGrantPurge, Nat.not_lt.2 hle, hnone]
    · simp [serveGrantPurge, Nat.not_lt.2 hle, hg, (GrantState.final_eq_false_iff _).2 hlive]
    · simp [serveGrantPurge, Nat.not_lt.2 hle, hg, (GrantState.final_iff _).2 hfinal, hbound]

/-! ### GRANT LOAD (R63, R64) -/

theorem keyConflict_eq (grants : Table Grant) (key material : Nat) : keyConflict grants key material =
    grants.any fun p => decide (p.2.key = key ∧ p.2.material ≠ material) := by
  simp [keyConflict, Bool.decide_and]

/-- The grant a load makes of its fields at a clock value (R64). -/
def loadedGrant (key material allowance start stop clock : Nat) : Grant :=
  { key := key, material := material, start := start, stop := stop, allowance := allowance, shows := 0,
    state := loadedState start stop clock, loaded := clock }

/-- The state with a grant loaded, its slot's write queued and its notice raised (R62, R64). -/
def State.loaded (slot : Nat) (g : Grant) (s : State) : State :=
  let u := { s with
    keys := { s.keys with grants := s.keys.grants.put slot g }
    queue := { s.queue with writes := s.queue.writes ++ [{ write := .grant slot (some g), forCheck := false }] } }
  if g.state = .active then raise .grantActive (grantDetail slot g) u else u

theorem loadGrant_eq (f : Frame) (slot : Nat) (g : Grant) (s : State) : loadGrant f slot g s =
    answerOk 14 f (Layout.num 1 slot ++ Layout.code g.state.code) (s.loaded slot g) := by
  simp only [loadGrant, pushGrant, setGrant, Table.set, Table.find_put_same]
  rfl

theorem loaded_port (slot : Nat) (g : Grant) (s : State) : (s.loaded slot g).port = s.port := by
  unfold State.loaded; split <;> rfl

/-- What a load changes does not depend on the control port. -/
theorem received_loaded (kind slot : Nat) (f : Frame) (g : Grant) (s : State) :
    (s.received kind f).loaded slot g = { s.loaded slot g with port := (s.received kind f).port } := by
  unfold State.loaded; split <;> rfl

theorem exec_grantLoad_loads {f : Frame} {s : State} {key allowance start stop material slot : Nat}
    {wrapped : List Byte} (h : s.accepts 14 f) (hrange : ¬ (key = 0 ∨ 65535 < key ∨ allowance = 0 ∨ 65535 < allowance))
    (hm : Config.unwrap wrapped = some material) (hwindow : ¬ stop ≤ start)
    (hkey : keyConflict s.keys.grants key material = false) (hfree : s.keys.grants.lowestFree 32 = some slot) :
    let g := loadedGrant key material allowance start stop s.keys.clock
    exec (.grantLoad f key allowance start stop wrapped) s = .next
      (if s.hasRoom then
        State.ok 14 f (Layout.num 1 slot ++ Layout.code g.state.code) (s.loaded slot g)
       else settle (awaitRoom (.request (.grantLoad f key allowance start stop wrapped)) (s.received 14 f))) := by
  intro g
  show request 14 f _ (serveGrantLoad false f key allowance start stop wrapped) s = _
  have hserve : serveGrantLoad false f key allowance start stop wrapped (s.received 14 f) =
      whenRoom false (.grantLoad f key allowance start stop wrapped)
        (fun u => loadGrant f slot (loadedGrant key material allowance start stop u.keys.clock) u)
        (s.received 14 f) := by
    simp only [not_or] at hrange
    simp [serveGrantLoad, hrange, hm, hwindow, hkey, hfree, loadedGrant]
  split
  · rename_i hroom
    refine request_ok h ?_ ?_
    · rw [hserve, whenRoom, if_pos (by simpa using hroom)]
      rw [loadGrant_eq, received_loaded]
      rfl
    · exact loaded_port slot g s
  · rename_i hroom
    rw [request_of_accepts h, hserve, whenRoom, if_neg (by simpa using hroom), finish]

theorem exec_grantLoad_refused {f : Frame} {s : State} {key allowance start stop : Nat} {wrapped : List Byte}
    (h : s.accepts 14 f) :
    (key = 0 ∨ 65535 < key ∨ allowance = 0 ∨ 65535 < allowance →
      exec (.grantLoad f key allowance start stop wrapped) s = .next (s.no 14 f .outOfRange)) ∧
    (¬ (key = 0 ∨ 65535 < key ∨ allowance = 0 ∨ 65535 < allowance) →
      (Config.unwrap wrapped = none →
        exec (.grantLoad f key allowance start stop wrapped) s = .next (s.no 14 f .badGrant)) ∧
      ∀ material, Config.unwrap wrapped = some material →
        (stop ≤ start → exec (.grantLoad f key allowance start stop wrapped) s = .next (s.no 14 f .badGrant)) ∧
        (¬ stop ≤ start →
          (keyConflict s.keys.grants key material = true →
            exec (.grantLoad f key allowance start stop wrapped) s = .next (s.no 14 f .keyConflict)) ∧
          (keyConflict s.keys.grants key material = false → s.keys.grants.lowestFree 32 = none →
            exec (.grantLoad f key allowance start stop wrapped) s = .next (s.no 14 f .tableFull)))) := by
  have refused : ∀ reason, serveGrantLoad false f key allowance start stop wrapped (s.received 14 f) =
      refuse 14 f reason (s.received 14 f) →
      exec (.grantLoad f key allowance start stop wrapped) s = .next (s.no 14 f reason) :=
    fun _ hs => request_refuses h hs
  refine ⟨fun hrange => refused _ ?_, fun hrange => ?_⟩
  · simp [serveGrantLoad, or_assoc, hrange]
  · simp only [not_or] at hrange
    refine ⟨fun hm => refused _ ?_, fun material hm => ⟨fun hwindow => refused _ ?_,
      fun hwindow => ⟨fun hkey => refused _ ?_, fun hkey hfree => refused _ ?_⟩⟩⟩
    · simp [serveGrantLoad, hrange, hm]
    · simp [serveGrantLoad, hrange, hm, hwindow]
    · simp [serveGrantLoad, hrange, hm, hwindow, hkey]
    · simp [serveGrantLoad, hrange, hm, hwindow, hkey, hfree]

/-! ### GRANT REVOKE and GRANT PURGE (R66, R67) -/

theorem exec_grantRevoke {f : Frame} {s : State} {slot : Nat} {g : Grant} (hw : s.queue.writes.length < 8)
    (hr : s.queue.waiters = []) (h : s.accepts 16 f) (hslot : slot ≤ 31) (hg : s.keys.grants.find slot = some g)
    (hlive : g.state = .pending ∨ g.state = .active) :
    exec (.grantRevoke f slot) s = .next { revokeGrant slot g (s.received 16 f) with
      port := s.port.answers 16 f .ok none [] } := by
  have hserve : serveGrantRevoke false f slot (s.received 16 f) =
      answerOk 16 f [] (revokeGrant slot g (s.received 16 f)) := by
    simp only [serveGrantRevoke, received_frame, Nat.not_lt.2 hslot, if_false, hg,
      (GrantState.final_eq_false_iff _).2 hlive, Bool.false_eq_true]
    exact whenRoom_of_room (by simpa using hw) (by simpa using hr)
  show request 16 f _ (serveGrantRevoke false f slot) s = _
  rw [request_of_accepts h, hserve]
  exact finish_answer h (by simp) _ _ _

theorem exec_grantPurge {f : Frame} {s : State} {slot : Nat} {g : Grant} (hw : s.queue.writes.length < 8)
    (hr : s.queue.waiters = []) (h : s.accepts 17 f) (hslot : slot ≤ 31) (hg : s.keys.grants.find slot = some g)
    (hfinal : g.state = .spent ∨ g.state = .expired ∨ g.state = .revoked) (hbound : s.keys.bound ≠ some slot) :
    exec (.grantPurge f slot) s = .next (State.ok 17 f []
      { s with
        keys := { s.keys with
          grants := s.keys.grants.erase slot
          prepared := if s.keys.prepared = some slot then none else s.keys.prepared }
        queue := { s.queue with
          writes := s.queue.writes ++ [{ write := .grant slot none, forCheck := false }] } }) := by
  refine request_ok h ?_ rfl
  simp only [serveGrantPurge, received_frame, Nat.not_lt.2 hslot, if_false, hg, (GrantState.final_iff _).2 hfinal,
    Bool.not_true, Bool.false_eq_true, hbound]
  rw [whenRoom_of_room (by simpa using hw) (by simpa using hr)]
  simp only [pushGrant, setGrant, updateKeys, Table.set, Table.find_erase_same]
  rfl

/-! ### The showing of a revoked grant (R105) -/

@[simp] theorem keepPlaces_eq (keep : Place → Bool) (s : State) :
    (keepPlaces keep s).frames.places = s.frames.places.filter keep := by
  simp only [keepPlaces]; split <;> simp

@[simp] theorem keepPortions_eq (keep : Portion → Bool) (s : State) :
    (keepPortions keep s).sound.portions = s.sound.portions.filter keep := by
  simp only [keepPortions]; split <;> simp

/-- A showing as a revocation leaves it (R105). -/
def Showing.revokedAt (reel last : Nat) (sh : Showing) : Showing :=
  { sh with revoked := true, endFrame := last, endReel := min sh.endReel reel }

/-- The showing is marked and ends with its reel, and what lies beyond is dropped (R105). -/
theorem revokeShowing_fields {s : State} {sh : Showing} (hsh : s.showing = some sh) :
    let last := min sh.endFrame (reelStart sh.play.composition.reels (s.time.reel + 1) - 1)
    let t := revokeShowing s
    t.keys.grants = s.keys.grants ∧ t.keys.bound = s.keys.bound ∧ t.showing = some (sh.revokedAt s.time.reel last) ∧
      t.frames.places = (s.frames.places.filter fun p => p.prepared || decide (p.frame ≤ last)) ∧
      t.sound.portions = (s.sound.portions.filter fun q => q.prepared || decide (q.frame ≤ last)) ∧
      t.seq.state = s.seq.state := by
  have hcur : s.seq.current = .play sh := by
    unfold State.showing at hsh
    split at hsh <;> simp_all
  simp [revokeShowing, State.showing, updateShowing, hcur, dropFramesBeyond, dropSoundBeyond, Showing.revokedAt]

/-- A grant that is not bound is revoked without more ado (R66). -/
theorem revokeGrant_unbound {s : State} {slot : Nat} (g : Grant) (h : s.keys.bound ≠ some slot) : revokeGrant slot g s =
    { s with
      keys := { s.keys with grants := s.keys.grants.put slot { g with state := .revoked } }
      queue := { s.queue with writes := s.queue.writes ++
        [{ write := .grant slot (some { g with state := .revoked }), forCheck := false }] } } := by
  simp only [revokeGrant, pushGrant, setGrant, Table.set, Table.find_put_same]
  exact if_neg h

/-- The bound grant's revocation reaches its showing (R66, R105). -/
theorem revokeGrant_bound {s : State} {slot : Nat} {sh : Showing} (g : Grant) (hb : s.keys.bound = some slot)
    (hsh : s.showing = some sh) :
    let last := min sh.endFrame (reelStart sh.play.composition.reels (s.time.reel + 1) - 1)
    let t := revokeGrant slot g s
    t.keys.grants = s.keys.grants.put slot { g with state := .revoked } ∧ t.keys.bound = some slot ∧
      t.queue = { s.queue with writes := s.queue.writes ++
        [{ write := .grant slot (some { g with state := .revoked }), forCheck := false }] } ∧
      t.showing = some (sh.revokedAt s.time.reel last) ∧
      t.frames.places = (s.frames.places.filter fun p => p.prepared || decide (p.frame ≤ last)) ∧
      t.sound.portions = (s.sound.portions.filter fun q => q.prepared || decide (q.frame ≤ last)) ∧
      t.seq.state = s.seq.state ∧ t.time = s.time ∧ t.log = s.log ∧ t.nvm = s.nvm := by
  intro last t
  let u := pushGrant slot false (setGrant slot (some { g with state := .revoked }) s)
  have ht : t = cutGather u (revokeShowing u) := if_pos hb
  obtain ⟨hgrants, hbound, hshowing, hplaces, hportions, hstate⟩ := revokeShowing_fields (s := u) (sh := sh) hsh
  have hshow : ∀ v, (cutGather u v).showing = v.showing := fun v => by simp [State.showing]
  rw [ht, hshow]
  simp only [cutGather_frame, revokeShowing_frame, hgrants, hbound, hshowing, hplaces, hportions, hstate]
  simp [u, hb, Table.set, pushGrant, last]

/-! ### The obligation -/

/-- Settles O36: GRANT LOAD check by check, REVOKE and PURGE with their checks passed, and the revocation of a bound
grant. -/
theorem grantRequestsChangeTheirSlot : Obligations.GrantRequestsChangeTheirSlot := by
  refine fun f s => ⟨fun key allowance start stop wrapped h => ?_, fun slot g hw hr h hslot hg hlive hbound => ?_,
    fun slot g hw hr h hslot hg hfinal hbound => exec_grantPurge hw hr h hslot hg hfinal hbound,
    fun slot g sh hw hr h hslot hg hlive hbound hsh => ?_⟩
  · obtain ⟨hrefused, hpassed⟩ := exec_grantLoad_refused (start := start) (stop := stop) (key := key)
      (allowance := allowance) (wrapped := wrapped) h
    simp only [← keyConflict_eq]
    split
    · exact hrefused ‹_›
    · rename_i hrange
      split
      · exact (hpassed hrange).1 ‹_›
      · rename_i material hm
        obtain ⟨hwrong, hright⟩ := (hpassed hrange).2 material hm
        split
        · exact hwrong ‹_›
        · rename_i hwindow
          split
          · exact (hright hwindow).1 ‹_›
          · rename_i hkey
            have hkey : keyConflict s.keys.grants key material = false := by simpa using hkey
            split
            · exact (hright hwindow).2 hkey ‹_›
            · exact exec_grantLoad_loads h hrange hm hwindow hkey ‹_›
  · rw [exec_grantRevoke hw hr h hslot hg hlive, revokeGrant_unbound (s := s.received 16 f) g hbound]
    rfl
  · exact ⟨_, exec_grantRevoke hw hr h hslot hg hlive, rfl, revokeGrant_bound (s := s.received 16 f) g hbound hsh⟩

end Machine
end Sys2Proof
end

section
/-!
What the operations of the show sequencer make of its own state (R89 to R107): one equation for each, so that later proofs
need not unfold them.
-/
namespace Sys2Proof
namespace Machine

/-! ### Showings -/

theorem showing_eq_none (s : State) : s.showing = none ↔ ∀ sh, s.seq.current ≠ .play sh := by
  unfold State.showing; split <;> simp_all

theorem showing_eq_some (s : State) (sh : Showing) : s.showing = some sh ↔ s.seq.current = .play sh := by
  unfold State.showing; split <;> simp_all

/-! ### Preparation -/

/-- The prepared entry that a walk's end becomes (R95). -/
def WalkEnd.prepared : WalkEnd → Prepared
  | .play p _ => .play p
  | .black pos n => .black pos n
  | .wait pos t => .wait pos t
  | .showEnd => .showEnd
  | .limit pos => .walkLimit pos

@[simp] theorem preparePlay_seq (p : Play) (g : Option (Nat × Grant)) (s : State) :
    (preparePlay p g s).seq = { s.seq with prepared := some (.play p) } := by
  simp [preparePlay]

@[simp] theorem preparePlay_keys (p : Play) (g : Option (Nat × Grant)) (s : State) :
    (preparePlay p g s).keys = { s.keys with prepared := g.map (·.1) } := by
  simp [preparePlay]

@[simp] theorem preparePlay_frames (p : Play) (g : Option (Nat × Grant)) (s : State) :
    (preparePlay p g s).frames =
      { s.frames with nextPrepared := p.firstFrame, keyPrepared := g.map (·.2.material) } := by
  simp [preparePlay]

@[simp] theorem prepareEnd_seq (stop : WalkEnd) (s : State) :
    (prepareEnd stop s).seq = { s.seq with prepared := some stop.prepared } := by
  cases stop <;> simp [prepareEnd, WalkEnd.prepared]

@[simp] theorem discardPrepared_seq (s : State) : (discardPrepared s).seq = { s.seq with prepared := none } := by
  unfold discardPrepared; split <;> simp

/-- Lookahead records what its walk finds (R95). -/
@[simp] theorem lookAhead_seq (start : Pos) (s : State) :
    (lookAhead start s).seq = { s.seq with
      path := some { steps := (scan walkSteps start s.seq.stack s).1.steps
                     stack := (scan walkSteps start s.seq.stack s).1.stack }
      prepared := some (scan walkSteps start s.seq.stack s).1.stop.prepared } := by
  simp [lookAhead]

/-! ### Ends -/

theorem endShowing_of_none {s : State} (h : s.showing = none) (outcome : ShowingOutcome) : endShowing outcome s = s := by
  simp [endShowing, h]

@[simp] theorem endShowing_seq (outcome : ShowingOutcome) (s : State) :
    (endShowing outcome s).seq = { s.seq with current := if s.showing.isSome then .none else s.seq.current } := by
  unfold endShowing
  cases s.showing <;> simp

@[simp] theorem enterIdle_seq (s : State) : (enterIdle s).seq = { s.seq with
    state := .idle, stack := [], pos := none, current := .none, path := none, waitReason := none, waitLimit := none,
    waitTimer := none, pauseTimer := none, halt := none } := by
  simp [enterIdle]

@[simp] theorem endShow_seq (outcome : ShowOutcome) (s : State) : (endShow outcome s).seq = { s.seq with
    state := .idle, stack := [], pos := none, current := .none, prepared := none, path := none, waitReason := none,
    waitLimit := none, waitTimer := none, pauseTimer := none, halt := none } := by
  simp [endShow]

@[simp] theorem halt_seq (cause : HaltCause) (s : State) : (halt cause s).seq = { s.seq with
    state := .halted, current := .none, prepared := none, path := none, waitReason := none, waitLimit := none,
    waitTimer := none, pauseTimer := none, halt := some cause } := by
  simp [halt]

@[simp] theorem haltAt_seq (pos : Pos) (s : State) : (haltAt pos s).seq = { s.seq with
    state := .halted, pos := some pos, current := .none, prepared := none, path := none, waitReason := none,
    waitLimit := none, waitTimer := none, pauseTimer := none, halt := some .walkLimit } := by
  simp [haltAt]

/-! ### Waiting and running -/

@[simp] theorem enterRunning_seq (s : State) : (enterRunning s).seq = { s.seq with
    state := if s.interlocked then .paused else .running
    pauseTimer := if s.interlocked then some 0 else s.seq.pauseTimer } := by
  unfold enterRunning; split <;> simp

@[simp] theorem enterPreroll_seq (s : State) : (enterPreroll s).seq = { s.seq with
    state := .preroll, current := .none, path := none, waitReason := none, waitLimit := none, waitTimer := none } := rfl

@[simp] theorem enterLogFull_seq (p : Play) (s : State) : (enterLogFull p s).seq = { s.seq with
    state := .waiting, pos := some p.pos, current := .none, path := none, waitReason := some .logFull,
    waitLimit := none, waitTimer := none, pauseTimer := none } := by
  simp [enterLogFull]

@[simp] theorem startBlack_seq (pos : Pos) (n : Nat) (s : State) : (startBlack pos n s).seq = { s.seq with
    state := if s.interlocked then .paused else .running
    pos := some pos, current := .black n false, prepared := none, path := none, waitReason := none, waitLimit := none
    waitTimer := none, pauseTimer := if s.interlocked then some 0 else s.seq.pauseTimer } := by
  simp [startBlack, State.interlocked]

/-- The sequencer as it enters WAITING at a WAIT (R98). -/
def waitEntered (pos : Pos) (timeout : Option Nat) (s : State) : State :=
  raiseWaiting pos .wait (updateSeq (fun q => { q with
    state := .waiting, pos := some pos, current := .wait, prepared := none, path := none, waitReason := some .wait,
    waitLimit := timeout, waitTimer := timeout.map fun _ => 0, pauseTimer := none }) s)

theorem enterWait_eq (pos : Pos) (timeout : Option Nat) (s : State) :
    enterWait pos timeout s = lookAhead pos.after (waitEntered pos timeout s) := rfl

@[simp] theorem waitEntered_seq (pos : Pos) (timeout : Option Nat) (s : State) :
    (waitEntered pos timeout s).seq = { s.seq with
      state := .waiting, pos := some pos, current := .wait, prepared := none, path := none, waitReason := some .wait,
      waitLimit := timeout, waitTimer := timeout.map fun _ => 0, pauseTimer := none } := by
  simp [waitEntered]

@[simp] theorem beginBlack_seq (pos : Pos) (n : Nat) (s : State) : (beginBlack pos n s).seq = { s.seq with
    pos := some pos, current := .black n true, prepared := none, path := none } := rfl

/-! ### The end of the current entry -/

/-- The current PLAY or BLACK has ended (R95, R102). -/
def currentEnded (outcome : Showing → ShowingOutcome) (s : State) : State :=
  match s.seq.current with
  | .play sh => endShowing (outcome sh) s
  | _ => updateSeq (fun q => { q with current := .none }) s

/-- Lookahead is made unless a path is recorded (R95). -/
def lookAheadUnlessMade (s : State) : State := if s.seq.path.isSome then s else lookAhead s.position.after s

theorem endCurrent_eq (outcome : Showing → ShowingOutcome) (s : State) :
    endCurrent outcome s = lookAheadUnlessMade (currentEnded outcome s) := by
  have hmade : ∀ u : State, (match u.seq.path with
      | some _ => u
      | none => lookAhead u.position.after u) = lookAheadUnlessMade u := fun u => by
    unfold lookAheadUnlessMade; cases u.seq.path <;> rfl
  exact hmade (currentEnded outcome s)

@[simp] theorem currentEnded_seq (outcome : Showing → ShowingOutcome) (s : State) :
    (currentEnded outcome s).seq = { s.seq with current := .none } := by
  unfold currentEnded
  split
  · rename_i sh hc
    simp [(showing_eq_some s sh).2 hc]
  · rfl

/-! ### Operations that touch the current showing only -/

@[simp] theorem updateShowing_walk (f : Showing → Showing) (s : State) :
    (updateShowing f s).seq.lists = s.seq.lists ∧ (updateShowing f s).seq.stack = s.seq.stack ∧
    (updateShowing f s).seq.path = s.seq.path ∧ (updateShowing f s).seq.pos = s.seq.pos ∧
    (updateShowing f s).seq.prepared = s.seq.prepared ∧ (updateShowing f s).seq.state = s.seq.state := by
  unfold updateShowing; split <;> simp

@[simp] theorem presentPicture_walk (takeover : Bool) (s : State) :
    (presentPicture takeover s).seq.lists = s.seq.lists ∧ (presentPicture takeover s).seq.stack = s.seq.stack ∧
    (presentPicture takeover s).seq.path = s.seq.path ∧ (presentPicture takeover s).seq.pos = s.seq.pos ∧
    (presentPicture takeover s).seq.prepared = s.seq.prepared ∧
    (presentPicture takeover s).seq.state = s.seq.state := by
  unfold presentPicture presentDue repeatFrame; dsimp only; (repeat' split) <;> simp

@[simp] theorem loadCue_walk (s : State) :
    (loadCue s).seq.lists = s.seq.lists ∧ (loadCue s).seq.stack = s.seq.stack ∧ (loadCue s).seq.path = s.seq.path ∧
    (loadCue s).seq.pos = s.seq.pos ∧ (loadCue s).seq.prepared = s.seq.prepared ∧
    (loadCue s).seq.state = s.seq.state := by
  unfold loadCue; (repeat' split) <;> simp

/-- A PLAY that takes over stands where it was found, and no path is left (R93). -/
@[simp] theorem beginShowing_walk (p : Play) (g : Option (Nat × Grant)) (s : State) :
    (beginShowing p g s).seq.lists = s.seq.lists ∧ (beginShowing p g s).seq.stack = s.seq.stack ∧
    (beginShowing p g s).seq.path = none ∧ (beginShowing p g s).seq.pos = some p.pos ∧
    (beginShowing p g s).seq.prepared = none := by
  cases hc : p.composition.countPoint <;> simp [beginShowing, hc]

@[simp] theorem fireCues_walk (n : Nat) (s : State) :
    (fireCues n s).seq.lists = s.seq.lists ∧ (fireCues n s).seq.stack = s.seq.stack ∧
    (fireCues n s).seq.path = s.seq.path ∧ (fireCues n s).seq.pos = s.seq.pos ∧
    (fireCues n s).seq.prepared = s.seq.prepared ∧ (fireCues n s).seq.state = s.seq.state := by
  induction n generalizing s with
  | zero => simp [fireCues]
  | succ n ih => unfold fireCues; dsimp only; (repeat' split) <;> simp [ih]

@[simp] theorem judgeUnits_walk (s : State) :
    (judgeUnits s).seq.lists = s.seq.lists ∧ (judgeUnits s).seq.stack = s.seq.stack ∧
    (judgeUnits s).seq.path = s.seq.path ∧ (judgeUnits s).seq.pos = s.seq.pos ∧
    (judgeUnits s).seq.prepared = s.seq.prepared ∧ (judgeUnits s).seq.state = s.seq.state := by
  simp [judgeUnits]

end Machine
end Sys2Proof
end

section
/-!
The laws of the lists (R80) and of the nesting stack (R86), kept by every step. A walk fits the stack it starts from, so a
path recorded fits the stack it will be acted on; nothing but a LIST LOAD and a full reset changes the lists.
-/
namespace Sys2Proof
namespace Machine

/-! ### Steps of a walk and the stack -/

/-- What a step of a walk does to the stack (R89). -/
def PathStep.onStack (step : PathStep) (stack : List Pos) : List Pos :=
  match step with
  | .push pos _ => pos.after :: stack
  | .pop _ => stack.drop 1
  | _ => stack

theorem le_of_nestingFits {d : Nat} {steps : List PathStep} (h : nestingFits d steps = true) : d ≤ 4 := by
  induction steps generalizing d with
  | nil => simpa [nestingFits] using h
  | cons step rest ih =>
    cases step
    case push | pop =>
      simp only [nestingFits, Bool.and_eq_true, decide_eq_true_eq] at h
      exact h.1
    all_goals exact ih h

/-- A path fits a stack when the stack fits and the path's rest fits what its first step leaves. -/
theorem nestingFits_cons (step : PathStep) (rest : List PathStep) (stack : List Pos) :
    nestingFits stack.length (step :: rest) = true ↔
      stack.length ≤ 4 ∧ nestingFits (step.onStack stack).length rest = true := by
  cases step
  case push | pop => simp [nestingFits, PathStep.onStack]
  all_goals exact ⟨fun h => ⟨le_of_nestingFits (steps := rest) h, h⟩, And.right⟩

/-- A path that fits a stack fits a lower one. -/
theorem nestingFits_mono {d d' : Nat} {steps : List PathStep} (hd : d' ≤ d) (h : nestingFits d steps = true) :
    nestingFits d' steps = true := by
  induction steps generalizing d d' with
  | nil => simp only [nestingFits, decide_eq_true_eq] at h ⊢; omega
  | cons step rest ih =>
    cases step
    case push =>
      simp only [nestingFits, Bool.and_eq_true, decide_eq_true_eq] at h ⊢
      exact ⟨by omega, ih (by omega) h.2⟩
    case pop =>
      simp only [nestingFits, Bool.and_eq_true, decide_eq_true_eq] at h ⊢
      exact ⟨by omega, ih (by omega) h.2⟩
    all_goals exact ih hd h

@[simp] theorem actStep_walk (step : PathStep) (s : State) :
    (actStep step s).seq.lists = s.seq.lists ∧ (actStep step s).seq.stack = step.onStack s.seq.stack ∧
    (actStep step s).seq.path = s.seq.path := by
  cases step <;> simp [actStep, PathStep.onStack]

/-- Steps acted on leave the lists and the path, and keep the stack within the bound they fit. -/
theorem foldl_actStep_walk (steps : List PathStep) (s : State) :
    (steps.foldl (fun u step => actStep step u) s).seq.lists = s.seq.lists ∧
    (steps.foldl (fun u step => actStep step u) s).seq.path = s.seq.path ∧
    (nestingFits s.seq.stack.length steps = true →
      (steps.foldl (fun u step => actStep step u) s).seq.stack.length ≤ 4) := by
  induction steps generalizing s with
  | nil => exact ⟨rfl, rfl, le_of_nestingFits⟩
  | cons step rest ih =>
    obtain ⟨hlists, hpath, hstack⟩ := ih (actStep step s)
    refine ⟨by simpa using hlists, by simpa using hpath, fun h => hstack ?_⟩
    rw [(actStep_walk step s).2.1]
    exact ((nestingFits_cons step rest _).1 h).2

/-! ### Walks -/

/-- With steps left a walk ends where it stands, or takes a step, which keeps a stack of 4 or fewer as such (R86, R89). -/
theorem scan_succ_cases (left : Nat) (pos : Pos) (stack : List Pos) (s : State) :
    (∃ stop u, scan (left + 1) pos stack s = walkEnd stack pos stop u) ∨
      ∃ step next u, scan (left + 1) pos stack s = Walk.after step (scan left next (step.onStack stack) u) ∧
        (stack.length ≤ 4 → (step.onStack stack).length ≤ 4) := by
  rw [scan.eq_def]
  dsimp only
  split
  · split
    · exact .inl ⟨_, _, rfl⟩
    · rename_i back rest
      exact .inr ⟨.pop pos, back, s, rfl, fun h => by simp [PathStep.onStack] at h ⊢; omega⟩
  · exact .inl ⟨_, _, rfl⟩
  · exact .inl ⟨_, _, rfl⟩
  · rename_i id first last cues _
    split
    · exact .inl ⟨_, _, rfl⟩
    · rename_i reason u _
      exact .inr ⟨.skip pos id reason, pos.after, u, rfl, fun h => h⟩
  · rename_i mask values _
    exact .inr ⟨.setLines pos mask values, pos.after, s, rfl, fun h => h⟩
  · rename_i list _
    split
    · rename_i hroom
      exact .inr ⟨.push pos list, { list := list, entry := 0 }, s, rfl, fun _ => hroom⟩
    · exact .inr ⟨.nestSkip pos list, pos.after, s, rfl, fun h => h⟩

/-- With no step left a walk ends where it stands (R89). -/
theorem scan_zero_cases (pos : Pos) (stack : List Pos) (s : State) :
    ∃ stop u, scan 0 pos stack s = walkEnd stack pos stop u := by
  unfold scan
  (repeat' split) <;> exact ⟨_, _, rfl⟩

/-- A walk takes at most the steps it may (R89). -/
theorem scan_steps_le (left : Nat) (pos : Pos) (stack : List Pos) (s : State) :
    (scan left pos stack s).1.steps.length ≤ left := by
  induction left generalizing pos stack s with
  | zero =>
    obtain ⟨stop, u, hw⟩ := scan_zero_cases pos stack s
    simp [hw, walkEnd]
  | succ left ih =>
    obtain ⟨stop, u, hw⟩ | ⟨step, next, u, hw, -⟩ := scan_succ_cases left pos stack s
    · simp [hw, walkEnd]
    · rw [hw]; exact Nat.succ_le_succ (ih _ _ _)

/-- A walk's path fits the stack it starts from, and so does the stack it leaves (R86). -/
theorem scan_fits (left : Nat) (pos : Pos) {stack : List Pos} (s : State) (h : stack.length ≤ 4) :
    (scan left pos stack s).1.stack.length ≤ 4 ∧ nestingFits stack.length (scan left pos stack s).1.steps = true := by
  induction left generalizing pos stack s with
  | zero =>
    obtain ⟨stop, u, hw⟩ := scan_zero_cases pos stack s
    simp [hw, walkEnd, nestingFits, h]
  | succ left ih =>
    obtain ⟨stop, u, hw⟩ | ⟨step, next, u, hw, hstack⟩ := scan_succ_cases left pos stack s
    · simp [hw, walkEnd, nestingFits, h]
    · obtain ⟨hleft, hfits⟩ := ih next u (hstack h)
      rw [hw]
      exact ⟨hleft, (nestingFits_cons _ _ _).2 ⟨h, hfits⟩⟩

/-! ### The two laws of a state that comes after another -/

/-- Lists, a stack and a recorded path that keep the laws of R80 and R86 if the sequencer `q` keeps them. -/
def lawsPass (q : Sequencer) (lists : List (List Entry)) (stack : List Pos) (path : Option RecordedPath) : Prop :=
  (q.lists.flatten.length ≤ 256 ∧ cueCount q.lists.flatten ≤ 512 →
    lists.flatten.length ≤ 256 ∧ cueCount lists.flatten ≤ 512) ∧
  (nestingFits q.stack.length ((q.path.map (·.steps)).getD []) = true →
    nestingFits stack.length ((path.map (·.steps)).getD []) = true)

/-- A sequencer that keeps the two laws if `q` keeps them. -/
abbrev Sequencer.passes (q r : Sequencer) : Prop := lawsPass q r.lists r.stack r.path

section
variable {q : Sequencer} {lists : List (List Entry)} {stack : List Pos} {path : Option RecordedPath}

theorem lawsPass.refl (q : Sequencer) : q.passes q := ⟨id, id⟩

/-- A path is dropped. -/
theorem lawsPass.clear (h : lawsPass q lists stack path) : lawsPass q lists stack none :=
  ⟨h.1, fun hq => by simpa [nestingFits] using le_of_nestingFits (h.2 hq)⟩

/-- A path is not there. -/
theorem lawsPass.of_clear {r : Sequencer} (h : lawsPass q r.lists r.stack none) (hr : r.path = none) : q.passes r := by
  rw [Sequencer.passes, hr]; exact h

/-- The stack is emptied. -/
theorem lawsPass.empty (h : lawsPass q lists stack path) : lawsPass q lists [] path :=
  ⟨h.1, fun hq => nestingFits_mono (Nat.zero_le _) (h.2 hq)⟩

/-- A walk's path is recorded. -/
theorem lawsPass.record (h : lawsPass q lists stack path) (left : Nat) (pos : Pos) (s : State) (after : List Pos) :
    lawsPass q lists stack (some { steps := (scan left pos stack s).1.steps, stack := after }) :=
  ⟨h.1, fun hq => (scan_fits left pos s (le_of_nestingFits (h.2 hq))).2⟩

/-- A full reset leaves empty lists and an empty stack. -/
theorem lawsPass.reset (q : Sequencer) : q.passes Sequencer.reset :=
  ⟨fun _ => by decide, fun _ => by decide⟩

end

section
variable {q : Sequencer} {s : State}

/-! ### Walks that act -/

/-- A walk that acts ends with a stack of 4 or fewer (R86). -/
theorem actWalk_passes (start : Pos) (h : lawsPass q s.seq.lists s.seq.stack none) :
    lawsPass q (actWalk start s).2.seq.lists (actWalk start s).2.seq.stack none := by
  obtain ⟨hlists, -, hstack⟩ := foldl_actStep_walk (scan walkSteps start s.seq.stack s).1.steps
    (updateSeq (fun q => { q with pos := some start }) (scan walkSteps start s.seq.stack s).2)
  simp only [updateSeq_seq, scan_frame] at hlists hstack
  refine ⟨fun hq => ?_, fun hq => ?_⟩
  · simpa [actWalk, hlists] using h.1 hq
  · have hfits := (scan_fits walkSteps start s (le_of_nestingFits (h.2 hq))).2
    simpa [actWalk, nestingFits] using hstack hfits

theorem actWalk_passes_of_eq {start : Pos} {stop : WalkEnd} {u : State} (hw : actWalk start s = (stop, u))
    (h : lawsPass q s.seq.lists s.seq.stack none) : lawsPass q u.seq.lists u.seq.stack none := by
  simpa [hw] using actWalk_passes start h

/-- The recorded path is acted on, and none is left. -/
theorem actPath_passes (h : q.passes s.seq) :
    lawsPass q (actPath s).seq.lists (actPath s).seq.stack none ∧ (actPath s).seq.path = none := by
  unfold actPath
  cases hp : s.seq.path with
  | none => exact ⟨h.clear, hp⟩
  | some path =>
    obtain ⟨hlists, hpath, hstack⟩ := foldl_actStep_walk path.steps
      (updateSeq (fun q => { q with path := none, pos := q.pos.map Pos.after }) s)
    refine ⟨⟨fun hq => hlists ▸ h.1 hq, fun hq => ?_⟩, hpath⟩
    have hfits := h.2 hq
    simp only [hp, Option.map_some, Option.getD_some] at hfits
    simpa [nestingFits] using hstack hfits

/-- A walk that acts leaves the recorded path (R89). -/
theorem actWalk_path_of_eq {start : Pos} {stop : WalkEnd} {u : State} (hw : actWalk start s = (stop, u)) :
    u.seq.path = s.seq.path := by
  have hpath := (foldl_actStep_walk (scan walkSteps start s.seq.stack s).1.steps
    (updateSeq (fun q => { q with pos := some start }) (scan walkSteps start s.seq.stack s).2)).2.1
  rw [show u = (actWalk start s).2 by rw [hw]]
  simpa [actWalk] using hpath

theorem recheckPlay_seq {p : Play} {u : State} {v : Verdict} (hp : recheckPlay p s = (v, u)) : u.seq = s.seq := by
  rw [show u = (recheckPlay p s).2 by rw [hp]]
  simp

theorem lookAhead_passes (start : Pos) (h : lawsPass q s.seq.lists s.seq.stack none) :
    q.passes (lookAhead start s).seq := by
  simpa using h.record walkSteps start s _

theorem lookAheadIfDue_passes (h : q.passes s.seq) : q.passes (lookAheadIfDue s).seq := by
  unfold lookAheadIfDue
  split
  · exact lookAhead_passes _ h.clear
  · exact h

theorem enterWait_passes (pos : Pos) (timeout : Option Nat) (h : lawsPass q s.seq.lists s.seq.stack none) :
    q.passes (enterWait pos timeout s).seq := by
  rw [enterWait_eq]
  exact lookAhead_passes _ (by simpa [Sequencer.passes] using h)

theorem takeUpWalk_passes (stop : WalkEnd) (h : lawsPass q s.seq.lists s.seq.stack none) :
    q.passes (takeUpWalk stop s).seq := by
  cases stop
  case wait pos t => exact enterWait_passes pos t h
  case showEnd => simpa [takeUpWalk] using h.empty
  all_goals simpa [takeUpWalk] using h

theorem blackGap_passes (start : Pos) (h : q.passes s.seq) : q.passes (blackGap start s).seq := by
  unfold blackGap
  dsimp only
  split
  all_goals
    rename_i hw
    have hu := actWalk_passes_of_eq hw (q := q) (by simpa using h.clear)
    have hpath := actWalk_path_of_eq hw
  case h_3 pos t u => exact enterWait_passes pos t hu
  case h_4 => simpa using hu.empty
  case h_5 => simpa using hu
  all_goals simpa [hpath] using hu

theorem takeOver_passes (p : Play) (h : q.passes s.seq) : q.passes (takeOver p s).seq := by
  unfold takeOver
  split
  · rename_i hp
    exact blackGap_passes _ (by simpa [recheckPlay_seq hp] using h)
  · rename_i hp
    split
    · simpa [Sequencer.passes, recheckPlay_seq hp] using h.clear
    · simpa [Sequencer.passes, recheckPlay_seq hp] using h.clear

/-! ### Boundaries -/

theorem endCurrent_passes (outcome : Showing → ShowingOutcome) (h : q.passes s.seq) :
    q.passes (endCurrent outcome s).seq := by
  rw [endCurrent_eq]
  unfold lookAheadUnlessMade
  split
  · simpa [Sequencer.passes] using h
  · exact lookAhead_passes _ (by simpa using h.clear)

theorem boundaryTick_passes (h : q.passes s.seq) : q.passes (boundaryTick s).seq := by
  obtain ⟨hacted, hpath⟩ := actPath_passes (endCurrent_passes Showing.boundaryOutcome h)
  simp only [boundaryTick]
  split
  · exact takeOver_passes _ (hacted.of_clear hpath)
  · simpa using hacted
  · exact enterWait_passes _ _ hacted
  · simpa using hacted.empty
  · simpa using hacted
  · exact hacted.of_clear hpath

theorem skipBoundary_passes (h : q.passes s.seq) : q.passes (skipBoundary s).seq := by
  obtain ⟨hacted, hpath⟩ := actPath_passes (endCurrent_passes (fun _ => .stopped) h)
  simp only [skipBoundary]
  split
  · exact enterWait_passes _ _ hacted
  · simpa using hacted.empty
  · simpa using hacted
  · exact hacted.of_clear hpath

theorem leaveWait_passes (h : q.passes s.seq) : q.passes (leaveWait s).seq := by
  obtain ⟨hacted, hpath⟩ := actPath_passes (s := updateSeq (fun q => { q with
    waitTimer := none, waitLimit := none, waitReason := none, current := .none }) s) h
  simp only [leaveWait]
  split
  · simpa using hacted
  · simpa using hacted
  · exact enterWait_passes _ _ hacted
  · simpa using hacted.empty
  · simpa using hacted
  · exact hacted.of_clear hpath

theorem leaveLogFull_passes (h : q.passes s.seq) : q.passes (leaveLogFull s).seq := by
  unfold leaveLogFull
  split
  · exact h
  · split
    · rename_i hp
      simpa [recheckPlay_seq hp] using h.clear
    · rename_i hp
      exact takeUpWalk_passes _ (actWalk_passes _ (by simpa [recheckPlay_seq hp] using h.clear))

/-! ### Pauses, losses and revocations -/

theorem expirePause_passes (h : q.passes s.seq) : q.passes (expirePause s).seq := by
  simpa [expirePause] using h.clear.empty

theorem checkRepeats_passes (h : q.passes s.seq) : q.passes (checkRepeats s).seq := by
  unfold checkRepeats
  split
  · split
    · simpa using h.clear
    · exact h
  · exact h

theorem loseLink_passes (h : q.passes s.seq) : q.passes (loseLink s).seq := by
  unfold loseLink
  split
  · exact h
  · split
    · simpa using h.clear
    · exact h

theorem revokeShowing_passes (h : q.passes s.seq) : q.passes (revokeShowing s).seq := by
  unfold revokeShowing
  split
  · exact h
  · exact lookAheadIfDue_passes (by simpa [Sequencer.passes] using h)

/-! ### Ticks -/

theorem takeOverIfReady_passes (h : q.passes s.seq) : q.passes (takeOverIfReady s).seq := by
  unfold takeOverIfReady
  (repeat' split) <;> [exact takeOver_passes _ h; exact h; exact h]

theorem runTick_passes (h : q.passes s.seq) : q.passes (runTick s).seq := by
  unfold runTick
  split
  · split
    · exact boundaryTick_passes h
    · simpa [Sequencer.passes] using h
  · repeat' split
    · exact h
    · exact boundaryTick_passes h
    · exact h
  · split
    · exact h.clear
    · exact takeOverIfReady_passes h
  · exact h

theorem sequencerTick_passes (h : q.passes s.seq) : q.passes (sequencerTick s).seq := by
  unfold sequencerTick
  split <;> [exact runTick_passes h; exact takeOverIfReady_passes h; exact h]

theorem frameTick_passes (h : q.passes s.seq) : q.passes (frameTick s).seq := by
  have hticked := sequencerTick_passes (s := stepFade (stepPulses s)) (q := q) (by simpa [Sequencer.passes] using h)
  simp only [frameTick, cutGather_frame]
  refine checkRepeats_passes ?_
  simpa [Sequencer.passes] using lookAheadIfDue_passes (by simpa [Sequencer.passes] using hticked)

theorem clockTick_passes (h : q.passes s.seq) : q.passes (clockTick s).seq := by
  unfold clockTick
  exact frameTick_passes h


theorem syncEdge_passes (rising : Bool) (h : q.passes s.seq) : q.passes (syncEdge rising s).seq := by
  unfold syncEdge
  repeat' split
  · exact h
  · dsimp only
    split
    · simp only [raise_frame]
      exact clockTick_passes h
    · exact clockTick_passes h
  · exact h

theorem loseSync_passes (h : q.passes s.seq) : q.passes (loseSync s).seq := by
  simp only [loseSync, raise_frame]
  exact clockTick_passes h

theorem generatorTicks_passes (h : q.passes s.seq) : q.passes (generatorTicks s).seq := by
  unfold generatorTicks
  repeat' split
  · exact clockTick_passes h
  · exact loseSync_passes h
  · exact clockTick_passes h
  · exact clockTick_passes h
  · exact h

theorem concludeCheck_passes (outcome : CheckOutcome) (answered : Option Nat) (h : q.passes s.seq) :
    q.passes (concludeCheck outcome answered s).seq := by
  simp only [concludeCheck]
  split
  · simp only [cutGather_frame]
    exact loseLink_passes (by simpa [Sequencer.passes] using h)
  · simpa [Sequencer.passes] using h

/-! ### Requests -/

theorem tryPause_passes {t : State} (h : q.passes s.seq) (ht : tryPause s = .ok t) : q.passes t.seq := by
  unfold tryPause at ht
  split at ht <;> cases ht
  exact h

theorem tryResume_passes {t : State} (h : q.passes s.seq) (ht : tryResume s = .ok t) : q.passes t.seq := by
  unfold tryResume at ht
  (repeat' split at ht) <;> cases ht
  exact h

theorem tryGo_passes {t : State} (h : q.passes s.seq) (ht : tryGo s = .ok t) : q.passes t.seq := by
  unfold tryGo at ht
  (repeat' split at ht) <;> cases ht
  · exact leaveLogFull_passes h
  · exact leaveWait_passes h

theorem trySkip_passes {t : State} (h : q.passes s.seq) (ht : trySkip s = .ok t) : q.passes t.seq := by
  unfold trySkip at ht
  (repeat' split at ht) <;> cases ht <;> exact skipBoundary_passes h

theorem tryStop_passes {t : State} (h : q.passes s.seq) (ht : tryStop s = .ok t) : q.passes t.seq := by
  unfold tryStop at ht
  split at ht <;> cases ht <;> simpa using h.clear.empty

theorem answerTry_passes (kind : Nat) (frame : Frame) {f : State → Except Reason State} (h : q.passes s.seq)
    (hf : ∀ t, f s = .ok t → q.passes t.seq) : q.passes (answerTry kind frame f s).seq := by
  unfold answerTry
  split
  · rename_i t ht; simpa using hf t ht
  · simpa [Sequencer.passes] using h

theorem servePauseLimit_passes (frame : Frame) (seconds : Nat) (h : q.passes s.seq) :
    q.passes (servePauseLimit frame seconds s).seq := by
  have hended := expirePause_passes (s := updateSeq (fun q => { q with pauseLimit := min seconds 3600 }) s) h
  simp only [servePauseLimit]
  (repeat' split) <;> simp only [answerOk_frame, answerClamped_frame, cutGather_frame] <;> [exact hended; exact h; exact hended; exact h]

theorem serveShowStart_passes (frame : Frame) (h : q.passes s.seq) : q.passes (serveShowStart frame s).seq := by
  unfold serveShowStart
  split
  · simpa [Sequencer.passes] using h
  · split
    rename_i hw
    simp only [answerOk_frame, cutGather_frame]
    exact takeUpWalk_passes _ (actWalk_passes_of_eq hw (by simpa using h.clear))

theorem serveShowArm_passes (frame : Frame) (list : Nat) (h : q.passes s.seq) :
    q.passes (serveShowArm frame list s).seq := by
  unfold serveShowArm
  (repeat' split) <;> simp <;> [exact h; exact h; exact h.empty]

end
end Machine
end Sys2Proof
end

section
/-!
The laws of the lists and of the nesting stack through the requests and events that reach the sequencer (R80, R84, R86, R89).
-/
namespace Sys2Proof
namespace Machine

/-! ### Lists replaced -/

@[simp] theorem cueCount_append (a b : List Entry) : cueCount (a ++ b) = cueCount a + cueCount b := by
  simp [cueCount, total_eq_sum]

/-- A measure that adds up over lists is, with one list replaced, at most that of the new list and of the others. -/
theorem measure_replaceAt_le {f : List Entry → Nat} (hf : ∀ a b, f (a ++ b) = f a + f b)
    (lists : List (List Entry)) (n : Nat) (entries : List Entry) :
    f (replaceAt lists n entries).flatten ≤ f entries + f (otherEntries lists n) := by
  unfold otherEntries
  induction lists generalizing n with
  | nil =>
    simp [replaceAt, updateAt]
  | cons l rest ih =>
    cases n with
    | zero => simp [replaceAt, updateAt, hf]
    | succ n =>
      have := ih n
      simp only [replaceAt, updateAt, List.flatten_cons, hf] at this ⊢
      omega

section
variable {q : Sequencer} {s : State}

/-- A list that fits beside the others replaces its predecessor (R84). -/
theorem lawsPass.replace {lists : List (List Entry)} {stack : List Pos} {path : Option RecordedPath}
    (h : lawsPass q lists stack path) {n : Nat} {entries : List Entry}
    (hlength : entries.length + (otherEntries lists n).length ≤ 256)
    (hcues : cueCount entries + cueCount (otherEntries lists n) ≤ 512) :
    lawsPass q (replaceAt lists n entries) stack path :=
  ⟨fun _ => ⟨(measure_replaceAt_le (fun _ _ => List.length_append) lists n entries).trans hlength,
    (measure_replaceAt_le cueCount_append lists n entries).trans hcues⟩, h.2⟩

theorem completeLoad_passes (frame : Frame) (st : Staging) (h : q.passes s.seq) :
    q.passes (completeLoad frame st s).seq := by
  simp only [completeLoad]
  split
  · simpa using h
  · split
    · simpa using h
    · rename_i hroom
      simp only [Bool.or_eq_true, decide_eq_true_eq, not_or, Nat.not_lt] at hroom
      simpa using lawsPass.replace h hroom.1 hroom.2

theorem serveListLoad_passes (frame : Frame) (list part : Nat) (final : Bool) (entries : List Entry) (h : q.passes s.seq) :
    q.passes (serveListLoad frame list part final entries s).seq := by
  have htaken : ∀ st, q.passes (takePart frame final st s).seq := fun st => by
    unfold takePart
    split
    · exact completeLoad_passes _ _ h
    · simpa using h
  unfold serveListLoad
  split
  · simpa using h
  · split
    · exact htaken _
    · split
      · simpa using h
      · split
        · dsimp only
          split
          · simpa using h
          · exact htaken _
        · simpa using h

/-! ### Lines, grants and resets -/

theorem revokeGrant_passes (slot : Nat) (g : Grant) (h : q.passes s.seq) : q.passes (revokeGrant slot g s).seq := by
  simp only [revokeGrant]
  split
  · simp only [cutGather_frame]
    exact revokeShowing_passes (by simpa using h)
  · simpa using h

theorem serveGrantRevoke_passes (turn : Bool) (frame : Frame) (slot : Nat) (h : q.passes s.seq) :
    q.passes (serveGrantRevoke turn frame slot s).seq := by
  unfold serveGrantRevoke whenRoom
  repeat' split
  case h_2.isFalse.isTrue =>
    simp only [answerOk_frame]
    exact revokeGrant_passes slot _ h
  all_goals simpa using h

theorem actFunction_passes (n : Nat) (l : Line) (h : q.passes s.seq) : q.passes (actFunction n l s).seq := by
  unfold actFunction
  split
  case h_3 =>
    unfold orElseSame
    split
    · rename_i t ht; simpa using tryGo_passes h ht
    · simpa using h
  case h_5 =>
    unfold orElseSame
    split
    · exact tryPause_passes h ‹_›
    · exact h
  case h_6 =>
    unfold beginHolding interlockOnset enterPause
    dsimp only
    (repeat' split) <;> simpa using h
  all_goals simpa using h

theorem takeOnset_passes (n : Nat) (h : q.passes s.seq) : q.passes (takeOnset n s).seq := by
  unfold takeOnset
  split
  · exact h
  · exact actFunction_passes _ _ h

theorem takeLevel_passes (n : Nat) (high : Bool) (h : q.passes s.seq) : q.passes (takeLevel n high s).seq := by
  unfold takeLevel
  repeat' split
  · exact h
  · exact takeOnset_passes n h
  · exact h
  · exact h

theorem changePin_passes (n : Nat) (high : Bool) (h : q.passes s.seq) : q.passes (changePin n high s).seq := by
  simp only [changePin]
  repeat' split
  on_goal 5 => exact takeLevel_passes n high h
  all_goals exact h

theorem serveLineSetup_passes (frame : Frame) (line : Nat) (config : LineRequest) (h : q.passes s.seq) :
    q.passes (serveLineSetup frame line config s).seq := by
  have hinput : ∀ c d f, q.passes (setInput line c d f s).seq := fun c d f => by
    simp only [setInput]
    repeat' split
    · exact takeOnset_passes line h
    · exact h
    · exact h
  unfold serveLineSetup
  split
  · simpa using h
  · cases config with
    | other direction => simpa using h
    | output idle safe => dsimp only; split <;> simpa using h
    | input condition debounce function =>
      dsimp only
      repeat' split
      · simpa using h
      · simpa [Sequencer.passes] using hinput _ _ _
      · simpa using h

theorem serveResetShow_passes (frame : Frame) (h : q.passes s.seq) : q.passes (serveResetShow frame s).seq := by
  have hended : q.passes (showResetSequencer (blackenLink s)).seq := by
    unfold showResetSequencer
    split
    · exact h
    · simpa [blackenLink] using h.clear.empty
    · simpa [blackenLink] using h.clear.empty
  simpa [serveResetShow, showReset, Sequencer.passes] using hended

/-! ### Every command -/

/-- No request breaks the two laws. -/
theorem serve_passes (turn : Bool) (c : Instr) (h : q.passes s.seq) : q.passes (serve turn c s).seq := by
  cases c
  case listLoad => exact serveListLoad_passes _ _ _ _ _ h
  case showArm => exact serveShowArm_passes _ _ h
  case showStart => exact serveShowStart_passes _ h
  case pause => exact answerTry_passes _ _ h fun _ => tryPause_passes h
  case resume => exact answerTry_passes _ _ h fun _ => tryResume_passes h
  case go => exact answerTry_passes _ _ h fun _ => tryGo_passes h
  case skip => exact answerTry_passes _ _ h fun _ => trySkip_passes h
  case stop => exact answerTry_passes _ _ h fun _ => tryStop_passes h
  case pauseLimit => exact servePauseLimit_passes _ _ h
  case grantRevoke => exact serveGrantRevoke_passes _ _ _ h
  case lineSetup => exact serveLineSetup_passes _ _ _ h
  case resetShow => exact serveResetShow_passes _ h
  all_goals simpa [serve] using h

theorem serveDeferred_passes (n : Nat) (h : q.passes s.seq) : q.passes (serveDeferred n s).seq :=
  serveDeferred_keeps (P := fun u => q.passes u.seq) (fun _ _ _ hu => hu) (fun c _ hu => serve_passes false c hu) n h

theorem queueWaiting_passes (h : q.passes s.seq) : q.passes (queueWaiting s).seq := by
  unfold queueWaiting
  repeat' split
  · exact h
  · rename_i w rest _
    simp only [pumpSegment_frame]
    cases w with
    | request c => exact serve_passes true c h
    | _ =>
      simp only [serveWaiter]
      (repeat' split) <;> simpa using h
  · exact h

/-- A full reset empties the lists and the stack. -/
theorem fullReset_seq (reported ran : Nat) (landed : Bool) (s : State) :
    (fullReset reported ran landed s).seq = Sequencer.reset := by
  simp [fullReset, resetUnits, State.reset]

theorem completeOutgoing_passes (h : q.passes s.seq) : q.passes (completeOutgoing s).seq := by
  obtain ⟨p, hp | hp⟩ := completeOutgoing_cases s
  · rw [hp]; exact h
  · rw [hp, resetAfterReply, fullReset_seq]; exact .reset q

/-- No event breaks the two laws. -/
theorem event_passes {c : Instr} (hc : requestOf c = none) (h : q.passes s.seq) :
    ∃ u, exec c s = finish u ∧ q.passes u.seq := by
  cases c <;> try cases hc
  all_goals refine ⟨_, rfl, ?_⟩
  case fullReset => rw [fullReset_seq]; exact .reset q
  case outgoingSendComplete => exact completeOutgoing_passes h
  case mapBlockWriteComplete => exact serveDeferred_passes _ (by simpa using h)
  case queueWaitingWrite => exact serveDeferred_passes _ (queueWaiting_passes h)
  case frameSyncEdge rising => exact syncEdge_passes rising h
  case generatorTick => exact generatorTicks_passes h
  case syncLoss => split <;> [exact loseSync_passes h; exact h]
  case lookahead => simpa [Sequencer.passes] using lookAheadIfDue_passes h
  case boundary => split <;> [exact clockTick_passes h; exact h]
  case repeatLimit => simpa [Sequencer.passes] using checkRepeats_passes h
  case inputPinChange => exact changePin_passes _ _ h
  case waitTimeout =>
    repeat' split
    · exact h
    · simpa [Sequencer.passes] using leaveWait_passes h
    · exact h
  case pauseLimitExpiry =>
    split
    · simpa [Sequencer.passes] using expirePause_passes h
    · exact h
  case projectorAnswer =>
    split
    · exact concludeCheck_passes _ _ h
    · exact h
  case answerTimeout =>
    split
    · exact concludeCheck_passes _ _ h
    · exact h
  case debounceExpiry =>
    repeat' split
    · exact takeLevel_passes _ _ h
    · exact h
    · exact h
  all_goals (repeat' split) <;> simpa using h

/-- Every step keeps the two laws. -/
theorem step_passes {t : State} (ht : step s = .next t) : s.seq.passes t.seq :=
  step_keeps (P := fun u => s.seq.passes u.seq) (fun _ _ hu => hu) (fun _ hu => hu)
    (fun _ _ _ hu hv => exec_keeps (P := fun u => s.seq.passes u.seq) (fun _ _ _ hu => hu) (fun _ hu => serve_passes false _ hu)
      (fun hc => event_passes hc hu) hu hv) (.refl _) ht

end

/-- Settles O45: no step breaks the law of the stack, and a walk takes each of its steps with room left on it. -/
theorem walksAreBounded : Obligations.WalksAreBounded := by
  refine ⟨fun s t hs ht => (step_passes ht).2 hs, fun start stack s h => ?_⟩
  exact ⟨scan_steps_le 64 start stack s, (scan_fits 64 start s h).1, by simp⟩

end Machine
end Sys2Proof
end

section
/-!
LIST LOAD (R83, R84): what each part comes to, by the part that stands before it in the staging area.
-/
namespace Sys2Proof
namespace Machine

/-- A part of LIST LOAD with its fields in range (R81 to R83). -/
def partFits (list part : Nat) (entries : List Entry) : Prop :=
  list ≤ 15 ∧ part ≤ 255 ∧ entries.length ≤ 8 ∧ ∀ e ∈ entries, Entry.fits e = true

theorem partFits_iff (list part : Nat) (entries : List Entry) : partFits list part entries ↔
    (15 < list || 255 < part || 8 < entries.length || !entries.all Entry.fits) = false := by
  simp [partFits, and_assoc]

section
variable {f : Frame} {list part : Nat} {final : Bool} {entries : List Entry} {s : State}

theorem serveListLoad_outOfRange (h : ¬ partFits list part entries) :
    serveListLoad f list part final entries s = refuse 20 f .outOfRange s := by
  rw [partFits_iff, Bool.not_eq_false] at h
  exact if_pos h

theorem serveListLoad_first (h : partFits list 0 entries) : serveListLoad f list 0 final entries s =
    takePart f final { list := list, part := 0, entries := entries } s := by
  rw [partFits_iff] at h
  simp only [serveListLoad, h, Bool.false_eq_true, if_false, if_true]

theorem serveListLoad_unstaged (h : partFits list part entries) (hpart : part ≠ 0) (hs : s.seq.staging = none) :
    serveListLoad f list part final entries s = refuse 20 f .wrongState s := by
  rw [partFits_iff] at h
  simp only [serveListLoad, h, Bool.false_eq_true, if_false, hpart, hs]

/-- A later part is decided on by the part that stands before it in the staging area (R83). -/
theorem serveListLoad_later {x : Staging} (h : partFits list part entries) (hpart : part ≠ 0)
    (hs : s.seq.staging = some x) : serveListLoad f list part final entries s =
      if x.list = list ∧ part = x.part + 1 then
        if 256 < (x.entries ++ entries).length ∨ 512 < cueCount (x.entries ++ entries) then
          refuse 20 f .tableFull (updateSeq (fun q => { q with staging := none }) s)
        else takePart f final { list := list, part := part, entries := x.entries ++ entries } s
      else refuse 20 f .wrongState s := by
  rw [partFits_iff] at h
  simp only [serveListLoad, h, Bool.false_eq_true, if_false, hpart, hs, Bool.and_eq_true, Bool.or_eq_true, decide_eq_true_eq]

/-- A request refused after a change of the sequencer. -/
theorem exec_listLoad_no (h : s.accepts 20 f) {g : Sequencer → Sequencer} {reason : Reason}
    (hs : serveListLoad f list part final entries (s.received 20 f) = refuse 20 f reason (updateSeq g (s.received 20 f))) :
    exec (.listLoad f list part final entries) s = .next (State.no 20 f reason (updateSeq g s)) :=
  request_no h hs rfl

/-- A request answered OK after a change of the sequencer. -/
theorem exec_listLoad_ok (h : s.accepts 20 f) {g : Sequencer → Sequencer}
    (hs : serveListLoad f list part final entries (s.received 20 f) = answerOk 20 f [] (updateSeq g (s.received 20 f))) :
    exec (.listLoad f list part final entries) s = .next (State.ok 20 f [] (updateSeq g s)) :=
  request_ok h hs rfl

/-- The final part decides on the list staged: it is refused while the list is in use or without room beside the others, and
otherwise it replaces the list; the staging area is empty either way (R84). -/
theorem exec_listLoad_final (h : s.accepts 20 f) {st : Staging}
    (hs : serveListLoad f list part true entries (s.received 20 f) = takePart f true st (s.received 20 f)) :
    exec (.listLoad f list part true entries) s = .next
      (if s.seq.uses st.list = true then State.no 20 f .inUse { s with seq := { s.seq with staging := none } }
       else if 256 < st.entries.length + (otherEntries s.seq.lists st.list).length ∨
           512 < cueCount st.entries + cueCount (otherEntries s.seq.lists st.list) then
         State.no 20 f .tableFull { s with seq := { s.seq with staging := none } }
       else State.ok 20 f []
         { s with seq := { s.seq with staging := none, lists := replaceAt s.seq.lists st.list st.entries } }) := by
  simp only [takePart, if_true, completeLoad, received_frame, Bool.or_eq_true, decide_eq_true_eq] at hs
  split
  · rename_i huses
    exact exec_listLoad_no h (hs.trans (if_pos huses))
  · rename_i huses
    rw [if_neg huses] at hs
    split
    · rename_i hfull
      exact exec_listLoad_no h (hs.trans (if_pos hfull))
    · rename_i hroom
      exact exec_listLoad_ok (g := fun q => { q with staging := none, lists := replaceAt q.lists st.list st.entries }) h
        (hs.trans (if_neg hroom))

/-- A part that is not the final one stands in the staging area (R83). -/
theorem exec_listLoad_staged (h : s.accepts 20 f) {st : Staging}
    (hs : serveListLoad f list part false entries (s.received 20 f) = takePart f false st (s.received 20 f)) :
    exec (.listLoad f list part false entries) s = .next
      (State.ok 20 f [] { s with seq := { s.seq with staging := some st } }) :=
  exec_listLoad_ok (g := fun q => { q with staging := some st }) h hs

end

/-- Settles O40: the pools are kept by every step, a whole list is decided on at once, and a part by the one before it. -/
theorem listsAreReplacedWhole : Obligations.ListsAreReplacedWhole := by
  refine ⟨fun s t hs ht => (step_passes ht).1 hs, fun f list entries s h => ?_, fun f list part final entries s h => ?_⟩
  · have hfits : (list ≤ 15 ∧ entries.length ≤ 8 ∧ ∀ e ∈ entries, Entry.fits e = true) ↔ partFits list 0 entries := by
      simp [partFits]
    have hwhole := fun hf : partFits list 0 entries => exec_listLoad_final h (serveListLoad_first hf)
    intro load others fits cleared
    refine ⟨fun hno => exec_listLoad_no (g := id) h (serveListLoad_outOfRange (hfits.not.1 hno)), fun hyes huses => ?_,
      fun hyes huses hfull => ?_, fun hyes huses hlength hcues => ?_⟩
    · exact (hwhole (hfits.1 hyes)).trans (by rw [if_pos huses])
    · exact (hwhole (hfits.1 hyes)).trans (by rw [if_neg (by simp [huses]), if_pos hfull])
    · exact (hwhole (hfits.1 hyes)).trans (by rw [if_neg (by simp [huses]), if_neg (not_or.2 ⟨hlength.not_gt, hcues.not_gt⟩)])
  · intro load staged others fits
    refine ⟨fun hno => exec_listLoad_no (g := id) h (serveListLoad_outOfRange hno), fun hyes hpart hfinal => ?_,
      fun hyes hpart hnone => exec_listLoad_no (g := id) h (serveListLoad_unstaged hyes hpart hnone),
      fun x hyes hpart hx => ?_⟩
    · subst hpart hfinal
      exact exec_listLoad_staged h (serveListLoad_first hyes)
    · have hlater := serveListLoad_later (f := f) (final := final) (s := s.received 20 f) hyes hpart hx
      intro gathered
      refine ⟨fun hout => exec_listLoad_no (g := id) h (hlater.trans (if_neg ?_)), fun hlist hnext => ?_⟩
      · rintro ⟨hlist, hnext⟩
        exact hout.elim (· hlist) (· hnext)
      · rw [if_pos ⟨hlist, hnext⟩] at hlater
        refine ⟨fun hfull => exec_listLoad_no h (hlater.trans (if_pos hfull)), fun hlength hcues => ?_⟩
        rw [if_neg (not_or.2 ⟨hlength.not_gt, hcues.not_gt⟩)] at hlater
        refine ⟨fun hfinal => ?_, fun hfinal huses => ?_, fun hfinal huses => ?_⟩ <;> subst hfinal
        · exact exec_listLoad_staged h hlater
        · exact (exec_listLoad_final h hlater).trans (by rw [if_pos huses])
        · exact (exec_listLoad_final h hlater).trans (by rw [if_neg (by simp [huses])])

end Machine
end Sys2Proof
end

section
/-!
What the sequencer's operations leave: the causes they do not raise, the port while no LOG RELEASE waits, the log's records,
and the timeline outside the compare units.
-/
namespace Sys2Proof
namespace Machine

/-! ### Causes that a preparation leaves (R148, R50) -/

theorem foldl_causes {α : Type} {act : State → α → State} {l : List α} {s : State} {k : Nat}
    (h : ∀ u a, (act u a).notices.causes[k]? = u.notices.causes[k]?) :
    (l.foldl act s).notices.causes[k]? = s.notices.causes[k]? := by
  induction l generalizing s with
  | nil => rfl
  | cons a l ih => rw [List.foldl_cons, ih, h]

section
variable {k : Nat} (s : State)

/-- A lookup raises WINDOW_RANGE at most. -/
theorem lookup_causes (reader : Reader) (kind : AskKind) (track block : Nat) (h : k ≠ 22) :
    (lookup reader kind track block s).2.notices.causes[k]? = s.notices.causes[k]? := by
  unfold lookup
  split
  · exact raise_causes_other _ _ _ h
  · split <;> rfl

theorem prepareWindows_causes (p : Play) (h : k ≠ 22) :
    (prepareWindows p s).notices.causes[k]? = s.notices.causes[k]? := by
  unfold prepareWindows
  split
  · rfl
  · dsimp only
    rw [foldl_causes fun u t => by split <;> simp [lookup_causes, h]]
    (repeat' split) <;> simp [lookup_causes, h]

/-- Route sets raise MAP_MISSING at most. -/
theorem formRouteSets_causes (p : Play) (h : k ≠ 21) :
    (formRouteSets p s).notices.causes[k]? = s.notices.causes[k]? := by
  refine (foldl_causes fun u r => ?_).trans rfl
  split
  · exact raise_causes_other _ _ _ h
  · rfl

/-- A preparation raises MAP_MISSING and WINDOW_RANGE at most. -/
@[simp] theorem preparePlay_causes (p : Play) (g : Option (Nat × Grant)) (h21 : k ≠ 21) (h22 : k ≠ 22) :
    (preparePlay p g s).notices.causes[k]? = s.notices.causes[k]? := by
  simp [preparePlay, prepareWindows_causes, formRouteSets_causes, h21, h22]

@[simp] theorem lookAhead_causes (start : Pos) (h21 : k ≠ 21) (h22 : k ≠ 22) :
    (lookAhead start s).notices.causes[k]? = s.notices.causes[k]? := by
  unfold lookAhead prepareEnd
  dsimp only
  split <;> simp [h21, h22]

end

/-- A cause raised, by its number, has occurred once more. -/
theorem occurred_raise_at {c : NoticeCause} {detail : List Byte} {s : State} {x : Cause} {k : Nat} (hk : c.number = k)
    (h : s.notices.causes[k]? = some x) : occurred x detail (raise c detail s).notices.causes k := by
  subst hk; exact occurred_raise h

/-- What has occurred of a cause stands as long as the cause does. -/
theorem occurred_of_eq {x : Cause} {detail : List Byte} {l l' : List Cause} {k : Nat} (h : l'[k]? = l[k]?)
    (ho : occurred x detail l k) : occurred x detail l' k := by
  unfold occurred; rw [h]; exact ho

/-! ### The log while no LOG RELEASE waits -/

@[simp] theorem queueLogHead_records (s : State) : (queueLogHead s).log.records = s.log.records := by
  unfold queueLogHead
  dsimp only
  (repeat' split) <;> simp

@[simp] theorem carryLog_records (s : State) : (carryLog s).log.records = s.log.records := by
  unfold carryLog
  generalize s.log.unwritten.length = n
  induction n generalizing s with
  | zero => rfl
  | succ n ih => unfold pumpLog; (repeat' split) <;> simp [ih]

@[simp] theorem writeRecord_records (sequence : Nat) (s : State) :
    (writeRecord sequence s).log.records = s.log.records := by
  simp only [writeRecord, carryLog_records, updateLog_log, ShowLog.join]
  split <;> rfl

theorem writeRecord_port (sequence : Nat) {s : State} (h : s.log.release = none) :
    (writeRecord sequence s).port = s.port := by
  refine (pumpLog_start _ ?_).1
  simp only [updateLog_log, ShowLog.join]
  split <;> exact h

/-! ### Showings that end -/

/-- A record of the log as the end of its showing leaves it (R173). -/
def LogRecord.closed (sh : Showing) (outcome : ShowingOutcome) (time reel : Nat) (r : LogRecord) : LogRecord :=
  { r.changeShowing (fun g => { g with
      stop := some time, lastReel := reel, presented := sh.presented, repeated := sh.repeated }) with
    outcome := some outcome }

@[simp] theorem emptyUnits_counters (p : Nat → Bool) (s : State) :
    (emptyUnits p s).time.frame = s.time.frame ∧ (emptyUnits p s).time.rate = s.time.rate ∧
    (emptyUnits p s).time.reel = s.time.reel ∧ (emptyUnits p s).time.reelFrame = s.time.reelFrame ∧
    (emptyUnits p s).time.timecode = s.time.timecode ∧ (emptyUnits p s).time.black = s.time.black := by
  simp [emptyUnits]

theorem closeRecord_port (sh : Showing) (outcome : ShowingOutcome) {s : State} (h : s.log.release = none) :
    (closeRecord sh outcome s).port = s.port :=
  writeRecord_port sh.record (s := updateLog _ s) h

section
variable {s : State} {sh : Showing} (outcome : ShowingOutcome)

theorem endShowing_records (h : s.showing = some sh) : (endShowing outcome s).log.records =
    s.log.records.map fun r => if r.sequence = sh.record then r.closed sh outcome s.keys.clock s.time.reel else r := by
  simp [endShowing, h, closeRecord, ShowLog.change, LogRecord.closed]

/-- The record of a showing that has ended carries its outcome and the time of its end (R173). -/
theorem endShowing_closes (h : s.showing = some sh) {r : LogRecord} (hr : r ∈ (endShowing outcome s).log.records)
    (hs : r.sequence = sh.record) :
    r.outcome = some outcome ∧ ∀ x, r.showing = some x → x.stop = some s.keys.clock := by
  rw [endShowing_records outcome h] at hr
  obtain ⟨a, -, rfl⟩ := List.mem_map.1 hr
  split at hs
  · rename_i ha
    rw [if_pos ha]
    refine ⟨rfl, fun x hx => ?_⟩
    obtain ⟨y, -, rfl⟩ := Option.map_eq_some_iff.1 hx
    rfl
  · contradiction

end

section
variable (outcome : ShowingOutcome) (s : State)

@[simp] theorem endShowing_keys : (endShowing outcome s).keys =
    { s.keys with bound := if s.showing.isSome then none else s.keys.bound } := by
  unfold endShowing; split <;> simp_all

/-- The end of a showing touches the compare units and the reel starts of the timeline only. -/
@[simp] theorem endShowing_time : (endShowing outcome s).time.frame = s.time.frame ∧
    (endShowing outcome s).time.rate = s.time.rate ∧ (endShowing outcome s).time.black = s.time.black := by
  unfold endShowing; split <;> simp

theorem endShowing_port {s : State} (h : s.log.release = none) : (endShowing outcome s).port = s.port := by
  unfold endShowing
  split
  · rfl
  · simp [closeRecord_port, h]

@[simp] theorem endShowing_showing : (endShowing outcome s).showing = none := by
  rw [showing_eq_none]
  intro sh
  simp only [endShowing_seq]
  split
  · simp
  · rename_i h
    exact (showing_eq_none s).1 (by simpa using h) sh

theorem endShow_eq (outcome : ShowOutcome) {s : State} (h : s.showing = none) : endShow outcome s =
    enterIdle (raise .showEnded (Layout.num 1 s.seq.startList ++ Layout.code outcome.code)
      (emptyUnits (fun n => decide (n < 2)) (discardPrepared s))) := by
  simp [endShow, endShowing_of_none h]

end

@[simp] theorem enterIdle_rest (s : State) : (enterIdle s).keys = s.keys ∧ (enterIdle s).log = s.log ∧
    (enterIdle s).port = s.port ∧ (enterIdle s).notices = s.notices := by
  simp [enterIdle]

end Machine
end Sys2Proof
end

section
/-!
Requests of the sequencer that are answered at once, and walks whose first entry decides them (R89, R90, R189).
-/
namespace Sys2Proof
namespace Machine

/-! ### Answers -/

/-- The part after a request whose owner has left `u` and answered OK: the gather has been cut (R35). -/
def answeredOk (kind : Nat) (f : Frame) (s u : State) : State :=
  { cutGather (s.received kind f) u with port := s.port.answers kind f .ok none [] }

@[simp] theorem answeredOk_frame (kind : Nat) (f : Frame) (s u : State) :
    (answeredOk kind f s u).port = s.port.answers kind f .ok none [] ∧ (answeredOk kind f s u).nvm = u.nvm ∧
    (answeredOk kind f s u).catalogue = u.catalogue ∧ (answeredOk kind f s u).keys = u.keys ∧
    (answeredOk kind f s u).seq = u.seq ∧ (answeredOk kind f s u).time = u.time ∧
    (answeredOk kind f s u).frames = u.frames ∧ (answeredOk kind f s u).sound = u.sound ∧
    (answeredOk kind f s u).log = u.log ∧ (answeredOk kind f s u).lines = u.lines ∧
    (answeredOk kind f s u).notices = u.notices := by
  simp [answeredOk]

@[simp] theorem answeredOk_showing (kind : Nat) (f : Frame) (s u : State) :
    (answeredOk kind f s u).showing = u.showing := by
  simp [State.showing]

section
variable {kind : Nat} {f : Frame} {c : Instr} {s u : State}

theorem request_answeredOk {serve : State → State} (h : s.accepts kind f)
    (hs : serve (s.received kind f) = answerOk kind f [] (cutGather (s.received kind f) u))
    (hp : u.port = (s.received kind f).port) : request kind f c serve s = .next (answeredOk kind f s u) := by
  rw [request_of_accepts h, hs, answerOk]
  exact finish_answer h (by simpa using hp) _ _ _

/-- A request of the sequencer that comes to a state. -/
theorem request_try {act : State → Except Reason State} (h : s.accepts kind f) (ht : act (s.received kind f) = .ok u)
    (hp : u.port = (s.received kind f).port) :
    request kind f c (answerTry kind f act) s = .next (answeredOk kind f s u) :=
  request_answeredOk h (by simp only [answerTry, ht]) hp

/-- A request of the sequencer that comes to a refusal. -/
theorem request_try_error {act : State → Except Reason State} {reason : Reason} (h : s.accepts kind f)
    (ht : act (s.received kind f) = .error reason) :
    request kind f c (answerTry kind f act) s = .next (s.no kind f reason) :=
  request_no (v := s) h (by simp only [answerTry, ht]; rfl) rfl

end

/-! ### The checks on a PLAY (R88) -/

/-- A selection reads the keys only, and makes no more than a request for a check (R74). -/
theorem selectGrant_of_keys (key : Nat) {s s' : State} (h : s'.keys = s.keys) :
    selectGrant key s' = ((selectGrant key s).1, { s' with keys := (selectGrant key s).2.keys }) := by
  unfold selectGrant
  rw [h]
  split
  · simp only [requestCheck_eq, h]
  · rw [← h]

/-- The checks read the catalogue, the keys and the link only (R88). -/
theorem checkPlay_of_eq {pos : Pos} {id : Nat} {first last : Option Nat} {cues : List CueRecord} {s s' u : State}
    {v : Verdict} (hcatalogue : s'.catalogue = s.catalogue) (hkeys : s'.keys = s.keys) (hlink : s'.link = s.link)
    (h : checkPlay pos id first last cues s = (v, u)) :
    checkPlay pos id first last cues s' = (v, { s' with keys := u.keys }) := by
  obtain ⟨w, hw⟩ : ∃ w, w = { s' with keys := u.keys } := ⟨_, rfl⟩
  rw [← hw]
  have hsame : u = s → s' = w := fun hu => by rw [hw, hu, ← hkeys]
  unfold checkPlay at h ⊢
  rw [hcatalogue]
  split at h
  · cases h; exact congrArg _ (hsame rfl)
  · dsimp only at h ⊢
    split at h
    · cases h; rw [if_pos ‹_›]; exact congrArg _ (hsame rfl)
    · rw [if_neg ‹_›]
      split at h
      · cases h; rw [if_pos ‹_›]; exact congrArg _ (hsame rfl)
      · rw [if_neg ‹_›]
        split at h
        · cases h; exact congrArg _ (hsame rfl)
        · rename_i key _
          have hselected := selectGrant_of_keys key hkeys
          have hstate : s'.link.state = (selectGrant key s).2.link.state := by simp [hlink]
          cases hg : selectGrant key s with
          | mk g v =>
            rw [hg] at h hselected hstate
            rw [hselected]
            cases g with
            | none => cases h; exact congrArg _ hw.symm
            | some g =>
              dsimp only at h hstate ⊢
              rw [hstate]
              split at h <;> cases h
              · rw [if_pos ‹_›, hw]
              · rw [if_neg ‹_›, hw]

/-- The checks on a prepared PLAY read the catalogue, the keys and the link only (R93). -/
theorem recheckPlay_of_eq {p : Play} {s s' u : State} {v : Verdict} (hcatalogue : s'.catalogue = s.catalogue)
    (hkeys : s'.keys = s.keys) (hlink : s'.link = s.link) (h : recheckPlay p s = (v, u)) :
    recheckPlay p s' = (v, { s' with keys := u.keys }) :=
  checkPlay_of_eq hcatalogue hkeys hlink h

/-- The checks change the keys only. -/
theorem checkPlay_eq {pos : Pos} {id : Nat} {first last : Option Nat} {cues : List CueRecord} {s u : State} {v : Verdict}
    (h : checkPlay pos id first last cues s = (v, u)) : u = { s with keys := u.keys } := by
  have := checkPlay_of_eq rfl rfl rfl h
  rw [h] at this
  exact congrArg Prod.snd this

theorem recheckPlay_eq {p : Play} {s u : State} {v : Verdict} (h : recheckPlay p s = (v, u)) :
    u = { s with keys := u.keys } := checkPlay_eq h

/-! ### Walks decided by their first entry (R89) -/

section
variable {start : Pos} {s : State} {n : Nat}

theorem scan_black (left : Nat) (stack : List Pos)
    (h : (s.seq.lists.getD start.list [])[start.entry]? = some (.black n)) :
    scan (left + 1) start stack s = walkEnd stack start (.black start n) s := by
  rw [scan.eq_def]; simp only [h]

theorem scan_wait (left : Nat) (stack : List Pos) {limit : Option Nat}
    (h : (s.seq.lists.getD start.list [])[start.entry]? = some (.wait limit)) :
    scan (left + 1) start stack s = walkEnd stack start (.wait start limit) s := by
  rw [scan.eq_def]; simp only [h]

theorem scan_showEnd (left : Nat) (h : (s.seq.lists.getD start.list [])[start.entry]? = none) :
    scan (left + 1) start [] s = walkEnd [] start .showEnd s := by
  rw [scan.eq_def]; simp only [h]

theorem scan_play (left : Nat) (stack : List Pos) {id : Nat} {first last : Option Nat} {cues : List CueRecord} {p : Play}
    {g : Option (Nat × Grant)} {u : State}
    (h : (s.seq.lists.getD start.list [])[start.entry]? = some (.play id first last cues))
    (hc : checkPlay start id first last cues s = (.pass p g, u)) :
    scan (left + 1) start stack s = walkEnd stack start (.play p g) u := by
  rw [scan.eq_def]; simp only [h, hc]

/-- A walk that ends where it starts acts on nothing. -/
theorem actWalk_of_end {stop : WalkEnd} {u : State}
    (h : scan (63 + 1) start s.seq.stack s = walkEnd s.seq.stack start stop u) :
    actWalk start s = (stop, updateSeq (fun q => { q with pos := some start }) u) := by
  unfold actWalk
  rw [show walkSteps = 63 + 1 from rfl, h]
  rfl

theorem lookAhead_of_end {stop : WalkEnd} {u : State}
    (h : scan (63 + 1) start s.seq.stack s = walkEnd s.seq.stack start stop u) :
    lookAhead start s = prepareEnd stop (updateSeq (fun q => { q with path := some { steps := [], stack := s.seq.stack } }) u) := by
  unfold lookAhead
  rw [show walkSteps = 63 + 1 from rfl, h]
  rfl

end

/-! ### The obligation -/

@[simp] theorem formRouteSets_nextPrepared (p : Play) (s : State) :
    (formRouteSets p s).sound.nextPrepared = s.sound.nextPrepared := by
  simp [formRouteSets, foldl_raise_sound]

@[simp] theorem preparePlay_nextPrepared (p : Play) (g : Option (Nat × Grant)) (s : State) :
    (preparePlay p g s).sound.nextPrepared = p.firstFrame := by
  simp [preparePlay]

section
variable {f : Frame} {s : State}

/-- SHOW START with its show started, before the walk. -/
def showStarted (f : Frame) (s : State) : State :=
  raise .showStarted (Layout.num 1 s.seq.startList) (s.received 23 f)

@[simp] theorem showStarted_frame (f : Frame) (s : State) :
    (showStarted f s).catalogue = s.catalogue ∧ (showStarted f s).keys = s.keys ∧ (showStarted f s).seq = s.seq ∧
    (showStarted f s).time = s.time ∧ (showStarted f s).frames = s.frames ∧ (showStarted f s).link = s.link ∧
    (showStarted f s).sound = s.sound ∧ (showStarted f s).log = s.log ∧ (showStarted f s).lines = s.lines ∧
    (showStarted f s).port = (s.received 23 f).port := by
  simp [showStarted]

/-- SHOW START takes up what its walk finds (R90). -/
theorem exec_showStart (h : s.accepts 23 f) (hs : s.seq.state = .armed) {pos : Pos} (hpos : s.seq.pos = some pos)
    {stop : WalkEnd} {v : State} (hw : actWalk pos (showStarted f s) = (stop, v))
    (hp : (takeUpWalk stop v).port = (s.received 23 f).port) :
    exec (.showStart f) s = .next (answeredOk 23 f s (takeUpWalk stop v)) := by
  refine request_answeredOk (serve := serveShowStart f) h ?_ hp
  have hposition : (s.received 23 f).position = pos := by simp [State.position, hpos]
  unfold serveShowStart
  rw [if_neg (by simpa using hs), hposition]
  exact congrArg (fun w : WalkEnd × State => answerOk 23 f [] (cutGather (s.received 23 f) (takeUpWalk w.1 w.2))) hw

/-- A cause that SHOW_STARTED is not stands as it did. -/
theorem showStarted_causes (f : Frame) (s : State) {k : Nat} (h : k ≠ 5) :
    (showStarted f s).notices.causes[k]? = s.notices.causes[k]? :=
  raise_causes_other _ _ _ h

variable {list : Nat}

/-- A show whose list begins with a BLACK runs it (R90). -/
theorem showStart_black (h : s.accepts 23 f) (hs : s.seq.state = .armed)
    (hpos : s.seq.pos = some { list := list, entry := 0 }) (hstack : s.seq.stack = []) {n : Nat}
    (hentry : (s.seq.lists.getD list [])[0]? = some (.black n)) : ∃ t,
    exec (.showStart f) s = .next t ∧ t.port = s.port.answers 23 f .ok none [] ∧
    t.seq.state = (if s.interlocked then .paused else .running) ∧ t.seq.current = .black n false ∧
    t.seq.pos = some { list := list, entry := 0 } ∧ t.seq.stack = [] ∧ t.time = s.time ∧ t.keys = s.keys ∧
    t.notices = (raise .showStarted (Layout.num 1 s.seq.startList) s).notices := by
  have hw := actWalk_of_end (start := { list := list, entry := 0 }) (s := showStarted f s)
    (scan_black 63 _ (by simpa using hentry))
  refine ⟨_, exec_showStart h hs hpos hw ?_, ?_⟩
  · simp [takeUpWalk, startBlack]
  · simp [takeUpWalk, State.interlocked, hstack]
    rfl

/-- A show whose list begins with a WAIT waits at it (R90). -/
theorem showStart_wait (h : s.accepts 23 f) (hs : s.seq.state = .armed)
    (hpos : s.seq.pos = some { list := list, entry := 0 }) {limit : Option Nat}
    (hentry : (s.seq.lists.getD list [])[0]? = some (.wait limit)) : ∃ t,
    exec (.showStart f) s = .next t ∧ t.seq.state = .waiting ∧ t.seq.current = .wait ∧
    t.seq.waitReason = some .wait ∧ t.seq.waitTimer = limit.map (fun _ => 0) ∧
    t.seq.pos = some { list := list, entry := 0 } := by
  have hw := actWalk_of_end (start := { list := list, entry := 0 }) (s := showStarted f s)
    (scan_wait 63 _ (by simpa using hentry))
  refine ⟨_, exec_showStart h hs hpos hw ?_, ?_⟩
  · simp [takeUpWalk]
  · simp [takeUpWalk, enterWait_eq]

/-- A show of an empty list ends at once, COMPLETE (R90, R103). -/
theorem showStart_empty (h : s.accepts 23 f) (hs : s.seq.state = .armed)
    (hpos : s.seq.pos = some { list := list, entry := 0 }) (hstack : s.seq.stack = [])
    (hentry : s.seq.lists.getD list [] = []) (hcurrent : s.seq.current = .none) : ∃ t,
    exec (.showStart f) s = .next t ∧ t.seq.state = .idle ∧ t.seq.pos = none ∧
    t.port = s.port.answers 23 f .ok none [] ∧ ∀ x : Cause, s.notices.causes[6]? = some x →
      occurred x (Layout.num 1 s.seq.startList ++ Layout.code 0) t.notices.causes 6 := by
  have hw := actWalk_of_end (start := { list := list, entry := 0 }) (s := showStarted f s)
    (by simpa [hstack] using scan_showEnd 63 (start := { list := list, entry := 0 }) (s := showStarted f s) (by simp only [showStarted_frame, hentry]; rfl))
  have hshow : (updateSeq (fun q => { q with pos := some { list := list, entry := 0 } }) (showStarted f s)).showing = none := by
    rw [showing_eq_none]; simp [hcurrent]
  refine ⟨_, exec_showStart h hs hpos hw ?_, ?_⟩
  · simp [takeUpWalk, endShow_eq _ hshow]
  · refine ⟨by simp [takeUpWalk], by simp [takeUpWalk], by simp, fun x hx => ?_⟩
    have hx' : (showStarted f s).notices.causes[6]? = some x := (showStarted_causes f s (by decide)).trans hx
    simpa [takeUpWalk, endShow_eq _ hshow, ShowOutcome.code] using
      occurred_raise_at (c := .showEnded) (k := 6) rfl (by simpa using hx')

/-- A show whose list begins with a PLAY that passes goes to PREROLL with it (R90, R91). -/
theorem showStart_play (h : s.accepts 23 f) (hs : s.seq.state = .armed)
    (hpos : s.seq.pos = some { list := list, entry := 0 }) {id : Nat} {first last : Option Nat} {cues : List CueRecord}
    {p : Play} {g : Option (Nat × Grant)} {u : State}
    (hentry : (s.seq.lists.getD list [])[0]? = some (.play id first last cues))
    (hc : checkPlay { list := list, entry := 0 } id first last cues s = (.pass p g, u)) : ∃ t,
    exec (.showStart f) s = .next t ∧ t.port = s.port.answers 23 f .ok none [] ∧
    t.seq = { s.seq with
      state := .preroll, current := .none, prepared := some (.play p), path := none, waitReason := none
      waitLimit := none, waitTimer := none } ∧
    t.keys = { u.keys with prepared := g.map (·.1) } ∧
    t.frames = { s.frames with nextPrepared := p.firstFrame, keyPrepared := g.map (·.2.material) } ∧
    t.sound.nextPrepared = p.firstFrame ∧ t.time = s.time ∧ t.log = s.log ∧ t.catalogue = s.catalogue ∧
    t.lines = s.lines ∧ ∀ x : Cause, s.notices.causes[5]? = some x →
      occurred x (Layout.num 1 s.seq.startList) t.notices.causes 5 := by
  have hw := actWalk_of_end (start := { list := list, entry := 0 }) (s := showStarted f s)
    (scan_play 63 _ (by simpa using hentry) (checkPlay_of_eq (by simp) (by simp) (by simp) hc))
  refine ⟨_, exec_showStart h hs hpos hw ?_, ?_⟩
  · simp [takeUpWalk, enterPreroll]
  · refine ⟨by simp, by simp [takeUpWalk, hpos], by simp [takeUpWalk], by simp [takeUpWalk], by simp [takeUpWalk, enterPreroll],
      by simp [takeUpWalk, enterPreroll], by simp [takeUpWalk, enterPreroll], by simp [takeUpWalk, enterPreroll],
      by simp [takeUpWalk, enterPreroll], fun x hx => ?_⟩
    refine occurred_of_eq (l := (showStarted f s).notices.causes) (by simp [takeUpWalk, enterPreroll]) ?_
    exact occurred_raise_at (c := .showStarted) (s := s.received 23 f) (k := 5) rfl hx

end

/-- The checks on a PLAY in their order (R88). -/
theorem checkPlay_order (pos : Pos) (id : Nat) (first last : Option Nat) (cues : List CueRecord) (s : State) :
    let check := checkPlay pos id first last cues s
    (s.catalogue.compositions.find id = none → check = (.skip .notReady, s)) ∧
    ∀ c : Composition, s.catalogue.compositions.find id = some c →
      let a := first.getD 1
      let b := last.getD c.reels.length
      (c.incomplete.isSome = true → check = (.skip .notReady, s)) ∧
      (c.incomplete = none → b < a ∨ c.reels.length < b → check = (.skip .range, s)) ∧
      (c.incomplete = none → a ≤ b → b ≤ c.reels.length →
        (c.key = none → check = (.pass (makePlay pos id c a b cues) none, s)) ∧
        (∀ (key : Nat) (u : State), c.key = some key → selectGrant key s = (none, u) → check = (.skip .noGrant, u)) ∧
        (∀ (key : Nat) (g : Nat × Grant) (u : State), c.key = some key → selectGrant key s = (some g, u) →
          check = (if s.link.state = .paired then .pass (makePlay pos id c a b cues) (some g) else .skip .unpaired, u))) := by
  refine ⟨fun hfind => by simp [checkPlay, hfind], fun c hfind => ⟨fun hinc => by simp [checkPlay, hfind, hinc],
    fun hinc hrange => ?_, fun hinc hab hb => ⟨fun hkey => ?_, fun key u hkey hsel => ?_, fun key g u hkey hsel => ?_⟩⟩⟩
  · simp [checkPlay, hfind, hinc, hrange]
  · simp [checkPlay, hfind, hinc, hab.not_gt, hb.not_gt, hkey]
  · simp [checkPlay, hfind, hinc, hab.not_gt, hb.not_gt, hkey, hsel]
  · simp [checkPlay, hfind, hinc, hab.not_gt, hb.not_gt, hkey, hsel]
    have hlink : u.link = s.link := by rw [show u = (selectGrant key s).2 by rw [hsel]]; simp
    rw [hlink]
    split <;> rfl

/-- The sequencer armed with a list (R90). -/
def armed (list : Nat) (s : State) : State :=
  updateSeq (fun q => { q with
    state := .armed, stack := [], pos := some { list := list, entry := 0 }, startList := list }) s

/-- Settles O41: arming check by check, starting by the kind of the first entry, and the checks of a PLAY in their order. -/
theorem showsArmAndStart : Obligations.ShowsArmAndStart := by
  refine ⟨fun f s => ⟨fun list h => ⟨fun hlist => ?_, fun hlist hs => ?_, fun hlist hs => ?_⟩, fun h =>
    ⟨fun hs => ?_, fun list hs hpos hstack => ⟨fun n hentry => showStart_black h hs hpos hstack hentry,
      fun limit hentry => showStart_wait h hs hpos hentry,
      fun hentry hcurrent => showStart_empty h hs hpos hstack hentry hcurrent,
      fun id first last cues p g u hentry _ hc => showStart_play h hs hpos hentry hc⟩⟩⟩,
    checkPlay_order⟩
  · exact request_no (serve := serveShowArm f list) (v := s) h (if_pos hlist) rfl
  · exact request_no (serve := serveShowArm f list) (v := s) h ((if_neg hlist.not_gt).trans (if_pos hs)) rfl
  · exact request_ok (serve := serveShowArm f list) (v := armed list s) h
      ((if_neg hlist.not_gt).trans (if_neg (not_not.2 hs))) rfl
  · exact request_no (serve := serveShowStart f) (v := s) h (if_pos hs) rfl

end Machine
end Sys2Proof
end

section
/-!
GO and the timeout of a WAIT (R98, R99): how a WAIT is left for the prepared entry, and a LOG_FULL wait for its PLAY or for
what follows it.
-/
namespace Sys2Proof
namespace Machine

/-! ### What a command leaves of a state -/

/-- A state that differs from `u` only in the port, the ingest engine with its store requests, and in what the outgoing
direction has marked sent. -/
structure Settled (u t : State) : Prop where
  seq : t.seq = u.seq
  keys : t.keys = u.keys
  time : t.time = u.time
  frames : t.frames = u.frames
  sound : t.sound = u.sound
  log : t.log = u.log
  lines : t.lines = u.lines
  occurred : ∀ {x detail k}, occurred x detail u.notices.causes k → Machine.occurred x detail t.notices.causes k

theorem Settled.answeredOk (kind : Nat) (f : Frame) (s u : State) : Settled u (answeredOk kind f s u) := by
  constructor <;> simp

/-- The end of an event that has cut the gather. -/
theorem Settled.settle_cutGather (s u : State) : Settled u (settle (cutGather s u)) := by
  constructor
  case occurred => exact fun h => occurred_settle (by simpa using h)
  all_goals simp

/-! ### WAITs left (R98) -/

/-- A path without steps acts on nothing: the position alone moves on. -/
theorem actPath_of_nil {s : State} {stack : List Pos} (h : s.seq.path = some { steps := [], stack := stack }) :
    actPath s = updateSeq (fun q => { q with path := none, pos := q.pos.map Pos.after }) s := by
  simp [actPath, h]

/-- The sequencer with its WAIT left and a path of no steps acted on (R98). -/
def waitLeft (s : State) : State :=
  updateSeq (fun q => { q with
    waitTimer := none, waitLimit := none, waitReason := none, current := .none, path := none
    pos := q.pos.map Pos.after }) s

/-- The prepared entry taken up where a WAIT has been left, a PLAY by way of PREROLL (R98). -/
def takeUpPrepared (p : Prepared) (s : State) : State :=
  match p with
  | .play _ => enterPreroll s
  | .black pos n => startBlack pos n s
  | .wait pos timeout => enterWait pos timeout s
  | .showEnd => endShow .complete s
  | .walkLimit pos => haltAt pos s

theorem leaveWait_eq {s : State} {stack : List Pos} {p : Prepared}
    (hpath : s.seq.path = some { steps := [], stack := stack }) (hp : s.seq.prepared = some p) :
    leaveWait s = takeUpPrepared p (waitLeft s) := by
  have hleft : actPath (updateSeq (fun q => { q with
      waitTimer := none, waitLimit := none, waitReason := none, current := .none }) s) = waitLeft s :=
    actPath_of_nil hpath
  have hprepared : (waitLeft s).seq.prepared = some p := hp
  simp only [leaveWait, hleft, hprepared]
  cases p <;> rfl

/-- Leaving a WAIT sends no reply of its own. -/
theorem takeUpPrepared_port (p : Prepared) (s : State) : (takeUpPrepared p (waitLeft s)).port = s.port := by
  cases p with
  | showEnd => rw [takeUpPrepared, endShow_eq _ rfl]; simp [waitLeft]
  | _ => simp [takeUpPrepared, enterPreroll, startBlack, waitLeft]

/-- GO by the host, or the timeout, of a WAIT, with what the request or the event needs (R98). -/
def endsWait (f : Frame) (byHost : Bool) (s : State) : Prop :=
  if byHost then s.accepts 26 f else s.seq.waitLimit.isSome = true ∧ s.seq.waitTimer.isSome = true

section
variable {f : Frame} {s : State}

theorem tryGo_wait {s : State} (hs : s.seq.state = .waiting) (hi : s.interlocked = false)
    (hr : s.seq.waitReason = some .wait) : tryGo s = .ok (leaveWait s) := by
  simp [tryGo, hs, hi, hr]

/-- GO and the timeout leave a WAIT in the same way; only the frame taken of the request lies between them (R98). -/
theorem exec_endsWait (byHost : Bool) (h : endsWait f byHost s) (hs : s.seq.state = .waiting) (hi : s.interlocked = false)
    (hr : s.seq.waitReason = some .wait) (hpath : ∃ stack, s.seq.path = some { steps := [], stack := stack })
    {p : Prepared} (hp : s.seq.prepared = some p) :
    ∃ port t, exec (if byHost then .go f else .waitTimeout) s = .next t ∧
      Settled (takeUpPrepared p (waitLeft { s with port := port })) t := by
  obtain ⟨stack, hpath⟩ := hpath
  cases byHost with
  | true =>
    have hgo : tryGo (s.received 26 f) = .ok (takeUpPrepared p (waitLeft (s.received 26 f))) := by
      rw [← leaveWait_eq (s := s.received 26 f) hpath hp]
      exact tryGo_wait (s := s.received 26 f) hs hi hr
    exact ⟨_, _, request_try h hgo (takeUpPrepared_port p _), .answeredOk _ _ _ _⟩
  | false =>
    obtain ⟨hlimit, htimer⟩ := h
    have hexec : exec .waitTimeout s = finish (cutGather s (takeUpPrepared p (waitLeft s))) := by
      show execWaitTimeout s = _
      simp [execWaitTimeout, hs, hlimit, htimer, hi, leaveWait_eq hpath hp]
    exact ⟨_, _, hexec, .settle_cutGather _ _⟩

/-- What a WAIT is left for, entry by entry (R98, R106). -/
theorem endsWait_outcomes (byHost : Bool) (h : endsWait f byHost s) (hs : s.seq.state = .waiting)
    (hi : s.interlocked = false) (hr : s.seq.waitReason = some .wait)
    (hpath : ∃ stack, s.seq.path = some { steps := [], stack := stack }) :
    let ends := exec (if byHost then .go f else .waitTimeout) s
    (∀ pos n, s.seq.prepared = some (.black pos n) → ∃ t, ends = .next t ∧ t.seq.state = .running ∧
      t.seq.pos = some pos ∧ t.seq.current = .black n false ∧ t.seq.prepared = none ∧ t.seq.waitTimer = none ∧
      t.keys = s.keys ∧ t.time = s.time) ∧
    (∀ p, s.seq.prepared = some (.play p) → ∃ t, ends = .next t ∧ t.seq.state = .preroll ∧
      t.seq.prepared = some (.play p) ∧ t.seq.current = .none ∧ t.seq.waitTimer = none ∧ t.keys = s.keys) ∧
    (s.seq.prepared = some .showEnd → ∃ t, ends = .next t ∧ t.seq.state = .idle ∧ t.seq.pos = none) ∧
    (∀ pos timeout, s.seq.prepared = some (.wait pos timeout) → ∃ t path, ends = .next t ∧ t.seq.state = .waiting ∧
      t.seq.pos = some pos ∧ t.seq.current = .wait ∧ t.seq.waitReason = some .wait ∧ t.seq.waitLimit = timeout ∧
      t.seq.waitTimer = timeout.map (fun _ => 0) ∧ t.seq.path = some path ∧ path.steps.length ≤ 64 ∧
      t.lines = s.lines ∧ t.log = s.log ∧ t.time = s.time ∧
      ∀ x : Cause, s.notices.causes[11]? = some x →
        occurred x (Layout.num 1 pos.list ++ Layout.num 1 pos.entry ++ [0#8]) t.notices.causes 11) ∧
    (∀ pos, s.seq.prepared = some (.walkLimit pos) → ∃ t, ends = .next t ∧ t.seq.state = .halted ∧
      t.seq.halt = some .walkLimit ∧ t.seq.pos = some pos ∧ t.seq.current = .none ∧ t.seq.prepared = none ∧
      t.seq.waitTimer = none ∧ t.lines = s.lines ∧ t.log = s.log) := by
  refine ⟨fun pos n hp => ?_, fun p hp => ?_, fun hp => ?_, fun pos timeout hp => ?_, fun pos hp => ?_⟩
  all_goals obtain ⟨port, t, ht, hsettled⟩ := exec_endsWait byHost h hs hi hr hpath hp
  · refine ⟨t, ht, ?_⟩
    have hi' : (waitLeft { s with port := port }).interlocked = false := hi
    simp [hsettled.seq, hsettled.keys, hsettled.time, takeUpPrepared, hi']
    simp [waitLeft]
  · refine ⟨t, ht, ?_⟩
    simp [hsettled.seq, hsettled.keys, takeUpPrepared, waitLeft, hp, enterPreroll]
  · refine ⟨t, ht, ?_⟩
    simp [hsettled.seq, takeUpPrepared]
  · have hseq := hsettled.seq
    rw [takeUpPrepared, enterWait_eq, lookAhead_seq] at hseq
    have hwaiting : ∀ x : Cause, s.notices.causes[11]? = some x →
        occurred x (Layout.num 1 pos.list ++ Layout.num 1 pos.entry ++ [0#8]) t.notices.causes 11 := fun x hx =>
      hsettled.occurred (occurred_of_eq (lookAhead_causes _ _ (by decide) (by decide))
        (occurred_raise_at (c := .waiting) rfl hx))
    refine ⟨t, _, ht, ?_, ?_, ?_, ?_, ?_, ?_, congrArg Sequencer.path hseq, scan_steps_le 64 _ _ _, ?_, ?_, ?_,
      hwaiting⟩
    all_goals simp [hseq, hsettled.time, hsettled.lines, hsettled.log, takeUpPrepared, waitLeft]
  · refine ⟨t, ht, ?_⟩
    simp [hsettled.seq, hsettled.lines, hsettled.log, takeUpPrepared, waitLeft]

end

/-! ### A prepared PLAY skipped (R93, R99) -/

section
variable {s : State} {q : Play}

theorem discardPrepared_of_play (h : s.seq.prepared = some (.play q)) :
    (discardPrepared s).keys = { s.keys with prepared := none } ∧ (discardPrepared s).frames.keyPrepared = none ∧
    (∀ x ∈ (discardPrepared s).frames.places, x.prepared = false) ∧
    ∀ x ∈ (discardPrepared s).sound.portions, x.prepared = false := by
  simp [discardPrepared, h, dropPreparedSound, dropPreparedFrames]

/-- A PLAY that fails its second checks: ENTRY_SKIPPED is raised, and what it had prepared is discarded. -/
def skipPrepared (p : Play) (reason : SkipReason) (s : State) : State :=
  discardPrepared (raise .entrySkipped
    (Layout.num 1 p.pos.list ++ Layout.num 1 p.pos.entry ++ Layout.num 1 p.id ++ Layout.code reason.code) s)

@[simp] theorem skipPrepared_frame (p : Play) (reason : SkipReason) (s : State) :
    (skipPrepared p reason s).seq = { s.seq with prepared := none } ∧ (skipPrepared p reason s).time = s.time ∧
    (skipPrepared p reason s).log = s.log ∧ (skipPrepared p reason s).lines = s.lines ∧
    (skipPrepared p reason s).port = s.port := by
  simp [skipPrepared]

theorem skipPrepared_drops (p : Play) (reason : SkipReason) (h : s.seq.prepared = some (.play q)) :
    (skipPrepared p reason s).keys = { s.keys with prepared := none } ∧
    (skipPrepared p reason s).frames.keyPrepared = none ∧
    (∀ x ∈ (skipPrepared p reason s).frames.places, x.prepared = false) ∧
    ∀ x ∈ (skipPrepared p reason s).sound.portions, x.prepared = false := by
  have hdrops := discardPrepared_of_play (s := raise .entrySkipped
    (Layout.num 1 p.pos.list ++ Layout.num 1 p.pos.entry ++ Layout.num 1 p.id ++ Layout.code reason.code) s)
    (by simpa using h)
  simpa [skipPrepared] using hdrops

theorem skipPrepared_occurred (p : Play) (reason : SkipReason) {x : Cause} (hx : s.notices.causes[10]? = some x) :
    occurred x (Layout.num 1 p.pos.list ++ Layout.num 1 p.pos.entry ++ Layout.num 1 p.id ++ Layout.code reason.code)
      (skipPrepared p reason s).notices.causes 10 := by
  have h := occurred_raise_at (c := .entrySkipped) (k := 10) (s := s)
    (detail := Layout.num 1 p.pos.list ++ Layout.num 1 p.pos.entry ++ Layout.num 1 p.id ++ Layout.code reason.code) rfl hx
  simpa [skipPrepared] using h

end

/-! ### A LOG_FULL wait left (R99) -/

section
variable {f : Frame} {s u : State} {p : Play}

theorem exec_go_logFull (h : s.accepts 26 f) (hs : s.seq.state = .waiting) (hi : s.interlocked = false)
    (hr : s.seq.waitReason = some .logFull) (hroom : s.log.hasRoom = true)
    (hport : (leaveLogFull (s.received 26 f)).port = (s.received 26 f).port) :
    exec (.go f) s = .next (answeredOk 26 f s (leaveLogFull (s.received 26 f))) := by
  refine request_try h ?_ hport
  have hi' : (s.received 26 f).interlocked = false := hi
  simp [tryGo, hs, hi', hr, hroom]

theorem preparedPlay_of_eq (h : s.seq.prepared = some (.play p)) : s.preparedPlay = some p := by
  simp [State.preparedPlay, h]

theorem leaveLogFull_pass (hp : s.seq.prepared = some (.play p)) {fresh : Play} {g : Option (Nat × Grant)}
    (hc : recheckPlay p s = (.pass fresh g, u)) : leaveLogFull s = enterPreroll u := by
  simp [leaveLogFull, preparedPlay_of_eq hp, hc]

theorem leaveLogFull_skip (hp : s.seq.prepared = some (.play p)) {reason : SkipReason}
    (hc : recheckPlay p s = (.skip reason, u)) {n : Nat}
    (hentry : (s.seq.lists.getD p.pos.list [])[p.pos.entry + 1]? = some (.black n)) :
    leaveLogFull s = startBlack p.pos.after n (updateSeq (fun q => { q with pos := some p.pos.after })
      (updateSeq (fun q => { q with waitReason := none }) (skipPrepared p reason u))) := by
  obtain ⟨keys, rfl⟩ : ∃ keys, u = { s with keys := keys } := ⟨_, recheckPlay_eq hc⟩
  have hwalk := actWalk_of_end (start := p.pos.after)
    (s := updateSeq (fun q => { q with waitReason := none }) (skipPrepared p reason { s with keys := keys }))
    (scan_black 63 _ (by simpa [Pos.after] using hentry))
  simp only [leaveLogFull, preparedPlay_of_eq hp, hc]
  exact congrArg (fun w => takeUpWalk w.1 w.2) hwalk

/-- GO in a LOG_FULL wait with room in the log: PREROLL when checks 1 to 4 pass. -/
theorem go_logFull_pass (h : s.accepts 26 f) (hs : s.seq.state = .waiting) (hi : s.interlocked = false)
    (hr : s.seq.waitReason = some .logFull) (hroom : s.log.hasRoom = true) (hp : s.seq.prepared = some (.play p))
    {fresh : Play} {g : Option (Nat × Grant)} (hc : recheckPlay p (s.received 26 f) = (.pass fresh g, u)) : ∃ t,
    exec (.go f) s = .next t ∧ t.seq.state = .preroll ∧ t.seq.prepared = some (.play p) ∧
    t.seq.current = .none ∧ t.seq.waitReason = none ∧ t.seq.pos = s.seq.pos ∧ t.keys = u.keys ∧
    t.frames = s.frames ∧ t.sound = s.sound ∧ t.log = s.log := by
  have hleave := leaveLogFull_pass (s := s.received 26 f) hp hc
  obtain ⟨keys, rfl⟩ : ∃ keys, u = { s.received 26 f with keys := keys } := ⟨_, recheckPlay_eq hc⟩
  refine ⟨_, exec_go_logFull h hs hi hr hroom ?_, ?_⟩
  · simp [hleave, enterPreroll]
  · simp [hleave, enterPreroll, hp]

/-- GO in a LOG_FULL wait with room in the log: a check that fails skips the PLAY, and a BLACK after it runs. -/
theorem go_logFull_skip (h : s.accepts 26 f) (hs : s.seq.state = .waiting) (hi : s.interlocked = false)
    (hr : s.seq.waitReason = some .logFull) (hroom : s.log.hasRoom = true) (hp : s.seq.prepared = some (.play p))
    {reason : SkipReason} (hc : recheckPlay p (s.received 26 f) = (.skip reason, u)) {n : Nat}
    (hentry : (s.seq.lists.getD p.pos.list [])[p.pos.entry + 1]? = some (.black n)) : ∃ t,
    exec (.go f) s = .next t ∧ t.seq.state = .running ∧ t.seq.current = .black n false ∧
    t.seq.pos = some p.pos.after ∧ t.seq.prepared = none ∧ t.seq.waitReason = none ∧ t.keys.prepared = none ∧
    (∀ x ∈ t.frames.places, x.prepared = false) ∧ (∀ q ∈ t.sound.portions, q.prepared = false) ∧
    t.time = s.time ∧ t.log = s.log ∧
    ∀ x : Cause, s.notices.causes[10]? = some x → occurred x (Layout.num 1 p.pos.list ++
      Layout.num 1 p.pos.entry ++ Layout.num 1 p.id ++ Layout.code reason.code) t.notices.causes 10 := by
  have hleave := leaveLogFull_skip (s := s.received 26 f) hp hc (n := n) hentry
  obtain ⟨keys, rfl⟩ : ∃ keys, u = { s.received 26 f with keys := keys } := ⟨_, recheckPlay_eq hc⟩
  obtain ⟨hkeys, _, hplaces, hportions⟩ :=
    skipPrepared_drops (s := { s.received 26 f with keys := keys }) p reason hp
  have hoccurred := fun x hx =>
    skipPrepared_occurred (s := { s.received 26 f with keys := keys }) p reason (x := x) hx
  have hi' : s.lines.any Line.holding = false := hi
  refine ⟨_, exec_go_logFull h hs hi hr hroom ?_, ?_⟩
  · simp [hleave]
  · simp [hleave, State.interlocked, hi']
    exact ⟨congrArg Keys.prepared hkeys, hplaces, hportions, hoccurred⟩

/-- GO refused: outside WAITING, while an interlock holds, and while the log it waits for has no room. -/
theorem go_refused (h : s.accepts 26 f) :
    (s.seq.state ≠ .waiting → exec (.go f) s = .next (s.no 26 f .wrongState)) ∧
    (s.seq.state = .waiting → s.interlocked = true → exec (.go f) s = .next (s.no 26 f .interlock)) ∧
    (s.seq.state = .waiting → s.interlocked = false → s.seq.waitReason = some .logFull → s.log.hasRoom = false →
      exec (.go f) s = .next (s.no 26 f .logFull)) := by
  have hlocked : (s.received 26 f).interlocked = s.interlocked := rfl
  refine ⟨fun hs => ?_, fun hs hi => ?_, fun hs hi hr hroom => ?_⟩ <;> refine request_try_error h ?_
  · simp [tryGo, hs]
  · simp [tryGo, hs, hlocked, hi]
  · simp [tryGo, hs, hlocked, hi, hr, hroom]

/-- The timeout of a WAIT lapses while an interlock holds: its timer is stopped. -/
theorem exec_waitTimeout_interlocked (hs : s.seq.state = .waiting) (hi : s.interlocked = true)
    (hlimit : s.seq.waitLimit.isSome = true) (htimer : s.seq.waitTimer.isSome = true) :
    exec .waitTimeout s = .next (settle { s with seq := { s.seq with waitTimer := none, waitLimit := none } }) := by
  show execWaitTimeout s = _
  rw [execWaitTimeout, if_pos (by simp [hs, hlimit, htimer]), if_pos hi]
  rfl

/-- Settles O43: the refusals of GO, the end of a LOG_FULL wait by the verdict of the checks, and the end of a WAIT by the
kind of the prepared entry. -/
theorem waitsEndByGoOrTimeout : Obligations.WaitsEndByGoOrTimeout := by
  intro f s
  refine ⟨fun h => ?_, fun hs hr hpath byHost h => ⟨fun hi hhost => ?_, fun hi => ?_⟩⟩
  · obtain ⟨hstate, hinterlock, hlog⟩ := go_refused h
    exact ⟨hstate, hinterlock, hlog, fun p u hs hi hr hroom hp =>
      ⟨fun fresh g hc => go_logFull_pass h hs hi hr hroom hp hc,
       fun reason n hc hentry => go_logFull_skip h hs hi hr hroom hp hc hentry⟩⟩
  · subst hhost
    obtain ⟨hlimit, htimer⟩ := h
    exact exec_waitTimeout_interlocked hs hi hlimit htimer
  · exact endsWait_outcomes byHost h hs hi hr hpath

end
end Machine
end Sys2Proof
end

section
/-!
SKIP and STOP (R102, R103): the end of the current entry, and what a skip goes on to.
-/
namespace Sys2Proof
namespace Machine

/-! ### The entry a skip ends -/

section
variable {outcome : Showing → ShowingOutcome} {s : State}

theorem currentEnded_of_showing {sh : Showing} (h : s.showing = some sh) :
    currentEnded outcome s = endShowing (outcome sh) s := by
  simp [currentEnded, (showing_eq_some s sh).1 h]

theorem currentEnded_of_none (h : s.showing = none) :
    currentEnded outcome s = updateSeq (fun q => { q with current := .none }) s := by
  unfold currentEnded
  split
  · exact absurd ‹_› ((showing_eq_none s).1 h _)
  · rfl

theorem currentEnded_rest : (currentEnded outcome s).showing = none ∧
    (currentEnded outcome s).keys = { s.keys with bound := if s.showing.isSome then none else s.keys.bound } ∧
    (currentEnded outcome s).time.frame = s.time.frame ∧
    (s.log.release = none → (currentEnded outcome s).port = s.port) := by
  cases h : s.showing with
  | some sh =>
    rw [currentEnded_of_showing h]
    simp +contextual [h, endShowing_port]
  | none =>
    rw [currentEnded_of_none h, showing_eq_none]
    simp

end

/-! ### What a skip goes on to (R102) -/

/-- The prepared entry taken up where a skip has ended the current one: a PLAY and a BLACK stay prepared. -/
def takeUpAfterSkip (s : State) : State :=
  match s.seq.prepared with
  | some (.wait pos t) => enterWait pos t s
  | some .showEnd => endShow .complete s
  | some (.walkLimit pos) => haltAt pos s
  | _ => s

@[simp] theorem waitEntered_time (pos : Pos) (timeout : Option Nat) (s : State) :
    (waitEntered pos timeout s).time = s.time := by
  simp [waitEntered]

theorem skipBoundary_eq (s : State) : skipBoundary s =
    takeUpAfterSkip (actPath (lookAheadUnlessMade (currentEnded (fun _ => .stopped) s))) := by
  rw [← endCurrent_eq]
  rfl

/-- A state that comes after a showing has ended: the log, the port and the bound grant stand, and no showing runs. -/
structure AfterShowing (v t : State) : Prop where
  log : t.log = v.log
  port : t.port = v.port
  bound : t.keys.bound = v.keys.bound
  showing : t.showing = none

section
variable {s : State}

@[simp] theorem discardPrepared_bound (s : State) : (discardPrepared s).keys.bound = s.keys.bound := by
  unfold discardPrepared; split <;> simp

@[simp] theorem actStep_current (step : PathStep) (s : State) : (actStep step s).seq.current = s.seq.current := by
  unfold actStep; (repeat' split) <;> simp

@[simp] theorem actPath_current (s : State) : (actPath s).seq.current = s.seq.current := by
  unfold actPath
  split
  · rfl
  · rename_i path _
    generalize hu : updateSeq (fun q => { q with path := none, pos := q.pos.map Pos.after }) s = u
    have hc : u.seq.current = s.seq.current := hu ▸ rfl
    clear hu
    induction path.steps generalizing u with
    | nil => exact hc
    | cons step steps ih => exact ih _ ((actStep_current step u).trans hc)

theorem lookAheadUnlessMade_after (h : s.showing = none) : AfterShowing s (lookAheadUnlessMade s) := by
  unfold lookAheadUnlessMade
  split
  · exact ⟨rfl, rfl, rfl, h⟩
  · constructor <;> simp_all [showing_eq_none]

theorem actPath_after (h : s.showing = none) : AfterShowing s (actPath s) := by
  constructor <;> simp_all [showing_eq_none]

theorem takeUpAfterSkip_after (h : s.showing = none) : AfterShowing s (takeUpAfterSkip s) := by
  unfold takeUpAfterSkip
  split
  · constructor <;> simp [enterWait, showing_eq_none]
  · constructor <;> simp [endShow_eq _ h, showing_eq_none]
  · constructor <;> simp [haltAt, halt, showing_eq_none]
  · exact ⟨rfl, rfl, rfl, h⟩

theorem AfterShowing.trans {u v w : State} (h : AfterShowing u v) (h' : AfterShowing v w) : AfterShowing u w :=
  ⟨h'.log.trans h.log, h'.port.trans h.port, h'.bound.trans h.bound, h'.showing⟩

theorem skipBoundary_after (s : State) : AfterShowing (currentEnded (fun _ => .stopped) s) (skipBoundary s) := by
  rw [skipBoundary_eq]
  have hlooked := lookAheadUnlessMade_after (currentEnded_rest (outcome := fun _ => .stopped) (s := s)).1
  have hacted := actPath_after hlooked.showing
  exact (hlooked.trans hacted).trans (takeUpAfterSkip_after hacted.showing)

/-- The current entry ended by a skip, and a path of no steps acted on. -/
def skippedPast (s : State) : State :=
  updateSeq (fun q => { q with path := none, pos := q.pos.map Pos.after }) (currentEnded (fun _ => .stopped) s)

@[simp] theorem skippedPast_rest (s : State) :
    (skippedPast s).seq = { s.seq with current := .none, path := none, pos := s.seq.pos.map Pos.after } ∧
    (skippedPast s).showing = none ∧ (skippedPast s).keys.prepared = s.keys.prepared ∧
    (skippedPast s).time.frame = s.time.frame := by
  obtain ⟨-, hkeys, hframe, -⟩ := currentEnded_rest (outcome := fun _ => .stopped) (s := s)
  simp [skippedPast, showing_eq_none, hkeys, hframe]

theorem skipBoundary_of_nil {stack : List Pos} (h : s.seq.path = some { steps := [], stack := stack }) :
    skipBoundary s = takeUpAfterSkip (skippedPast s) := by
  have hmade : lookAheadUnlessMade (currentEnded (fun _ => .stopped) s) = currentEnded (fun _ => .stopped) s := by
    simp [lookAheadUnlessMade, h]
  rw [skipBoundary_eq, hmade, actPath_of_nil (stack := stack) (by simpa using h)]
  rfl

/-- A skip before lookahead makes it at once; a BLACK next stands prepared. -/
theorem skipBoundary_black {pos : Pos} {n : Nat} (hpath : s.seq.path = none) (hpos : s.seq.pos = some pos)
    (hentry : (s.seq.lists.getD pos.list [])[pos.entry + 1]? = some (.black n)) :
    (skipBoundary s).seq = { s.seq with
      current := .none, path := none, pos := some pos.after, prepared := some (.black pos.after n) } := by
  have hstart : (currentEnded (fun _ => .stopped) s).position.after = pos.after := by
    simp [State.position, hpos]
  have hlook := lookAhead_of_end (start := pos.after) (s := currentEnded (fun _ => .stopped) s)
    (scan_black 63 _ (by simpa [Pos.after] using hentry))
  have hmade : lookAheadUnlessMade (currentEnded (fun _ => .stopped) s) =
      lookAhead pos.after (currentEnded (fun _ => .stopped) s) := by
    simp [lookAheadUnlessMade, hpath, hstart]
  rw [skipBoundary_eq, hmade, hlook, actPath_of_nil (stack := s.seq.stack) (by simp [prepareEnd])]
  simp [takeUpAfterSkip, prepareEnd, hpos]

end

/-! ### SKIP -/

section
variable {f : Frame} {s : State}

theorem skip_refused (h : s.accepts 27 f) :
    (s.seq.state ≠ .running → exec (.skip f) s = .next (s.no 27 f .wrongState)) ∧
    (s.seq.state = .running → s.seq.current = .none → exec (.skip f) s = .next (s.no 27 f .wrongState)) := by
  refine ⟨fun hs => ?_, fun hs hc => ?_⟩ <;> refine request_try_error h ?_
  · simp [trySkip, hs]
  · simp [trySkip, hs, hc]

theorem trySkip_of_current (hs : s.seq.state = .running)
    (hc : (∃ n begun, s.seq.current = .black n begun) ∨ s.showing ≠ none) : trySkip s = .ok (skipBoundary s) := by
  obtain ⟨n, begun, hc⟩ | hc := hc
  · simp [trySkip, hs, hc]
  · obtain ⟨sh, hsh⟩ := Option.ne_none_iff_exists'.1 hc
    simp [trySkip, hs, (showing_eq_some s sh).1 hsh]

theorem exec_skip (h : s.accepts 27 f) (hs : s.seq.state = .running) (hr : s.log.release = none)
    (hc : (∃ n begun, s.seq.current = .black n begun) ∨ s.showing ≠ none) :
    exec (.skip f) s = .next (answeredOk 27 f s (skipBoundary (s.received 27 f))) := by
  refine request_try h (trySkip_of_current (s := s.received 27 f) hs hc) ?_
  rw [(skipBoundary_after _).port]
  exact currentEnded_rest.2.2.2 hr

/-- A SKIP taken, with what it leaves for each prepared entry. -/
theorem skip_taken (h : s.accepts 27 f) (hs : s.seq.state = .running) (hr : s.log.release = none)
    (hc : (∃ n begun, s.seq.current = .black n begun) ∨ s.showing ≠ none) :
    ∃ t, exec (.skip f) s = .next t ∧ t.port = s.port.answers 27 f .ok none [] ∧
    (∀ sh, s.showing = some sh → t.keys.bound = none ∧ t.showing = none ∧ ∀ r ∈ t.log.records,
      r.sequence = sh.record → r.outcome = some .stopped ∧ ∀ x, r.showing = some x → x.stop = some s.keys.clock) ∧
    ((∃ stack, s.seq.path = some { steps := [], stack := stack }) →
      (∀ pos limit, s.seq.prepared = some (.wait pos limit) → t.seq.state = .waiting ∧ t.seq.current = .wait ∧
        t.seq.pos = some pos ∧ t.seq.waitReason = some .wait ∧ t.time.frame = s.time.frame) ∧
      (s.seq.prepared = some .showEnd → t.seq.state = .idle ∧ t.seq.pos = none ∧ t.seq.prepared = none) ∧
      (∀ p, s.seq.prepared = some p → (∃ play, p = .play play) ∨ (∃ pos n, p = .black pos n) →
        t.seq.state = .running ∧ t.seq.current = .none ∧ t.seq.prepared = some p ∧ t.seq.path = none ∧
        t.seq.stack = s.seq.stack ∧ t.seq.pos = s.seq.pos.map Pos.after ∧ t.keys.prepared = s.keys.prepared)) ∧
    (∀ pos n, s.seq.path = none → s.seq.pos = some pos →
      (s.seq.lists.getD pos.list [])[pos.entry + 1]? = some (.black n) →
      t.seq.state = .running ∧ t.seq.current = .none ∧ t.seq.prepared = some (.black pos.after n) ∧
      t.seq.path = none ∧ t.seq.pos = some pos.after) := by
  have hafter := skipBoundary_after (s.received 27 f)
  refine ⟨_, exec_skip h hs hr hc, by simp, fun sh hsh => ?_, fun ⟨stack, hpath⟩ => ?_, fun pos n hpath hpos hentry => ?_⟩
  · have hrec : (s.received 27 f).showing = some sh := hsh
    have hbound := congrArg Keys.bound (currentEnded_rest (outcome := fun _ => .stopped) (s := s.received 27 f)).2.1
    have hcloses := fun r hr hseq => endShowing_closes .stopped hrec (r := r) hr hseq
    rw [← currentEnded_of_showing (outcome := fun _ => .stopped) hrec] at hcloses
    simp [hafter.bound, hafter.log, hafter.showing, hbound, hrec]
    exact hcloses
  · have hskip := skipBoundary_of_nil (s := s.received 27 f) hpath
    refine ⟨fun pos limit hp => ?_, fun hp => ?_, ?_⟩
    · simp [hskip, takeUpAfterSkip, hp, enterWait_eq]
    · simp [hskip, takeUpAfterSkip, hp]
    · rintro p hp (⟨play, rfl⟩ | ⟨pos, n, rfl⟩) <;> simp [hskip, takeUpAfterSkip, hp, hs]
  · have hseq := skipBoundary_black (s := s.received 27 f) hpath hpos hentry
    simp [hseq, hs]

end

/-! ### STOP -/

section
variable {f : Frame} {s : State}

@[simp] theorem enterIdle_rate (s : State) : (enterIdle s).time.rate = 24 := rfl

/-- The show stopped: the showing ends STOPPED first (R103). -/
theorem endShow_stopped (s : State) : endShow .stopped (endShowing .stopped s) =
    enterIdle (raise .showEnded (Layout.num 1 s.seq.startList ++ Layout.code ShowOutcome.stopped.code)
      (emptyUnits (fun n => decide (n < 2)) (discardPrepared (endShowing .stopped s)))) := by
  rw [endShow_eq _ (endShowing_showing _ _)]
  simp

theorem tryStop_armed (hs : s.seq.state = .armed) : tryStop s = .ok (enterIdle s) := by
  simp [tryStop, hs]

theorem tryStop_show (hi : s.seq.state ≠ .idle) (ha : s.seq.state ≠ .armed) :
    tryStop s = .ok (endShow .stopped (endShowing .stopped s)) := by
  unfold tryStop
  split
  · exact absurd ‹_› hi
  · exact absurd ‹_› ha
  · rfl

theorem stop_refused (h : s.accepts 28 f) (hs : s.seq.state = .idle) :
    exec (.stop f) s = .next (s.no 28 f .wrongState) :=
  request_try_error h (by simp [tryStop, hs])

theorem stop_taken (h : s.accepts 28 f) (hi : s.seq.state ≠ .idle) (hr : s.log.release = none) :
    ∃ t, exec (.stop f) s = .next t ∧
    t.port = s.port.answers 28 f .ok none [] ∧ t.seq.state = .idle ∧ t.seq.pos = none ∧ t.seq.stack = [] ∧
    t.seq.current = .none ∧ t.time.rate = 24 ∧ t.catalogue = s.catalogue ∧ t.nvm = s.nvm ∧ t.lines = s.lines ∧
    (∀ sh, s.showing = some sh → s.seq.state ≠ .armed → t.keys.bound = none ∧
      ∀ r ∈ t.log.records, r.sequence = sh.record →
        r.outcome = some .stopped ∧ ∀ x, r.showing = some x → x.stop = some s.keys.clock) := by
  by_cases ha : s.seq.state = .armed
  · refine ⟨_, request_try h (tryStop_armed (s := s.received 28 f) ha) (by simp), ?_⟩
    simp [ha]
  · have hport : (endShowing .stopped (s.received 28 f)).port = (s.received 28 f).port :=
      endShowing_port .stopped (s := s.received 28 f) hr
    refine ⟨_, request_try h (tryStop_show (s := s.received 28 f) hi ha) ?_, ?_⟩
    · simp [endShow_stopped, hport]
    · simp [endShow_stopped]
      intro sh hsh _
      have hrec : (s.received 28 f).showing = some sh := hsh
      exact ⟨by simp [hsh], fun r hr hseq => endShowing_closes .stopped hrec hr hseq⟩

/-- Settles O44: the refusals of SKIP and STOP, the skip by the prepared entry, and the end of the show. -/
theorem skipsAndStopsEndEntries : Obligations.SkipsAndStopsEndEntries := by
  intro f s
  refine ⟨fun h => ?_, fun h => ⟨stop_refused h, stop_taken h⟩⟩
  obtain ⟨hstate, hcurrent⟩ := skip_refused h
  exact ⟨hstate, hcurrent, skip_taken h⟩

end
end Machine
end Sys2Proof
end

section
/-!
Lookahead, boundaries and the limit of repeats (R95 to R97, R106).
-/
namespace Sys2Proof
namespace Machine

/-! ### Lookahead (R95) -/

/-- Lookahead that is due records a path of 64 steps or fewer and leaves the current entry. -/
theorem exec_lookahead {s : State} (h : s.lookaheadDue = true) : ∃ t path,
    exec .lookahead s = .next t ∧ t.seq.path = some path ∧ path.steps.length ≤ 64 ∧
    t.seq.current = s.seq.current ∧ t.seq.state = s.seq.state ∧ t.seq.stack = s.seq.stack ∧ t.seq.pos = s.seq.pos ∧
    t.lines = s.lines ∧ t.time = s.time ∧ t.log = s.log := by
  have hmade : lookAheadIfDue s = lookAhead s.position.after s := if_pos h
  have hexec : exec .lookahead s = .next (settle (cutGather s (lookAhead s.position.after s))) := by
    rw [← hmade]
    rfl
  have hseq := (Settled.settle_cutGather s (lookAhead s.position.after s)).seq.trans (lookAhead_seq _ _)
  refine ⟨_, _, hexec, congrArg Sequencer.path hseq, scan_steps_le 64 _ _ _, ?_⟩
  simp

/-! ### The boundary of a BLACK (R97) -/

section
variable {s : State}

theorem firing_of_none (n : Nat) (h : s.showing = none) : firing n s = none := by
  simp [firing, h]

/-- Without a showing no compare unit fires (R119). -/
theorem judgeUnits_of_none (h : s.showing = none) : judgeUnits s = s := by
  have hcues : ∀ n, fireCues n s = s := fun n => by cases n <;> simp [fireCues, firing_of_none _ h]
  have hcount : ∀ n, fireCount n s = s := fun n => by cases n <;> simp [fireCount, firing_of_none _ h]
  have hstream : ∀ k n, fireStream k n s = s := fun k n => by cases n <;> simp [fireStream, firing_of_none _ h]
  simp [judgeUnits, judgeStreams, streamNumbers, hcues, hcount, hstream]

theorem checkRepeats_of_none (h : s.showing = none) : checkRepeats s = s := by
  simp [checkRepeats, h]

theorem showing_of_black {n : Nat} {begun : Bool} (h : s.seq.current = .black n begun) : s.showing = none := by
  rw [showing_eq_none]
  simp [h]

/-- The end of a BLACK with a path of no steps moves the position on. -/
theorem boundary_of_black {n : Nat} {stack : List Pos} (hc : s.seq.current = .black n true)
    (hpath : s.seq.path = some { steps := [], stack := stack }) :
    actPath (endCurrent Showing.boundaryOutcome s) =
      updateSeq (fun q => { q with current := .none, path := none, pos := q.pos.map Pos.after }) s := by
  rw [endCurrent_eq, currentEnded_of_none (showing_of_black hc)]
  simp only [lookAheadUnlessMade, updateSeq_seq, hpath, Option.isSome_some, if_true]
  rw [actPath_of_nil (stack := stack) (by simpa using hpath)]
  rfl

theorem runTick_boundary {n : Nat} (hs : s.seq.state = .running) (hc : s.seq.current = .black n true)
    (hb : s.time.black ≤ 1) : sequencerTick s = boundaryTick s := by
  simp [sequencerTick, runTick, State.boundaryDue, hs, hc, hb]

@[simp] theorem beginBlack_time (pos : Pos) (n : Nat) (s : State) :
    (beginBlack pos n s).time = { s.time with black := n } := rfl

/-- At the boundary of a BLACK the prepared BLACK begins. -/
theorem sequencerTick_black {n m : Nat} {pos : Pos} {stack : List Pos} (hs : s.seq.state = .running)
    (hc : s.seq.current = .black n true) (hb : s.time.black ≤ 1)
    (hpath : s.seq.path = some { steps := [], stack := stack }) (hp : s.seq.prepared = some (.black pos m)) :
    sequencerTick s = beginBlack pos m
      (updateSeq (fun q => { q with current := .none, path := none, pos := q.pos.map Pos.after }) s) := by
  rw [runTick_boundary hs hc hb, boundaryTick, boundary_of_black hc hpath]
  simp [hp]

/-- The rest of a tick whose sequencer runs a BLACK with more than 96 frames to count. -/
theorem frameTick_of_black {b : State} {m : Nat} (h : sequencerTick (stepFade (stepPulses s)) = b)
    (hc : b.seq.current = .black m true) (hm : 96 < b.time.black) :
    ∃ takeover, frameTick s = cutGather s (clearAtTick (renderSound (presentPicture takeover b))) := by
  have hnone := showing_of_black hc
  have hlook : lookAheadIfDue b = b :=
    if_neg (by simp [State.lookaheadDue, framesLeft, hc, Nat.not_le.2 hm])
  have hshown : ∀ takeover, (clearAtTick (renderSound (presentPicture takeover b))).showing = none := fun takeover => by
    simp [showing_eq_none, presentPicture, hnone, hc]
  refine ⟨tookOver s b, ?_⟩
  unfold frameTick
  simp only [h, judgeUnits_of_none hnone, hlook]
  rw [checkRepeats_of_none (hshown _)]

theorem exec_boundary_black {n m : Nat} {pos : Pos} {stack : List Pos} (hs : s.seq.state = .running)
    (hc : s.seq.current = .black n true) (hb : s.time.black ≤ 1)
    (hpath : s.seq.path = some { steps := [], stack := stack }) (hp : s.seq.prepared = some (.black pos m))
    (hm : 96 < m) : ∃ t, exec .boundary s = .next t ∧ t.seq.state = .running ∧ t.seq.current = .black m true ∧
    t.time.black = m ∧ t.seq.pos = some pos ∧ t.seq.prepared = none ∧ t.seq.path = none ∧ t.time.count = 0 ∧
    t.time.frame = s.time.frame ∧ t.time.edges = s.time.edges ∧ t.keys = s.keys ∧ t.log = s.log := by
  have hdue : s.boundaryDue = true := by simp [State.boundaryDue, hs, hc, hb]
  have hexec : exec .boundary s = .next (settle (clockTick s)) := by
    show finish (if s.boundaryDue then clockTick s else s) = _
    rw [if_pos hdue]
    rfl
  have htick := sequencerTick_black (s := stepFade (stepPulses (updateTime (fun t => { t with count := 0 }) s)))
    (by simpa using hs) (by simpa using hc) (by simpa using hb) (by simpa using hpath) (by simpa using hp)
  obtain ⟨takeover, hframe⟩ := frameTick_of_black htick rfl hm
  have hnone : ∀ u : State, (beginBlack pos m u).showing = none := fun u => showing_of_black rfl
  refine ⟨_, hexec, ?_⟩
  simp [clockTick, hframe, presentPicture, hnone, hs]

end

/-! ### The limit of repeats (R106) -/

section
variable {s : State}

@[simp] theorem discardPrepared_consecutive (s : State) :
    (discardPrepared s).frames.consecutive = s.frames.consecutive := by
  unfold discardPrepared
  split
  · simp only [dropPreparedSound, dropPreparedFrames, keepPlaces]
    split <;> simp
  · rfl

theorem endShowing_consecutive (outcome : ShowingOutcome) {sh : Showing} (h : s.showing = some sh) :
    (endShowing outcome s).frames.consecutive = 0 := by
  simp [endShowing, h, dropCurrentFrames]

/-- The 48th consecutive repeat ends the showing and halts the sequencer. -/
theorem exec_repeatLimit {sh : Showing} (hc : s.seq.current = .play sh) (hrepeats : 48 ≤ s.frames.consecutive) :
    ∃ t, exec .repeatLimit s = .next t ∧ t.seq.state = .halted ∧ t.seq.halt = some .abortedFault ∧
    t.seq.current = .none ∧ t.keys.bound = none ∧ t.frames.consecutive = 0 ∧
    (∀ r ∈ t.log.records, r.sequence = sh.record → r.outcome = some .abortedFault) := by
  have hsh : s.showing = some sh := (showing_eq_some s sh).2 hc
  have hcheck : checkRepeats s = halt .abortedFault (endShowing .abortedFault s) := by
    simp [checkRepeats, hsh, hrepeats]
  have hexec : exec .repeatLimit s =
      .next (settle (cutGather s (halt .abortedFault (endShowing .abortedFault s)))) := by
    rw [← hcheck]
    rfl
  refine ⟨_, hexec, ?_⟩
  simp [halt, hsh, endShowing_consecutive]
  exact fun r hr hseq => (endShowing_closes .abortedFault hsh hr hseq).1

end

/-! ### When a PLAY takes over (R93, R96) -/

section
variable {s : State} {p : Play}

/-- In PREROLL and in a black gap a prepared PLAY takes over when it is ready. -/
theorem sequencerTick_ready (hp : s.seq.prepared = some (.play p))
    (hs : s.seq.state = .preroll ∨ (s.seq.state = .running ∧ s.seq.current = .none)) :
    sequencerTick s = if playReady p s then takeOver p s else s := by
  have hready : takeOverIfReady s = if playReady p s then takeOver p s else s := by
    simp [takeOverIfReady, preparedPlay_of_eq hp]
  obtain hs | ⟨hs, hc⟩ := hs
  · simpa [sequencerTick, hs] using hready
  · simpa [sequencerTick, runTick, hs, hc, hp] using hready

/-- At the boundary a prepared PLAY takes over, ready or not. -/
theorem sequencerTick_play {n : Nat} {stack : List Pos} (hp : s.seq.prepared = some (.play p))
    (hs : s.seq.state = .running) (hc : s.seq.current = .black n true) (hb : s.time.black ≤ 1)
    (hpath : s.seq.path = some { steps := [], stack := stack }) :
    sequencerTick s = takeOver p (updateSeq (fun q => { q with
      current := .none, path := none, pos := q.pos.map Pos.after }) s) := by
  rw [runTick_boundary hs hc hb, boundaryTick, boundary_of_black hc hpath]
  simp [hp]

/-! ### A PLAY that is skipped at its takeover (R96) -/

theorem blackGap_black {start : Pos} {n : Nat}
    (hentry : (s.seq.lists.getD start.list [])[start.entry]? = some (.black n)) :
    blackGap start s = updateSeq (fun q => { q with prepared := some (.black start n) })
      (updateSeq (fun q => { q with pos := some start })
        (enterRunning (updateSeq (fun q => { q with current := .none, path := none, pauseTimer := none }) s))) := by
  have hwalk := actWalk_of_end (start := start)
    (s := enterRunning (updateSeq (fun q => { q with current := .none, path := none, pauseTimer := none }) s))
    (scan_black 63 _ (by simpa using hentry))
  simp only [blackGap, hwalk]

theorem recheckPlay_bound {u : State} {v : Verdict} (h : recheckPlay p s = (v, u)) : u.keys.bound = s.keys.bound := by
  rw [show u = (recheckPlay p s).2 by rw [h]]
  exact (checkPlay_grants _ _ _ _ _ s).2

/-- A check failed at a takeover skips the PLAY; a BLACK after it stands prepared in a black gap. -/
theorem takeOver_skip {u : State} {reason : SkipReason} {n : Nat} (hc : recheckPlay p s = (.skip reason, u))
    (hp : s.seq.prepared = some (.play p))
    (hentry : (s.seq.lists.getD p.pos.list [])[p.pos.entry + 1]? = some (.black n)) :
    let t := takeOver p s
    t.seq.state = (if s.interlocked then .paused else .running) ∧ t.seq.current = .none ∧ t.seq.path = none ∧
    t.seq.pos = some p.pos.after ∧ t.seq.prepared = some (.black p.pos.after n) ∧ t.keys.prepared = none ∧
    t.keys.bound = s.keys.bound ∧ (∀ x ∈ t.frames.places, x.prepared = false) ∧ t.frames.keyPrepared = none ∧
    (∀ q ∈ t.sound.portions, q.prepared = false) ∧ t.time = s.time ∧ t.log = s.log ∧
    ∀ x : Cause, s.notices.causes[10]? = some x → occurred x (Layout.num 1 p.pos.list ++
      Layout.num 1 p.pos.entry ++ Layout.num 1 p.id ++ Layout.code reason.code) t.notices.causes 10 := by
  have hbound := recheckPlay_bound hc
  have htake : takeOver p s = blackGap p.pos.after (skipPrepared p reason u) := by
    simp only [takeOver, hc]
    rfl
  obtain ⟨keys, rfl⟩ : ∃ keys, u = { s with keys := keys } := ⟨_, recheckPlay_eq hc⟩
  obtain ⟨hkeys, hkey, hplaces, hportions⟩ := skipPrepared_drops (s := { s with keys := keys }) p reason hp
  have hoccurred := fun x hx => skipPrepared_occurred (s := { s with keys := keys }) p reason (x := x) hx
  rw [htake, blackGap_black (n := n) (by simpa [Pos.after] using hentry)]
  simp [hkeys, hkey, State.interlocked]
  exact ⟨hbound, hplaces, hportions, hoccurred⟩

end
end Machine
end Sys2Proof
end

section
/-!
The takeover of a PLAY whose checks pass (R93, R171): the stages of `beginShowing`, and what each of them leaves.
-/
namespace Sys2Proof
namespace Machine

/-! ### What feeds the streams leaves (R160) -/

/-- What feeding the subtitle streams leaves: the timeline but for units 2 to 5, and the occurrences of SHOWING_STARTED. -/
structure FeedsStreams (s t : State) : Prop where
  time : t.time = { s.time with units := t.time.units }
  unit0 : t.time.units[0]? = s.time.units[0]?
  unit1 : t.time.units[1]? = s.time.units[1]?
  started : t.notices.causes[7]? = s.notices.causes[7]?

namespace FeedsStreams
variable {s t u : State}

theorem of_eq (htime : t.time = s.time) (hcause : t.notices.causes[7]? = s.notices.causes[7]?) : FeedsStreams s t :=
  ⟨by rw [htime], by rw [htime], by rw [htime], hcause⟩

theorem refl (s : State) : FeedsStreams s s := of_eq rfl rfl

theorem trans (h : FeedsStreams s t) (h' : FeedsStreams t u) : FeedsStreams s u :=
  ⟨by rw [h'.time, h.time], h'.unit0.trans h.unit0, h'.unit1.trans h.unit1, h'.started.trans h.started⟩

theorem foldl {α : Type} {f : State → α → State} (hf : ∀ s a, FeedsStreams s (f s a)) (l : List α) (s : State) :
    FeedsStreams s (l.foldl f s) := by
  induction l generalizing s with
  | nil => exact refl s
  | cons a l ih => exact (hf s a).trans (ih _)

end FeedsStreams

theorem updateUnit_feeds (k : Nat) (f : CompareUnit → CompareUnit) (s : State) :
    FeedsStreams s (updateUnit (2 + k) f s) := by
  refine ⟨rfl, getElem?_updateAt_other _ _ (by omega), getElem?_updateAt_other _ _ (by omega), rfl⟩

theorem raise_feeds {c : NoticeCause} (detail : List Byte) (s : State) (h : 7 ≠ c.number) :
    FeedsStreams s (raise c detail s) :=
  .of_eq (by simp) (raise_causes_other _ _ _ h)

theorem showCue_feeds (k tag : Nat) (s : State) : FeedsStreams s (showCue k tag s) := by
  refine .of_eq (by simp) ?_
  have hdisplaced : ∀ detail u, (raise .cueDisplaced detail u).notices.causes[7]? = u.notices.causes[7]? :=
    fun detail u => raise_causes_other _ _ _ (by decide)
  unfold showCue
  dsimp only
  (repeat' split) <;> simp [hdisplaced]

theorem loadNextCue_feeds (k : Nat) (s : State) : FeedsStreams s (loadNextCue k s) := by
  have hload : ∀ {f u}, u.time = s.time → u.notices.causes = s.notices.causes → FeedsStreams s (updateUnit (2 + k) f u) :=
    fun htime hcauses => (FeedsStreams.of_eq htime (by rw [hcauses])).trans (updateUnit_feeds k _ _)
  unfold loadNextCue
  dsimp only
  split
  · exact .refl s
  · split
    · exact .refl s
    · split
      · exact .of_eq (by simp) (by simp)
      · exact hload (by simp) (by simp)

theorem fireStream_feeds (k fuel : Nat) (s : State) : FeedsStreams s (fireStream k fuel s) := by
  induction fuel generalizing s with
  | zero => exact .refl s
  | succ fuel ih =>
    unfold fireStream
    split
    · exact .refl s
    · exact (updateUnit_feeds k _ s).trans ((showCue_feeds k _ _).trans ((loadNextCue_feeds k _).trans (ih _)))

theorem feedUnit_feeds (k : Nat) (s : State) : FeedsStreams s (feedUnit k s) :=
  (loadNextCue_feeds k s).trans ((fireStream_feeds k _ _).trans ((loadNextCue_feeds k _).trans (fireStream_feeds k _ _)))

theorem raiseDropped_feeds (stream composition reel : Nat) (counts : List Nat) (s : State) :
    FeedsStreams s (raiseDropped stream composition reel counts s) := by
  unfold raiseDropped
  split
  · exact .refl s
  · exact raise_feeds _ _ (by decide)

theorem setLate_feeds (n : Nat) (s : State) : FeedsStreams s (setLate n s) := .of_eq rfl rfl

theorem countDrops_feeds (c : DropCause) (n : Nat) (s : State) : FeedsStreams s (countDrops c n s) := .of_eq rfl rfl

theorem updateStream_feeds (k : Nat) (f : Stream → Stream) (s : State) : FeedsStreams s (updateStream k f s) :=
  .of_eq rfl rfl

theorem countingLate_feeds (k : Nat) (s : State) : FeedsStreams s (countingLate (feedUnit k) s).2 :=
  (setLate_feeds 0 s).trans ((feedUnit_feeds k _).trans (setLate_feeds _ _))

theorem convertLive_feeds (k : Nat) (s : State) : FeedsStreams s (convertLive k s) := by
  unfold convertLive
  split
  · split
    · exact .refl s
    · split
      · exact .refl s
      · split
        · exact .refl s
        · exact (countDrops_feeds _ _ s).trans ((raiseDropped_feeds _ _ _ _ _).trans
            ((updateStream_feeds k _ _).trans ((countingLate_feeds k _).trans (raiseDropped_feeds _ _ _ _ _))))
  · exact .refl s

/-- A reel start touches the units of the streams only (R159). -/
theorem reelStartCaptions_feeds (s : State) : FeedsStreams s (reelStartCaptions s) := by
  unfold reelStartCaptions
  refine FeedsStreams.trans (.of_eq ?_ ?_) (.foldl (fun u k => convertLive_feeds k u) _ _)
  · simp
  · simp

/-! ### The stages of a takeover (R93) -/

/-- The showing of a PLAY at its takeover, no cue loaded yet. -/
def showingOf (p : Play) (s : State) : Showing :=
  { play := p, record := s.log.next, cues := resolveCues p, nextCue := 0, endFrame := p.lastFrame,
    endReel := p.lastReel, revoked := false, presented := 0, repeated := 0 }

/-- The PLAY is the current showing, with its grant, its readers' holdings and its timeline. -/
def madeCurrent (p : Play) (g : Option (Nat × Grant)) (s : State) : State :=
  startTimeline p (takeOverBanks (takeOverSound (takeOverFrames
    (updateKeys (fun k => { k with bound := g.map (·.1), prepared := none, counted := false })
      (updateSeq (fun q => { q with
        pos := some p.pos, current := .play (showingOf p s), prepared := none, path := none, waitReason := none
        waitLimit := none, waitTimer := none, pauseTimer := none }) s)))))

/-- The detail of SHOWING_STARTED. -/
def startedDetail (p : Play) (g : Option (Nat × Grant)) : List Byte :=
  Layout.num 1 p.pos.list ++ Layout.num 1 p.pos.entry ++ Layout.num 1 p.id ++ Layout.num 1 p.firstReel ++
    Layout.num 1 p.lastReel ++ Layout.opt (fun x => Layout.num 1 (Prod.fst x)) g

/-- The log record is opened, and SHOWING_STARTED raised. -/
def announced (p : Play) (g : Option (Nat × Grant)) (s : State) : State :=
  raise .showingStarted (startedDetail p g) (openRecord p (g.map fun x => (x.1, x.2.key)) s)

/-- The count point is the target of unit 1. -/
def loadCountPoint (p : Play) (s : State) : State :=
  match p.composition.countPoint with
  | some n => updateUnit 1 (CompareUnit.load { frame := n, tag := 0 }) s
  | none => s

/-! ### The targets loaded (R94, R119) -/

/-- A unit 0 into which the next cue of a showing, if there is one, is loaded. -/
def CompareUnit.loadCueOf (sh : Showing) (x : CompareUnit) : CompareUnit :=
  match sh.cues[sh.nextCue]? with
  | some c => x.load { frame := c.1, tag := sh.nextCue }
  | none => x

/-- A showing whose next cue, if there is one, has been loaded. -/
def Showing.cueLoaded (sh : Showing) : Showing :=
  { sh with nextCue := if sh.nextCue < sh.cues.length then sh.nextCue + 1 else sh.nextCue }

/-- A unit 1 into which the count point, if there is one, is loaded. -/
def CompareUnit.loadPointOf (p : Play) (x : CompareUnit) : CompareUnit :=
  match p.composition.countPoint with
  | some n => x.load { frame := n, tag := 0 }
  | none => x

theorem updateAt_id {α : Type} (l : List α) (n : Nat) : updateAt (fun x => x) l n = l := by
  refine List.ext_getElem? fun k => ?_
  rw [getElem?_updateAt]
  split <;> simp

section
variable {s : State} {sh : Showing}

theorem showing_of_current {t : State} (h : t.seq.current = s.seq.current) : t.showing = s.showing := by
  simp [State.showing, h]

theorem loadCue_loads (h : s.showing = some sh) : (loadCue s).showing = some sh.cueLoaded ∧
    (loadCue s).time = { s.time with units := updateAt (CompareUnit.loadCueOf sh) s.time.units 0 } := by
  have hcurrent := (showing_eq_some s sh).1 h
  cases hcue : sh.cues[sh.nextCue]? with
  | some c =>
    have hlt : sh.nextCue < sh.cues.length := (List.getElem?_eq_some_iff.1 hcue).1
    have hload : CompareUnit.loadCueOf sh = CompareUnit.load { frame := c.1, tag := sh.nextCue } := by
      funext x
      simp [CompareUnit.loadCueOf, hcue]
    refine ⟨(showing_eq_some _ _).2 ?_, ?_⟩
    · simp [loadCue, h, updateShowing, hcurrent, Showing.cueLoaded, hlt]
    · simp [loadCue, h, hcue, hload]
  | none =>
    have hge : ¬ sh.nextCue < sh.cues.length := Nat.not_lt.2 (List.getElem?_eq_none_iff.1 hcue)
    have hload : CompareUnit.loadCueOf sh = fun x => x := by
      funext x
      simp [CompareUnit.loadCueOf, hcue]
    have hself : loadCue s = s := by simp [loadCue, h, hcue]
    have hloaded : sh.cueLoaded = sh := by simp [Showing.cueLoaded, hge]
    rw [hself, hloaded, hload, updateAt_id]
    exact ⟨h, rfl⟩

@[simp] theorem loadCountPoint_frame (p : Play) (s : State) :
    (loadCountPoint p s).seq = s.seq ∧ (loadCountPoint p s).keys = s.keys ∧
    (loadCountPoint p s).frames = s.frames ∧ (loadCountPoint p s).log = s.log ∧
    (loadCountPoint p s).lines = s.lines ∧ (loadCountPoint p s).notices = s.notices ∧
    (loadCountPoint p s).catalogue = s.catalogue ∧ (loadCountPoint p s).nvm = s.nvm := by
  unfold loadCountPoint; split <;> simp

theorem loadCountPoint_loads (p : Play) (s : State) :
    (loadCountPoint p s).time = { s.time with units := updateAt (CompareUnit.loadPointOf p) s.time.units 1 } := by
  cases hpoint : p.composition.countPoint with
  | some n =>
    have hload : CompareUnit.loadPointOf p = CompareUnit.load { frame := n, tag := 0 } := by
      funext x
      simp [CompareUnit.loadPointOf, hpoint]
    simp [loadCountPoint, hpoint, hload]
  | none =>
    have hload : CompareUnit.loadPointOf p = fun x => x := by
      funext x
      simp [CompareUnit.loadPointOf, hpoint]
    simp [loadCountPoint, hpoint, hload, updateAt_id]

theorem emptyUnits_getElem? (q : Nat → Bool) (s : State) (n : Nat) : (emptyUnits q s).time.units[n]? =
    (s.time.units[n]?).map fun x => if q n then CompareUnit.empty else x := by
  by_cases hn : n < s.time.units.length <;> simp [emptyUnits, hn]

/-- Units 0 and 1 emptied and loaded for the showing that takes over. -/
def unitsLoaded (p : Play) (s : State) : State :=
  loadCue (loadCue (loadCountPoint p (emptyUnits (fun n => decide (n < 2)) s)))

theorem unitsLoaded_loads (p : Play) (h : s.showing = some sh) :
    (unitsLoaded p s).showing = some sh.cueLoaded.cueLoaded ∧
    (unitsLoaded p s).time = { s.time with units := (unitsLoaded p s).time.units } ∧
    (unitsLoaded p s).time.units[0]? =
      (s.time.units[0]?).map (fun _ => CompareUnit.loadCueOf sh.cueLoaded (CompareUnit.loadCueOf sh .empty)) ∧
    (unitsLoaded p s).time.units[1]? = (s.time.units[1]?).map (fun _ => CompareUnit.loadPointOf p .empty) := by
  generalize hv : loadCountPoint p (emptyUnits (fun n => decide (n < 2)) s) = v
  have hvtime := hv ▸ loadCountPoint_loads p (emptyUnits (fun n => decide (n < 2)) s)
  have hvshow : v.showing = some sh := by
    rw [← hv, ← h]
    exact showing_of_current (by simp)
  obtain ⟨hshow, htime⟩ := loadCue_loads hvshow
  obtain ⟨hshow', htime'⟩ := loadCue_loads hshow
  unfold unitsLoaded
  rw [hv]
  refine ⟨hshow', ?_, ?_, ?_⟩
  · simp [htime', htime, hvtime, emptyUnits]
  · simp [htime', htime, hvtime, emptyUnits_getElem?, getElem?_updateAt]
    rfl
  · simp [htime', htime, hvtime, emptyUnits_getElem?, getElem?_updateAt]
    rfl

theorem cueLoaded_twice (h : sh.nextCue = 0) :
    sh.cueLoaded.cueLoaded = { sh with nextCue := min 2 sh.cues.length } := by
  rcases hcues : sh.cues with _ | ⟨a, _ | ⟨b, rest⟩⟩ <;> simp [Showing.cueLoaded, h, hcues]

theorem loadCueOf_twice (h : sh.nextCue = 0) :
    CompareUnit.loadCueOf sh.cueLoaded (CompareUnit.loadCueOf sh .empty) =
      { armed := (sh.cues[0]?).map fun c => { frame := c.1, tag := 0 }
        pending := (sh.cues[1]?).map fun c => { frame := c.1, tag := 1 } } := by
  rcases hcues : sh.cues with _ | ⟨a, _ | ⟨b, rest⟩⟩ <;>
    simp [CompareUnit.loadCueOf, Showing.cueLoaded, h, hcues, CompareUnit.load, CompareUnit.empty]

theorem loadPointOf_empty (p : Play) : CompareUnit.loadPointOf p .empty =
    { armed := p.composition.countPoint.map fun n => { frame := n, tag := 0 }, pending := none } := by
  cases hpoint : p.composition.countPoint <;>
    simp [CompareUnit.loadPointOf, hpoint, CompareUnit.load, CompareUnit.empty]

end

/-! ### The record opened (R171) -/

theorem openRecord_records (p : Play) (grant : Option (Nat × Nat)) (s : State) :
    (openRecord p grant s).log.records =
      (if 1024 ≤ s.log.records.length then s.log.records.drop 1 else s.log.records) ++
        [openingRecord s.log.next p grant s.keys.clock] := by
  simp only [openRecord, writeRecord_records]
  (repeat' split) <;> simp_all

theorem openRecord_causes (p : Play) (grant : Option (Nat × Nat)) (s : State) {k : Nat} (h34 : k ≠ 34) (h35 : k ≠ 35) :
    (openRecord p grant s).notices.causes[k]? = s.notices.causes[k]? := by
  have hnear : ∀ detail u, (raise .logNearFull detail u).notices.causes[k]? = u.notices.causes[k]? :=
    fun detail u => raise_causes_other _ _ _ h34
  have hfull : ∀ detail u, (raise .logFull detail u).notices.causes[k]? = u.notices.causes[k]? :=
    fun detail u => raise_causes_other _ _ _ h35
  simp only [openRecord, writeRecord_frame]
  (repeat' split) <;> simp [hnear, hfull]

/-! ### The takeover -/

theorem beginShowing_eq (p : Play) (g : Option (Nat × Grant)) (s : State) :
    beginShowing p g s =
      enterRunning (reelStartCaptions (unitsLoaded p (announced p g (madeCurrent p g s)))) := rfl

@[simp] theorem unitsLoaded_frame (p : Play) (s : State) :
    (unitsLoaded p s).keys = s.keys ∧ (unitsLoaded p s).frames = s.frames ∧ (unitsLoaded p s).log = s.log ∧
    (unitsLoaded p s).lines = s.lines ∧ (unitsLoaded p s).notices = s.notices ∧
    (unitsLoaded p s).catalogue = s.catalogue ∧ (unitsLoaded p s).nvm = s.nvm := by
  simp [unitsLoaded]

@[simp] theorem announced_frame (p : Play) (g : Option (Nat × Grant)) (s : State) :
    (announced p g s).seq = s.seq ∧ (announced p g s).keys = s.keys ∧ (announced p g s).time = s.time ∧
    (announced p g s).frames = s.frames ∧ (announced p g s).lines = s.lines := by
  simp [announced]

section
variable (p : Play) (g : Option (Nat × Grant)) (s : State)

theorem madeCurrent_showing : (madeCurrent p g s).showing = some (showingOf p s) := by
  simp [showing_eq_some, madeCurrent, startTimeline]

/-- The current showing after a takeover: two cues of it, or all when it has fewer, are loaded. -/
theorem beginShowing_showing : (beginShowing p g s).showing =
    some { showingOf p s with nextCue := min 2 (resolveCues p).length } := by
  have hshow : (announced p g (madeCurrent p g s)).showing = some (showingOf p s) :=
    (showing_of_current (by simp)).trans (madeCurrent_showing p g s)
  rw [beginShowing_eq]
  calc (enterRunning (reelStartCaptions (unitsLoaded p (announced p g (madeCurrent p g s))))).showing
      = (unitsLoaded p (announced p g (madeCurrent p g s))).showing := showing_of_current (by simp)
    _ = some (showingOf p s).cueLoaded.cueLoaded := (unitsLoaded_loads p hshow).1
    _ = _ := congrArg some (cueLoaded_twice rfl)

/-- The timeline after a takeover: what the takeover made of it, with units 0 and 1 loaded. -/
theorem beginShowing_timeline :
    (beginShowing p g s).time = { (madeCurrent p g s).time with units := (beginShowing p g s).time.units } ∧
    (beginShowing p g s).time.units[0]? = (s.time.units[0]?).map (fun _ =>
      { armed := ((resolveCues p)[0]?).map fun c => { frame := c.1, tag := 0 }
        pending := ((resolveCues p)[1]?).map fun c => { frame := c.1, tag := 1 } }) ∧
    (beginShowing p g s).time.units[1]? = (s.time.units[1]?).map (fun _ =>
      { armed := p.composition.countPoint.map fun n => { frame := n, tag := 0 }, pending := none }) := by
  have hshow : (announced p g (madeCurrent p g s)).showing = some (showingOf p s) :=
    (showing_of_current (by simp)).trans (madeCurrent_showing p g s)
  obtain ⟨-, htime, hunit0, hunit1⟩ := unitsLoaded_loads p hshow
  rw [loadCueOf_twice rfl] at hunit0
  rw [loadPointOf_empty] at hunit1
  have hfeeds := reelStartCaptions_feeds (unitsLoaded p (announced p g (madeCurrent p g s)))
  have hunits : (madeCurrent p g s).time.units = s.time.units := by simp [madeCurrent, startTimeline]
  have hbegun : (beginShowing p g s).time =
      (reelStartCaptions (unitsLoaded p (announced p g (madeCurrent p g s)))).time := by simp [beginShowing_eq]
  rw [hbegun]
  refine ⟨?_, ?_, ?_⟩
  · rw [hfeeds.time, htime, (announced_frame p g _).2.2.1]
  · rw [hfeeds.unit0, hunit0, (announced_frame p g _).2.2.1, hunits]
    rfl
  · rw [hfeeds.unit1, hunit1, (announced_frame p g _).2.2.1, hunits]

theorem beginShowing_counters : let t := beginShowing p g s
    t.time.rate = p.composition.rate ∧ t.time.frame = p.firstFrame ∧ t.time.reel = p.firstReel ∧
    t.time.reelFrame = 0 ∧ t.time.timecode = timecodeOf p.firstFrame p.composition.rate := by
  have htime := (beginShowing_timeline p g s).1
  dsimp only
  rw [htime]
  simp [madeCurrent, startTimeline]

/-- The sequencer, the keys, the log and the frames after a takeover. -/
theorem beginShowing_rest : let t := beginShowing p g s
    t.seq.state = (if s.interlocked then .paused else .running) ∧
    t.keys = { s.keys with bound := g.map (·.1), prepared := none, counted := false } ∧
    t.log.records = (if 1024 ≤ s.log.records.length then s.log.records.drop 1 else s.log.records) ++
      [openingRecord s.log.next p (g.map fun x => (x.1, x.2.key)) s.keys.clock] ∧
    t.frames = { s.frames with
      places := s.frames.places.map fun x => { x with prepared := false }
      job := s.frames.job.map fun j => { j with prepared := false }
      nextCurrent := s.frames.nextPrepared, keyCurrent := s.frames.keyPrepared, keyPrepared := none
      last := none, carried := none, consecutive := 0 } ∧
    t.catalogue = s.catalogue ∧ t.nvm = s.nvm ∧ t.lines = s.lines := by
  simp only [beginShowing_eq]
  simp [announced, openRecord_records, madeCurrent, startTimeline, State.interlocked, takeOverFrames]

theorem beginShowing_occurred {x : Cause} (hx : s.notices.causes[7]? = some x) :
    occurred x (startedDetail p g) (beginShowing p g s).notices.causes 7 := by
  have hopen : (openRecord p (g.map fun x => (x.1, x.2.key)) (madeCurrent p g s)).notices.causes[7]? = some x := by
    rw [openRecord_causes _ _ _ (by decide) (by decide), ← hx]
    simp [madeCurrent, startTimeline]
  have hraised : occurred x (startedDetail p g) (announced p g (madeCurrent p g s)).notices.causes 7 :=
    occurred_raise_at (c := .showingStarted) rfl hopen
  refine occurred_of_eq ?_ hraised
  have hfeeds := (reelStartCaptions_feeds (unitsLoaded p (announced p g (madeCurrent p g s)))).started
  simpa [beginShowing_eq] using hfeeds

end

/-! ### The checks made again -/

section
variable {s u : State} {p fresh : Play} {g : Option (Nat × Grant)}

theorem selectGrant_clock (key : Nat) (s : State) : (selectGrant key s).2.keys.clock = s.keys.clock := by
  unfold selectGrant
  split <;> simp [requestCheck_eq]

theorem checkPlay_clock (pos : Pos) (id : Nat) (first last : Option Nat) (cues : List CueRecord) (s : State) :
    (checkPlay pos id first last cues s).2.keys.clock = s.keys.clock := by
  have selected : ∀ {key x u}, selectGrant key s = (x, u) → u.keys.clock = s.keys.clock := fun {key x u} h => by
    rw [← selectGrant_clock key s, h]
  simp only [checkPlay]
  repeat' split
  · rfl
  · rfl
  · rfl
  · rfl
  · exact selected ‹_›
  · exact selected ‹_›
  · exact selected ‹_›

theorem recheckPlay_clock {v : Verdict} (h : recheckPlay p s = (v, u)) : u.keys.clock = s.keys.clock := by
  rw [← checkPlay_clock p.pos p.id (some p.firstReel) (some p.lastReel) p.cues s]
  exact congrArg (fun w => w.2.keys.clock) h.symm

theorem takeOver_logFull (hc : recheckPlay p s = (.pass fresh g, u)) (hroom : s.log.hasRoom = false) :
    takeOver p s = enterLogFull p u := by
  obtain ⟨keys, rfl⟩ : ∃ keys, u = { s with keys := keys } := ⟨_, recheckPlay_eq hc⟩
  simp [takeOver, hc, hroom]

theorem takeOver_begins (hc : recheckPlay p s = (.pass fresh g, u)) (hroom : s.log.hasRoom = true) :
    takeOver p s = beginShowing { fresh with cues := p.cues } g u := by
  obtain ⟨keys, rfl⟩ : ∃ keys, u = { s with keys := keys } := ⟨_, recheckPlay_eq hc⟩
  simp [takeOver, hc, hroom]

theorem startedDetail_eq (p : Play) (g : Option (Nat × Grant)) : startedDetail p g =
    (p.pos.list :: p.pos.entry :: p.id :: p.firstReel :: [p.lastReel]).flatMap (Layout.num 1) ++
      Layout.opt (Layout.num 1) (g.map (·.1)) := by
  cases g <;> simp [startedDetail, Layout.opt]

/-- A PLAY whose checks pass, with room in the log, is the current showing after its takeover. -/
theorem takeOver_pass (hc : recheckPlay p s = (.pass fresh g, u)) (hroom : s.log.hasRoom = true) :
    let t := takeOver p s
    let cues := resolveCues { fresh with cues := p.cues }
    t.seq.state = (if s.interlocked then .paused else .running) ∧ t.seq.pos = some fresh.pos ∧
    t.seq.prepared = none ∧ t.seq.path = none ∧
    t.showing = some
      { play := { fresh with cues := p.cues }, record := s.log.next, cues := cues, nextCue := min 2 cues.length,
        endFrame := fresh.lastFrame, endReel := fresh.lastReel, revoked := false, presented := 0, repeated := 0 } ∧
    t.keys = { u.keys with bound := g.map (·.1), prepared := none, counted := false } ∧
    t.time.rate = fresh.composition.rate ∧ t.time.frame = fresh.firstFrame ∧ t.time.reel = fresh.firstReel ∧
    t.time.reelFrame = 0 ∧ t.time.timecode = timecodeOf fresh.firstFrame fresh.composition.rate ∧
    (∀ x : CompareUnit, s.time.units[0]? = some x → t.time.units[0]? = some
      { armed := (cues[0]?).map fun c => { frame := c.1, tag := 0 }
        pending := (cues[1]?).map fun c => { frame := c.1, tag := 1 } }) ∧
    (∀ x : CompareUnit, s.time.units[1]? = some x → t.time.units[1]? = some
      { armed := fresh.composition.countPoint.map fun n => { frame := n, tag := 0 }, pending := none }) ∧
    t.log.records = (if 1024 ≤ s.log.records.length then s.log.records.drop 1 else s.log.records) ++
      [{ sequence := s.log.next, outcome := none, mark := false
         showing := some
           { composition := fresh.id, package := fresh.composition.package, tag := fresh.composition.tag
             grant := g.map fun x => (x.1, x.2.key), start := s.keys.clock, stop := none
             firstReel := fresh.firstReel, lastReel := fresh.firstReel, presented := 0, repeated := 0
             counted := none } }] ∧
    t.frames = { s.frames with
      places := s.frames.places.map fun x => { x with prepared := false }
      job := s.frames.job.map fun j => { j with prepared := false }
      nextCurrent := s.frames.nextPrepared, keyCurrent := s.frames.keyPrepared, keyPrepared := none
      last := none, carried := none, consecutive := 0 } ∧
    t.catalogue = s.catalogue ∧ t.nvm = s.nvm ∧ t.lines = s.lines ∧
    ∀ x : Cause, s.notices.causes[7]? = some x → occurred x
      ((fresh.pos.list :: fresh.pos.entry :: fresh.id :: fresh.firstReel :: [fresh.lastReel]).flatMap
        (Layout.num 1) ++ Layout.opt (Layout.num 1) (g.map (·.1))) t.notices.causes 7 := by
  have hclock := recheckPlay_clock hc
  have htake := takeOver_begins hc hroom
  obtain ⟨keys, rfl⟩ : ∃ keys, u = { s with keys := keys } := ⟨_, recheckPlay_eq hc⟩
  generalize hq : { fresh with cues := p.cues } = q at htake
  obtain ⟨hstate, hkeys, hlog, hframes, hcatalogue, hnvm, hlines⟩ := beginShowing_rest q g { s with keys := keys }
  obtain ⟨hrate, hframe, hreel, hreelFrame, htimecode⟩ := beginShowing_counters q g { s with keys := keys }
  obtain ⟨-, hunit0, hunit1⟩ := beginShowing_timeline q g { s with keys := keys }
  have hshow := beginShowing_showing q g { s with keys := keys }
  have hoccurred := fun x hx => beginShowing_occurred q g { s with keys := keys } (x := x) hx
  simp only [startedDetail_eq] at hoccurred
  simp only [htake]
  subst hq
  refine ⟨hstate, by simp, by simp, by simp, hshow, hkeys, hrate, hframe, hreel, hreelFrame, htimecode,
    fun x hx => ?_, fun x hx => ?_, ?_, hframes, hcatalogue, hnvm, hlines, hoccurred⟩
  · rw [hunit0, hx]
    rfl
  · rw [hunit1, hx]
    rfl
  · rw [hlog, ← hclock]
    rfl

end

/-- Settles O46: lookahead, the boundary of a BLACK, the limit of repeats, and the takeover of a PLAY with its three
outcomes. -/
theorem boundariesAndLimitsAct : Obligations.BoundariesAndLimitsAct := by
  refine ⟨fun s h => exec_lookahead h,
    fun s n m pos stack hs hc hb hpath hp hm => exec_boundary_black hs hc hb hpath hp hm,
    fun s sh hc hrepeats => exec_repeatLimit hc hrepeats,
    fun s p hp => ⟨sequencerTick_ready hp, fun n stack hs hc hb hpath => sequencerTick_play hp hs hc hb hpath⟩,
    fun s u p fresh g hc => ⟨takeOver_pass hc, takeOver_logFull hc⟩,
    fun s u p reason n hc hp hentry => takeOver_skip hc hp hentry⟩

end Machine
end Sys2Proof
end

section
/-!
# What the frame clock leaves of the timeline

A fire, a load and the end of a showing move only the starts and the targets; the whole show side leaves the clock, its counts
and the captures. Each pass of a frame tick says so once.
-/

namespace Sys2Proof
namespace Machine

/-- The timeline with the starts and the targets blanked: what a fire, a load or the end of a showing leaves. -/
def Timeline.besideUnits (t : Timeline) : Timeline := { t with starts := [], units := [] }

/-- The timeline with everything blanked that the show moves: the frame clock, its counts and the captures (R110 to R113,
R121). -/
def Timeline.clockSide (t : Timeline) : Timeline :=
  { t with
    rate := 0, frame := 0, reel := 0, reelFrame := 0, timecode := { hours := 0, minutes := 0, seconds := 0, frames := 0 }
    black := 0, starts := [], units := [] }

@[simp] theorem besideUnits_update (t : Timeline) (starts : List Nat) (units : List CompareUnit) :
    Timeline.besideUnits { t with starts := starts, units := units } = t.besideUnits := rfl

@[simp] theorem clockSide_update (t : Timeline) (rate frame reel reelFrame : Nat) (timecode : Timecode) (black : Nat)
    (starts : List Nat) (units : List CompareUnit) :
    Timeline.clockSide { t with
      rate := rate, frame := frame, reel := reel, reelFrame := reelFrame, timecode := timecode, black := black
      starts := starts, units := units } = t.clockSide := rfl

theorem clockSide_of_besideUnits {t u : Timeline} (h : t.besideUnits = u.besideUnits) : t.clockSide = u.clockSide :=
  show t.besideUnits.clockSide = u.besideUnits.clockSide by rw [h]

@[simp] theorem foldl_besideUnits {α : Type} {act : State → α → State} {l : List α} {s : State}
    (h : ∀ u a, (act u a).time.besideUnits = u.time.besideUnits) :
    (l.foldl act s).time.besideUnits = s.time.besideUnits := by
  induction l generalizing s with
  | nil => rfl
  | cons a l ih => simp [ih, h]

theorem FeedsStreams.besideUnits {s t : State} (h : FeedsStreams s t) : t.time.besideUnits = s.time.besideUnits := by
  rw [h.time]; rfl

section
variable (s : State)

@[simp] theorem emptyUnits_besideUnits (p : Nat → Bool) : (emptyUnits p s).time.besideUnits = s.time.besideUnits := rfl

@[simp] theorem convertLive_besideUnits (k : Nat) : (convertLive k s).time.besideUnits = s.time.besideUnits :=
  (convertLive_feeds k s).besideUnits

@[simp] theorem reelStartCaptions_besideUnits : (reelStartCaptions s).time.besideUnits = s.time.besideUnits :=
  (reelStartCaptions_feeds s).besideUnits

@[simp] theorem judgeStreams_besideUnits : (judgeStreams s).time.besideUnits = s.time.besideUnits :=
  foldl_besideUnits fun u k => (fireStream_feeds k _ u).besideUnits

@[simp] theorem loadCue_besideUnits : (loadCue s).time.besideUnits = s.time.besideUnits := by
  unfold loadCue; (repeat' split) <;> simp

@[simp] theorem fireCues_besideUnits (fuel : Nat) : (fireCues fuel s).time.besideUnits = s.time.besideUnits := by
  induction fuel generalizing s with
  | zero => rfl
  | succ fuel ih =>
    unfold fireCues
    split
    · rw [ih, loadCue_besideUnits]; split <;> simp
    · rfl

@[simp] theorem fireCount_besideUnits (fuel : Nat) : (fireCount fuel s).time.besideUnits = s.time.besideUnits := by
  induction fuel generalizing s with
  | zero => rfl
  | succ fuel ih => unfold fireCount; split <;> simp [ih]

@[simp] theorem judgeUnits_besideUnits : (judgeUnits s).time.besideUnits = s.time.besideUnits := by
  simp [judgeUnits]

@[simp] theorem endShowing_besideUnits (outcome : ShowingOutcome) :
    (endShowing outcome s).time.besideUnits = s.time.besideUnits := by
  unfold endShowing; split <;> simp [-emptyUnits_counters]

@[simp] theorem halt_besideUnits (cause : HaltCause) : (halt cause s).time.besideUnits = s.time.besideUnits := by
  simp [halt]

@[simp] theorem checkRepeats_besideUnits : (checkRepeats s).time.besideUnits = s.time.besideUnits := by
  unfold checkRepeats; (repeat' split) <;> simp

end

/-! ### What the show leaves of the clock and the captures -/

section
variable (s : State)

@[simp] theorem reelStartCaptions_clockSide : (reelStartCaptions s).time.clockSide = s.time.clockSide :=
  clockSide_of_besideUnits (by simp)

@[simp] theorem emptyUnits_clockSide (p : Nat → Bool) : (emptyUnits p s).time.clockSide = s.time.clockSide := rfl

@[simp] theorem loadCue_clockSide : (loadCue s).time.clockSide = s.time.clockSide :=
  clockSide_of_besideUnits (by simp)

@[simp] theorem judgeUnits_clockSide : (judgeUnits s).time.clockSide = s.time.clockSide :=
  clockSide_of_besideUnits (by simp)

@[simp] theorem endShowing_clockSide (outcome : ShowingOutcome) :
    (endShowing outcome s).time.clockSide = s.time.clockSide :=
  clockSide_of_besideUnits (by simp)

@[simp] theorem halt_clockSide (cause : HaltCause) : (halt cause s).time.clockSide = s.time.clockSide :=
  clockSide_of_besideUnits (by simp)

@[simp] theorem haltAt_clockSide (pos : Pos) : (haltAt pos s).time.clockSide = s.time.clockSide := by
  simp [haltAt]

@[simp] theorem checkRepeats_clockSide : (checkRepeats s).time.clockSide = s.time.clockSide :=
  clockSide_of_besideUnits (by simp)

@[simp] theorem enterIdle_clockSide : (enterIdle s).time.clockSide = s.time.clockSide := rfl

@[simp] theorem endShow_clockSide (outcome : ShowOutcome) : (endShow outcome s).time.clockSide = s.time.clockSide := by
  simp [endShow]

@[simp] theorem takeUpWalk_clockSide (stop : WalkEnd) : (takeUpWalk stop s).time.clockSide = s.time.clockSide := by
  cases stop <;> simp [takeUpWalk]

theorem actWalk_time_of_eq {start : Pos} {stop : WalkEnd} {u : State} (h : actWalk start s = (stop, u)) :
    u.time = s.time := by
  rw [show u = (actWalk start s).2 by rw [h]]
  simp

@[simp] theorem blackGap_clockSide (start : Pos) : (blackGap start s).time.clockSide = s.time.clockSide := by
  unfold blackGap
  dsimp only
  split <;> rename_i hw <;> simp [actWalk_time_of_eq _ hw]

@[simp] theorem beginShowing_clockSide (p : Play) (g : Option (Nat × Grant)) :
    (beginShowing p g s).time.clockSide = s.time.clockSide := by
  rw [(beginShowing_timeline p g s).1]
  simp [madeCurrent, startTimeline]

theorem recheckPlay_time {p : Play} {u : State} {v : Verdict} (h : recheckPlay p s = (v, u)) : u.time = s.time := by
  rw [show u = (recheckPlay p s).2 by rw [h]]
  simp

@[simp] theorem takeOver_clockSide (p : Play) : (takeOver p s).time.clockSide = s.time.clockSide := by
  unfold takeOver
  split
  · rename_i hp; simp [recheckPlay_time _ hp]
  · rename_i hp; split <;> simp [recheckPlay_time _ hp]

@[simp] theorem endCurrent_clockSide (outcome : Showing → ShowingOutcome) :
    (endCurrent outcome s).time.clockSide = s.time.clockSide := by
  unfold endCurrent
  dsimp only
  (repeat' split) <;> simp

@[simp] theorem boundaryTick_clockSide : (boundaryTick s).time.clockSide = s.time.clockSide := by
  unfold boundaryTick
  dsimp only
  split <;> simp

@[simp] theorem advanceFrame_clockSide : (advanceFrame s).time.clockSide = s.time.clockSide := by
  unfold advanceFrame
  dsimp only
  split <;> simp

@[simp] theorem takeOverIfReady_clockSide : (takeOverIfReady s).time.clockSide = s.time.clockSide := by
  unfold takeOverIfReady; (repeat' split) <;> simp

@[simp] theorem runTick_clockSide : (runTick s).time.clockSide = s.time.clockSide := by
  unfold runTick; (repeat' split) <;> simp

@[simp] theorem sequencerTick_clockSide : (sequencerTick s).time.clockSide = s.time.clockSide := by
  unfold sequencerTick; split <;> simp

/-- A frame tick leaves the clock and the captures. -/
@[simp] theorem frameTick_clockSide : (frameTick s).time.clockSide = s.time.clockSide := by
  simp [frameTick]

end
end Machine
end Sys2Proof

end

section
/-!
# The causes of the timeline through a frame tick

Which passes raise no cause of the timeline's group (R194), so that a frame tick leaves those causes.
-/

namespace Sys2Proof
namespace Machine

/-! ### The causes of the timeline -/

/-- The causes of the timeline's group (R194). -/
@[simp] def timelineCauses : List NoticeCause := [.syncLost, .syncRegained, .captureTaken, .captureOverrun, .cueNotice]

theorem groupOf_of_le {n : Nat} (h : 36 ≤ n) : groupOf n = 7 := by
  unfold groupOf
  split_ifs <;> omega

theorem groupOf_number {c : NoticeCause} (h : c ∉ timelineCauses) : groupOf c.number ≠ 4 := by
  cases c
  case lineEvent n => exact (groupOf_of_le (Nat.le_add_right 36 n)).symm ▸ by decide
  case syncLost | syncRegained | captureTaken | captureOverrun | cueNotice => simp at h
  all_goals decide

theorem performCue_causes {k : Nat} (pos : Pos) (a : CueAction) (s : State) (h : k ≠ 27) :
    (performCue pos a s).notices.causes[k]? = s.notices.causes[k]? := by
  cases a with
  | notice n => exact raise_causes_other _ _ _ h
  | _ => simp [performCue]

section
variable {k : Nat} (hk : groupOf k = 4) (s : State)
include hk

theorem raise_timeline {c : NoticeCause} (detail : List Byte) (hc : c ∉ timelineCauses) :
    (raise c detail s).notices.causes[k]? = s.notices.causes[k]? :=
  raise_causes_other _ _ _ fun h => groupOf_number hc (h ▸ hk)

theorem lookAhead_timeline (start : Pos) : (lookAhead start s).notices.causes[k]? = s.notices.causes[k]? :=
  lookAhead_causes s start (by rintro rfl; cases hk) (by rintro rfl; cases hk)

theorem preparePlay_timeline (p : Play) (g : Option (Nat × Grant)) :
    (preparePlay p g s).notices.causes[k]? = s.notices.causes[k]? :=
  preparePlay_causes s p g (by rintro rfl; cases hk) (by rintro rfl; cases hk)

theorem lookAheadIfDue_timeline : (lookAheadIfDue s).notices.causes[k]? = s.notices.causes[k]? := by
  unfold lookAheadIfDue; split <;> simp [lookAhead_timeline hk]

/-! Feeding the streams -/

theorem showCue_timeline (n tag : Nat) : (showCue n tag s).notices.causes[k]? = s.notices.causes[k]? := by
  unfold showCue
  dsimp only
  (repeat' split) <;> simp [raise_timeline hk]

theorem fireStream_timeline (n fuel : Nat) : (fireStream n fuel s).notices.causes[k]? = s.notices.causes[k]? := by
  induction fuel generalizing s with
  | zero => rfl
  | succ fuel ih => unfold fireStream; split <;> simp [ih, showCue_timeline hk]

theorem judgeStreams_timeline : (judgeStreams s).notices.causes[k]? = s.notices.causes[k]? :=
  foldl_causes fun u n => fireStream_timeline hk u n _

theorem raiseDropped_timeline (stream composition reel : Nat) (counts : List Nat) :
    (raiseDropped stream composition reel counts s).notices.causes[k]? = s.notices.causes[k]? := by
  unfold raiseDropped; split <;> simp [raise_timeline hk]

theorem feedUnit_timeline (n : Nat) : (feedUnit n s).notices.causes[k]? = s.notices.causes[k]? := by
  simp [feedUnit, fireStream_timeline hk]

theorem convertLive_timeline (n : Nat) : (convertLive n s).notices.causes[k]? = s.notices.causes[k]? := by
  unfold convertLive
  dsimp only
  (repeat' split) <;> simp [raiseDropped_timeline hk, countingLate, feedUnit_timeline hk]

theorem reelStartCaptions_timeline : (reelStartCaptions s).notices.causes[k]? = s.notices.causes[k]? := by
  simp only [reelStartCaptions]
  rw [foldl_causes fun u n => convertLive_timeline hk u n]
  simp

theorem advanceFrame_timeline : (advanceFrame s).notices.causes[k]? = s.notices.causes[k]? := by
  unfold advanceFrame
  dsimp only
  split <;> simp [reelStartCaptions_timeline hk]

/-! The other units -/

theorem performCount_timeline (c : Count) : (performCount c s).notices.causes[k]? = s.notices.causes[k]? := by
  simp only [performCount, raiseCount]
  (repeat' split) <;> simp [raise_timeline hk]

theorem countShowing_timeline : (countShowing s).notices.causes[k]? = s.notices.causes[k]? := by
  unfold countShowing
  dsimp only
  (repeat' split) <;> simp [performCount_timeline hk]

theorem fireCount_timeline (fuel : Nat) : (fireCount fuel s).notices.causes[k]? = s.notices.causes[k]? := by
  induction fuel generalizing s with
  | zero => rfl
  | succ fuel ih => unfold fireCount; split <;> simp [ih, countShowing_timeline hk]

omit hk in
theorem fireCues_causes (h27 : k ≠ 27) (fuel : Nat) :
    (fireCues fuel s).notices.causes[k]? = s.notices.causes[k]? := by
  induction fuel generalizing s with
  | zero => rfl
  | succ fuel ih =>
    unfold fireCues
    split
    · simp only [ih, loadCue_frame]
      split <;> simp [performCue_causes, h27]
    · rfl

theorem judgeUnits_timeline (h27 : k ≠ 27) : (judgeUnits s).notices.causes[k]? = s.notices.causes[k]? := by
  simp [judgeUnits, judgeStreams_timeline hk, fireCount_timeline hk, fireCues_causes _ h27]

theorem presentPicture_timeline (takeover : Bool) :
    (presentPicture takeover s).notices.causes[k]? = s.notices.causes[k]? := by
  unfold presentPicture presentDue repeatFrame
  dsimp only
  (repeat' split) <;> simp [raise_timeline hk]

theorem renderSound_timeline : (renderSound s).notices.causes[k]? = s.notices.causes[k]? := by
  unfold renderSound renderDue outputPortion soundUnderrun
  dsimp only
  (repeat' split) <;> simp [raise_timeline hk]

/-! Showings and shows -/

theorem endShowing_timeline (outcome : ShowingOutcome) :
    (endShowing outcome s).notices.causes[k]? = s.notices.causes[k]? := by
  unfold endShowing; split <;> simp [raise_timeline hk]

theorem halt_timeline (cause : HaltCause) : (halt cause s).notices.causes[k]? = s.notices.causes[k]? := by
  simp [halt, raise_timeline hk]

theorem haltAt_timeline (pos : Pos) : (haltAt pos s).notices.causes[k]? = s.notices.causes[k]? := by
  simp [haltAt, halt_timeline hk]

theorem checkRepeats_timeline : (checkRepeats s).notices.causes[k]? = s.notices.causes[k]? := by
  unfold checkRepeats; (repeat' split) <;> simp [halt_timeline hk, endShowing_timeline hk]

theorem endShow_timeline (outcome : ShowOutcome) : (endShow outcome s).notices.causes[k]? = s.notices.causes[k]? := by
  simp [endShow, raise_timeline hk, endShowing_timeline hk]

theorem enterWait_timeline (pos : Pos) (timeout : Option Nat) :
    (enterWait pos timeout s).notices.causes[k]? = s.notices.causes[k]? := by
  simp [enterWait, lookAhead_timeline hk, raiseWaiting, raise_timeline hk]

theorem actStep_timeline (step : PathStep) : (actStep step s).notices.causes[k]? = s.notices.causes[k]? := by
  cases step <;> simp [actStep, raise_timeline hk]

theorem actPath_timeline : (actPath s).notices.causes[k]? = s.notices.causes[k]? := by
  unfold actPath
  split
  · rfl
  · exact foldl_causes fun u step => actStep_timeline hk u step

theorem actWalk_timeline {start : Pos} {stop : WalkEnd} {u : State} (h : actWalk start s = (stop, u)) :
    u.notices.causes[k]? = s.notices.causes[k]? := by
  rw [show u = (actWalk start s).2 by rw [h]]
  simp only [actWalk]
  rw [foldl_causes fun u step => actStep_timeline hk u step]
  simp

theorem blackGap_timeline (start : Pos) : (blackGap start s).notices.causes[k]? = s.notices.causes[k]? := by
  unfold blackGap
  dsimp only
  split <;> rename_i hw <;>
    simp [preparePlay_timeline hk, enterWait_timeline hk, endShow_timeline hk, haltAt_timeline hk, actWalk_timeline hk _ hw]

theorem openRecord_timeline (p : Play) (grant : Option (Nat × Nat)) :
    (openRecord p grant s).notices.causes[k]? = s.notices.causes[k]? :=
  openRecord_causes p grant s (by rintro rfl; cases hk) (by rintro rfl; cases hk)

theorem beginShowing_keepsCauses (p : Play) (g : Option (Nat × Grant)) :
    (beginShowing p g s).notices.causes[k]? = s.notices.causes[k]? := by
  simp [beginShowing_eq, reelStartCaptions_timeline hk, announced, raise_timeline hk, openRecord_timeline hk, madeCurrent,
    startTimeline]

omit hk in
theorem recheckPlay_notices {s : State} {p : Play} {u : State} {v : Verdict} (h : recheckPlay p s = (v, u)) :
    u.notices = s.notices := by
  rw [show u = (recheckPlay p s).2 by rw [h]]
  simp

theorem takeOver_timeline (p : Play) : (takeOver p s).notices.causes[k]? = s.notices.causes[k]? := by
  unfold takeOver
  split
  · rename_i hp
    simp [blackGap_timeline hk, raise_timeline hk, recheckPlay_notices hp]
  · rename_i hp
    split
    · simp [beginShowing_keepsCauses hk, recheckPlay_notices hp]
    · simp [enterLogFull, raiseWaiting, raise_timeline hk, recheckPlay_notices hp]

theorem endCurrent_timeline (outcome : Showing → ShowingOutcome) :
    (endCurrent outcome s).notices.causes[k]? = s.notices.causes[k]? := by
  unfold endCurrent
  dsimp only
  (repeat' split) <;> simp [endShowing_timeline hk, lookAhead_timeline hk]

theorem boundaryTick_timeline : (boundaryTick s).notices.causes[k]? = s.notices.causes[k]? := by
  unfold boundaryTick
  dsimp only
  split <;> simp [actPath_timeline hk, endCurrent_timeline hk, takeOver_timeline hk, enterWait_timeline hk,
    endShow_timeline hk, haltAt_timeline hk, beginBlack]

theorem takeOverIfReady_timeline : (takeOverIfReady s).notices.causes[k]? = s.notices.causes[k]? := by
  unfold takeOverIfReady; (repeat' split) <;> simp [takeOver_timeline hk]

theorem sequencerTick_timeline : (sequencerTick s).notices.causes[k]? = s.notices.causes[k]? := by
  unfold sequencerTick runTick
  (repeat' split) <;>
    simp [boundaryTick_timeline hk, advanceFrame_timeline hk, takeOverIfReady_timeline hk, beginBlack]

/-- A frame tick raises no cause of the timeline but CUE_NOTICE. -/
theorem frameTick_causes (h27 : k ≠ 27) : (frameTick s).notices.causes[k]? = s.notices.causes[k]? := by
  simp [frameTick, checkRepeats_timeline hk, renderSound_timeline hk, presentPicture_timeline hk,
    lookAheadIfDue_timeline hk, judgeUnits_timeline hk _ h27, sequencerTick_timeline hk]

end
end Machine
end Sys2Proof

end

section
/-!
# The counters and the timecode (O49)
-/

namespace Sys2Proof
namespace Machine

/-! ### The timecode (R116) -/

/-- A stage of the cascade that does not overflow. -/
theorem stage_rises {a n : Nat} (h : a % n + 1 < n) : (a + 1) % n = a % n + 1 ∧ (a + 1) / n = a / n := by
  have hone : 1 % n = 1 := Nat.mod_eq_of_lt (by omega)
  rw [Nat.add_mod_of_add_mod_lt (by omega), Nat.add_div_eq_of_add_mod_lt (by omega), hone,
    Nat.div_eq_of_lt (by omega : 1 < n)]
  exact ⟨rfl, rfl⟩

/-- A stage of the cascade that overflows into the next. -/
theorem stage_overflows {a n : Nat} (hn : 0 < n) (h : ¬ a % n + 1 < n) :
    (a + 1) % n = 0 ∧ (a + 1) / n = a / n + 1 := by
  have hlt := Nat.mod_lt a hn
  have hsum : a + 1 = n * (a / n + 1) := by
    have := Nat.div_add_mod a n
    rw [Nat.mul_add]
    omega
  rw [hsum, Nat.mul_mod_right, Nat.mul_div_cancel_left _ hn]
  exact ⟨rfl, rfl⟩

theorem timecodeOf_eq (f rate : Nat) : timecodeOf f rate =
    { frames := f % rate, seconds := f / rate % 60, minutes := f / rate / 60 % 60
      hours := f / rate / 60 / 60 % 100 } := by
  simp [timecodeOf, Nat.div_div_eq_div_mul, Nat.mul_comm rate, Nat.mul_right_comm _ rate]

/-- One tick of the cascade gives the timecode of the next frame. -/
theorem timecodeOf_tick (f : Nat) {rate : Nat} (hrate : 0 < rate) :
    (timecodeOf f rate).tick rate = timecodeOf (f + 1) rate := by
  rw [timecodeOf_eq, timecodeOf_eq, Timecode.tick]
  by_cases hf : f % rate + 1 < rate
  · simp [hf, stage_rises hf]
  obtain ⟨hfmod, hfdiv⟩ := stage_overflows hrate hf
  rw [if_neg hf, hfmod, hfdiv]
  generalize f / rate = q
  by_cases hs : q % 60 + 1 < 60
  · simp [hs, stage_rises hs]
  obtain ⟨hsmod, hsdiv⟩ := stage_overflows (by decide) hs
  rw [if_neg hs, hsmod, hsdiv]
  generalize q / 60 = m
  by_cases hm : m % 60 + 1 < 60
  · simp [hm, stage_rises hm]
  obtain ⟨hmmod, hmdiv⟩ := stage_overflows (by decide) hm
  rw [if_neg hm, hmmod, hmdiv]
  by_cases hh : m / 60 % 100 + 1 < 100
  · simp [hh, stage_rises hh]
  · simp [hh, stage_overflows (by decide) hh]

/-! ### The counters at a tick (R115) -/

theorem frameTick_besideUnits (s : State) :
    (frameTick s).time.besideUnits = (sequencerTick (stepFade (stepPulses s))).time.besideUnits := by
  simp [frameTick]

/-- The sequencer's share of a tick with a current showing short of its boundary. -/
theorem sequencerTick_advances {s : State} {sh : Showing} (hs : s.seq.state = .running) (hc : s.seq.current = .play sh)
    (hf : s.time.frame < sh.endFrame) : sequencerTick s = advanceFrame s := by
  simp [sequencerTick, runTick, State.boundaryDue, hs, hc, hf]

theorem takeOverIfReady_of_not {s : State} (h : ∀ p, s.seq.prepared = some (.play p) → playReady p s = false) :
    takeOverIfReady s = s := by
  unfold takeOverIfReady State.preparedPlay
  cases hp : s.seq.prepared with
  | none => rfl
  | some e => cases e <;> simp_all

@[simp] theorem stepFade_portions (s : State) : (stepFade s).sound.portions = s.sound.portions := by
  unfold stepFade; dsimp only; (repeat' split) <;> rfl

@[simp] theorem playReady_stepped (p : Play) (s : State) : playReady p (stepFade (stepPulses s)) = playReady p s := by
  simp [playReady, heldFrames]

/-- Outside RUNNING the sequencer does nothing, unless a PLAY takes over in PREROLL. -/
theorem sequencerTick_waits {s : State} (hs : s.seq.state ≠ .running)
    (hp : s.seq.state = .preroll → ∀ p, s.seq.prepared = some (.play p) → playReady p s = false) :
    sequencerTick s = s := by
  unfold sequencerTick
  split
  · exact absurd ‹_› hs
  · exact takeOverIfReady_of_not (hp ‹_›)
  · rfl

theorem advanceFrame_besideUnits (s : State) : (advanceFrame s).time.besideUnits =
    Timeline.besideUnits { s.time with
      frame := s.time.frame + 1, timecode := s.time.timecode.tick s.time.rate
      reel := if s.time.frame + 1 ∈ s.time.starts.drop 1 then s.time.reel + 1 else s.time.reel
      reelFrame := if s.time.frame + 1 ∈ s.time.starts.drop 1 then 0 else s.time.reelFrame + 1 } := by
  unfold advanceFrame
  by_cases h : s.time.frame + 1 ∈ s.time.starts.tail
  · simp [h]
  · simp [h]

/-- Between two PLAYs, with no BLACK to begin and no PLAY that is ready, the gap goes on. -/
theorem sequencerTick_gap {s : State} (hs : s.seq.state = .running) (hc : s.seq.current = .none)
    (hb : ∀ pos n, s.seq.prepared ≠ some (.black pos n))
    (hp : ∀ p, s.seq.prepared = some (.play p) → playReady p s = false) : sequencerTick s = s := by
  have hrun : sequencerTick s = takeOverIfReady s := by
    simp only [sequencerTick, hs, runTick, hc]
  exact hrun.trans (takeOverIfReady_of_not hp)

/-- A BLACK short of its boundary counts its frames down. -/
theorem sequencerTick_counts {s : State} {n : Nat} {begun : Bool} (hs : s.seq.state = .running)
    (hc : s.seq.current = .black n begun) (hb : begun = true → 1 < s.time.black) :
    (sequencerTick s).time = { s.time with black := if begun then s.time.black - 1 else n } := by
  cases begun with
  | false => simp [sequencerTick, runTick, hs, hc]
  | true =>
    have hdue : s.boundaryDue = false := by simp [State.boundaryDue, hc, hb rfl]
    simp [sequencerTick, runTick, hs, hc, hdue]

/-- The counters of two timelines that differ in the starts and the targets only. -/
theorem counters_of_besideUnits {t u : Timeline} (h : t.besideUnits = u.besideUnits) :
    t.frame = u.frame ∧ t.rate = u.rate ∧ t.reel = u.reel ∧ t.reelFrame = u.reelFrame ∧ t.timecode = u.timecode ∧
    t.black = u.black := by
  simp only [Timeline.besideUnits, Timeline.mk.injEq] at h
  simp [h]

/-- The counters at a tick of which the sequencer's share leaves the timeline but the count of a BLACK. -/
theorem counters_stand {s : State} {black : Nat}
    (h : (sequencerTick (stepFade (stepPulses s))).time = { s.time with black := black }) :
    let t := (frameTick s).time
    (t.frame = s.time.frame ∧ t.reel = s.time.reel ∧ t.reelFrame = s.time.reelFrame ∧
      t.timecode = s.time.timecode ∧ t.rate = s.time.rate) ∧ t.black = black := by
  have hbeside := frameTick_besideUnits s
  rw [h] at hbeside
  obtain ⟨hframe, hrate, hreel, hreelFrame, htimecode, hblack⟩ := counters_of_besideUnits hbeside
  exact ⟨⟨hframe, hreel, hreelFrame, htimecode, hrate⟩, hblack⟩

/-- The counters at a tick that presents the next frame of the current showing. -/
theorem counters_advance {s : State} {sh : Showing} (hs : s.seq.state = .running) (hc : s.seq.current = .play sh)
    (hf : s.time.frame < sh.endFrame) : (frameTick s).time.besideUnits = Timeline.besideUnits { s.time with
      frame := s.time.frame + 1, timecode := s.time.timecode.tick s.time.rate
      reel := if s.time.frame + 1 ∈ s.time.starts.drop 1 then s.time.reel + 1 else s.time.reel
      reelFrame := if s.time.frame + 1 ∈ s.time.starts.drop 1 then 0 else s.time.reelFrame + 1 } := by
  rw [frameTick_besideUnits, sequencerTick_advances (sh := sh) (by simpa using hs) (by simpa using hc) (by simpa using hf),
    advanceFrame_besideUnits]
  simp

/-- Settles O49: the cascade stage by stage, and the timeline after each of the sequencer's shares of a tick. -/
theorem timecodeTicksWithTheFrame : Obligations.TimecodeTicksWithTheFrame := by
  refine ⟨fun f rate => timecodeOf_tick f, fun s sh hs hc hf => ?_, fun s hs hp => ?_, fun s n begun hs hc hb => ?_,
    fun s hs hc hb hp => ?_⟩
  · obtain ⟨hframe, hrate, hreel, hreelFrame, htimecode, hblack⟩ := counters_of_besideUnits (counters_advance hs hc hf)
    refine ⟨hframe, hrate, hblack, fun hm => ?_, fun hm => ?_, fun hpos hcode => ?_⟩
    · exact ⟨hreel.trans (if_pos hm), hreelFrame.trans (if_pos hm)⟩
    · exact ⟨hreel.trans (if_neg hm), hreelFrame.trans (if_neg hm)⟩
    · calc (frameTick s).time.timecode = s.time.timecode.tick s.time.rate := htimecode
        _ = timecodeOf (s.time.frame + 1) s.time.rate := by rw [hcode]; exact timecodeOf_tick _ hpos
        _ = timecodeOf (frameTick s).time.frame (frameTick s).time.rate :=
          congrArg₂ timecodeOf hframe.symm hrate.symm
  · refine counters_stand ?_
    rw [sequencerTick_waits (by simpa using hs) (by simpa using hp)]
    simp
  · refine counters_stand ?_
    rw [sequencerTick_counts (n := n) (begun := begun) (by simpa using hs) (by simpa using hc) (by simpa using hb)]
    simp
  · refine counters_stand ?_
    rw [sequencerTick_gap (by simpa using hs) (by simpa using hc) (by simpa using hb) (by simpa using hp)]
    simp

end Machine
end Sys2Proof

end

section
/-!
# Sources and captures (O48)
-/

namespace Sys2Proof
namespace Machine

/-! ### The clock and the captures, which no other command moves -/

@[simp] theorem foldl_clockSide {α : Type} {act : State → α → State} {l : List α} {s : State}
    (h : ∀ u a, (act u a).time.clockSide = u.time.clockSide) : (l.foldl act s).time.clockSide = s.time.clockSide := by
  induction l generalizing s with
  | nil => rfl
  | cons a l ih => simp [ih, h]

@[simp] theorem whenRoom_clockSide {turn : Bool} {command : Instr} {act : State → State} {s : State}
    (h : ∀ u, (act u).time.clockSide = u.time.clockSide) :
    (whenRoom turn command act s).time.clockSide = s.time.clockSide := by
  unfold whenRoom; split <;> simp [h]

@[simp] theorem completeTransfer_clockSide {c : Client} {ok : Bool} {act : Transfer → State → State} {s : State}
    (h : ∀ r u, (act r u).time.clockSide = u.time.clockSide) :
    (completeTransfer c ok act s).time.clockSide = s.time.clockSide := by
  unfold completeTransfer; simp only []; (repeat' split) <;> simp [h]

@[simp] theorem convertLive_clockSide (k : Nat) (s : State) : (convertLive k s).time.clockSide = s.time.clockSide :=
  clockSide_of_besideUnits (convertLive_besideUnits s k)

@[simp] theorem finishLoad_clockSide (l : Loader) (s : State) : (finishLoad l s).time.clockSide = s.time.clockSide := by
  simp only [finishLoad]; (repeat' split) <;> simp

@[simp] theorem failLoad_clockSide (l : Loader) (s : State) : (failLoad l s).time.clockSide = s.time.clockSide := by
  simp only [failLoad]; (repeat' split) <;> simp

theorem lookup_time {reader : Reader} {kind : AskKind} {track block : Nat} {s u : State} {a : Answer}
    (h : lookup reader kind track block s = (a, u)) : u.time = s.time := by
  rw [show u = (lookup reader kind track block s).2 by rw [h]]
  simp

@[simp] theorem lookUpCues_clockSide (l : Loader) (s : State) : (lookUpCues l s).time.clockSide = s.time.clockSide := by
  unfold lookUpCues
  dsimp only
  split <;> simp [lookup_time ‹_›]

@[simp] theorem beginLoad_clockSide (s : State) : (beginLoad s).time.clockSide = s.time.clockSide := by
  simp only [beginLoad]; (repeat' split) <;> simp

@[simp] theorem subtitleAnswer_clockSide (a : Answer) (s : State) :
    (subtitleAnswer a s).time.clockSide = s.time.clockSide := by
  unfold subtitleAnswer; (repeat' split) <;> simp

@[simp] theorem subtitleTransfer_clockSide (ok : Bool) (t : Transfer) (s : State) :
    (subtitleTransfer ok t s).time.clockSide = s.time.clockSide := by
  simp only [subtitleTransfer]; (repeat' split) <;> simp

@[simp] theorem readerAnswer_clockSide (r : Reader) (a : Answer) (s : State) :
    (readerAnswer r a s).time.clockSide = s.time.clockSide := by
  unfold readerAnswer; (repeat' split) <;> simp

@[simp] theorem answerAll_clockSide (a : Answer) (asks : List Ask) (s : State) :
    (answerAll a asks s).time.clockSide = s.time.clockSide :=
  foldl_clockSide fun u q => by split <;> simp

@[simp] theorem answerFromMap_clockSide (track : Nat) (extents : List Extent) (q : Ask) (s : State) :
    (answerFromMap track extents q s).time.clockSide = s.time.clockSide := by
  unfold answerFromMap; (repeat' split) <;> simp

@[simp] theorem completeFill_clockSide (ok : Bool) (s : State) : (completeFill ok s).time.clockSide = s.time.clockSide := by
  unfold completeFill
  dsimp only
  repeat' split
  · rfl
  · simp
  · simp
  · rw [foldl_clockSide fun u q => answerFromMap_clockSide _ _ q u]
    simp

@[simp] theorem flushTrack_clockSide (track : Nat) (s : State) : (flushTrack track s).time.clockSide = s.time.clockSide := by
  simp [flushTrack]

@[simp] theorem deleteTrack_clockSide (track : Nat) (s : State) :
    (deleteTrack track s).time.clockSide = s.time.clockSide := by
  simp [deleteTrack]

@[simp] theorem serveTrackDelete_clockSide (turn : Bool) (frame : Frame) (track : Nat) (s : State) :
    (serveTrackDelete turn frame track s).time.clockSide = s.time.clockSide := by
  simp only [serveTrackDelete]; (repeat' split) <;> simp

@[simp] theorem damageTrack_clockSide (n : Nat) (slot : TrackSlot) (reason : DamageReason) (content : Option ContentCode)
    (s : State) : (damageTrack n slot reason content s).time.clockSide = s.time.clockSide := by
  unfold damageTrack; (repeat' split) <;> simp

@[simp] theorem judgeData_clockSide (n : Nat) (slot : TrackSlot) (g : Segment) (s : State) :
    (judgeData n slot g s).time.clockSide = s.time.clockSide := by
  simp only [judgeData]; (repeat' split) <;> simp

@[simp] theorem actOnSegment_clockSide (g : Segment) (s : State) : (actOnSegment g s).time.clockSide = s.time.clockSide := by
  unfold actOnSegment; (repeat' split) <;> simp

@[simp] theorem pumpSegment_clockSide (s : State) : (pumpSegment s).time.clockSide = s.time.clockSide := by
  unfold pumpSegment; (repeat' split) <;> simp

@[simp] theorem completeDescription_clockSide (n : Nat) (slot : TrackSlot) (e : TrackEntry) (block : List Byte) (s : State) :
    (completeDescription n slot e block s).time.clockSide = s.time.clockSide := by
  unfold completeDescription; (repeat' split) <;> simp

@[simp] theorem gatherWritten_clockSide (g : Gather) (s : State) :
    (gatherWritten g s).time.clockSide = s.time.clockSide := by
  unfold gatherWritten; (repeat' split) <;> simp

@[simp] theorem gatherFailed_clockSide (g : Gather) (s : State) : (gatherFailed g s).time.clockSide = s.time.clockSide := by
  unfold gatherFailed; (repeat' split) <;> simp

@[simp] theorem dataWritten_clockSide (ok : Bool) (g : Gather) (dropped : Bool) (s : State) :
    (dataWritten ok g dropped s).time.clockSide = s.time.clockSide := by
  unfold dataWritten; (repeat' split) <;> simp

@[simp] theorem mapWritten_clockSide (ok : Bool) (m : MapBlock) (reply : Option Reply) (s : State) :
    (mapWritten ok m reply s).time.clockSide = s.time.clockSide := by
  simp only [mapWritten]; (repeat' split) <;> simp

@[simp] theorem mapBlockWriteComplete_clockSide (ok : Bool) (s : State) :
    (mapBlockWriteComplete ok s).time.clockSide = s.time.clockSide := by
  unfold mapBlockWriteComplete; split <;> simp

@[simp] theorem interruptTrack_clockSide (id : Nat) (s : State) :
    (interruptTrack id s).time.clockSide = s.time.clockSide := by
  unfold interruptTrack; (repeat' split) <;> simp

@[simp] theorem serveIngestAbort_clockSide (frame : Frame) (s : State) :
    (serveIngestAbort frame s).time.clockSide = s.time.clockSide := by
  simp only [serveIngestAbort]; (repeat' split) <;> simp

@[simp] theorem beginBlack_clockSide (pos : Pos) (n : Nat) (s : State) :
    (beginBlack pos n s).time.clockSide = s.time.clockSide := by
  simp [beginBlack]

@[simp] theorem skipBoundary_clockSide (s : State) : (skipBoundary s).time.clockSide = s.time.clockSide := by
  simp only [skipBoundary]; (repeat' split) <;> simp

@[simp] theorem leaveWait_clockSide (s : State) : (leaveWait s).time.clockSide = s.time.clockSide := by
  simp only [leaveWait]; (repeat' split) <;> simp

@[simp] theorem leaveLogFull_clockSide (s : State) : (leaveLogFull s).time.clockSide = s.time.clockSide := by
  unfold leaveLogFull; dsimp only
  split
  · simp
  · rename_i p _
    have hf := recheckPlay_frame p s
    generalize recheckPlay p s = r at hf ⊢
    obtain ⟨v, u⟩ := r
    cases v <;> simp_all

@[simp] theorem expirePause_clockSide (s : State) : (expirePause s).time.clockSide = s.time.clockSide := by
  simp [expirePause]

@[simp] theorem loseLink_clockSide (s : State) : (loseLink s).time.clockSide = s.time.clockSide := by
  unfold loseLink; (repeat' split) <;> simp

@[simp] theorem concludeCheck_clockSide (outcome : CheckOutcome) (answered : Option Nat) (s : State) :
    (concludeCheck outcome answered s).time.clockSide = s.time.clockSide := by
  simp only [concludeCheck]; (repeat' split) <;> simp

@[simp] theorem serveShowStart_clockSide (frame : Frame) (s : State) :
    (serveShowStart frame s).time.clockSide = s.time.clockSide := by
  simp only [serveShowStart]; (repeat' split) <;> simp

theorem answerTry_clockSide {kind : Nat} {frame : Frame} {act : State → Except Reason State} {s : State}
    (h : ∀ t, act s = .ok t → t.time.clockSide = s.time.clockSide) :
    (answerTry kind frame act s).time.clockSide = s.time.clockSide := by
  unfold answerTry
  split <;> simp_all

theorem tryGo_clockSide {s t : State} (h : tryGo s = .ok t) : t.time.clockSide = s.time.clockSide := by
  unfold tryGo at h; (repeat' split at h) <;> simp_all <;> (subst h; simp)

@[simp] theorem answerTry_tryGo_clockSide (kind : Nat) (frame : Frame) (s : State) :
    (answerTry kind frame tryGo s).time.clockSide = s.time.clockSide :=
  answerTry_clockSide fun _ => tryGo_clockSide

theorem trySkip_clockSide {s t : State} (h : trySkip s = .ok t) : t.time.clockSide = s.time.clockSide := by
  unfold trySkip at h; (repeat' split at h) <;> simp_all <;> (subst h; simp)

@[simp] theorem answerTry_trySkip_clockSide (kind : Nat) (frame : Frame) (s : State) :
    (answerTry kind frame trySkip s).time.clockSide = s.time.clockSide :=
  answerTry_clockSide fun _ => trySkip_clockSide

theorem tryStop_clockSide {s t : State} (h : tryStop s = .ok t) : t.time.clockSide = s.time.clockSide := by
  unfold tryStop at h; (repeat' split at h) <;> simp_all <;> (subst h; simp)

@[simp] theorem answerTry_tryStop_clockSide (kind : Nat) (frame : Frame) (s : State) :
    (answerTry kind frame tryStop s).time.clockSide = s.time.clockSide :=
  answerTry_clockSide fun _ => tryStop_clockSide

@[simp] theorem servePauseLimit_clockSide (frame : Frame) (seconds : Nat) (s : State) :
    (servePauseLimit frame seconds s).time.clockSide = s.time.clockSide := by
  simp only [servePauseLimit]; (repeat' split) <;> simp

@[simp] theorem showResetSequencer_clockSide (s : State) : (showResetSequencer s).time.clockSide = s.time.clockSide := by
  unfold showResetSequencer; (repeat' split) <;> simp

@[simp] theorem showReset_clockSide (s : State) : (showReset s).time.clockSide = s.time.clockSide := by
  simp [showReset]

@[simp] theorem serveResetShow_clockSide (frame : Frame) (s : State) :
    (serveResetShow frame s).time.clockSide = s.time.clockSide := by
  simp [serveResetShow]

/-! ### The queue of captures (R121, R122) -/

/-- What is kept of the clock and the captures holds the captures. -/
@[simp] theorem clockSide_captures (t : Timeline) : t.clockSide.captures = t.captures := rfl

/-- The queue of captures fits (R121). -/
def State.capturesFit (s : State) : Prop := s.time.clockSide.captures.length ≤ 8

section
variable {s t : State}

theorem capturesFit_of_clockSide (h : s.capturesFit) (ht : t.time.clockSide = s.time.clockSide) : t.capturesFit := by
  rwa [State.capturesFit, ht]

theorem takeCapture_fits (line : Option Nat) (h : s.capturesFit) : (takeCapture line s).capturesFit := by
  unfold takeCapture
  split
  next hroom => simpa [State.capturesFit] using hroom
  next => simpa [State.capturesFit] using h

theorem clockTick_fits {f : Timeline → Timeline} (hf : ∀ t, (f t).captures = t.captures) (h : s.capturesFit) :
    (clockTick (updateTime f s)).capturesFit := by
  simpa [State.capturesFit, clockTick, updateTime, hf] using h

theorem syncEdge_fits (rising : Bool) (h : s.capturesFit) : (syncEdge rising s).capturesFit := by
  have htick : (clockTick (updateTime (fun t => { t with
      clock := .locked, edges := bump max32 t.edges, acquiring := 0, coasting := 0 }) s)).capturesFit :=
    clockTick_fits (fun _ => rfl) h
  unfold syncEdge
  dsimp only
  repeat' split
  · exact h
  · exact capturesFit_of_clockSide htick (by rw [raise_time])
  · exact htick
  · exact h

theorem loseSync_fits (h : s.capturesFit) : (loseSync s).capturesFit := by
  have htick : (clockTick (updateTime (fun t => { t with
      clock := .coasting, generated := bump max32 t.generated, losses := bump max32 t.losses, acquiring := 0,
      coasting := 1 }) s)).capturesFit := clockTick_fits (fun _ => rfl) h
  exact capturesFit_of_clockSide htick (by rw [loseSync, raise_time])

theorem generatorTicks_fits (h : s.capturesFit) : (generatorTicks s).capturesFit := by
  unfold generatorTicks
  repeat' split
  · exact clockTick_fits (f := id) (fun _ => rfl) h
  · exact loseSync_fits h
  · exact clockTick_fits (fun _ => rfl) h
  · exact clockTick_fits (fun _ => rfl) h
  · exact h

theorem select_captures (e : Option Edge) (t : Timeline) : (t.select e).captures = t.captures := by
  unfold Timeline.select
  (repeat' split) <;> rfl

theorem serveFrameSource_fits (frame : Frame) (source : Nat) (edge : Option Nat) (h : s.capturesFit) :
    (serveFrameSource frame source edge s).capturesFit := by
  unfold serveFrameSource
  split
  · simpa [State.capturesFit] using h
  · simpa [State.capturesFit, updateTime, select_captures] using h

theorem serveCaptureRead_fits (frame : Frame) (count : Nat) (h : s.capturesFit) :
    (serveCaptureRead frame count s).capturesFit := by
  unfold serveCaptureRead
  split
  · simpa [State.capturesFit] using h
  · have hle : s.time.captures.length ≤ 8 := h
    simpa [State.capturesFit, updateTime] using by omega

/-! ### The lines -/

theorem actFunction_fits (n : Nat) (l : Line) (h : s.capturesFit) : (actFunction n l s).capturesFit := by
  unfold actFunction
  split
  case h_4 => exact takeCapture_fits _ h
  case h_3 =>
    unfold orElseSame
    split
    next t ht => exact capturesFit_of_clockSide h (by simpa using tryGo_clockSide ht)
    next => simpa [State.capturesFit] using h
  case h_5 =>
    unfold orElseSame
    split
    next t ht => exact capturesFit_of_clockSide h (by simp [tryPause_frame ht])
    next => exact h
  all_goals simpa [State.capturesFit] using h

theorem takeOnset_fits (n : Nat) (h : s.capturesFit) : (takeOnset n s).capturesFit := by
  unfold takeOnset
  split
  · exact h
  · exact actFunction_fits _ _ h

theorem takeLevel_fits (n : Nat) (high : Bool) (h : s.capturesFit) : (takeLevel n high s).capturesFit := by
  unfold takeLevel
  dsimp only
  repeat' split
  · exact h
  · exact takeOnset_fits n h
  · simpa [State.capturesFit] using h
  · exact h

theorem changePin_fits (n : Nat) (high : Bool) (h : s.capturesFit) : (changePin n high s).capturesFit := by
  simp only [changePin]
  repeat' split
  on_goal 5 => exact takeLevel_fits n high h
  all_goals exact h

theorem serveLineSetup_fits (frame : Frame) (line : Nat) (config : LineRequest) (h : s.capturesFit) :
    (serveLineSetup frame line config s).capturesFit := by
  have hinput : ∀ c d f, (setInput line c d f s).capturesFit := fun c d f => by
    simp only [setInput]
    repeat' split
    · exact takeOnset_fits line h
    · exact h
    · exact h
  unfold serveLineSetup
  split
  · simpa [State.capturesFit] using h
  · cases config with
    | other direction => simpa [State.capturesFit] using h
    | output idle safe => dsimp only; split <;> simpa [State.capturesFit] using h
    | input condition debounce function =>
      dsimp only
      repeat' split
      · simpa [State.capturesFit] using h
      · simpa [State.capturesFit] using hinput _ _ _
      · simpa [State.capturesFit] using h

/-! ### Every command -/

theorem serve_fits (turn : Bool) (c : Instr) (h : s.capturesFit) : (serve turn c s).capturesFit := by
  cases c
  case frameSource => exact serveFrameSource_fits _ _ _ h
  case mark => exact takeCapture_fits none h
  case captureRead => exact serveCaptureRead_fits _ _ h
  case lineSetup => exact serveLineSetup_fits _ _ _ h
  all_goals exact capturesFit_of_clockSide h (by simp [serve])

theorem serveDeferred_fits (n : Nat) (h : s.capturesFit) : (serveDeferred n s).capturesFit :=
  serveDeferred_keeps (P := State.capturesFit) (fun _ _ _ hu => hu) (fun c _ hu => serve_fits false c hu) n h

theorem queueWaiting_fits (h : s.capturesFit) : (queueWaiting s).capturesFit := by
  unfold queueWaiting
  repeat' split
  · exact h
  · rename_i w rest _
    have hserved : (serveWaiter w { s with queue := { s.queue with waiters := rest } }).capturesFit := by
      cases w with
      | request c => exact serve_fits true c h
      | _ =>
        simp only [serveWaiter]
        (repeat' split) <;> simpa [State.capturesFit] using h
    simpa [State.capturesFit] using hserved
  · exact h

/-- A full reset leaves the timeline of start-up (R177). -/
theorem fullReset_time (reported ran : Nat) (landed : Bool) (s : State) :
    (fullReset reported ran landed s).time = Timeline.reset := by
  simp [fullReset, resetUnits, State.reset]

theorem completeOutgoing_fits (h : s.capturesFit) : (completeOutgoing s).capturesFit := by
  obtain ⟨p, hp | hp⟩ := completeOutgoing_cases s
  · rw [hp]; exact h
  · rw [hp, resetAfterReply, State.capturesFit, fullReset_time]
    decide

theorem event_fits {c : Instr} (hc : requestOf c = none) (h : s.capturesFit) :
    ∃ u, exec c s = finish u ∧ u.capturesFit := by
  cases c <;> try cases hc
  all_goals refine ⟨_, rfl, ?_⟩
  case fullReset => rw [State.capturesFit, fullReset_time]; decide
  case outgoingSendComplete => exact completeOutgoing_fits h
  case mapBlockWriteComplete => exact serveDeferred_fits _ (by simpa [State.capturesFit] using h)
  case queueWaitingWrite => exact serveDeferred_fits _ (queueWaiting_fits h)
  case frameSyncEdge rising => exact syncEdge_fits rising h
  case generatorTick => exact generatorTicks_fits h
  case syncLoss => split <;> [exact loseSync_fits h; exact h]
  case boundary => split <;> [exact clockTick_fits (f := id) (fun _ => rfl) h; exact h]
  case inputPinChange => exact changePin_fits _ _ h
  case debounceExpiry =>
    repeat' split
    · exact takeLevel_fits _ _ h
    · exact h
    · exact h
  all_goals (repeat' split) <;> exact capturesFit_of_clockSide h (by simp)

/-- Every step keeps the queue of captures at 8 or fewer (R121). -/
theorem step_fits (h : s.capturesFit) (ht : step s = .next t) : t.capturesFit :=
  step_keeps (P := State.capturesFit) (fun _ _ hu => hu) (fun _ hu => hu)
    (fun _ _ _ hu hv => exec_keeps (P := State.capturesFit) (fun _ _ _ hu => hu) (fun _ hu => serve_fits false _ hu)
      (fun hc => event_fits hc hu) hu hv) h ht

end

/-! ### The requests (R110, R121, R122) -/

/-- The values FRAME SOURCE takes (R110). -/
theorem sourceOf_eq (source : Nat) (edge : Option Nat) :
    sourceOf source edge =
      if source = 0 then some none
      else if source = 1 then
        (match edge with
         | some 0 => some (some .rising)
         | some 1 => some (some .falling)
         | some 2 => some (some .both)
         | _ => none)
      else none := by
  match source with
  | 0 => rfl
  | n + 2 => rfl
  | 1 =>
    match edge with
    | none | some 0 | some 1 | some 2 | some (n + 3) => rfl

/-- A show reset leaves the clock and the captures (R110). -/
theorem exec_resetShow_clockSide {f : Frame} {s : State} (h : s.accepts 53 f) :
    ∃ t, exec (.resetShow f) s = .next t ∧ t.time.clockSide = s.time.clockSide := by
  refine ⟨_, request_of_accepts h, ?_⟩
  simp

section
variable {f : Frame} {s : State}

theorem exec_frameSource_none {source : Nat} {edge : Option Nat} (h : s.accepts 30 f) (he : sourceOf source edge = none) :
    exec (.frameSource f source edge) s = .next (s.no 30 f .outOfRange) :=
  request_no h (by rw [serveFrameSource, he]; rfl) rfl

theorem exec_frameSource {source : Nat} {edge : Option Nat} {e : Option Edge} (h : s.accepts 30 f)
    (he : sourceOf source edge = some e) :
    exec (.frameSource f source edge) s = .next (State.ok 30 f (Layout.code (s.time.select e).clock.code)
      { s with time := s.time.select e }) :=
  request_ok h (by rw [serveFrameSource, he]; rfl) rfl

/-- What a capture takes does not depend on the control port. -/
theorem takeCapture_received (line : Option Nat) (kind : Nat) (f : Frame) (s : State) :
    takeCapture line (s.received kind f) = { takeCapture line s with port := (s.received kind f).port } := by
  by_cases hroom : s.time.captures.length < 8
  · simp only [takeCapture, received_frame, if_pos hroom]
    rfl
  · simp only [takeCapture, received_frame, if_neg hroom]
    rfl

theorem exec_mark (h : s.accepts 32 f) :
    exec (.mark f) s = .next (State.ok 32 f (Layout.code (if s.time.captures.length < 8 then 0 else 1))
      (takeCapture none s)) := by
  refine request_ok h ?_ (by simp)
  rw [serveMark, takeCapture_received]
  rfl

theorem exec_captureRead {count : Nat} (h : s.accepts 33 f) (hlow : 1 ≤ count) (hhigh : count ≤ 8) :
    exec (.captureRead f count) s = .next (State.ok 33 f
      (Layout.rep 1 Capture.bytes (s.time.captures.take count) ++
        Layout.num 1 (s.time.captures.length - count) ++ Layout.num 2 s.time.dropped)
      { s with time := { s.time with captures := s.time.captures.drop count, dropped := 0 } }) := by
  refine request_ok h ?_ rfl
  rw [serveCaptureRead, if_neg (by simp; omega), ← List.length_drop]
  rfl

theorem exec_captureRead_outOfRange {count : Nat} (h : s.accepts 33 f) (hc : count = 0 ∨ 8 < count) :
    exec (.captureRead f count) s = .next (s.no 33 f .outOfRange) :=
  request_no h (by rw [serveCaptureRead, if_pos (by simpa using hc)]; rfl) rfl

end

/-- Settles O48: the selection of a source, the queue of captures, and its bound as an invariant of the steps. -/
theorem sourcesAndCaptures : Obligations.SourcesAndCaptures := by
  refine ⟨fun s t hs ht => step_fits hs ht, sourceOf_eq, rfl, fun f s => ⟨fun size ran landed => ?_, fun h => ?_,
    fun source edge h => ⟨fun he => exec_frameSource_none h he, fun he => exec_frameSource h he, fun e he hne => ?_,
      fun e he heq => ?_⟩, fun h => ⟨fun hroom => ?_, fun hfull => ?_⟩,
    fun count h => ⟨exec_captureRead_outOfRange h, exec_captureRead h⟩⟩⟩
  · refine ⟨_, rfl, ?_⟩
    simp only [settle_frame, fullReset_time]
    exact ⟨rfl, rfl⟩
  · obtain ⟨t, ht, htime⟩ := exec_resetShow_clockSide h
    exact ⟨t, ht, show t.time.clockSide.source = _ by rw [htime]; rfl,
      show t.time.clockSide.clock = _ by rw [htime]; rfl⟩
  · rw [exec_frameSource h he, Timeline.select, if_neg hne]
    rfl
  · rw [exec_frameSource h he, Timeline.select, if_pos heq]
  · rw [exec_mark h, takeCapture, if_pos hroom, if_pos hroom]
    rfl
  · rw [exec_mark h, takeCapture, if_neg (by omega), if_neg (by omega)]
    rfl

end Machine
end Sys2Proof

end

section
/-!
# Targets fired to the end (R119)

What one fire of a unit comes to, what a judgement of a unit leaves, and why its fires are enough.
-/

namespace Sys2Proof
namespace Machine

/-! ### What a unit holds -/

/-- The targets a unit holds. -/
def CompareUnit.held (x : CompareUnit) : Nat := x.armed.toList.length + x.pending.toList.length

theorem CompareUnit.held_le (x : CompareUnit) : x.held ≤ 2 := by
  unfold CompareUnit.held
  cases x.armed <;> cases x.pending <;> simp

/-- A fire takes one target (R119). -/
theorem CompareUnit.held_moveUp {x : CompareUnit} {a : Target} (h : x.armed = some a) : x.moveUp.held + 1 = x.held := by
  simp [CompareUnit.held, CompareUnit.moveUp, h, Nat.add_comm]

/-- A load adds at most one target (R118). -/
theorem CompareUnit.held_load (x : CompareUnit) (a : Target) : (x.load a).held ≤ x.held + 1 := by
  unfold CompareUnit.load
  cases harmed : x.armed with
  | none => simp [CompareUnit.held, harmed, Nat.add_comm]
  | some b => cases hpending : x.pending <;> simp [CompareUnit.held, harmed, hpending]

/-- A cue loaded is one cue less to load. -/
theorem held_loadCueOf (sh : Showing) (x : CompareUnit) :
    (CompareUnit.loadCueOf sh x).held + (sh.cueLoaded.cues.length - sh.cueLoaded.nextCue) ≤
      x.held + (sh.cues.length - sh.nextCue) := by
  unfold CompareUnit.loadCueOf
  cases hcue : sh.cues[sh.nextCue]? with
  | none =>
    have hge := List.getElem?_eq_none_iff.1 hcue
    simp [Showing.cueLoaded, Nat.not_lt.2 hge]
  | some c =>
    have hlt : sh.nextCue < sh.cues.length := (List.getElem?_eq_some_iff.1 hcue).1
    have hload := x.held_load { frame := c.1, tag := sh.nextCue }
    simp only [Showing.cueLoaded, hlt, if_true]
    omega

/-! ### Which unit fires -/

section
variable {s t u : State} {n : Nat}

theorem firing_eq_some {a : Target} : firing n s = some a ↔
    s.showing.isSome = true ∧ (∃ x, s.time.units[n]? = some x ∧ x.armed = some a) ∧ a.frame ≤ counterOf n s := by
  unfold firing
  cases s.showing with
  | none => simp
  | some sh =>
    cases s.time.units[n]? with
    | none => simp
    | some x =>
      cases harmed : x.armed with
      | none => simp [harmed]
      | some b =>
        by_cases hle : b.frame ≤ counterOf n s
        · simp [harmed, hle]
          rintro rfl; exact hle
        · simp [harmed, hle]
          rintro rfl; omega

theorem firing_eq_none (hs : s.showing.isSome = true) : firing n s = none ↔
    ∀ x a, s.time.units[n]? = some x → x.armed = some a → counterOf n s < a.frame := by
  rw [Option.eq_none_iff_forall_ne_some]
  simp only [ne_eq, firing_eq_some, not_and, not_le]
  exact ⟨fun h x a hx ha => h a hs ⟨x, hx, ha⟩, fun h a _ ⟨x, hx, ha⟩ => h x a hx ha⟩

/-- What a pass that may fire or load the units of `p` leaves: the counters, whether a showing is current, the other units,
and the number of streams. -/
structure FiresUnits (p : Nat → Prop) (s t : State) : Prop where
  showing : t.showing.isSome = s.showing.isSome
  counters : t.time.besideUnits = s.time.besideUnits
  units : ∀ n, ¬ p n → t.time.units[n]? = s.time.units[n]?
  streams : t.subs.streams.length = s.subs.streams.length

namespace FiresUnits
variable {p q : Nat → Prop}

theorem refl (p : Nat → Prop) (s : State) : FiresUnits p s s := ⟨rfl, rfl, fun _ _ => rfl, rfl⟩

theorem trans (h : FiresUnits p s t) (h' : FiresUnits p t u) : FiresUnits p s u :=
  ⟨h'.showing.trans h.showing, h'.counters.trans h.counters, fun n hn => (h'.units n hn).trans (h.units n hn),
    h'.streams.trans h.streams⟩

theorem mono (h : FiresUnits p s t) (hpq : ∀ n, p n → q n) : FiresUnits q s t :=
  ⟨h.showing, h.counters, fun n hn => h.units n fun hp => hn (hpq n hp), h.streams⟩

/-- A pass that leaves the sequencer, the timeline and the number of streams. -/
theorem of_eq (hcurrent : t.seq.current = s.seq.current) (htime : t.time = s.time)
    (hstreams : t.subs.streams.length = s.subs.streams.length) : FiresUnits p s t :=
  ⟨by rw [showing_of_current hcurrent], by rw [htime], fun _ _ => by rw [htime], hstreams⟩

theorem foldl {α : Type} {act : State → α → State} {l : List α} (h : ∀ a ∈ l, ∀ s, FiresUnits p s (act s a))
    (s : State) : FiresUnits p s (l.foldl act s) := by
  induction l generalizing s with
  | nil => exact refl p s
  | cons a l ih => exact (h a (by simp) s).trans (ih (fun b hb => h b (by simp [hb])) _)

theorem counterOf_eq (h : FiresUnits p s t) (n : Nat) : counterOf n t = counterOf n s := by
  obtain ⟨hframe, -, -, hreel, -, -⟩ := counters_of_besideUnits h.counters
  simp [counterOf, hframe, hreel]

/-- The other units fire after the pass as before it. -/
theorem firing_eq (h : FiresUnits p s t) (hn : ¬ p n) : firing n t = firing n s := by
  refine Option.ext fun a => ?_
  rw [firing_eq_some, firing_eq_some, h.showing, h.units n hn, h.counterOf_eq n]

end FiresUnits

theorem updateUnit_fires (f : CompareUnit → CompareUnit) : FiresUnits (· = n) s (updateUnit n f s) :=
  ⟨rfl, rfl, fun _ hm => getElem?_updateAt_other _ _ hm, rfl⟩

theorem updateUnit_same (f : CompareUnit → CompareUnit) :
    (updateUnit n f s).time.units[n]? = (s.time.units[n]?).map f := by
  simp [updateUnit]

end

/-! ### Unit 0 (R94) -/

section
variable {s : State} {sh : Showing} {a : Target}

/-- The cue of a target of unit 0 is performed. -/
def fireCue (sh : Showing) (a : Target) (s : State) : State :=
  match sh.cues[a.tag]? with
  | some c => performCue sh.play.pos c.2 s
  | none => s

theorem fireCues_rests (h : firing 0 s = none) (fuel : Nat) : fireCues fuel s = s := by
  cases fuel <;> simp [fireCues, h]

theorem fireCues_fires (hsh : s.showing = some sh) (h : firing 0 s = some a) (fuel : Nat) :
    fireCues (fuel + 1) s = fireCues fuel (loadCue (fireCue sh a (updateUnit 0 .moveUp s))) := by
  rw [fireCues, h, hsh]
  rfl

@[simp] theorem fireCue_frame (sh : Showing) (a : Target) (s : State) :
    (fireCue sh a s).seq = s.seq ∧ (fireCue sh a s).time = s.time ∧ (fireCue sh a s).keys = s.keys ∧
    (fireCue sh a s).frames = s.frames ∧ (fireCue sh a s).subs = s.subs ∧ (fireCue sh a s).log = s.log := by
  unfold fireCue
  split <;> simp

/-- One fire of unit 0: the cue after the ones loaded follows into the unit (R94). -/
theorem fireCue_loads (hsh : s.showing = some sh) (a : Target) :
    let t := loadCue (fireCue sh a (updateUnit 0 .moveUp s))
    t.showing = some sh.cueLoaded ∧ FiresUnits (· = 0) s t ∧
      t.time.units[0]? = (s.time.units[0]?).map fun x => CompareUnit.loadCueOf sh x.moveUp := by
  have hfired : (fireCue sh a (updateUnit 0 .moveUp s)).showing = some sh := by
    rw [← hsh]
    exact showing_of_current (by simp)
  obtain ⟨hshow, htime⟩ := loadCue_loads hfired
  refine ⟨hshow, ⟨by simp [hshow, hsh], by simp [htime], fun n hn => ?_, by simp⟩, ?_⟩
  · rw [htime]
    simp [getElem?_updateAt_other _ _ hn, updateUnit]
  · rw [htime]
    simp [updateUnit]
    rfl

theorem fireCues_firesUnits (fuel : Nat) (s : State) : FiresUnits (· = 0) s (fireCues fuel s) := by
  induction fuel generalizing s with
  | zero => exact .refl _ s
  | succ fuel ih =>
    cases hf : firing 0 s with
    | none => rw [fireCues_rests hf]; exact .refl _ s
    | some a =>
      obtain ⟨sh, hsh⟩ := Option.isSome_iff_exists.1 (firing_eq_some.1 hf).1
      rw [fireCues_fires hsh hf]
      exact (fireCue_loads hsh a).2.1.trans (ih _)

/-- With fires enough for the targets held and the cues still to load, unit 0 ends at rest (R119). -/
theorem fireCues_ends {fuel : Nat} {x : CompareUnit} (hsh : s.showing = some sh) (hx : s.time.units[0]? = some x)
    (hfuel : x.held + (sh.cues.length - sh.nextCue) ≤ fuel) : firing 0 (fireCues fuel s) = none := by
  induction fuel generalizing s sh x with
  | zero =>
    have hempty : x.armed = none := by
      have hheld : x.held = 0 := by omega
      cases harmed : x.armed with
      | none => rfl
      | some a => simp [CompareUnit.held, harmed] at hheld
    simp [fireCues, firing, hsh, hx, hempty]
  | succ fuel ih =>
    cases hf : firing 0 s with
    | none => rwa [fireCues_rests hf]
    | some a =>
      obtain ⟨-, ⟨y, hy, harmed⟩, -⟩ := firing_eq_some.1 hf
      obtain rfl : x = y := Option.some.inj (hx.symm.trans hy)
      obtain ⟨hshow, -, hunit⟩ := fireCue_loads hsh a
      have hheld := CompareUnit.held_moveUp harmed
      have hload := held_loadCueOf sh x.moveUp
      rw [fireCues_fires hsh hf]
      exact ih (x := CompareUnit.loadCueOf sh x.moveUp) hshow (by rw [hunit, hx]; rfl) (by omega)

end

/-! ### Unit 1 (R76) -/

section
variable {s : State}

theorem fireCount_rests (h : firing 1 s = none) (fuel : Nat) : fireCount fuel s = s := by
  cases fuel <;> simp [fireCount, h]

theorem fireCount_fires {a : Target} (h : firing 1 s = some a) (fuel : Nat) :
    fireCount (fuel + 1) s = fireCount fuel (countShowing (updateUnit 1 .moveUp s)) := by
  rw [fireCount, h]

theorem countShowing_fires (p : Nat → Prop) (s : State) : FiresUnits p s (countShowing s) :=
  .of_eq (by simp) (by simp) (by simp)

theorem fireCount_firesUnits (fuel : Nat) (s : State) : FiresUnits (· = 1) s (fireCount fuel s) := by
  induction fuel generalizing s with
  | zero => exact .refl _ s
  | succ fuel ih =>
    cases hf : firing 1 s with
    | none => rw [fireCount_rests hf]; exact .refl _ s
    | some a =>
      rw [fireCount_fires hf]
      exact (updateUnit_fires _).trans ((countShowing_fires _ _).trans (ih _))

theorem fireCount_ends {fuel : Nat} {x : CompareUnit} (hx : s.time.units[1]? = some x) (hfuel : x.held ≤ fuel) :
    firing 1 (fireCount fuel s) = none := by
  induction fuel generalizing s x with
  | zero =>
    rw [fireCount, Option.eq_none_iff_forall_ne_some]
    intro a hf
    obtain ⟨-, ⟨y, hy, harmed⟩, -⟩ := firing_eq_some.1 hf
    obtain rfl : x = y := Option.some.inj (hx.symm.trans hy)
    simp [CompareUnit.held, harmed] at hfuel
  | succ fuel ih =>
    cases hf : firing 1 s with
    | none => rwa [fireCount_rests hf]
    | some a =>
      obtain ⟨-, ⟨y, hy, harmed⟩, -⟩ := firing_eq_some.1 hf
      obtain rfl : x = y := Option.some.inj (hx.symm.trans hy)
      have hheld := CompareUnit.held_moveUp harmed
      rw [fireCount_fires hf]
      exact ih (x := x.moveUp) (by simp [updateUnit, hx]) (by omega)

end

/-! ### The streams, but for their display slots -/

/-- A stream with its display slots blanked. -/
def Stream.besideSlots (st : Stream) : Stream := { st with slots := [] }

@[simp] theorem map_besideSlots_updateAt (f : Stream → List (Option Shown)) (l : List Stream) (k : Nat) :
    (updateAt (fun st => { st with slots := f st }) l k).map Stream.besideSlots = l.map Stream.besideSlots := by
  refine List.ext_getElem? fun i => ?_
  rw [List.getElem?_map, List.getElem?_map, getElem?_updateAt]
  split
  · rw [Option.map_map]
    rfl
  · rfl

@[simp] theorem feedSeats_streams (s : State) : (feedSeats s).subs.streams = s.subs.streams := by
  unfold feedSeats; (repeat' split) <;> rfl

@[simp] theorem sendShow_streams (overlay seats : Bool) (r : CaptionRecord) (s : State) :
    (sendShow overlay seats r s).subs.streams = s.subs.streams := by
  simp [sendShow]

@[simp] theorem sendClear_streams (overlay seats : Bool) (stream number : Nat) (reason : ClearReason) (s : State) :
    (sendClear overlay seats stream number reason s).subs.streams = s.subs.streams := by
  simp [sendClear]

@[simp] theorem countDrops_streams (c : DropCause) (n : Nat) (s : State) :
    (countDrops c n s).subs.streams = s.subs.streams := rfl

@[simp] theorem updateStream_streams (k : Nat) (f : Stream → Stream) (s : State) :
    (updateStream k f s).subs.streams = updateAt f s.subs.streams k := rfl

@[simp] theorem clearSlot_besideSlots (k n : Nat) (reason : ClearReason) (s : State) :
    (clearSlot k n reason s).subs.streams.map Stream.besideSlots = s.subs.streams.map Stream.besideSlots := by
  unfold clearSlot
  (repeat' split) <;> simp

@[simp] theorem clearWhere_besideSlots (k : Nat) (p : Shown → Bool) (reason : ClearReason) (s : State) :
    (clearWhere k p reason s).subs.streams.map Stream.besideSlots = s.subs.streams.map Stream.besideSlots := by
  simp only [clearWhere, List.foldl]
  (repeat' split) <;> simp

@[simp] theorem clearPassed_besideSlots (k : Nat) (s : State) :
    (clearPassed k s).subs.streams.map Stream.besideSlots = s.subs.streams.map Stream.besideSlots := by
  simp [clearPassed]

@[simp] theorem showCue_besideSlots (k tag : Nat) (s : State) :
    (showCue k tag s).subs.streams.map Stream.besideSlots = s.subs.streams.map Stream.besideSlots := by
  unfold showCue
  dsimp only
  (repeat' split) <;> simp

theorem length_of_besideSlots {l m : List Stream} (h : l.map Stream.besideSlots = m.map Stream.besideSlots) :
    l.length = m.length := by
  simpa using congrArg List.length h

theorem getElem?_of_besideSlots {l m : List Stream} (h : l.map Stream.besideSlots = m.map Stream.besideSlots) {k : Nat}
    {st : Stream} (hst : m[k]? = some st) : ∃ slots, l[k]? = some { st with slots := slots } := by
  have hk := congrArg (·[k]?) h
  simp only [List.getElem?_map, hst, Option.map_some, Option.map_eq_some_iff] at hk
  obtain ⟨x, hx, hbeside⟩ := hk
  refine ⟨x.slots, ?_⟩
  rw [hx]
  simp only [Stream.besideSlots, Stream.mk.injEq] at hbeside
  obtain ⟨hroute, hcurrent, hnext, hbanks, hlive, htimed, hcue, -⟩ := hbeside
  simp [← hroute, ← hcurrent, ← hnext, ← hbanks, ← hlive, ← htimed, ← hcue]

/-! ### Units 2 to 5 (R160, R162) -/

section
variable {s : State} {k : Nat}

theorem fireStream_rests (h : firing (2 + k) s = none) (fuel : Nat) : fireStream k fuel s = s := by
  cases fuel <;> simp [fireStream, h]

theorem fireStream_fires {a : Target} (h : firing (2 + k) s = some a) (fuel : Nat) :
    fireStream k (fuel + 1) s = fireStream k fuel (loadNextCue k (showCue k a.tag (updateUnit (2 + k) .moveUp s))) := by
  rw [fireStream, h]

theorem showCue_fires (p : Nat → Prop) (tag : Nat) : FiresUnits p s (showCue k tag s) :=
  .of_eq (by simp) (by simp) (length_of_besideSlots (showCue_besideSlots k tag s))

theorem le_passOver (frame : Nat) (l : List TimedCue) (n : Nat) : n ≤ (passOver frame l n).1 := by
  induction l generalizing n with
  | nil => exact Nat.le_refl n
  | cons c l ih =>
    unfold passOver
    split
    · exact Nat.le_of_succ_le (ih (n + 1))
    · exact Nat.le_refl n

/-- The cue of a stream that is loaded next at a reel frame (R160). -/
def Stream.cueDue (frame : Nat) (st : Stream) : Nat :=
  (passOver frame ((st.timed.getD []).drop st.nextCue) st.nextCue).1

/-- A stream whose next cue, if there is one, has been loaded. -/
def Stream.cueLoaded (frame : Nat) (st : Stream) : Stream :=
  { st with nextCue :=
      if (st.timed.getD []).length ≤ st.cueDue frame then st.cueDue frame else st.cueDue frame + 1 }

/-- A unit into which the next cue of a stream, if there is one, is loaded. -/
def CompareUnit.loadTimedOf (frame : Nat) (st : Stream) (x : CompareUnit) : CompareUnit :=
  match (st.timed.getD [])[st.cueDue frame]? with
  | some c => x.load { frame := c.inFrame, tag := st.cueDue frame }
  | none => x

theorem loadNextCue_fires (k : Nat) (s : State) : FiresUnits (· = 2 + k) s (loadNextCue k s) := by
  have hcounted : ∀ (n : Nat) (f : Stream → Stream) (p : Nat → Prop),
      FiresUnits p s (updateStream k f (countDrops .late n s)) :=
    fun n f p => .of_eq rfl rfl (by simp)
  unfold loadNextCue
  dsimp only
  repeat' split
  · exact .refl _ s
  · exact .refl _ s
  · exact hcounted _ _ _
  · exact (hcounted _ _ _).trans (updateUnit_fires _)

theorem loadNextCue_other (j : Nat) (h : j ≠ k) : (loadNextCue k s).subs.streams[j]? = s.subs.streams[j]? := by
  unfold loadNextCue
  dsimp only
  (repeat' split) <;> simp [updateUnit, getElem?_updateAt_other _ _ h]

/-- The next cue of a stream: what its load makes of the stream and of its unit. -/
theorem loadNextCue_loads {st : Stream} {timed : List TimedCue} (hst : s.subs.streams[k]? = some st)
    (htimed : st.timed = some timed) :
    (loadNextCue k s).subs.streams[k]? = some (st.cueLoaded s.time.reelFrame) ∧
    (loadNextCue k s).time.units[2 + k]? =
      (s.time.units[2 + k]?).map (CompareUnit.loadTimedOf s.time.reelFrame st) := by
  have hlist : st.timed.getD [] = timed := by simp [htimed]
  cases hcue : timed[st.cueDue s.time.reelFrame]? with
  | none =>
    have hge := List.getElem?_eq_none_iff.1 hcue
    have hload : CompareUnit.loadTimedOf s.time.reelFrame st = id := by
      funext x
      simp [CompareUnit.loadTimedOf, hlist, hcue]
    have hself : loadNextCue k s = updateStream k (fun st' => { st' with nextCue := st.cueDue s.time.reelFrame })
        (countDrops .late (passOver s.time.reelFrame (timed.drop st.nextCue) st.nextCue).2 s) := by
      simp only [Stream.cueDue, hlist] at hcue ⊢
      simp [loadNextCue, hst, htimed, hcue]
    rw [hself, hload]
    simp [hst, Stream.cueLoaded, hlist, hge]
  | some c =>
    have hlt : ¬ timed.length ≤ st.cueDue s.time.reelFrame := Nat.not_le.2 (List.getElem?_eq_some_iff.1 hcue).1
    have hload : CompareUnit.loadTimedOf s.time.reelFrame st =
        CompareUnit.load { frame := c.inFrame, tag := st.cueDue s.time.reelFrame } := by
      funext x
      simp [CompareUnit.loadTimedOf, hlist, hcue]
    have hself : loadNextCue k s = updateUnit (2 + k)
        (CompareUnit.load { frame := c.inFrame, tag := st.cueDue s.time.reelFrame })
        (updateStream k (fun st' => { st' with nextCue := st.cueDue s.time.reelFrame + 1 })
          (countDrops .late (passOver s.time.reelFrame (timed.drop st.nextCue) st.nextCue).2 s)) := by
      simp only [Stream.cueDue, hlist] at hcue ⊢
      simp [loadNextCue, hst, htimed, hcue]
    rw [hself, hload, updateUnit_same]
    simp [updateUnit, hst, Stream.cueLoaded, hlist, hlt]

theorem loadNextCue_of_none {st : Stream} (hst : s.subs.streams[k]? = some st) (htimed : st.timed = none) :
    loadNextCue k s = s := by
  simp [loadNextCue, hst, htimed]

/-- A cue loaded is one cue less to load. -/
theorem held_loadTimedOf (frame : Nat) (st : Stream) (x : CompareUnit) :
    (CompareUnit.loadTimedOf frame st x).held + ((st.timed.getD []).length - (st.cueLoaded frame).nextCue) ≤
      x.held + ((st.timed.getD []).length - st.nextCue) := by
  have hle : st.nextCue ≤ st.cueDue frame := le_passOver _ _ _
  unfold CompareUnit.loadTimedOf
  cases hcue : (st.timed.getD [])[st.cueDue frame]? with
  | none =>
    have hge := List.getElem?_eq_none_iff.1 hcue
    simp only [Stream.cueLoaded, hge, if_true]
    omega
  | some c =>
    have hlt : st.cueDue frame < (st.timed.getD []).length := (List.getElem?_eq_some_iff.1 hcue).1
    have hload := x.held_load { frame := c.inFrame, tag := st.cueDue frame }
    simp only [Stream.cueLoaded, Nat.not_le.2 hlt, if_false]
    omega

/-- One fire of unit 2 + k: its cue is shown and the next one follows into the unit (R160, R162). -/
def fireTimed (k : Nat) (a : Target) (s : State) : State :=
  loadNextCue k (showCue k a.tag (updateUnit (2 + k) .moveUp s))

theorem fireTimed_fires (k : Nat) (a : Target) (s : State) : FiresUnits (· = 2 + k) s (fireTimed k a s) :=
  (updateUnit_fires _).trans ((showCue_fires _ _).trans (loadNextCue_fires _ _))

theorem fireStream_firesUnits (fuel : Nat) (s : State) : FiresUnits (· = 2 + k) s (fireStream k fuel s) := by
  induction fuel generalizing s with
  | zero => exact .refl _ s
  | succ fuel ih =>
    cases hf : firing (2 + k) s with
    | none => rw [fireStream_rests hf]; exact .refl _ s
    | some a =>
      rw [fireStream_fires hf]
      exact (fireTimed_fires k a s).trans (ih _)

/-- With fires enough for the targets held and the cues still to load, the unit of a stream ends at rest (R119). -/
theorem fireStream_ends {fuel : Nat} {x : CompareUnit} {st : Stream} (hst : s.subs.streams[k]? = some st)
    (hx : s.time.units[2 + k]? = some x) (hfuel : x.held + ((st.timed.getD []).length - st.nextCue) ≤ fuel) :
    firing (2 + k) (fireStream k fuel s) = none := by
  induction fuel generalizing s st x with
  | zero =>
    rw [fireStream, Option.eq_none_iff_forall_ne_some]
    intro a hf
    obtain ⟨-, ⟨y, hy, harmed⟩, -⟩ := firing_eq_some.1 hf
    obtain rfl : x = y := Option.some.inj (hx.symm.trans hy)
    simp [CompareUnit.held, harmed] at hfuel
  | succ fuel ih =>
    cases hf : firing (2 + k) s with
    | none => rwa [fireStream_rests hf]
    | some a =>
      obtain ⟨-, ⟨y, hy, harmed⟩, -⟩ := firing_eq_some.1 hf
      obtain rfl : x = y := Option.some.inj (hx.symm.trans hy)
      have hheld := CompareUnit.held_moveUp harmed
      obtain ⟨slots, hshown⟩ := getElem?_of_besideSlots
        (showCue_besideSlots k a.tag (updateUnit (2 + k) .moveUp s)) hst
      have hmoved : (showCue k a.tag (updateUnit (2 + k) .moveUp s)).time.units[2 + k]? = some x.moveUp := by
        simp [updateUnit, hx]
      rw [fireStream_fires hf]
      cases htimed : st.timed with
      | none =>
        rw [loadNextCue_of_none hshown htimed]
        exact ih hshown hmoved (by simp only [htimed] at hfuel ⊢; omega)
      | some timed =>
        obtain ⟨hstream, hunit⟩ := loadNextCue_loads hshown htimed
        have hload := held_loadTimedOf (showCue k a.tag (updateUnit (2 + k) .moveUp s)).time.reelFrame
          { st with slots := slots } x.moveUp
        refine ih hstream (by rw [hunit, hmoved]; rfl) ?_
        simp only [Stream.cueLoaded] at hload ⊢
        omega

end

end Machine
end Sys2Proof

end

section
/-!
# The passes of a tick (R114)

The units judged to the end, what the passes after them leave, and the 48th repeat.
-/

namespace Sys2Proof
namespace Machine

/-! ### The units judged (R119) -/

section
variable {s : State}

/-- The streams judged one after the other. -/
def fireStreams (l : List Nat) (s : State) : State := l.foldl (fun s k => fireStream k (streamFuel k s) s) s

theorem fireStreams_fires (l : List Nat) (s : State) : FiresUnits (fun n => ∃ k ∈ l, n = 2 + k) s (fireStreams l s) :=
  .foldl (fun k hk s => (fireStream_firesUnits _ s).mono fun _ hn => ⟨k, hk, hn⟩) s

theorem fireStreams_ends {l : List Nat} {k : Nat} (hl : l.Nodup) (hk : k ∈ l) (hst : k < s.subs.streams.length) :
    firing (2 + k) (fireStreams l s) = none := by
  induction l generalizing s with
  | nil => simp at hk
  | cons j l ih =>
    obtain ⟨hj, hnodup⟩ := List.nodup_cons.1 hl
    rcases List.mem_cons.1 hk with rfl | hk
    · rw [fireStreams, List.foldl_cons, ← fireStreams,
        (fireStreams_fires l _).firing_eq (by rintro ⟨i, hi, h⟩; exact hj ((by omega : k = i) ▸ hi))]
      obtain ⟨st, hst⟩ : ∃ st, s.subs.streams[k]? = some st := ⟨_, List.getElem?_eq_getElem hst⟩
      cases hx : s.time.units[2 + k]? with
      | none => rw [fireStream_rests (by simp [firing, hx]; split <;> rfl)]; simp [firing, hx]; split <;> rfl
      | some x =>
        refine fireStream_ends hst hx ?_
        have := x.held_le
        simp [streamFuel, hst]
        omega
    · exact ih hnodup hk (by rwa [(fireStream_firesUnits _ s).streams])

theorem judgeUnits_eq (s : State) : judgeUnits s = fireStreams [0, 1, 2, 3]
    (fireCount 3 (fireCues (((s.showing.map fun sh => sh.cues.length).getD 0) + 3) s)) := rfl

theorem firing_of_noUnit {n : Nat} (h : s.time.units[n]? = none) : firing n s = none := by
  simp [firing, h]
  split <;> rfl

theorem judgeUnits_fires (s : State) : FiresUnits (fun _ => True) s (judgeUnits s) := by
  rw [judgeUnits_eq]
  exact ((fireCues_firesUnits _ s).mono fun _ _ => trivial).trans
    (((fireCount_firesUnits _ _).mono fun _ _ => trivial).trans ((fireStreams_fires _ _).mono fun _ _ => trivial))

/-- No unit of a current showing is left to fire (R119). -/
theorem judgeUnits_ends (n : Nat) (h : n < 2 ∨ (n < 6 ∧ n - 2 < s.subs.streams.length)) :
    firing n (judgeUnits s) = none := by
  rw [judgeUnits_eq]
  generalize hfuel : ((s.showing.map fun sh => sh.cues.length).getD 0) + 3 = fuel
  have hcues := fireCues_firesUnits fuel s
  have hcount := fireCount_firesUnits 3 (fireCues fuel s)
  have hstreams := fireStreams_fires [0, 1, 2, 3] (fireCount 3 (fireCues fuel s))
  rcases (by omega : n = 0 ∨ n = 1 ∨ 2 ≤ n) with rfl | rfl | hn
  · rw [hstreams.firing_eq (by simp), hcount.firing_eq (by simp)]
    cases hsh : s.showing with
    | none => rw [fireCues_rests (firing_of_none 0 hsh), firing_of_none 0 hsh]
    | some sh =>
      cases hx : s.time.units[0]? with
      | none => rw [fireCues_rests (firing_of_noUnit hx), firing_of_noUnit hx]
      | some x =>
        refine fireCues_ends hsh hx ?_
        have := x.held_le
        simp only [hsh, Option.map_some, Option.getD_some] at hfuel
        omega
  · rw [hstreams.firing_eq (by simp)]
    cases hx : (fireCues fuel s).time.units[1]? with
    | none => rw [fireCount_rests (firing_of_noUnit hx), firing_of_noUnit hx]
    | some x =>
      have := x.held_le
      exact fireCount_ends hx (by omega)
  · obtain ⟨k, rfl⟩ := Nat.exists_eq_add_of_le hn
    refine fireStreams_ends (by decide) ?_ (by rw [hcount.streams, hcues.streams]; omega)
    simp
    omega

end

/-! ### What the rest of a tick leaves (R114) -/

@[simp] theorem discardBank_streams_length (following : Option (Bool × Nat)) (k n : Nat) (s : State) :
    (discardBank following k n s).subs.streams.length = s.subs.streams.length := by
  unfold discardBank abandonLoad
  dsimp only
  (repeat' split) <;> simp

@[simp] theorem beginBank_streams_length (prepared : Bool) (reel k : Nat) (s : State) :
    (beginBank prepared reel k s).subs.streams.length = s.subs.streams.length := by
  unfold beginBank
  dsimp only
  (repeat' split) <;> simp

@[simp] theorem foldl_streams_length {α : Type} {act : State → α → State} {l : List α} {s : State}
    (h : ∀ u a, (act u a).subs.streams.length = u.subs.streams.length) :
    (l.foldl act s).subs.streams.length = s.subs.streams.length := by
  induction l generalizing s with
  | nil => rfl
  | cons a l ih => simp [ih, h]

@[simp] theorem judgeBanks_streams_length (s : State) : (judgeBanks s).subs.streams.length = s.subs.streams.length := by
  simp only [judgeBanks]
  split <;> simp

@[simp] theorem preparePlay_streams_length (p : Play) (g : Option (Nat × Grant)) (s : State) :
    (preparePlay p g s).subs.streams.length = s.subs.streams.length := by
  simp [preparePlay]

@[simp] theorem lookAheadIfDue_streams_length (s : State) :
    (lookAheadIfDue s).subs.streams.length = s.subs.streams.length := by
  unfold lookAheadIfDue lookAhead prepareEnd
  dsimp only
  (repeat' split) <;> simp

@[simp] theorem selectGrant_counted (key : Nat) (s : State) :
    (selectGrant key s).2.keys.counted = s.keys.counted := by
  unfold selectGrant requestCheck
  (repeat' split) <;> simp

@[simp] theorem checkPlay_counted (pos : Pos) (id : Nat) (first last : Option Nat) (cues : List CueRecord) (s : State) :
    (checkPlay pos id first last cues s).2.keys.counted = s.keys.counted := by
  have selected : ∀ {key x u}, selectGrant key s = (x, u) → u.keys.counted = s.keys.counted := fun {key x u} h => by
    have := selectGrant_counted key s
    rwa [h] at this
  simp only [checkPlay]
  repeat' split
  · rfl
  · rfl
  · rfl
  · rfl
  · exact selected ‹_›
  · exact selected ‹_›
  · exact selected ‹_›

@[simp] theorem scan_counted (n : Nat) (pos : Pos) (stack : List Pos) (s : State) :
    (scan n pos stack s).2.keys.counted = s.keys.counted := by
  have checked : ∀ {pos id first last cues v s u}, checkPlay pos id first last cues s = (v, u) →
      u.keys.counted = s.keys.counted := fun {pos id first last cues v s u} h => by
    have := checkPlay_counted pos id first last cues s
    rwa [h] at this
  induction n generalizing pos stack s with
  | zero =>
    unfold scan
    split
    case h_1 => split <;> rfl
    case h_4 => split <;> exact checked ‹_›
    all_goals rfl
  | succ n ih =>
    unfold scan
    split
    case h_1 =>
      split
      · rfl
      · exact ih _ _ _
    case h_4 =>
      split
      · exact checked ‹_›
      · simp [ih, checked ‹_›]
    case h_5 => exact ih _ _ _
    case h_6 => split <;> exact ih _ _ _
    all_goals rfl

@[simp] theorem lookAheadIfDue_counted (s : State) : (lookAheadIfDue s).keys.counted = s.keys.counted := by
  unfold lookAheadIfDue lookAhead prepareEnd
  dsimp only
  (repeat' split) <;> simp

@[simp] theorem formRouteSets_fader (p : Play) (s : State) :
    (formRouteSets p s).sound.fader = s.sound.fader ∧ (formRouteSets p s).sound.fade = s.sound.fade := by
  simp [formRouteSets, foldl_raise_sound]

@[simp] theorem preparePlay_fader (p : Play) (g : Option (Nat × Grant)) (s : State) :
    (preparePlay p g s).sound.fader = s.sound.fader ∧ (preparePlay p g s).sound.fade = s.sound.fade := by
  simp [preparePlay]

@[simp] theorem lookAheadIfDue_fader (s : State) :
    (lookAheadIfDue s).sound.fader = s.sound.fader ∧ (lookAheadIfDue s).sound.fade = s.sound.fade := by
  unfold lookAheadIfDue lookAhead prepareEnd
  dsimp only
  (repeat' split) <;> simp

@[simp] theorem renderSound_fader (s : State) :
    (renderSound s).sound.fader = s.sound.fader ∧ (renderSound s).sound.fade = s.sound.fade := by
  unfold renderSound renderDue judgeMute silenceOutputs outputPortion soundUnderrun keepPortions
  dsimp only
  (repeat' split) <;> simp

@[simp] theorem renderSound_mute (s : State) : (renderSound s).sound.mute = s.muteReason := by
  unfold renderSound renderDue judgeMute silenceOutputs outputPortion soundUnderrun keepPortions
  dsimp only
  (repeat' split) <;> simp

@[simp] theorem updateShowing_isSome (f : Showing → Showing) (s : State) :
    (updateShowing f s).showing.isSome = s.showing.isSome := by
  unfold updateShowing
  split
  next sh hc => simp [State.showing, hc]
  next => rfl

@[simp] theorem presentPicture_isSome (takeover : Bool) (s : State) :
    (presentPicture takeover s).showing.isSome = s.showing.isSome := by
  have hkept : ∀ u : State, u.seq = s.seq → u.showing.isSome = s.showing.isSome := fun u hu => by
    rw [showing_of_current (congrArg Sequencer.current hu)]
  unfold presentPicture presentDue repeatFrame
  dsimp only
  (repeat' split) <;> simp [hkept]

@[simp] theorem presentPicture_streams (takeover : Bool) (s : State) :
    (presentPicture takeover s).subs.streams = s.subs.streams := by
  unfold presentPicture presentDue repeatFrame putOnLink beginSend updateShowing
  dsimp only
  (repeat' split) <;> simp

@[simp] theorem clearAtTick_besideSlots (s : State) :
    (clearAtTick s).subs.streams.map Stream.besideSlots = s.subs.streams.map Stream.besideSlots := by
  simp [clearAtTick, streamNumbers]

/-- The rest of a tick, after the compare units: lookahead, the picture, the sound and the captions cleared. -/
def tickTail (takeover : Bool) (s : State) : State :=
  clearAtTick (renderSound (presentPicture takeover (lookAheadIfDue s)))

/-- The state as the compare units are judged at a tick. -/
def tickCounted (s : State) : State := sequencerTick (stepFade (stepPulses s))

theorem frameTick_eq (s : State) : frameTick s =
    cutGather s (checkRepeats (tickTail (tookOver s (tickCounted s)) (judgeUnits (tickCounted s)))) := rfl

@[simp] theorem tickTail_frame (takeover : Bool) (s : State) :
    (tickTail takeover s).time = s.time ∧ (tickTail takeover s).lines = s.lines ∧
    (tickTail takeover s).keys.counted = s.keys.counted ∧ (tickTail takeover s).sound.fader = s.sound.fader ∧
    (tickTail takeover s).sound.fade = s.sound.fade := by
  simp [tickTail]

theorem tickTail_fires (takeover : Bool) (p : Nat → Prop) (s : State) : FiresUnits p s (tickTail takeover s) := by
  have hlook : ∀ u, FiresUnits p u (lookAheadIfDue u) := fun u => .of_eq (by simp) (by simp) (by simp)
  have hpicture : ∀ u, FiresUnits p u (presentPicture takeover u) := fun u =>
    ⟨by simp, by simp, fun _ _ => by simp, by simp⟩
  have hsound : ∀ u, FiresUnits p u (renderSound u) := fun u => .of_eq (by simp) (by simp) (by simp)
  have hclear : ∀ u, FiresUnits p u (clearAtTick u) := fun u =>
    .of_eq (by simp) (by simp) (length_of_besideSlots (clearAtTick_besideSlots u))
  exact (hlook s).trans ((hpicture _).trans ((hsound _).trans (hclear _)))

section
variable {k : Nat} (hk : groupOf k = 4)
include hk

theorem tickTail_timeline (takeover : Bool) (s : State) :
    (tickTail takeover s).notices.causes[k]? = s.notices.causes[k]? := by
  have hclear : ∀ u, (clearAtTick u).notices = u.notices := fun u => by simp
  rw [tickTail, hclear, renderSound_timeline hk, presentPicture_timeline hk, lookAheadIfDue_timeline hk]

end

/-! ### The 48th repeat (R106) -/

theorem checkRepeats_of_few {s : State} (h : s.frames.consecutive < 48) : checkRepeats s = s := by
  unfold checkRepeats
  split
  · rw [if_neg (by omega)]
  · rfl

theorem checkRepeats_of_many {s : State} (hs : s.showing.isSome = true) (h : 48 ≤ s.frames.consecutive) :
    checkRepeats s = halt .abortedFault (endShowing .abortedFault s) := by
  obtain ⟨sh, hsh⟩ := Option.isSome_iff_exists.1 hs
  rw [checkRepeats, hsh]
  exact if_pos h

/-- A showing that is current after the 48th repeat was looked for was not ended by it. -/
theorem checkRepeats_of_showing {s : State} (h : (checkRepeats s).showing.isSome = true) : checkRepeats s = s := by
  by_cases hfew : s.frames.consecutive < 48
  · exact checkRepeats_of_few hfew
  · cases hs : s.showing with
    | none => exact checkRepeats_of_none hs
    | some sh =>
      rw [checkRepeats_of_many (by simp [hs]) (by omega)] at h
      simp [State.showing] at h

/-! ### After a tick (R119) -/

/-- After a tick with a current showing no unit holds an ARMED target at or below its counter. -/
theorem frameTick_rests {s : State} {n : Nat} {x : CompareUnit} {a : Target}
    (hshow : (frameTick s).showing.isSome = true)
    (hn : n < 2 ∨ (n < 6 ∧ ((frameTick s).subs.streams[n - 2]?).isSome = true))
    (hx : (frameTick s).time.units[n]? = some x) (ha : x.armed = some a) : counterOf n (frameTick s) < a.frame := by
  have htick := frameTick_eq s
  generalize tookOver s (tickCounted s) = takeover at htick
  generalize tickCounted s = j at htick
  have hcut : FiresUnits (fun _ => False) (checkRepeats (tickTail takeover (judgeUnits j))) (frameTick s) := by
    rw [htick]
    exact .of_eq (by simp) (by simp) (by simp)
  rw [checkRepeats_of_showing (hcut.showing ▸ hshow)] at hcut
  have hrest := (tickTail_fires takeover (fun _ => False) (judgeUnits j)).trans hcut
  have hlength := hrest.streams.trans (judgeUnits_fires j).streams
  refine (firing_eq_none hshow).1 ?_ x a hx ha
  rw [hrest.firing_eq not_false]
  exact judgeUnits_ends n (by simpa [hlength] using hn)

end Machine
end Sys2Proof

end

section
/-!
# The frame clock (R111 to R113)
-/

namespace Sys2Proof
namespace Machine

/-! ### The clock (R111 to R113) -/

/-- A tick, its timeline given: the count restarts. -/
def tickWith (time : Timeline) (s : State) : State := frameTick { s with time := { time with count := 0 } }

theorem clockTick_updateTime (f : Timeline → Timeline) (s : State) :
    clockTick (updateTime f s) = tickWith (f s.time) s := rfl

section
variable (s : State)

/-- A tick leaves the clock but for its count, and raises neither SYNC_LOST nor SYNC_REGAINED. -/
theorem tickWith_clock (time : Timeline) : (tickWith time s).time.clock = time.clock ∧ (tickWith time s).time.count = 0 ∧
    (tickWith time s).time.source = time.source ∧ (tickWith time s).time.edges = time.edges ∧
    (tickWith time s).time.generated = time.generated ∧ (tickWith time s).time.losses = time.losses ∧
    (tickWith time s).time.acquiring = time.acquiring ∧ (tickWith time s).time.coasting = time.coasting ∧
    (tickWith time s).notices.causes[23]? = s.notices.causes[23]? ∧
    (tickWith time s).notices.causes[24]? = s.notices.causes[24]? := by
  have hclock : (tickWith time s).time.clockSide = Timeline.clockSide { time with count := 0 } :=
    frameTick_clockSide { s with time := { time with count := 0 } }
  have hcauses : ∀ k, groupOf k = 4 → k ≠ 27 → (tickWith time s).notices.causes[k]? = s.notices.causes[k]? :=
    fun k hk h27 => by rw [tickWith, frameTick_causes hk { s with time := { time with count := 0 } } h27]
  simp only [Timeline.clockSide, Timeline.mk.injEq] at hclock
  obtain ⟨hsource, hstate, hacquiring, hcoasting, hcount, -, hedges, hgenerated, hlosses, -⟩ := hclock
  exact ⟨hstate, hcount, hsource, hedges, hgenerated, hlosses, hacquiring, hcoasting,
    hcauses 23 (by decide) (by decide), hcauses 24 (by decide) (by decide)⟩

/-- The timeline as the clock loses sync (R113). -/
def Timeline.lost (t : Timeline) : Timeline :=
  { t with
    clock := .coasting, generated := bump max32 t.generated, losses := bump max32 t.losses, acquiring := 0, coasting := 1 }

theorem loseSync_eq : loseSync s = raise .syncLost (Layout.num 1 s.time.rate) (tickWith s.time.lost s) := rfl

/-- An edge that is selected ticks and locks the clock (R112). -/
theorem syncEdge_selected {e : Edge} {rising : Bool} (he : s.time.source = some e) (ht : e.takes rising = true) :
    syncEdge rising s =
      if s.time.clock = .coasting then
        raise .syncRegained (Layout.num 4 s.time.coasting) (tickWith { s.time with
          clock := .locked, edges := bump max32 s.time.edges, acquiring := 0, coasting := 0 } s)
      else tickWith { s.time with clock := .locked, edges := bump max32 s.time.edges, acquiring := 0, coasting := 0 } s := by
  simp only [syncEdge, he, ht, if_true, clockTick_updateTime]

theorem syncEdge_other {rising : Bool}
    (h : s.time.source = none ∨ ∃ e, s.time.source = some e ∧ e.takes rising = false) : syncEdge rising s = s := by
  rcases h with hnone | ⟨e, he, ht⟩
  · simp [syncEdge, hnone]
  · simp [syncEdge, he, ht]

theorem exec_generatorTick_free (h : s.time.clock = .free) :
    exec .generatorTick s = .next (settle (tickWith s.time s)) := by
  have hticks : generatorTicks s = tickWith s.time s := by
    rw [generatorTicks, h]
    rfl
  exact congrArg finish hticks

theorem exec_generatorTick_acquiring (h : s.time.clock = .acquiring) (hfirst : s.time.acquiring = 0) :
    exec .generatorTick s = .next (settle (tickWith
      { s.time with generated := bump max32 s.time.generated, acquiring := 1 } s)) := by
  have hticks : generatorTicks s = tickWith { s.time with generated := bump max32 s.time.generated, acquiring := 1 } s := by
    simp only [generatorTicks, h]
    rw [if_neg (by omega), clockTick_updateTime, hfirst, h]
  exact congrArg finish hticks

theorem exec_generatorTick_lost (h : s.time.clock = .acquiring) (hsecond : 1 ≤ s.time.acquiring) :
    exec .generatorTick s = .next (settle (loseSync s)) := by
  have hticks : generatorTicks s = loseSync s := by
    rw [generatorTicks, h]
    exact if_pos hsecond
  exact congrArg finish hticks

theorem exec_generatorTick_coasting (h : s.time.clock = .coasting) :
    exec .generatorTick s = .next (settle (tickWith
      { s.time with generated := bump max32 s.time.generated, coasting := bump max32 s.time.coasting } s)) := by
  have hticks : generatorTicks s = tickWith
      { s.time with generated := bump max32 s.time.generated, coasting := bump max32 s.time.coasting } s := by
    rw [generatorTicks, h]
    rfl
  exact congrArg finish hticks

theorem exec_generatorTick_locked (h : s.time.clock = .locked) : exec .generatorTick s = .next (settle s) := by
  have hticks : generatorTicks s = s := by rw [generatorTicks, h]
  exact congrArg finish hticks

theorem exec_syncLoss_locked (h : s.time.clock = .locked) : exec .syncLoss s = .next (settle (loseSync s)) :=
  congrArg finish (if_pos h)

theorem exec_syncLoss_other (h : s.time.clock ≠ .locked) : exec .syncLoss s = .next (settle s) :=
  congrArg finish (if_neg h)

end

/-! ### The steps of fades and pulses (R150, R181) -/

/-- The fade moves as if no pulse ran. -/
@[simp] theorem stepFade_stepPulses_sound (s : State) : (stepFade (stepPulses s)).sound = (stepFade s).sound := by
  simp only [stepFade, stepPulses]
  (repeat' split) <;> rfl

@[simp] theorem stepPulses_lines (s : State) : (stepPulses s).lines = s.lines.map Line.stepPulse := rfl

/-! ### Fades and pulses without a showing (R150, R181) -/

/-- Outside RUNNING and PREROLL, with no showing, a tick moves the fade and the pulses by one step and no more. -/
theorem frameTick_outputs {s : State} (hrunning : s.seq.state ≠ .running) (hpreroll : s.seq.state ≠ .preroll)
    (hshow : s.showing = none) :
    (frameTick s).sound.fader = (stepFade s).sound.fader ∧ (frameTick s).sound.fade = (stepFade s).sound.fade ∧
    (frameTick s).lines = s.lines.map Line.stepPulse := by
  have hstepped : (stepFade (stepPulses s)).showing = none := by
    rw [← hshow]
    exact showing_of_current (by simp)
  have hcounted : tickCounted s = stepFade (stepPulses s) :=
    sequencerTick_waits (by simpa using hrunning) fun h => absurd (by simpa using h) hpreroll
  have htail : ∀ takeover, (tickTail takeover (stepFade (stepPulses s))).showing = none := fun takeover => by
    rw [← Option.not_isSome_iff_eq_none, (tickTail_fires takeover (fun _ => False) _).showing, hstepped]
    simp
  rw [frameTick_eq]
  generalize tookOver s (tickCounted s) = takeover
  rw [hcounted, judgeUnits_of_none hstepped, checkRepeats_of_none (htail takeover)]
  simp

end Machine
end Sys2Proof

end

section
/-!
# What a judgement of the units comes to (R76, R94, R107)
-/

namespace Sys2Proof
namespace Machine

/-! ### What a judgement of the units comes to (R94, R76, R162) -/

/-- Unit 0 has fired as often as its targets are reached. -/
def cuesFired (s : State) : State := fireCues (((s.showing.map fun sh => sh.cues.length).getD 0) + 3) s

theorem judgeUnits_passes (s : State) : judgeUnits s = judgeStreams (fireCount 3 (cuesFired s)) := rfl

theorem judgeStreams_fires (s : State) : FiresUnits (fun n => ∃ k ∈ [0, 1, 2, 3], n = 2 + k) s (judgeStreams s) :=
  fireStreams_fires _ s

section
variable (s : State)

theorem cuesFired_fires : FiresUnits (· = 0) s (cuesFired s) := fireCues_firesUnits _ s

@[simp] theorem judgeUnits_outputs :
    (judgeUnits s).lines = (cuesFired s).lines ∧ (judgeUnits s).sound = (cuesFired s).sound := by
  simp [judgeUnits_passes]

theorem judgeUnits_counted : (judgeUnits s).keys.counted = (fireCount 3 (cuesFired s)).keys.counted := by
  simp [judgeUnits_passes]

theorem judgeUnits_unit0 : (judgeUnits s).time.units[0]? = (cuesFired s).time.units[0]? := by
  rw [judgeUnits_passes, (judgeStreams_fires _).units 0 (by simp), (fireCount_firesUnits _ _).units 0 (by simp)]

theorem judgeUnits_unit1 : (judgeUnits s).time.units[1]? = (fireCount 3 (cuesFired s)).time.units[1]? := by
  rw [judgeUnits_passes, (judgeStreams_fires _).units 1 (by simp)]

theorem judgeUnits_causes {k : Nat} (hk : groupOf k = 4) :
    (judgeUnits s).notices.causes[k]? = (cuesFired s).notices.causes[k]? := by
  rw [judgeUnits_passes, judgeStreams_timeline hk, fireCount_timeline hk]

end

section
variable {s t : State} {sh : Showing} {a : Target} {x : CompareUnit}

theorem cuesFired_rests (h : firing 0 s = none) : cuesFired s = s := fireCues_rests h _

/-- Unit 0 fires once when no target follows that is reached as well. -/
theorem cuesFired_once (hsh : s.showing = some sh) (hx : s.time.units[0]? = some x) (hf : firing 0 s = some a)
    (hrest : ∀ b, (CompareUnit.loadCueOf sh x.moveUp).armed = some b → s.time.frame < b.frame) :
    cuesFired s = loadCue (fireCue sh a (updateUnit 0 .moveUp s)) := by
  obtain ⟨hshow, hfires, hunit⟩ := fireCue_loads hsh a
  rw [cuesFired, fireCues_fires hsh hf, fireCues_rests]
  rw [firing_eq_none (by simp [hshow]), hunit, hx, hfires.counterOf_eq]
  intro y b hy hb
  obtain rfl : CompareUnit.loadCueOf sh x.moveUp = y := Option.some.inj hy
  exact hrest b hb

/-- Unit 1 fires once when no target follows that is reached as well. -/
theorem fireCount_once (hx : s.time.units[1]? = some x) (hf : firing 1 s = some a)
    (hrest : ∀ b, x.pending = some b → s.time.frame < b.frame) (fuel : Nat) :
    fireCount (fuel + 1) s = countShowing (updateUnit 1 .moveUp s) := by
  have hfires := (updateUnit_fires (s := s) (n := 1) .moveUp).trans (countShowing_fires _ _)
  rw [fireCount_fires hf, fireCount_rests]
  rw [firing_eq_none (by rw [hfires.showing]; exact (firing_eq_some.1 hf).1), hfires.counterOf_eq]
  intro y b hy hb
  obtain rfl : x.moveUp = y := by simpa [updateUnit, hx] using hy
  exact hrest b hb

@[simp] theorem setCharged_counted (g : Option (Nat × Grant)) (s : State) :
    (setCharged g s).keys.counted = s.keys.counted := by
  unfold setCharged
  split <;> simp

/-- A fire of unit 1 counts the showing (R76). -/
theorem countShowing_counted (h : s.showing.isSome = true) : (countShowing s).keys.counted = true := by
  obtain ⟨sh, hsh⟩ := Option.isSome_iff_exists.1 h
  unfold countShowing
  rw [hsh]
  dsimp only
  split
  · assumption
  · split <;> simp [performCount]

/-- What a cue does to the outputs depends on the outputs only. -/
theorem performCue_outputs (pos : Pos) (c : CueAction) (hlines : s.lines = t.lines) (hsound : s.sound = t.sound) :
    (performCue pos c s).lines = (performCue pos c t).lines ∧ (performCue pos c s).sound = (performCue pos c t).sound := by
  cases c <;> simp [performCue, writeMasked, updateLine, takeFade, hlines, hsound]

/-- The showing after its cues are judged: only the cue to be loaded next has moved. -/
theorem fireCues_showing (fuel : Nat) (hsh : s.showing = some sh) :
    ∃ n, (fireCues fuel s).showing = some { sh with nextCue := n } := by
  induction fuel generalizing s sh with
  | zero => exact ⟨sh.nextCue, hsh⟩
  | succ fuel ih =>
    cases hf : firing 0 s with
    | none => rw [fireCues_rests hf]; exact ⟨sh.nextCue, hsh⟩
    | some a =>
      rw [fireCues_fires hsh hf]
      obtain ⟨n, hn⟩ := ih (fireCue_loads hsh a).1
      exact ⟨n, hn⟩

theorem judgeUnits_showing (hsh : s.showing = some sh) : ∃ n, (judgeUnits s).showing = some { sh with nextCue := n } := by
  obtain ⟨n, hn⟩ : ∃ n, (cuesFired s).showing = some { sh with nextCue := n } := fireCues_showing _ hsh
  exact ⟨n, hn ▸ showing_of_current (by simp [judgeUnits_passes])⟩

/-! ### The interlock through a tick (R107) -/

theorem interlocked_of_holding (h : t.lines.map Line.holding = s.lines.map Line.holding) :
    t.interlocked = s.interlocked := by
  have hany : ∀ u : State, u.interlocked = (u.lines.map Line.holding).any id := fun u => by simp [State.interlocked]
  rw [hany, hany, h]

theorem map_holding_updateAt {f : Line → Line} (h : ∀ l, (f l).holding = l.holding) (l : List Line) (n : Nat) :
    (updateAt f l n).map Line.holding = l.map Line.holding := by
  refine List.ext_getElem? fun i => ?_
  rw [List.getElem?_map, List.getElem?_map, getElem?_updateAt]
  split
  · simp [Function.comp_def, h]
  · rfl

/-- A cue moves latches and pulses, not what an input holds. -/
theorem performCue_interlocked (pos : Pos) (c : CueAction) (s : State) :
    (performCue pos c s).interlocked = s.interlocked := by
  refine interlocked_of_holding ?_
  cases c with
  | setLines mask values =>
    refine List.ext_getElem (by simp [performCue, writeMasked]) fun n hn hn' => ?_
    simp only [List.length_map] at hn'
    simp [performCue, writeMasked, Line.write, hn', apply_ite Line.holding]
  | pulseLine line width =>
    exact map_holding_updateAt (fun l => by unfold Line.startPulse; split <;> rfl) _ _
  | fader | notice => simp [performCue, takeFade]

theorem fireCue_interlocked (sh : Showing) (a : Target) (s : State) : (fireCue sh a s).interlocked = s.interlocked := by
  unfold fireCue
  split
  · exact performCue_interlocked _ _ _
  · rfl

theorem fireCues_interlocked (fuel : Nat) (s : State) : (fireCues fuel s).interlocked = s.interlocked := by
  induction fuel generalizing s with
  | zero => rfl
  | succ fuel ih =>
    cases hf : firing 0 s with
    | none => rw [fireCues_rests hf]
    | some a =>
      obtain ⟨sh, hsh⟩ := Option.isSome_iff_exists.1 (firing_eq_some.1 hf).1
      have hloaded : (loadCue (fireCue sh a (updateUnit 0 .moveUp s))).interlocked =
          (fireCue sh a (updateUnit 0 .moveUp s)).interlocked := interlocked_of_holding (by simp)
      rw [fireCues_fires hsh hf, ih, hloaded, fireCue_interlocked]
      rfl

theorem stepPulses_interlocked (s : State) : (stepPulses s).interlocked = s.interlocked := by
  refine interlocked_of_holding ?_
  simp only [stepPulses, List.map_map]
  refine List.map_congr_left fun l _ => ?_
  simp only [Function.comp_apply, Line.stepPulse]
  (repeat' split) <;> rfl

end

end Machine
end Sys2Proof

end

section
/-!
# Units 0 and 1 at a tick of a current PLAY (R76, R94)
-/

namespace Sys2Proof
namespace Machine

/-! ### A tick that presents the next frame of a current PLAY (R114) -/

/-- A tick with a current showing short of its boundary: the fade and the pulses stepped and the frame advanced. -/
def playAdvanced (s : State) : State := advanceFrame (stepFade (stepPulses s))

section
variable (s : State)

@[simp] theorem playAdvanced_frame :
    (playAdvanced s).seq = s.seq ∧ (playAdvanced s).keys = s.keys ∧ (playAdvanced s).frames = s.frames ∧
    (playAdvanced s).lines = s.lines.map Line.stepPulse ∧ (playAdvanced s).sound = (stepFade s).sound ∧
    (playAdvanced s).lines = (stepFade (stepPulses s)).lines := by
  simp [playAdvanced]

theorem playAdvanced_causes {k : Nat} (hk : groupOf k = 4) : (playAdvanced s).notices.causes[k]? = s.notices.causes[k]? := by
  rw [playAdvanced, advanceFrame_timeline hk]
  simp

theorem playAdvanced_timeFrame : (playAdvanced s).time.frame = s.time.frame + 1 := by
  have h := advanceFrame_besideUnits (stepFade (stepPulses s))
  rw [playAdvanced, (counters_of_besideUnits h).1]
  simp

theorem playAdvanced_counter {n : Nat} (hn : n < 2) : counterOf n (playAdvanced s) = s.time.frame + 1 := by
  simp [counterOf, hn, playAdvanced_timeFrame]

theorem playAdvanced_unit {n : Nat} (hn : n < 2) : (playAdvanced s).time.units[n]? = s.time.units[n]? := by
  have hfeeds : ∀ u : State,
      (reelStartCaptions (emptyUnits (fun n => decide (2 ≤ n)) u)).time.units[n]? = u.time.units[n]? := by
    intro u
    have hfed := reelStartCaptions_feeds (emptyUnits (fun n => decide (2 ≤ n)) u)
    have hempty : (emptyUnits (fun n => decide (2 ≤ n)) u).time.units[n]? = u.time.units[n]? := by
      rw [emptyUnits_getElem?]
      simp [Nat.not_le.2 hn]
    rcases (by omega : n = 0 ∨ n = 1) with rfl | rfl
    · exact hfed.unit0.trans hempty
    · exact hfed.unit1.trans hempty
  unfold playAdvanced advanceFrame
  dsimp only
  split
  · rw [hfeeds]
    simp [updateTime]
  · simp [updateTime]

/-- Short of a reel start the frame advances by its counters alone. -/
theorem playAdvanced_sameReel (h : s.time.frame + 1 ∉ s.time.starts.drop 1) :
    (playAdvanced s).time = { s.time with
      frame := s.time.frame + 1, timecode := s.time.timecode.tick s.time.rate, reelFrame := s.time.reelFrame + 1 } ∧
    (playAdvanced s).subs = s.subs := by
  unfold playAdvanced advanceFrame
  simp only [List.drop_one] at h
  simp [h]

theorem playAdvanced_counter_reel {n : Nat} (hn : 2 ≤ n) (h : s.time.frame + 1 ∉ s.time.starts.drop 1) :
    counterOf n (playAdvanced s) = s.time.reelFrame + 1 := by
  rw [counterOf, if_neg (by omega), (playAdvanced_sameReel s h).1]

end

section
variable {s : State} {sh : Showing}

theorem tickCounted_play (hs : s.seq.state = .running) (hc : s.seq.current = .play sh) (hf : s.time.frame < sh.endFrame) :
    tickCounted s = playAdvanced s :=
  sequencerTick_advances (sh := sh) (by simpa using hs) (by simpa using hc) (by simpa using hf)

theorem playAdvanced_showing (hc : s.seq.current = .play sh) : (playAdvanced s).showing = some sh :=
  (showing_eq_some _ _).2 (by simp [hc])

@[simp] theorem lookAheadIfDue_consecutive (s : State) :
    (lookAheadIfDue s).frames.consecutive = s.frames.consecutive := by
  unfold lookAheadIfDue lookAhead prepareEnd
  dsimp only
  (repeat' split) <;> simp

@[simp] theorem updateShowing_frames (f : Showing → Showing) (s : State) : (updateShowing f s).frames = s.frames := by
  simp

theorem presentPicture_consecutive (takeover : Bool) (s : State) :
    (presentPicture takeover s).frames.consecutive ≤ s.frames.consecutive + 1 := by
  unfold presentPicture presentDue repeatFrame putOnLink beginSend
  dsimp only
  (repeat' split) <;> simp

theorem tickTail_consecutive (takeover : Bool) (s : State) :
    (tickTail takeover s).frames.consecutive ≤ s.frames.consecutive + 1 := by
  have h := presentPicture_consecutive takeover (lookAheadIfDue s)
  simpa [tickTail] using h

/-- Short of the 48th repeat the tick is its passes. -/
theorem frameTick_play (hs : s.seq.state = .running) (hc : s.seq.current = .play sh) (hf : s.time.frame < sh.endFrame)
    (hfew : s.frames.consecutive < 47) : ∃ takeover,
    frameTick s = cutGather s (tickTail takeover (judgeUnits (playAdvanced s))) := by
  refine ⟨tookOver s (tickCounted s), ?_⟩
  rw [frameTick_eq]
  generalize tookOver s (tickCounted s) = takeover
  have hle := tickTail_consecutive takeover (judgeUnits (playAdvanced s))
  rw [tickCounted_play hs hc hf, checkRepeats_of_few]
  simp at hle
  omega

/-- What is armed after a fire of unit 0 and the load that follows it: the pending target, or the next cue. -/
theorem armed_loadCueOf {x : CompareUnit} {b : Target} (h : (CompareUnit.loadCueOf sh x.moveUp).armed = some b) :
    x.pending = some b ∨ ∃ d, sh.cues[sh.nextCue]? = some d ∧ b.frame = d.1 := by
  unfold CompareUnit.loadCueOf CompareUnit.load CompareUnit.moveUp at h
  cases hpending : x.pending with
  | some y => cases hcue : sh.cues[sh.nextCue]? <;> simp_all
  | none =>
    cases hcue : sh.cues[sh.nextCue]? with
    | none => simp [hcue, hpending] at h
    | some d =>
      simp [hcue, hpending] at h
      exact .inr ⟨d, rfl, by rw [← h]⟩

section
variable (hs : s.seq.state = .running) (hc : s.seq.current = .play sh) (hf : s.time.frame < sh.endFrame)
  (hfew : s.frames.consecutive < 47)
include hs hc hf hfew

/-- Short of the 48th repeat a tick leaves of the units, the outputs and the cue notice what their judgement made of them. -/
theorem frameTick_judged :
    (frameTick s).time = (judgeUnits (playAdvanced s)).time ∧
    (frameTick s).keys.counted = (judgeUnits (playAdvanced s)).keys.counted ∧
    (frameTick s).lines = (cuesFired (playAdvanced s)).lines ∧
    (frameTick s).sound.fader = (cuesFired (playAdvanced s)).sound.fader ∧
    (frameTick s).sound.fade = (cuesFired (playAdvanced s)).sound.fade ∧
    (frameTick s).notices.causes[27]? = (cuesFired (playAdvanced s)).notices.causes[27]? := by
  have h27 : groupOf 27 = 4 := by decide
  have hcut : ∀ u v, (cutGather u v).notices = v.notices := fun u v => by simp
  obtain ⟨takeover, htick⟩ := frameTick_play hs hc hf hfew
  rw [htick, hcut, tickTail_timeline h27, judgeUnits_causes _ h27]
  simp

/-- Unit 1 below its target rests. -/
theorem frameTick_unit1_rests {x : CompareUnit} {a : Target} (hx : s.time.units[1]? = some x) (harmed : x.armed = some a)
    (hdue : s.time.frame + 1 < a.frame) :
    (frameTick s).time.units[1]? = some x ∧ (frameTick s).keys.counted = s.keys.counted := by
  obtain ⟨htime, hcounted, -⟩ := frameTick_judged hs hc hf hfew
  have hfires := cuesFired_fires (playAdvanced s)
  have hunit : (cuesFired (playAdvanced s)).time.units[1]? = some x := by
    rw [hfires.units 1 (by decide), playAdvanced_unit _ (by decide), hx]
  have hrest : firing 1 (cuesFired (playAdvanced s)) = none := by
    rw [firing_eq_none (by rw [hfires.showing, playAdvanced_showing hc]; rfl), hfires.counterOf_eq,
      playAdvanced_counter _ (by decide), hunit]
    intro y b hy hb
    obtain rfl : x = y := Option.some.inj hy
    obtain rfl : a = b := Option.some.inj (harmed.symm.trans hb)
    exact hdue
  rw [htime, hcounted, judgeUnits_unit1, judgeUnits_counted, fireCount_rests hrest]
  exact ⟨hunit, by simp [cuesFired]⟩

/-- Unit 1 at its target counts the showing, and PENDING moves up (R76, R119). -/
theorem frameTick_unit1_fires {x : CompareUnit} {a : Target} (hx : s.time.units[1]? = some x) (harmed : x.armed = some a)
    (hdue : a.frame ≤ s.time.frame + 1) (hrest : ∀ b, x.pending = some b → s.time.frame + 1 < b.frame) :
    (frameTick s).time.units[1]? = some x.moveUp ∧ (frameTick s).keys.counted = true := by
  obtain ⟨htime, hcounted, -⟩ := frameTick_judged hs hc hf hfew
  have hfires := cuesFired_fires (playAdvanced s)
  have hshow : (cuesFired (playAdvanced s)).showing.isSome = true := by
    rw [hfires.showing, playAdvanced_showing hc]
    rfl
  have hunit : (cuesFired (playAdvanced s)).time.units[1]? = some x := by
    rw [hfires.units 1 (by decide), playAdvanced_unit _ (by decide), hx]
  have hcounter : counterOf 1 (cuesFired (playAdvanced s)) = s.time.frame + 1 := by
    rw [hfires.counterOf_eq, playAdvanced_counter _ (by decide)]
  have hframe : (cuesFired (playAdvanced s)).time.frame = s.time.frame + 1 := hcounter
  have hfiring : firing 1 (cuesFired (playAdvanced s)) = some a :=
    firing_eq_some.2 ⟨hshow, ⟨x, hunit, harmed⟩, by rwa [hcounter]⟩
  rw [htime, hcounted, judgeUnits_unit1, judgeUnits_counted, fireCount_once hunit hfiring (hframe.symm ▸ hrest)]
  refine ⟨?_, countShowing_counted hshow⟩
  simp [updateUnit, hunit]

/-- Unit 0 below its target: the fade and the pulses move one step and no more. -/
theorem frameTick_unit0_rests (h : ∀ x a, s.time.units[0]? = some x → x.armed = some a → s.time.frame + 1 < a.frame) :
    (frameTick s).sound.fader = (stepFade s).sound.fader ∧ (frameTick s).sound.fade = (stepFade s).sound.fade ∧
    (frameTick s).lines = s.lines.map Line.stepPulse := by
  obtain ⟨-, -, hlines, hfader, hfade, -⟩ := frameTick_judged hs hc hf hfew
  have hrest : firing 0 (playAdvanced s) = none := by
    rw [firing_eq_none (by rw [playAdvanced_showing hc]; rfl), playAdvanced_unit _ (by decide),
      playAdvanced_counter _ (by decide)]
    exact h
  rw [hlines, hfader, hfade, cuesFired_rests hrest]
  simp

/-- Unit 0 at its target: the cue is performed, the next one loaded (R94). -/
theorem frameTick_unit0_fires {x : CompareUnit} {a : Target} {c : Nat × CueAction} (hx : s.time.units[0]? = some x)
    (harmed : x.armed = some a) (hdue : a.frame ≤ s.time.frame + 1)
    (hrest : ∀ b, x.pending = some b → s.time.frame + 1 < b.frame) (hcue : sh.cues[a.tag]? = some c)
    (hnext : ∀ d, sh.cues[sh.nextCue]? = some d → s.time.frame + 1 < d.1) :
    let acted := performCue sh.play.pos c.2 (stepFade (stepPulses s))
    (frameTick s).time.units[0]? = some (CompareUnit.loadCueOf sh x.moveUp) ∧
    (frameTick s).lines = acted.lines ∧ (frameTick s).sound.fader = acted.sound.fader ∧
    (frameTick s).sound.fade = acted.sound.fade ∧
    (frameTick s).notices.causes[27]? =
      (performCue sh.play.pos c.2 (updateUnit 0 .moveUp (playAdvanced s))).notices.causes[27]? := by
  obtain ⟨htime, -, hlines, hfader, hfade, hcause⟩ := frameTick_judged hs hc hf hfew
  have hshow := playAdvanced_showing hc
  have hunit : (playAdvanced s).time.units[0]? = some x := by rw [playAdvanced_unit _ (by decide), hx]
  have hframe := playAdvanced_timeFrame s
  have hfiring : firing 0 (playAdvanced s) = some a :=
    firing_eq_some.2 ⟨by rw [hshow]; rfl, ⟨x, hunit, harmed⟩, by rwa [playAdvanced_counter _ (by decide)]⟩
  have honce := cuesFired_once hshow hunit hfiring (fun b hb => ?_)
  · have hfired : fireCue sh a (updateUnit 0 .moveUp (playAdvanced s)) =
        performCue sh.play.pos c.2 (updateUnit 0 .moveUp (playAdvanced s)) := by simp only [fireCue, hcue]
    have houtputs := performCue_outputs (s := updateUnit 0 .moveUp (playAdvanced s)) (t := stepFade (stepPulses s))
      sh.play.pos c.2 (by simp) (by simp)
    rw [htime, hlines, hfader, hfade, hcause, judgeUnits_unit0, honce, (fireCue_loads hshow a).2.2, hunit, hfired]
    refine ⟨rfl, ?_⟩
    simp [houtputs]
  · rw [hframe]
    rcases armed_loadCueOf hb with hpending | ⟨d, hd, hframe⟩
    · exact hrest b hpending
    · exact hframe ▸ hnext d hd

end

end

end Machine
end Sys2Proof

end

section
/-!
# The streams at a tick (R162, R163)
-/

namespace Sys2Proof
namespace Machine

/-! ### The streams' slots at a tick (R162, R163) -/

/-- No displayed cue of a stream has its out-frame at or below a reel frame. -/
def Stream.nonePassed (frame : Nat) (st : Stream) : Prop :=
  ∀ (n : Nat) (shown : Shown), (st.slots[n]?).join = some shown → frame < shown.timed.outFrame

section
variable {s : State} {j k : Nat} {st : Stream}

theorem clearSlot_other (h : k ≠ j) (n : Nat) (reason : ClearReason) (s : State) :
    (clearSlot j n reason s).subs.streams[k]? = s.subs.streams[k]? := by
  unfold clearSlot
  (repeat' split) <;> simp [getElem?_updateAt_other _ _ h]

theorem clearWhere_other (h : k ≠ j) (p : Shown → Bool) (reason : ClearReason) (s : State) :
    (clearWhere j p reason s).subs.streams[k]? = s.subs.streams[k]? := by
  simp only [clearWhere, List.foldl]
  (repeat' split) <;> simp [clearSlot_other h]

/-- With no displayed cue to clear, nothing is cleared. -/
theorem clearWhere_of_none (hst : s.subs.streams[k]? = some st) {p : Shown → Bool} {reason : ClearReason}
    (h : ∀ (n : Nat) (shown : Shown), (st.slots[n]?).join = some shown → p shown = false) :
    clearWhere k p reason s = s := by
  unfold clearWhere
  refine List.foldl_fixed' (fun n => ?_) _
  simp only [hst]
  split
  · rfl
  · rw [h n _ ‹_›]
    rfl

theorem clearPassed_of_none (hst : s.subs.streams[k]? = some st)
    (h : st.nonePassed s.time.reelFrame) : clearPassed k s = s :=
  clearWhere_of_none hst fun n shown hn => by simpa using h n shown hn

/-- A stream with no cue that has passed keeps its slots at a tick. -/
theorem clearAtTick_keeps (hst : s.subs.streams[k]? = some st)
    (h : st.nonePassed s.time.reelFrame) :
    (clearAtTick s).subs.streams[k]? = some st := by
  have hfold : ∀ (l : List Nat) (u : State), u.subs.streams[k]? = some st → u.time = s.time →
      (l.foldl (fun s k => clearPassed k s) u).subs.streams[k]? = some st := by
    intro l
    induction l with
    | nil => exact fun u hu _ => hu
    | cons i l ih =>
      intro u hu htime
      refine ih _ ?_ (by simp [htime])
      change (clearPassed i u).subs.streams[k]? = some st
      by_cases hik : k = i
      · subst hik
        rw [clearPassed_of_none hu (htime ▸ h)]
        exact hu
      · rw [clearPassed, clearWhere_other hik]
        exact hu
  exact hfold _ s hst rfl

theorem showCue_other (h : k ≠ j) (tag : Nat) (s : State) : (showCue j tag s).subs.streams[k]? = s.subs.streams[k]? := by
  unfold showCue clearPassed
  dsimp only
  (repeat' split) <;> simp [getElem?_updateAt_other _ _ h, clearWhere_other h, clearSlot_other h]

theorem fireStream_other (h : k ≠ j) (fuel : Nat) (s : State) :
    (fireStream j fuel s).subs.streams[k]? = s.subs.streams[k]? := by
  induction fuel generalizing s with
  | zero => rfl
  | succ fuel ih =>
    unfold fireStream
    split
    · rfl
    · rw [ih, loadNextCue_other _ h, showCue_other h]
      rfl

/-- A stream judged among the others, which leave it and its unit. -/
theorem fireStreams_stream {l : List Nat} (hl : l.Nodup) (hk : k ∈ l) (s : State) : ∃ u,
    (fireStreams l s).subs.streams[k]? = (fireStream k (streamFuel k u) u).subs.streams[k]? ∧
    FiresUnits (· ≠ 2 + k) s u ∧ u.subs.streams[k]? = s.subs.streams[k]? := by
  have hafter : ∀ (l : List Nat) (u : State), k ∉ l → (fireStreams l u).subs.streams[k]? = u.subs.streams[k]? := by
    intro l
    induction l with
    | nil => exact fun u _ => rfl
    | cons i l ih =>
      intro u hkl
      obtain ⟨hki, hkl⟩ := not_or.1 (mt List.mem_cons.2 hkl)
      exact (ih _ hkl).trans (fireStream_other hki _ u)
  induction l generalizing s with
  | nil => simp at hk
  | cons i l ih =>
    obtain ⟨hi, hnodup⟩ := List.nodup_cons.1 hl
    by_cases hki : k = i
    · subst hki
      exact ⟨s, hafter l _ hi, .refl _ s, rfl⟩
    · obtain ⟨u, hu, hfires, hstream⟩ := ih hnodup ((List.mem_cons.1 hk).resolve_left hki)
        (fireStream i (streamFuel i s) s)
      exact ⟨u, hu, ((fireStream_firesUnits _ s).mono fun n hn => by omega).trans hfires,
        hstream.trans (fireStream_other hki _ s)⟩

/-- A cue shown with both slots empty takes the lower one (R162). -/
theorem showCue_shows {tag : Nat} {timed : List TimedCue} {c : TimedCue} (hst : s.subs.streams[k]? = some st)
    (hshow : s.showing.isSome = true) (hslots : st.slots = [none, none]) (htimed : st.timed = some timed)
    (hcue : timed[tag]? = some c) (hout : s.time.reelFrame < c.outFrame) :
    (showCue k tag s).subs.streams[k]? = some { st with slots := [some { tag := tag, timed := c }, none] } := by
  have hnone : st.nonePassed s.time.reelFrame := by
    intro n shown hn
    rw [hslots] at hn
    match n with
    | 0 | 1 | n + 2 => simp at hn
  obtain ⟨sh, hsh⟩ := Option.isSome_iff_exists.1 hshow
  unfold showCue
  rw [clearPassed_of_none hst hnone]
  simp [hsh, htimed, hcue, Nat.not_le.2 hout, hslots, chooseSlot, hst, replaceAt, updateAt]

/-- The cue loaded next into an empty unit is one of those not yet loaded (R160). -/
theorem loadTimedOf_empty {frame : Nat} {b : Target} (h : (CompareUnit.loadTimedOf frame st .empty).armed = some b) :
    ∃ d ∈ (st.timed.getD []).drop st.nextCue, b.frame = d.inFrame := by
  have hle : st.nextCue ≤ st.cueDue frame := le_passOver _ _ _
  unfold CompareUnit.loadTimedOf at h
  cases hcue : (st.timed.getD [])[st.cueDue frame]? with
  | none => simp [hcue, CompareUnit.empty] at h
  | some d =>
    rw [hcue] at h
    obtain rfl : _ = b := Option.some.inj h
    refine ⟨d, List.mem_iff_getElem?.2 ⟨st.cueDue frame - st.nextCue, ?_⟩, rfl⟩
    rw [List.getElem?_drop, Nat.add_sub_cancel' hle, hcue]

/-- Unit 2 + k with its last target reached: the cue is shown in the lower slot, and no cue follows at once. -/
theorem fireStream_shows {x : CompareUnit} {a : Target} {timed : List TimedCue} {c : TimedCue} (fuel : Nat)
    (hst : s.subs.streams[k]? = some st) (hslots : st.slots = [none, none]) (htimed : st.timed = some timed)
    (hcue : timed[a.tag]? = some c) (hx : s.time.units[2 + k]? = some x) (hpending : x.pending = none)
    (hf : firing (2 + k) s = some a) (hout : s.time.reelFrame < c.outFrame)
    (hnext : ∀ d ∈ timed.drop st.nextCue, s.time.reelFrame < d.inFrame) :
    ((fireStream k (fuel + 1) s).subs.streams[k]?).map Stream.slots = some [some { tag := a.tag, timed := c }, none] := by
  have hshowing := (firing_eq_some.1 hf).1
  have hmoved : x.moveUp = .empty := by simp [CompareUnit.moveUp, hpending, CompareUnit.empty]
  generalize hv : showCue k a.tag (updateUnit (2 + k) .moveUp s) = v
  have hvstream : v.subs.streams[k]? = some { st with slots := [some { tag := a.tag, timed := c }, none] } :=
    hv ▸ showCue_shows (s := updateUnit (2 + k) .moveUp s) hst hshowing hslots htimed hcue hout
  have hvunit : v.time.units[2 + k]? = some .empty := by rw [← hv]; simp [updateUnit, hx, hmoved]
  have hvframe : v.time.reelFrame = s.time.reelFrame := by rw [← hv]; simp
  obtain ⟨hstream, hunit⟩ := loadNextCue_loads hvstream htimed
  have hfires := fireTimed_fires k a s
  rw [fireTimed, hv] at hfires
  have hcounter : counterOf (2 + k) s = s.time.reelFrame := if_neg (by omega)
  have hrest : firing (2 + k) (loadNextCue k v) = none := by
    rw [firing_eq_none (by rw [hfires.showing]; exact hshowing), hfires.counterOf_eq, hunit, hvunit, hcounter]
    intro y b hy hb
    obtain rfl : _ = y := Option.some.inj hy
    obtain ⟨d, hd, hframe⟩ := loadTimedOf_empty hb
    rw [hframe]
    exact hnext d (by simpa [htimed] using hd)
  rw [fireStream_fires hf, hv, fireStream_rests hrest, hstream]
  rfl

end

end Machine
end Sys2Proof

end

section
/-!
# The due frame, and the frame clock with its ticks (O47)
-/

namespace Sys2Proof
namespace Machine

/-! ### The due frame (R127, R128) -/

section
variable {s : State} {sh : Showing} {pl : Place} {rest : List Place}

theorem presentPicture_running (takeover : Bool) (hsh : s.showing = some sh) (hs : s.seq.state = .running) :
    presentPicture takeover s = presentDue sh s := by
  simp [presentPicture, hsh, hs]

theorem updateShowing_showing (f : Showing → Showing) (hsh : s.showing = some sh) :
    (updateShowing f s).showing = some (f sh) := by
  rw [showing_eq_some] at hsh ⊢
  simp [updateShowing, hsh]

/-- On a free link what is put on it becomes the send. -/
theorem putOnLink_free {f : Send} (hf : ∀ n, f ≠ .challenge n) (h : s.frames.sending = none) :
    (putOnLink f s).frames = { s.frames with sending := some f, travelling := s.subs.overlay } := by
  rw [putOnLink, h]
  cases f with
  | challenge n => exact absurd rfl (hf n)
  | _ => rfl

theorem repeatSend_ne_challenge (sh : Showing) (s : State) (n : Nat) : repeatSend sh s ≠ .challenge n := by
  unfold repeatSend
  split <;> simp

/-- The due frame, COMPLETE, is presented. -/
theorem presentDue_complete (hsh : s.showing = some sh) (hsend : s.frames.sending = none)
    (hplaces : s.frames.places = pl :: rest) (hdue : pl.frame = s.time.frame) (hprepared : pl.prepared = false)
    (hcond : pl.condition = .complete) :
    let v := presentDue sh s
    v.frames.places = rest ∧ v.frames.consecutive = 0 ∧ v.frames.last = some (Picture.mk s.time.frame pl.blocks) ∧
    v.frames.sending = some (.frame sh.record (Picture.mk s.time.frame pl.blocks)) ∧
    v.showing = some { sh with presented := sh.presented + 1 } := by
  generalize hw : { s with frames := { s.frames with
      places := rest, consecutive := 0, last := some (Picture.mk s.time.frame pl.blocks) } } = w
  have hself : presentDue sh s = updateShowing (fun sh => { sh with presented := sh.presented + 1 })
      (putOnLink (.frame sh.record (Picture.mk s.time.frame pl.blocks)) w) := by
    simp [presentDue, hplaces, hdue, hprepared, hcond, ← hw]
  have hput : (putOnLink (.frame sh.record (Picture.mk s.time.frame pl.blocks)) w).frames = _ :=
    putOnLink_free (by simp) (by rw [← hw]; exact hsend)
  have hshow : w.showing = some sh := by rw [← hsh, ← hw]; rfl
  simp only [hself, updateShowing_frames, hput]
  refine ⟨by rw [← hw], by rw [← hw], by rw [← hw], trivial, ?_⟩
  exact updateShowing_showing _ (hshow ▸ showing_of_current (by simp))

/-- The due frame, MISSING, has the last frame sent again. -/
theorem presentDue_missing (hsh : s.showing = some sh) (hsend : s.frames.sending = none)
    (hplaces : s.frames.places = pl :: rest) (hdue : pl.frame = s.time.frame) (hprepared : pl.prepared = false)
    (hcond : pl.condition = .missing) :
    let v := presentDue sh s
    v.frames.places = rest ∧ v.frames.consecutive = s.frames.consecutive + 1 ∧
    v.frames.sending = some (repeatSend sh s) ∧ v.showing = some { sh with repeated := sh.repeated + 1 } := by
  generalize hw : { s with frames := { s.frames with
      places := rest, consecutive := s.frames.consecutive + 1
      repeats := bumpAt s.frames.repeats RepeatCause.missing.code } } = w
  obtain ⟨detail, hself⟩ : ∃ detail,
      presentDue sh s = updateShowing (fun sh => { sh with repeated := sh.repeated + 1 })
      (raise .pictureUnderrun detail (putOnLink (repeatSend sh s) w)) := by
    simp only [presentDue, hplaces, hdue, hprepared, hcond, repeatFrame, ← hw]
    exact ⟨_, rfl⟩
  have hput : (putOnLink (repeatSend sh s) w).frames = _ :=
    putOnLink_free (repeatSend_ne_challenge sh s) (by rw [← hw]; exact hsend)
  have hshow : w.showing = some sh := by rw [← hsh, ← hw]; rfl
  simp only [hself, updateShowing_frames, raise_frames, hput]
  refine ⟨by rw [← hw], by rw [← hw], trivial, ?_⟩
  exact updateShowing_showing _ (hshow ▸ showing_of_current (by simp))

end

/-! ### The end of a showing leaves the mute -/

@[simp] theorem keepPortions_mute (keep : Portion → Bool) (s : State) :
    (keepPortions keep s).sound.mute = s.sound.mute := by
  unfold keepPortions
  dsimp only
  split <;> simp

@[simp] theorem endShowing_mute (outcome : ShowingOutcome) (s : State) :
    (endShowing outcome s).sound.mute = s.sound.mute := by
  unfold endShowing
  split
  · rfl
  · simp [dropCurrentSound]

@[simp] theorem halt_mute (cause : HaltCause) (s : State) : (halt cause s).sound.mute = s.sound.mute := by
  unfold halt discardPrepared
  dsimp only
  split <;> simp [dropPreparedSound]

/-! ### The tick that presents it (R106, R114, R162) -/

section
variable {s : State} {sh : Showing} {pl : Place} {rest : List Place}
  (hs : s.seq.state = .running) (hc : s.seq.current = .play sh) (hf : s.time.frame < sh.endFrame)
  (hpath : s.seq.path.isSome = true)
include hs hc hf hpath

/-- With a path recorded a tick has no lookahead to make. -/
theorem frameTick_pathMade : ∃ n, (judgeUnits (playAdvanced s)).showing = some { sh with nextCue := n } ∧
    frameTick s = cutGather s (checkRepeats (clearAtTick (renderSound
      (presentDue { sh with nextCue := n } (judgeUnits (playAdvanced s)))))) := by
  obtain ⟨n, hn⟩ := judgeUnits_showing (playAdvanced_showing hc)
  have hlook : lookAheadIfDue (judgeUnits (playAdvanced s)) = judgeUnits (playAdvanced s) := by
    have hdue : (judgeUnits (playAdvanced s)).lookaheadDue = false := by
      have hnone : (judgeUnits (playAdvanced s)).seq.path.isNone = false := by
        simpa using hpath
      rw [State.lookaheadDue, hnone, Bool.false_and]
    rw [lookAheadIfDue, hdue]
    rfl
  refine ⟨n, hn, ?_⟩
  rw [frameTick_eq]
  generalize tookOver s (tickCounted s) = takeover
  rw [tickCounted_play hs hc hf, tickTail, hlook, presentPicture_running takeover hn (by simpa using hs)]

end

section
variable {s : State} {sh : Showing} {pl : Place} {rest : List Place}

/-- The state judged at a tick that presents the next frame. -/
theorem judged_frames (s : State) : (judgeUnits (playAdvanced s)).frames = s.frames ∧
    (judgeUnits (playAdvanced s)).time.frame = s.time.frame + 1 := by
  refine ⟨by simp, ?_⟩
  have hcounter := (judgeUnits_fires (playAdvanced s)).counterOf_eq 0
  rw [playAdvanced_counter s (by decide)] at hcounter
  exact hcounter

theorem judged_interlocked (s : State) : (judgeUnits (playAdvanced s)).interlocked = s.interlocked := by
  have hjudged : (judgeUnits (playAdvanced s)).interlocked = (cuesFired (playAdvanced s)).interlocked :=
    interlocked_of_holding (by simp)
  have hadvanced : (playAdvanced s).interlocked = (stepPulses s).interlocked := interlocked_of_holding (by simp)
  rw [hjudged, cuesFired, fireCues_interlocked, hadvanced, stepPulses_interlocked]

/-- What the sound and the captions leave of the picture. -/
theorem renderedCleared (s : State) : (clearAtTick (renderSound s)).frames = s.frames ∧
    (clearAtTick (renderSound s)).showing = s.showing ∧ (clearAtTick (renderSound s)).sound.mute = s.muteReason :=
  ⟨by simp, showing_of_current (by simp), by simp⟩

/-- Stream k as it comes to be judged at a tick short of a reel start. -/
theorem judged_stream {k : Nat} (hc : s.seq.current = .play sh) (hk : k ≤ 3)
    (hreel : s.time.frame + 1 ∉ s.time.starts.drop 1) : ∃ u,
    (judgeUnits (playAdvanced s)).subs.streams[k]? = (fireStream k (streamFuel k u) u).subs.streams[k]? ∧
    u.subs.streams[k]? = s.subs.streams[k]? ∧ u.time.units[2 + k]? = s.time.units[2 + k]? ∧
    u.time.reelFrame = s.time.reelFrame + 1 ∧ u.showing.isSome = true := by
  obtain ⟨htime, hsubs⟩ := playAdvanced_sameReel s hreel
  obtain ⟨u, hjudged, hfires, hstream⟩ := fireStreams_stream (l := [0, 1, 2, 3]) (k := k) (by decide)
    (by simp; omega) (fireCount 3 (cuesFired (playAdvanced s)))
  have hbefore : FiresUnits (· ≠ 2 + k) (playAdvanced s) u :=
    ((cuesFired_fires _).mono fun n hn => by omega).trans
      (((fireCount_firesUnits 3 _).mono fun n hn => by omega).trans hfires)
  refine ⟨u, hjudged, ?_, ?_, ?_, ?_⟩
  · rw [hstream, ← hsubs]
    simp [cuesFired]
  · rw [hbefore.units _ (by simp), htime]
  · exact (hbefore.counterOf_eq 2).trans (playAdvanced_counter_reel s (by decide) hreel)
  · rw [hbefore.showing, playAdvanced_showing hc]
    rfl

section
variable (hs : s.seq.state = .running) (hc : s.seq.current = .play sh) (hf : s.time.frame < sh.endFrame)
  (hpath : s.seq.path.isSome = true) (hsend : s.frames.sending = none) (hplaces : s.frames.places = pl :: rest)
  (hdue : pl.frame = s.time.frame + 1) (hprepared : pl.prepared = false)
include hs hc hf hpath hsend hplaces hdue hprepared

/-- A tick whose due frame is COMPLETE. -/
theorem frameTick_complete (hcond : pl.condition = .complete) :
    (frameTick s).frames.places = rest ∧ (frameTick s).frames.consecutive = 0 ∧
    (frameTick s).frames.last = some (Picture.mk (s.time.frame + 1) pl.blocks) ∧
    (frameTick s).frames.sending = some (.frame sh.record (Picture.mk (s.time.frame + 1) pl.blocks)) ∧
    (frameTick s).showing.map Showing.presented = some (sh.presented + 1) ∧
    ∃ n, (judgeUnits (playAdvanced s)).showing = some { sh with nextCue := n } ∧ frameTick s = cutGather s (clearAtTick
      (renderSound (presentDue { sh with nextCue := n } (judgeUnits (playAdvanced s))))) := by
  obtain ⟨n, hn, htick⟩ := frameTick_pathMade hs hc hf hpath
  obtain ⟨hframes, hframe⟩ := judged_frames s
  obtain ⟨hleft, hcount, hlast, hsending, hshow⟩ := presentDue_complete hn (by rw [hframes]; exact hsend)
    (by rw [hframes]; exact hplaces) (by rw [hframe]; exact hdue) hprepared hcond
  rw [hframe] at hlast hsending
  generalize hv : presentDue { sh with nextCue := n } (judgeUnits (playAdvanced s)) = v at *
  obtain ⟨hvframes, hvshow, -⟩ := renderedCleared v
  rw [checkRepeats_of_few (by rw [hvframes, hcount]; decide)] at htick
  have hcut : (frameTick s).frames = v.frames := by rw [htick]; simp
  have hcutshow : (frameTick s).showing = v.showing := by
    rw [htick, ← hvshow]
    exact showing_of_current (by simp)
  rw [hcut, hcutshow, hshow]
  exact ⟨hleft, hcount, hlast, hsending, rfl, n, hn, by rw [hv]; exact htick⟩

/-- A tick whose due frame is MISSING, short of the 48th repeat. -/
theorem frameTick_missing (hcond : pl.condition = .missing) (hfew : s.frames.consecutive < 47) :
    (frameTick s).frames.places = rest ∧ (frameTick s).frames.consecutive = s.frames.consecutive + 1 ∧
    (frameTick s).frames.sending = some (repeatSend sh s) ∧
    (frameTick s).showing.map Showing.repeated = some (sh.repeated + 1) := by
  obtain ⟨n, hn, htick⟩ := frameTick_pathMade hs hc hf hpath
  obtain ⟨hframes, hframe⟩ := judged_frames s
  obtain ⟨hleft, hcount, hsending, hshow⟩ := presentDue_missing hn (by rw [hframes]; exact hsend)
    (by rw [hframes]; exact hplaces) (by rw [hframe]; exact hdue) hprepared hcond
  have hagain : repeatSend { sh with nextCue := n } (judgeUnits (playAdvanced s)) = repeatSend sh s := by
    simp only [repeatSend, hframes]
  rw [hagain] at hsending
  rw [hframes] at hcount
  generalize presentDue { sh with nextCue := n } (judgeUnits (playAdvanced s)) = v at *
  obtain ⟨hvframes, hvshow, -⟩ := renderedCleared v
  rw [checkRepeats_of_few (by rw [hvframes, hcount]; omega)] at htick
  have hcut : (frameTick s).frames = v.frames := by rw [htick]; simp
  have hcutshow : (frameTick s).showing = v.showing := by
    rw [htick, ← hvshow]
    exact showing_of_current (by simp)
  rw [hcut, hcutshow, hshow]
  exact ⟨hleft, hcount, hsending, rfl⟩

/-- The 48th repeat halts the sequencer at a tick whose sound is that of RUNNING (R106). -/
theorem frameTick_halts (hcond : pl.condition = .missing) (hlast : s.frames.consecutive = 47) :
    (frameTick s).seq.state = .halted ∧ (frameTick s).seq.halt = some .abortedFault ∧
    (frameTick s).seq.current = .none ∧
    (frameTick s).sound.mute = if s.interlocked then some MuteReason.interlock else none := by
  obtain ⟨n, hn, htick⟩ := frameTick_pathMade hs hc hf hpath
  obtain ⟨hframes, hframe⟩ := judged_frames s
  obtain ⟨-, hcount, -, hshow⟩ := presentDue_missing hn (by rw [hframes]; exact hsend)
    (by rw [hframes]; exact hplaces) (by rw [hframe]; exact hdue) hprepared hcond
  rw [hframes, hlast] at hcount
  have hmute : (presentDue { sh with nextCue := n } (judgeUnits (playAdvanced s))).muteReason =
      if s.interlocked then some MuteReason.interlock else none := by
    have hrunning : (judgeUnits (playAdvanced s)).seq.state = .running := by simpa using hs
    rw [← presentPicture_running true hn hrunning, State.muteReason,
      interlocked_of_holding (s := judgeUnits (playAdvanced s)) (by simp), judged_interlocked]
    simp [hs]
  generalize presentDue { sh with nextCue := n } (judgeUnits (playAdvanced s)) = v at *
  obtain ⟨hvframes, hvshow, hvmute⟩ := renderedCleared v
  rw [checkRepeats_of_many (by rw [hvshow, hshow]; rfl) (by rw [hvframes, hcount])] at htick
  rw [htick]
  simp [hmute]

/-- At a tick whose due frame is COMPLETE a stream keeps the slots its judgement left, when none of its cues has passed. -/
theorem frameTick_keepsSlots (hcond : pl.condition = .complete) {k : Nat} {slots : List (Option Shown)}
    (hreel : s.time.frame + 1 ∉ s.time.starts.drop 1)
    (hjudged : ((judgeUnits (playAdvanced s)).subs.streams[k]?).map Stream.slots = some slots)
    (hnone : ∀ (i : Nat) (shown : Shown), (slots[i]?).join = some shown → s.time.reelFrame + 1 < shown.timed.outFrame) :
    ((frameTick s).subs.streams[k]?).map Stream.slots = some slots := by
  obtain ⟨-, -, -, -, -, n, hn, htick⟩ := frameTick_complete hs hc hf hpath hsend hplaces hdue hprepared hcond
  obtain ⟨st, hst, rfl⟩ := Option.map_eq_some_iff.1 hjudged
  have hrunning : (judgeUnits (playAdvanced s)).seq.state = .running := by simpa using hs
  rw [← presentPicture_running true hn hrunning] at htick
  generalize hv : presentPicture true (judgeUnits (playAdvanced s)) = v at htick
  have hvstream : (renderSound v).subs.streams[k]? = some st := by rw [← hst, ← hv]; simp
  have hvframe : (renderSound v).time.reelFrame = s.time.reelFrame + 1 := by
    have hcounter : (judgeUnits (playAdvanced s)).time.reelFrame = s.time.reelFrame + 1 :=
      ((judgeUnits_fires _).counterOf_eq 2).trans (playAdvanced_counter_reel s (by decide) hreel)
    rw [← hcounter, ← hv]
    simp
  have hcleared : (clearAtTick (renderSound v)).subs.streams[k]? = some st :=
    clearAtTick_keeps hvstream (by rw [hvframe]; exact hnone)
  have hcut : (frameTick s).subs = (clearAtTick (renderSound v)).subs := by rw [htick]; simp
  rw [hcut, hcleared]
  rfl

/-- At a tick whose due frame is COMPLETE a stream short of its target keeps its slots empty, and one at its target shows its
cue (R162). -/
theorem frameTick_slots (hcond : pl.condition = .complete) {k : Nat} {st : Stream} {x : CompareUnit} {a : Target}
    {cues : List TimedCue} {c : TimedCue} (hk : k ≤ 3) (hreel : s.time.frame + 1 ∉ s.time.starts.drop 1)
    (hst : s.subs.streams[k]? = some st) (hslots : st.slots = [none, none]) (htimed : st.timed = some cues)
    (hcue : cues[a.tag]? = some c) (hx : s.time.units[2 + k]? = some x) (harmed : x.armed = some a)
    (hpending : x.pending = none) (hnext : ∀ d ∈ cues.drop st.nextCue, s.time.reelFrame + 1 < d.inFrame) :
    (s.time.reelFrame + 1 < a.frame → ((frameTick s).subs.streams[k]?).map Stream.slots = some [none, none]) ∧
    (a.frame ≤ s.time.reelFrame + 1 → s.time.reelFrame + 1 < c.outFrame →
      ((frameTick s).subs.streams[k]?).map Stream.slots = some [some (Shown.mk a.tag c), none]) := by
  have hjudged : ∀ slots, ((judgeUnits (playAdvanced s)).subs.streams[k]?).map Stream.slots = some slots →
      (∀ (i : Nat) (shown : Shown), (slots[i]?).join = some shown → s.time.reelFrame + 1 < shown.timed.outFrame) →
      ((frameTick s).subs.streams[k]?).map Stream.slots = some slots :=
    fun slots => frameTick_keepsSlots hs hc hf hpath hsend hplaces hdue hprepared hcond hreel
  obtain ⟨u, hstream, hust, hunit, hreelFrame, hshow⟩ := judged_stream hc hk hreel
  rw [hst] at hust
  rw [hx] at hunit
  have hcounter : counterOf (2 + k) u = s.time.reelFrame + 1 := by
    rw [counterOf, if_neg (by omega), hreelFrame]
  rw [hstream] at hjudged
  refine ⟨fun hbelow => hjudged _ ?_ ?_, fun hreached hout => hjudged _ ?_ ?_⟩
  · have hrest : firing (2 + k) u = none := by
      rw [firing_eq_none hshow, hunit, hcounter]
      intro y b hy hb
      obtain rfl : x = y := Option.some.inj hy
      obtain rfl : a = b := Option.some.inj (harmed.symm.trans hb)
      exact hbelow
    rw [fireStream_rests hrest, hust, Option.map_some, hslots]
  · intro i shown hshown
    match i with
    | 0 | 1 | i + 2 => simp at hshown
  · have hfiring : firing (2 + k) u = some a := firing_eq_some.2 ⟨hshow, ⟨x, hunit, harmed⟩, by rwa [hcounter]⟩
    have hfuel : streamFuel k u = cues.length + 1 + 1 := by simp [streamFuel, hust, htimed]
    rw [hfuel]
    exact fireStream_shows _ hust hslots htimed hcue hunit hpending hfiring (by rwa [hreelFrame]) (by rwa [hreelFrame])
  · intro i shown hshown
    match i with
    | 0 =>
      obtain rfl : Shown.mk a.tag c = shown := by simpa using hshown
      exact hout
    | 1 | i + 2 => simp at hshown

end

end

theorem exec_frameSyncEdge (rising : Bool) (s : State) :
    exec (.frameSyncEdge rising) s = .next (settle (syncEdge rising s)) := rfl

/-- Settles O47: the clock's transitions, and a tick pass by pass: the units judged to the end, the outputs stepped, each
unit that fires once, and the due frame. -/
theorem frameClockFollowsItsSource : Obligations.FrameClockFollowsItsSource := by
  intro s
  refine ⟨?_, fun e rising he ht => ⟨fun hc => ?_, fun hc => ?_⟩, fun rising h => ?_,
    exec_generatorTick_free s, exec_generatorTick_acquiring s, fun hc hsecond => ?_, exec_generatorTick_coasting s,
    exec_generatorTick_locked s, fun hc => ?_, exec_syncLoss_other s,
    fun hshow n x a hn hx ha => frameTick_rests hshow hn hx ha, frameTick_outputs,
    fun sh hs hc hf => ⟨fun hfew => ⟨?_, ?_, ?_⟩, ?_⟩⟩
  · intro time
    have hclock := tickWith_clock s time
    unfold tickWith at hclock
    dsimp only
    exact hclock
  · rw [exec_frameSyncEdge, syncEdge_selected s he ht, if_neg hc, tickWith]
  · rw [exec_frameSyncEdge, syncEdge_selected s he ht, if_pos hc, tickWith]
  · rw [exec_frameSyncEdge, syncEdge_other s h]
  · exact (exec_generatorTick_lost s hc hsecond).trans (by rw [loseSync_eq]; rfl)
  · exact (exec_syncLoss_locked s hc).trans (by rw [loseSync_eq]; rfl)
  · exact fun x a hx ha => ⟨fun hdue => frameTick_unit1_rests hs hc hf hfew hx ha hdue,
      fun hdue hrest => frameTick_unit1_fires hs hc hf hfew hx ha hdue hrest⟩
  · intro x a c hx ha hdue hrest hcue hnext
    obtain ⟨hunit, hlines, hfader, hfade, hcause⟩ := frameTick_unit0_fires hs hc hf hfew hx ha hdue hrest hcue hnext
    refine ⟨fun hnone => ?_, fun d hd => ?_, hlines, hfader, hfade, fun number hnumber y hy => ?_⟩
    · rw [hunit, CompareUnit.loadCueOf, hnone]
    · rw [hunit, CompareUnit.loadCueOf, hd]
    · have hbefore : (updateUnit 0 .moveUp (playAdvanced s)).notices.causes[27]? = some y :=
        (playAdvanced_causes s (by decide)).trans hy
      rw [hnumber] at hcause
      exact ⟨_, hcause.trans (raise_causes_same hbefore), rfl, rfl⟩
  · exact fun h => frameTick_unit0_rests hs hc hf hfew h
  · intro pl rest hpath hsend hplaces hdue hprepared
    refine ⟨fun hcond => ?_, fun hcond hfew => frameTick_missing hs hc hf hpath hsend hplaces hdue hprepared hcond hfew,
      fun hcond hlast => frameTick_halts hs hc hf hpath hsend hplaces hdue hprepared hcond hlast⟩
    obtain ⟨hleft, hcount, hpicture, hsending, hshow, -⟩ :=
      frameTick_complete hs hc hf hpath hsend hplaces hdue hprepared hcond
    exact ⟨hleft, hcount, hpicture, hsending, hshow,
      fun k st x a cues c hk hreel hst hslots htimed hcue hx ha hpending hnext =>
        frameTick_slots hs hc hf hpath hsend hplaces hdue hprepared hcond hk hreel hst hslots htimed hcue hx ha
          hpending hnext⟩

end Machine
end Sys2Proof

end

section
/-!
# Requests for a link check (O52)
-/

namespace Sys2Proof
namespace Machine

/-- The requester of link checks once it has been asked (R132). -/
def LinkSide.asked (l : LinkSide) : Requester := if l.requester = .idle then .pending else l.requester

/-- A request reaches an IDLE requester only (R132). -/
theorem requestLinkCheck_eq (s : State) :
    requestLinkCheck s = { s with link := { s.link with requester := s.link.asked } } := by
  unfold requestLinkCheck LinkSide.asked
  split
  next h => rw [if_pos h]
  next h => rw [if_neg h]

section
variable {f : Frame} {s : State} {projector : Nat}

/-- PAIR with 0, or with an id of more than 4 bytes. -/
theorem exec_pair_outOfRange (h : s.accepts 34 f) (hp : projector = 0 ∨ max32 < projector) :
    exec (.pair f projector) s = .next (s.no 34 f .outOfRange) :=
  request_no (v := s) h (if_pos (by simpa using hp)) rfl

section
variable (h : s.accepts 34 f) (hlow : 1 ≤ projector) (hhigh : projector ≤ max32)
include h hlow hhigh

/-- PAIR outside IDLE. -/
theorem exec_pair_wrongState (hs : s.seq.state ≠ .idle) :
    exec (.pair f projector) s = .next (s.no 34 f .wrongState) := by
  have hid : ¬(projector = 0 ∨ max32 < projector) := by omega
  exact request_no (v := s) h ((if_neg (by simpa using hid)).trans (if_pos hs)) rfl

/-- PAIR in IDLE with room for its write (R130). -/
theorem exec_pair_taken (hs : s.seq.state = .idle) (hroom : s.queue.writes.length < 8) (hline : s.queue.waiters = []) :
    exec (.pair f projector) s = .next (State.ok 34 f []
      { s with
        link := { s.link with paired := some projector, state := .unknown, requester := s.link.asked }
        queue := { s.queue with
          writes := s.queue.writes ++ [{ write := .paired projector, forCheck := false }] } }) := by
  have hid : ¬(projector = 0 ∨ max32 < projector) := by omega
  refine request_ok h ((if_neg (by simpa using hid)).trans ((if_neg (not_not.2 hs)).trans ?_)) rfl
  rw [whenRoom_of_room (s := s.received 34 f) hroom hline, pairProjector, requestLinkCheck_eq]
  rfl

end

/-- LINK CHECK (R134). -/
theorem exec_linkCheck (h : s.accepts 35 f) : exec (.linkCheck f) s =
    .next (State.ok 35 f [] { s with link := { s.link with requester := s.link.asked } }) := by
  refine request_ok h ?_ rfl
  rw [serveLinkCheck, requestLinkCheck_eq]
  rfl

/-- LINK INTERVAL restarts the interval with the value applied, and answers with it where it is another (R134). -/
theorem exec_linkInterval (h : s.accepts 36 f) (seconds : Nat) : exec (.linkInterval f seconds) s =
    .next (State.answering 36 f (if clamp 1 600 seconds = seconds then .ok else .clamped) none
      (if clamp 1 600 seconds = seconds then [] else Layout.num 2 (clamp 1 600 seconds))
      { s with link := { s.link with interval := clamp 1 600 seconds, counter := 0, requester := s.link.asked } }) := by
  by_cases htaken : clamp 1 600 seconds = seconds
  · rw [if_pos htaken, if_pos htaken]
    refine request_ok h ?_ rfl
    rw [serveLinkInterval, requestLinkCheck_eq]
    exact if_pos htaken
  · rw [if_neg htaken, if_neg htaken]
    refine request_clamped h ?_ rfl
    rw [serveLinkInterval, requestLinkCheck_eq]
    exact if_neg htaken

theorem exec_linkIntervalExpiry (s : State) : exec .linkIntervalExpiry s =
    .next (settle { s with link := { s.link with counter := 0, requester := s.link.asked } }) := by
  have hexec : exec .linkIntervalExpiry s = finish (requestLinkCheck { s with link := { s.link with counter := 0 } }) := rfl
  rw [hexec, requestLinkCheck_eq]
  rfl

end

/-- Settles O52: the refusals of PAIR and its effect, and the check that each of the requests and the expiry ask for. -/
theorem linkRequestsAskForChecks : Obligations.LinkRequestsAskForChecks := by
  intro f s
  exact ⟨fun projector h => ⟨exec_pair_outOfRange h, exec_pair_wrongState h, exec_pair_taken h⟩, exec_linkCheck,
    fun seconds h => exec_linkInterval h seconds, exec_linkIntervalExpiry s⟩

end Machine
end Sys2Proof

end

section
/-!
# The frame and the portion of a tick (O50)
-/

namespace Sys2Proof
namespace Machine

/-! ### What is put on a free link (R127, R129) -/

section
variable {s : State} {sh : Showing}

theorem putOnLink_of_free (f : Send) (h : s.frames.sending = none) : putOnLink f s = beginSend f s := by
  rw [putOnLink, h]

theorem updateShowing_of_play (f : Showing → Showing) (hc : s.seq.current = .play sh) :
    updateShowing f s = { s with seq := { s.seq with current := .play (f sh) } } := by
  rw [updateShowing, hc]

/-- Without a showing the link sends black. -/
theorem presentPicture_black (takeover : Bool) (hsh : s.showing = none) (hsend : s.frames.sending = none) :
    presentPicture takeover s = beginSend .black s := by
  simp only [presentPicture, hsh, putOnLink_of_free _ hsend]

/-- In PAUSED the last frame sent goes again, but at the takeover tick. -/
theorem presentPicture_paused (hsh : s.showing = some sh) (hs : s.seq.state = .paused) (hsend : s.frames.sending = none) :
    presentPicture false s = beginSend (repeatSend sh s) s := by
  simp [presentPicture, hsh, hs, putOnLink_of_free _ hsend]

/-- In RUNNING, and in PAUSED at the takeover tick, the due frame is presented. -/
theorem presentPicture_due {takeover : Bool} (hsh : s.showing = some sh)
    (hs : s.seq.state = .running ∨ (takeover = true ∧ s.seq.state = .paused)) :
    presentPicture takeover s = presentDue sh s := by
  simp only [presentPicture, hsh]
  refine if_pos ?_
  rcases hs with hs | ⟨rfl, hs⟩ <;> simp [hs]

/-! ### A frame repeated (R128) -/

/-- The showing's last frame goes again in place of the due one: the repeat is counted for its cause, and raised. What is left
of the queue and of the reader's work is given. -/
structure Repeats (sh : Showing) (cause : Nat) (places : List Place) (job : Option FrameJob) (next : Nat) (s t : State) :
    Prop where
  frames : t.frames = { s.frames with
    places := places, job := job, nextCurrent := next, consecutive := s.frames.consecutive + 1
    repeats := bumpAt s.frames.repeats cause, sending := some (repeatSend sh s), travelling := s.subs.overlay }
  seq : t.seq = { s.seq with current := .play { sh with repeated := sh.repeated + 1 } }
  raised : ∀ c : Cause, s.notices.causes[17]? = some c → occurred c
    (Layout.num 3 s.time.frame ++ Layout.num 1 cause ++ Layout.num 1 (s.frames.consecutive + 1)) t.notices.causes 17

theorem repeatFrame_repeats (cause : RepeatCause) (hc : s.seq.current = .play sh) (hsend : s.frames.sending = none) :
    Repeats sh cause.code s.frames.places s.frames.job s.frames.nextCurrent s (repeatFrame sh cause s) := by
  have hfree : ∀ f, putOnLink f { s with frames := { s.frames with
      consecutive := s.frames.consecutive + 1, repeats := bumpAt s.frames.repeats cause.code } } =
      beginSend f { s with frames := { s.frames with
        consecutive := s.frames.consecutive + 1, repeats := bumpAt s.frames.repeats cause.code } } :=
    fun f => putOnLink_of_free f hsend
  have hself : repeatFrame sh cause s = updateShowing (fun sh => { sh with repeated := sh.repeated + 1 })
      (raise .pictureUnderrun
        (Layout.num 3 s.time.frame ++ Layout.num 1 cause.code ++ Layout.num 1 (s.frames.consecutive + 1))
        { s with
          frames := { s.frames with
            consecutive := s.frames.consecutive + 1, repeats := bumpAt s.frames.repeats cause.code
            sending := some (repeatSend sh s), travelling := s.subs.overlay }
          subs := { s.subs with overlay := [], sent := addAt s.subs.sent 0 s.subs.overlay.length } }) := by
    simp only [repeatFrame, hfree, repeatSend]
    cases s.frames.last <;> rfl
  rw [hself, updateShowing_of_play (sh := sh) _ (by exact hc)]
  exact ⟨rfl, rfl, fun c hx => occurred_raise (c := .pictureUnderrun) hx⟩

variable {p : Place} {rest : List Place}

section
variable (hplaces : s.frames.places = p :: rest) (hdue : p.frame = s.time.frame) (hprepared : p.prepared = false)
include hplaces hdue hprepared

theorem presentDue_of_complete (hcond : p.condition = .complete) : presentDue sh s =
    updateShowing (fun sh => { sh with presented := sh.presented + 1 })
      (putOnLink (.frame sh.record { frame := p.frame, blocks := p.blocks }) { s with frames := { s.frames with
        places := rest, consecutive := 0, last := some { frame := p.frame, blocks := p.blocks } } }) := by
  simp [presentDue, hplaces, hdue, hprepared, hcond]

theorem presentDue_of_missing (hcond : p.condition = .missing) : presentDue sh s =
    repeatFrame sh .missing { s with frames := { s.frames with places := rest } } := by
  simp [presentDue, hplaces, hdue, hprepared, hcond]

theorem presentDue_of_filling (hcond : p.condition = .filling) : presentDue sh s =
    repeatFrame sh .late
      (withdrawReader .picture { s with frames := { s.frames with places := rest, job := none } }) := by
  simp [presentDue, hplaces, hdue, hprepared, hcond]

end

/-- The head of the queue is not the due frame of the current showing. -/
theorem presentDue_of_empty (h : ∀ p ∈ s.frames.places.take 1, p.frame ≠ s.time.frame ∨ p.prepared = true) :
    presentDue sh s = repeatFrame sh .empty
      { s with frames := { s.frames with nextCurrent := max s.frames.nextCurrent (s.time.frame + 1) } } := by
  cases hplaces : s.frames.places with
  | nil => simp [presentDue, hplaces]
  | cons p rest =>
    have hother : ¬(p.frame = s.time.frame ∧ p.prepared = false) := fun hp =>
      (h p (by simp [hplaces])).elim (fun hne => hne hp.1) (fun hpre => by simp [hp.2] at hpre)
    simp only [presentDue, hplaces]
    exact if_neg (by simpa using hother)

/-- A reader that gives up its work has no waiting store request (R44). -/
theorem withdrawReader_waiting (r : Reader) (s : State) :
    ∀ q ∈ (withdrawReader r s).arbiter.waiting, q.client ≠ r.client := fun q hq => by
  simpa using (List.mem_filter.1 hq).2

/-- A reader that gives up its work has no live question of its own (R56). -/
theorem withdrawReader_asks (r : Reader) (s : State) :
    ∀ f ∈ (withdrawReader r s).cache.fills, ∀ q ∈ f.asks, q.reader = r → q.kind ≠ .sequencerPreparation →
      q.live = false := by
  intro f hf q hq hreader hkind
  obtain ⟨g, -, rfl⟩ := List.mem_map.1 (List.mem_filter.1 hf).1
  obtain ⟨a, -, rfl⟩ := List.mem_map.1 hq
  by_cases hown : Ask.ofReader r a = true
  · rw [if_pos hown]
  · rw [if_neg hown] at hreader hkind
    exact absurd (by simp [Ask.ofReader, hreader, hkind]) hown

section
variable (hc : s.seq.current = .play sh) (hsend : s.frames.sending = none)
include hc hsend

/-- A due frame that is COMPLETE is presented (R128). -/
theorem presentDue_presents (hplaces : s.frames.places = p :: rest) (hdue : p.frame = s.time.frame)
    (hprepared : p.prepared = false) (hcond : p.condition = .complete) :
    (presentDue sh s).frames = { s.frames with
      places := rest, consecutive := 0, last := some { frame := p.frame, blocks := p.blocks }
      sending := some (.frame sh.record { frame := p.frame, blocks := p.blocks })
      travelling := s.subs.overlay } ∧
    (presentDue sh s).seq = { s.seq with current := .play { sh with presented := sh.presented + 1 } } ∧
    (presentDue sh s).notices = s.notices := by
  rw [presentDue_of_complete hplaces hdue hprepared hcond, putOnLink_of_free _ (by exact hsend),
    updateShowing_of_play (sh := sh) _ (by exact hc)]
  exact ⟨rfl, rfl, rfl⟩

/-- A due frame that is MISSING leaves the queue (R128). -/
theorem presentDue_repeats_missing (hplaces : s.frames.places = p :: rest) (hdue : p.frame = s.time.frame)
    (hprepared : p.prepared = false) (hcond : p.condition = .missing) :
    Repeats sh 0 rest s.frames.job s.frames.nextCurrent s (presentDue sh s) := by
  rw [presentDue_of_missing hplaces hdue hprepared hcond]
  obtain ⟨hframes, hseq, hraised⟩ := repeatFrame_repeats
    (s := { s with frames := { s.frames with places := rest } }) .missing hc hsend
  exact ⟨hframes, hseq, hraised⟩

/-- A due frame still FILLING leaves the queue, and the reader gives up its work on it (R128). -/
theorem presentDue_repeats_late (hplaces : s.frames.places = p :: rest) (hdue : p.frame = s.time.frame)
    (hprepared : p.prepared = false) (hcond : p.condition = .filling) :
    Repeats sh 1 rest none s.frames.nextCurrent s (presentDue sh s) ∧
    (∀ r ∈ (presentDue sh s).arbiter.waiting, r.client ≠ .picture) ∧
    ∀ f ∈ (presentDue sh s).cache.fills, ∀ q ∈ f.asks, q.reader = .picture → q.kind ≠ .sequencerPreparation →
      q.live = false := by
  rw [presentDue_of_filling hplaces hdue hprepared hcond]
  generalize hu : withdrawReader .picture { s with frames := { s.frames with places := rest, job := none } } = u
  have hrepeats : Repeats sh 1 rest none s.frames.nextCurrent s (repeatFrame sh .late u) := by
    obtain ⟨hframes, hseq, hraised⟩ := repeatFrame_repeats (s := u) .late (by rw [← hu]; exact hc) (by rw [← hu]; exact hsend)
    subst hu
    exact ⟨hframes, hseq, hraised⟩
  have hgiven : (repeatFrame sh .late u).arbiter = u.arbiter ∧ (repeatFrame sh .late u).cache = u.cache := by simp
  rw [hgiven.1, hgiven.2, ← hu]
  exact ⟨hu ▸ hrepeats, withdrawReader_waiting .picture _, withdrawReader_asks .picture _⟩

/-- With no place for the due frame the reader's next frame moves past it (R128). -/
theorem presentDue_repeats_empty (h : ∀ p ∈ s.frames.places.take 1, p.frame ≠ s.time.frame ∨ p.prepared = true) :
    Repeats sh 2 s.frames.places s.frames.job (max s.frames.nextCurrent (s.time.frame + 1)) s (presentDue sh s) := by
  rw [presentDue_of_empty h]
  obtain ⟨hframes, hseq, hraised⟩ := repeatFrame_repeats
    (s := { s with frames := { s.frames with nextCurrent := max s.frames.nextCurrent (s.time.frame + 1) } }) .empty hc hsend
  exact ⟨hframes, hseq, hraised⟩

end
end

/-! ### A portion that is LATE or EMPTY (R144) -/

/-- The positions of a frame depend on the catalogue alone. -/
theorem resolveFrame_congr {s t : State} (h : t.catalogue = s.catalogue) (p : Play) (f : Nat) (d : Int) :
    resolveFrame p f d t = resolveFrame p f d s := by
  simp only [resolveFrame, resolvePosition, soundInfo, h]

theorem keepPortions_of_all {keep : Portion → Bool} {s : State} (h : ∀ q ∈ s.sound.portions, keep q = true) :
    keepPortions keep s = s := by
  have hjob : (s.sound.portions.any fun p => p.filling && !keep p) = false := by
    simpa using fun q hq _ => h q hq
  simp only [keepPortions, hjob, List.filter_eq_self.2 h]
  rfl

/-- The frame period is silence whole, with `missing` positions to be read: the outputs carry 0, and an underrun is counted
for its cause and raised when there are any. What is left of the buffer and of the reader's work is given. -/
structure SilentFor (cause missing : Nat) (portions : List Portion) (job : Option SoundJob) (next : Nat) (s t : State) :
    Prop where
  sound : t.sound = { s.sound with
    mute := none, outputs := [], portions := portions, job := job, nextCurrent := next
    underruns := if missing = 0 then s.sound.underruns else bumpAt s.sound.underruns cause }
  notices : t.notices = if missing = 0 then s.notices else
    (raise .soundUnderrun (Layout.num 3 s.time.frame ++ Layout.num 1 cause ++ Layout.num 2 missing) s).notices

section
variable {s u : State} {sh : Showing}

/-- A silent state with its underrun counted and raised. -/
theorem soundUnderrun_silent (cause : UnderrunCause) (missing : Nat) {portions : List Portion} {job : Option SoundJob}
    {next : Nat} (hsound : u.sound = { s.sound with
      mute := none, outputs := [], portions := portions, job := job, nextCurrent := next })
    (hnotices : u.notices = s.notices) (hkeys : u.keys = s.keys) (hseq : u.seq = s.seq) (htime : u.time = s.time) :
    SilentFor cause.code missing portions job next s (soundUnderrun cause missing u) := by
  by_cases hmissing : missing = 0
  · have hnone : soundUnderrun cause missing u = u := if_pos hmissing
    rw [hnone]
    exact ⟨by rw [hsound, if_pos hmissing], by rw [hnotices, if_pos hmissing]⟩
  · have hsome : soundUnderrun cause missing u =
        raise .soundUnderrun (Layout.num 3 u.time.frame ++ Layout.num 1 cause.code ++ Layout.num 2 missing)
          { u with sound := { u.sound with underruns := bumpAt u.sound.underruns cause.code } } := if_neg hmissing
    rw [hsome]
    refine ⟨?_, ?_⟩
    · rw [if_neg hmissing, raise_sound, hsound]
    · simp only [if_neg hmissing, raise, noticeRecord, State.showing, hnotices, hkeys, hseq, htime]

/-- The due portion, still FILLING, leaves the buffer, and the reader gives up its work on it. -/
theorem renderDue_late {p : Portion} {rest : List Portion} (hportions : s.sound.portions = p :: rest)
    (hdue : p.frame = s.time.frame) (hprepared : p.prepared = false) (hfilling : p.filling = true)
    (hrest : ∀ q ∈ rest, q.prepared = true ∨ s.time.frame ≤ q.frame) : renderDue sh s =
      soundUnderrun .late (p.cells.filter Cell.isRead).length (silenceOutputs
        (withdrawReader .sound { s with sound := { s.sound with portions := rest, job := none } })) := by
  have hkept : ∀ q ∈ s.sound.portions, (q.prepared || decide (s.time.frame ≤ q.frame)) = true := by
    intro q hq
    rw [hportions] at hq
    rcases List.mem_cons.1 hq with rfl | hq
    · simp [hdue]
    · simpa using hrest q hq
  simp [renderDue, keepPortions_of_all hkept, hportions, hdue, hprepared, hfilling]

/-- No portion of the due frame is in the buffer. -/
theorem renderDue_empty (hlater : ∀ q ∈ s.sound.portions, q.prepared = true ∨ s.time.frame < q.frame) : renderDue sh s =
    soundUnderrun .empty ((resolveFrame sh.play s.time.frame s.sound.trimCurrent s).filter Cell.isRead).length
      (silenceOutputs
        { s with sound := { s.sound with nextCurrent := max s.sound.nextCurrent (s.time.frame + 1) } }) := by
  have hkept : ∀ q ∈ s.sound.portions, (q.prepared || decide (s.time.frame ≤ q.frame)) = true := fun q hq => by
    rcases hlater q hq with hp | hf
    · simp [hp]
    · simp [Nat.le_of_lt hf]
  simp only [renderDue, keepPortions_of_all hkept]
  split
  next p rest hportions =>
    refine if_neg ?_
    rcases hlater p (by simp [hportions]) with hp | hp
    · simp [hp]
    · simp [Nat.ne_of_gt hp]
  next => rfl

section
variable (hc : s.seq.current = .play sh) (hs : s.seq.state = .running) (hi : s.interlocked = false)
include hc hs hi

/-- In RUNNING with no interlock the outputs are not muted, and the due portion is rendered (R151). -/
theorem renderSound_due : renderSound s = renderDue sh { s with sound := { s.sound with mute := none } } := by
  have hjudged : judgeMute s = { s with sound := { s.sound with mute := none } } := by
    simp [judgeMute, State.muteReason, hi, hs]
  simp [renderSound, (showing_eq_some s sh).2 hc, State.muted, hs, hi, hjudged]

/-- A due portion still FILLING leaves the buffer. -/
theorem renderSound_late {p : Portion} {rest : List Portion} (hportions : s.sound.portions = p :: rest)
    (hdue : p.frame = s.time.frame) (hprepared : p.prepared = false) (hfilling : p.filling = true)
    (hrest : ∀ q ∈ rest, q.prepared = true ∨ s.time.frame ≤ q.frame) :
    SilentFor 1 (p.cells.filter Cell.isRead).length rest none s.sound.nextCurrent s (renderSound s) := by
  rw [renderSound_due hc hs hi, renderDue_late (by exact hportions) (by exact hdue) hprepared hfilling
    (by exact hrest)]
  exact soundUnderrun_silent .late _ rfl rfl rfl rfl rfl

/-- With no portion for the due frame the reader's next portion moves past it. -/
theorem renderSound_empty (hlater : ∀ q ∈ s.sound.portions, q.prepared = true ∨ s.time.frame < q.frame) :
    SilentFor 2 ((resolveFrame sh.play s.time.frame s.sound.trimCurrent s).filter Cell.isRead).length s.sound.portions
      s.sound.job (max s.sound.nextCurrent (s.time.frame + 1)) s (renderSound s) := by
  rw [renderSound_due hc hs hi, renderDue_empty (by exact hlater),
    resolveFrame_congr (t := { s with sound := { s.sound with mute := none } }) (s := s) rfl]
  exact soundUnderrun_silent .empty _ rfl rfl rfl rfl rfl

end
end

/-- Settles O50: what is put on the free link at a tick, and the portions that are LATE and EMPTY. -/
theorem framesArePresentedOrRepeated : Obligations.FramesArePresentedOrRepeated := by
  refine ⟨fun s takeover hsend => ⟨fun hsh => presentPicture_black takeover hsh hsend, ?_, ?_, ?_⟩, ?_⟩
  · intro sh p rest hc hs hplaces hdue hprepared hcond
    rw [presentPicture_due ((showing_eq_some s sh).2 hc) hs]
    exact presentDue_presents hc hsend hplaces hdue hprepared hcond
  · intro sh hc hs
    rw [presentPicture_due ((showing_eq_some s sh).2 hc) hs]
    refine ⟨fun p rest hplaces hdue hprepared => ⟨fun hcond => ?_, fun hcond => ?_⟩, fun hempty => ?_⟩
    · obtain ⟨hframes, hseq, hraised⟩ := presentDue_repeats_missing hc hsend hplaces hdue hprepared hcond
      exact ⟨hframes, hseq, hraised⟩
    · obtain ⟨⟨hframes, hseq, hraised⟩, hgiven⟩ := presentDue_repeats_late hc hsend hplaces hdue hprepared hcond
      exact ⟨⟨hframes, hseq, hraised⟩, hgiven⟩
    · obtain ⟨hframes, hseq, hraised⟩ := presentDue_repeats_empty hc hsend hempty
      exact ⟨hframes, hseq, hraised⟩
  · rintro sh hc hs rfl
    exact presentPicture_paused ((showing_eq_some s sh).2 hc) hs hsend
  · intro s sh hc hs hi
    refine ⟨fun p rest hportions hdue hprepared hfilling hrest => ?_, fun hlater => ?_⟩
    · obtain ⟨hsound, hnotices⟩ := renderSound_late hc hs hi hportions hdue hprepared hfilling hrest
      exact ⟨hsound, hnotices⟩
    · obtain ⟨hsound, hnotices⟩ := renderSound_empty hc hs hi hlater
      exact ⟨hsound, hnotices⟩

end Machine
end Sys2Proof

end

section
/-!
# Link checks (O51)
-/

namespace Sys2Proof
namespace Machine

/-! ### The begin and the end of a check (R131 to R133) -/

section
variable {s : State} {outcome : CheckOutcome} {answered : Option Nat}

/-- The link side after a check that has ended with an outcome. -/
def LinkSide.concluded (outcome : CheckOutcome) (l : LinkSide) : LinkSide :=
  { l.counted outcome with
    state := l.state.after outcome
    answerTimer := none
    retry := l.retry || decide (l.state.after outcome = .suspect)
    requester := if l.retry || decide (l.state.after outcome = .suspect) then .pending else .idle }

/-- The part as a check leaves its link UNPAIRED, before the showing is looked at: LINK_UNPAIRED is raised. -/
def linkUnpaired (outcome : CheckOutcome) (answered : Option Nat) (s : State) : State :=
  raise .linkUnpaired
    (Layout.code s.link.state.code ++ Layout.code outcome.code ++ Layout.opt (Layout.num 4) s.link.paired ++
      Layout.opt (Layout.num 4) answered)
    { s with link := s.link.concluded outcome }

@[simp] theorem concluded_paired (outcome : CheckOutcome) (l : LinkSide) : (l.concluded outcome).paired = l.paired := by
  cases outcome <;> rfl

@[simp] theorem concluded_state (outcome : CheckOutcome) (l : LinkSide) :
    (l.concluded outcome).state = l.state.after outcome := rfl

theorem endLinkCheck_of_kept (h : s.link.state.after outcome = .unpaired → s.link.state = .unpaired) :
    endLinkCheck outcome answered s = { s with link := s.link.concluded outcome } := by
  simp only [endLinkCheck]
  refine if_neg ?_
  simpa using h

theorem endLinkCheck_of_unpaired (hafter : s.link.state.after outcome = .unpaired) (hbefore : s.link.state ≠ .unpaired) :
    endLinkCheck outcome answered s = linkUnpaired outcome answered s := by
  have hpaired := concluded_paired outcome s.link
  simp only [endLinkCheck]
  refine (if_pos (by simp [hafter, hbefore])).trans ?_
  rw [linkUnpaired, ← hpaired]
  rfl

/-- A check that leaves the link as it was, or does not unpair it, ends at the link. -/
theorem concludeCheck_of_kept (h : s.link.state.after outcome = .unpaired → s.link.state = .unpaired) :
    concludeCheck outcome answered s = { s with link := s.link.concluded outcome } := by
  have hcond : ¬((decide (s.link.state.after outcome = .unpaired) && !decide (s.link.state = .unpaired)) = true) := by
    simpa using h
  simp only [concludeCheck, endLinkCheck_of_kept h]
  exact if_neg hcond

/-- A check that unpairs the link reaches the showing (R135). -/
theorem concludeCheck_of_unpaired (hafter : s.link.state.after outcome = .unpaired)
    (hbefore : s.link.state ≠ .unpaired) : concludeCheck outcome answered s =
    cutGather (linkUnpaired outcome answered s) (loseLink (linkUnpaired outcome answered s)) := by
  simp only [concludeCheck, endLinkCheck_of_unpaired hafter hbefore]
  exact if_pos (by simpa [linkUnpaired, LinkSide.concluded] using ⟨hafter, hbefore⟩)

/-- A state that has not changed has no gather to cut. -/
theorem cutGather_self (s : State) : cutGather s s = s := by
  unfold cutGather
  split
  · refine if_neg ?_
    simp
    omega
  · rfl

/-- Without a showing the loss of the link ends at the link. -/
theorem concludeCheck_of_noShowing (hafter : s.link.state.after outcome = .unpaired)
    (hbefore : s.link.state ≠ .unpaired) (hsh : s.showing = none) :
    concludeCheck outcome answered s = linkUnpaired outcome answered s := by
  have hnone : (linkUnpaired outcome answered s).showing = none := hsh
  rw [concludeCheck_of_unpaired hafter hbefore, loseLink, hnone]
  exact cutGather_self _

theorem exec_linkCheckBegin (hr : s.link.requester = .pending) (hsend : s.frames.sending = none) :
    exec .linkCheckBegin s = .next (settle
      { s with
        link := { s.link with
          requester := .checking, retry := false, challenge := (s.link.challenge + 1) % 256
          begun := bump max32 s.link.begun }
        frames := { s.frames with
          sending := some (.challenge ((s.link.challenge + 1) % 256)), travelling := [] } }) :=
  congrArg finish (if_pos (by simp [hr, hsend]))

/-- The link is free, with no check pending and no frame waiting. -/
theorem freeLink_rests (hr : s.link.requester ≠ .pending) (hw : s.frames.waiting = none) :
    freeLink s = { s with frames := { s.frames with sending := none, travelling := [] } } := by
  simp [freeLink, hr, hw]

/-- The link is free, with no check pending: the waiting frame is sent (R129). -/
theorem freeLink_sends {f : Send} (hr : s.link.requester ≠ .pending) (hw : s.frames.waiting = some f) :
    freeLink s = beginSend f { s with frames := { s.frames with sending := none, travelling := [], waiting := none } } := by
  simp [freeLink, hr, hw]

/-- A challenge has been sent: the answer timer runs (R133). -/
theorem exec_linkSendComplete_challenge {n : Nat} (hsend : s.frames.sending = some (.challenge n))
    (hr : s.link.requester ≠ .pending) (hw : s.frames.waiting = none) :
    exec .linkSendComplete s = .next (settle
      { s with
        link := { s.link with answerTimer := some 0 }
        frames := { s.frames with sending := none, travelling := [] } }) := by
  have hsent : completeSend s = freeLink { s with link := { s.link with answerTimer := some 0 } } := by
    rw [completeSend, hsend]
  have hexec : exec .linkSendComplete s = finish (completeSend s) := rfl
  rw [hexec, hsent, freeLink_rests (by exact hr) (by exact hw)]
  rfl

theorem exec_projectorAnswer_stray {challenge projector : Nat}
    (h : s.link.answerTimer = none ∨ challenge ≠ s.link.challenge) :
    exec (.projectorAnswer challenge projector) s =
      .next (settle { s with link := { s.link with strays := bump max32 s.link.strays } }) := by
  refine congrArg finish (if_neg ?_)
  rcases h with h | h <;> simp [h]

theorem exec_projectorAnswer_taken (ht : s.link.answerTimer.isSome = true) (projector : Nat) :
    exec (.projectorAnswer s.link.challenge projector) s =
      .next (settle (concludeCheck (answerOutcome projector s) (some projector) s)) :=
  congrArg finish (if_pos (by simp [ht]))

theorem exec_answerTimeout (ht : s.link.answerTimer.isSome = true) :
    exec .answerTimeout s = .next (settle (concludeCheck .timeout none s)) :=
  congrArg finish (if_pos ht)

/-- The paired projector has answered (R131). -/
theorem exec_projectorAnswer_paired {projector : Nat} (ht : s.link.answerTimer.isSome = true)
    (hp : s.link.paired = some projector) (hretry : s.link.retry = false) :
    exec (.projectorAnswer s.link.challenge projector) s = .next (settle
      { s with link := { s.link with
          state := .paired, answerTimer := none, requester := .idle
          answersPaired := bump max32 s.link.answersPaired } }) := by
  have houtcome : answerOutcome projector s = .paired := if_pos hp
  rw [exec_projectorAnswer_taken ht, houtcome, concludeCheck_of_kept (by simp [LinkState.after])]
  simp [LinkSide.concluded, LinkSide.counted, LinkState.after, hretry]

/-- Another projector has answered, with no showing to end (R131). -/
theorem exec_projectorAnswer_other {projector : Nat} (ht : s.link.answerTimer.isSome = true)
    (hp : s.link.paired ≠ some projector) (hretry : s.link.retry = false) (hsh : s.showing = none)
    (hstate : s.link.state ≠ .unpaired) :
    exec (.projectorAnswer s.link.challenge projector) s = .next (settle
      (raise .linkUnpaired
        (Layout.code s.link.state.code ++ Layout.code 1 ++ Layout.opt (Layout.num 4) s.link.paired ++
          Layout.opt (Layout.num 4) (some projector))
        { s with link := { s.link with
            state := .unpaired, answerTimer := none, requester := .idle
            answersOther := bump max32 s.link.answersOther } })) := by
  have houtcome : answerOutcome projector s = .other := if_neg hp
  rw [exec_projectorAnswer_taken ht, houtcome, concludeCheck_of_noShowing rfl hstate hsh]
  simp [linkUnpaired, LinkSide.concluded, LinkSide.counted, LinkState.after, CheckOutcome.code, hretry]

/-- A first timeout makes the link SUSPECT, and a second check is asked for at once (R131, R133). -/
theorem exec_answerTimeout_suspect (ht : s.link.answerTimer.isSome = true)
    (hstate : s.link.state = .unknown ∨ s.link.state = .paired) :
    exec .answerTimeout s = .next (settle
      { s with link := { s.link with
          state := .suspect, answerTimer := none, retry := true, requester := .pending
          timeouts := bump max32 s.link.timeouts } }) := by
  have hafter : s.link.state.after .timeout = .suspect := by
    rcases hstate with h | h <;> rw [h] <;> rfl
  rw [exec_answerTimeout ht, concludeCheck_of_kept (by simp [hafter])]
  simp [LinkSide.concluded, LinkSide.counted, hafter]

/-- A second timeout unpairs the link, with no showing to end (R131). -/
theorem exec_answerTimeout_unpaired (ht : s.link.answerTimer.isSome = true) (hstate : s.link.state = .suspect)
    (hsh : s.showing = none) : ∃ t, exec .answerTimeout s = .next t ∧ t.link.state = .unpaired ∧
    t.link.answerTimer = none ∧ t.link.timeouts = bump max32 s.link.timeouts ∧ t.seq = s.seq := by
  have hafter : s.link.state.after .timeout = .unpaired := by rw [hstate]; rfl
  refine ⟨_, exec_answerTimeout ht, ?_⟩
  rw [concludeCheck_of_noShowing hafter (by simp [hstate]) hsh]
  simp [linkUnpaired, LinkSide.concluded, LinkSide.counted, hafter]

end

/-! ### The outbox as a showing ends (R163, R164) -/

/-- An outbox with no SHOW: each CLEAR that comes joins it, for none is cancelled. -/
def onlyClears (box : List CaptionRecord) : Prop := ∀ k number, box.any (CaptionRecord.presents k number) = false

theorem clearInto_of_onlyClears {box : List CaptionRecord} (h : onlyClears box) (k number : Nat) (reason : ClearReason) :
    clearInto k number reason box = (box ++ [.clear k number reason], false) := by
  simp [clearInto, h k number]

theorem onlyClears_append {box : List CaptionRecord} (h : onlyClears box) (k number : Nat) (reason : ClearReason) :
    onlyClears (box ++ [.clear k number reason]) := fun j m => by
  simp [h j m, CaptionRecord.presents]

/-- What a stage of a showing's end leaves of the overlay: an outbox with no SHOW stays so, and keeps its records. -/
structure OverlayKept (s t : State) : Prop where
  clears : onlyClears s.subs.overlay → onlyClears t.subs.overlay
  records : onlyClears s.subs.overlay → s.subs.overlay ⊆ t.subs.overlay

section
variable {s t u : State}

theorem OverlayKept.of_eq (h : t.subs.overlay = s.subs.overlay) : OverlayKept s t :=
  ⟨fun hs => h ▸ hs, fun _ => h ▸ List.Subset.refl _⟩

theorem OverlayKept.trans (h : OverlayKept s t) (h' : OverlayKept t u) : OverlayKept s u :=
  ⟨fun hs => h'.clears (h.clears hs), fun hs => List.Subset.trans (h.records hs) (h'.records (h.clears hs))⟩

@[simp] theorem feedSeats_outbox (s : State) :
    (feedSeats s).subs.overlay = s.subs.overlay ∧ (feedSeats s).subs.lost = s.subs.lost := by
  unfold feedSeats; (repeat' split) <;> simp

@[simp] theorem sendClear_lost (overlay seats : Bool) (k number : Nat) (reason : ClearReason) (s : State) :
    (sendClear overlay seats k number reason s).subs.lost = s.subs.lost := by
  simp [sendClear]

theorem sendClear_overlay (overlay seats : Bool) (k number : Nat) (reason : ClearReason)
    (h : onlyClears s.subs.overlay) : (sendClear overlay seats k number reason s).subs.overlay =
      if overlay then s.subs.overlay ++ [.clear k number reason] else s.subs.overlay := by
  cases overlay <;> simp [sendClear, clearInto_of_onlyClears h]

@[simp] theorem clearSlot_lost (k n : Nat) (reason : ClearReason) (s : State) :
    (clearSlot k n reason s).subs.lost = s.subs.lost := by
  unfold clearSlot; (repeat' split) <;> simp [updateStream]

theorem clearSlot_kept (k n : Nat) (reason : ClearReason) (s : State) : OverlayKept s (clearSlot k n reason s) := by
  unfold clearSlot
  split
  · exact .of_eq rfl
  split
  · exact .of_eq rfl
  · refine ⟨fun h => ?_, fun h => ?_⟩
    all_goals
      rw [sendClear_overlay _ _ _ _ _ (by exact h)]
      split
    · exact onlyClears_append h _ _ _
    · exact h
    · exact List.subset_append_left _ _
    · exact List.Subset.refl _

/-- Slot `n` of stream `k` shows a cue that the stream sends to the overlay. -/
def OverlayShows (k n : Nat) (shown : Shown) (s : State) : Prop :=
  ∃ st, s.subs.streams[k]? = some st ∧ st.route.toOverlay = true ∧ (st.slots[n]?).join = some shown

/-- A cue that is cleared sends its CLEAR to the overlay (R163). -/
theorem clearSlot_clears {k n : Nat} {shown : Shown} (h : OverlayShows k n shown s) (hbox : onlyClears s.subs.overlay)
    (reason : ClearReason) : .clear k shown.timed.cue.number reason ∈ (clearSlot k n reason s).subs.overlay := by
  obtain ⟨st, hst, hroute, hslot⟩ := h
  simp only [clearSlot, hst, hslot]
  rw [sendClear_overlay _ _ _ _ _ (by exact hbox), if_pos hroute]
  simp

/-- The clearing of another slot leaves a cue shown. -/
theorem clearSlot_overlayShows {k n j m : Nat} {shown : Shown} (h : OverlayShows k n shown s) (hother : (j, m) ≠ (k, n))
    (reason : ClearReason) : OverlayShows k n shown (clearSlot j m reason s) := by
  obtain ⟨st, hst, hroute, hslot⟩ := h
  by_cases hjk : k = j
  · subst hjk
    have hmn : n ≠ m := fun h => hother (by rw [h])
    simp only [clearSlot, hst]
    split
    · exact ⟨st, hst, hroute, hslot⟩
    · exact ⟨{ st with slots := replaceAt st.slots m none }, by simp [hst], hroute,
        by rw [getElem?_replaceAt_other _ _ hmn, hslot]⟩
  · exact ⟨st, (clearSlot_other hjk m reason s).trans hst, hroute, hslot⟩

/-- Slots cleared one after the other, each given by its stream and its number. -/
def clearSlots (reason : ClearReason) (l : List (Nat × Nat)) (s : State) : State :=
  l.foldl (fun s x => clearSlot x.1 x.2 reason s) s

theorem clearSlots_kept (reason : ClearReason) (l : List (Nat × Nat)) (s : State) :
    OverlayKept s (clearSlots reason l s) := by
  induction l generalizing s with
  | nil => exact .of_eq rfl
  | cons x l ih => exact (clearSlot_kept x.1 x.2 reason s).trans (ih _)

theorem clearSlots_clears {k n : Nat} {shown : Shown} {l : List (Nat × Nat)} (hl : (k, n) ∈ l)
    (h : OverlayShows k n shown s) (hbox : onlyClears s.subs.overlay) (reason : ClearReason) :
    .clear k shown.timed.cue.number reason ∈ (clearSlots reason l s).subs.overlay := by
  induction l generalizing s with
  | nil => simp at hl
  | cons x l ih =>
    have hkept := clearSlot_kept x.1 x.2 reason s
    by_cases hx : x = (k, n)
    · subst hx
      exact (clearSlots_kept reason l _).records (hkept.clears hbox) (clearSlot_clears h hbox reason)
    · exact ih ((List.mem_cons.1 hl).resolve_left (Ne.symm hx)) (clearSlot_overlayShows h hx reason) (hkept.clears hbox)

/-- A slot that shows nothing has nothing to clear. -/
theorem clearWhere_true (k : Nat) (reason : ClearReason) (s : State) :
    clearWhere k (fun _ => true) reason s = clearSlots reason [(k, 0), (k, 1)] s := by
  have hstep : clearWhere k (fun _ => true) reason s = [0, 1].foldl (fun s n => clearSlot k n reason s) s := by
    refine List.foldl_ext _ _ _ fun u n _ => ?_
    simp only [clearSlot]
    cases u.subs.streams[k]? with
    | none => rfl
    | some st => cases hshown : (st.slots[n]?).join <;> simp [hshown]
  exact hstep

/-- The slots in the order in which they are cleared. -/
def slotNumbers : List (Nat × Nat) := streamNumbers.flatMap fun k => [(k, 0), (k, 1)]

theorem mem_slotNumbers {k n : Nat} (hk : k ≤ 3) (hn : n ≤ 1) : (k, n) ∈ slotNumbers := by
  simp [slotNumbers, streamNumbers]
  omega

theorem clearAll_eq (reason : ClearReason) (s : State) : clearAll reason s = clearSlots reason slotNumbers s := by
  simp only [clearAll, clearWhere_true, clearSlots, slotNumbers, List.foldl_flatMap]

@[simp] theorem clearAll_lost (reason : ClearReason) (s : State) : (clearAll reason s).subs.lost = s.subs.lost := by
  rw [clearAll_eq, clearSlots]
  induction slotNumbers generalizing s with
  | nil => rfl
  | cons x l ih => simp [ih]

@[simp] theorem discardBank_outbox (following : Option (Bool × Nat)) (k n : Nat) (s : State) :
    (discardBank following k n s).subs.overlay = s.subs.overlay ∧
    (discardBank following k n s).subs.lost = s.subs.lost := by
  unfold discardBank abandonLoad
  dsimp only
  (repeat' split) <;> simp [updateStream]

@[simp] theorem beginBank_outbox (prepared : Bool) (reel k : Nat) (s : State) :
    (beginBank prepared reel k s).subs.overlay = s.subs.overlay ∧
    (beginBank prepared reel k s).subs.lost = s.subs.lost := by
  unfold beginBank
  dsimp only
  (repeat' split) <;> simp [updateStream]

/-- A judgement of the banks sends nothing. -/
@[simp] theorem judgeBanks_outbox (s : State) :
    (judgeBanks s).subs.overlay = s.subs.overlay ∧ (judgeBanks s).subs.lost = s.subs.lost := by
  simp only [judgeBanks, streamNumbers, List.foldl]
  split <;> simp

@[simp] theorem discardPrepared_outbox (s : State) :
    (discardPrepared s).subs.overlay = s.subs.overlay ∧ (discardPrepared s).subs.lost = s.subs.lost := by
  unfold discardPrepared; split <;> simp

@[simp] theorem halt_outbox (cause : HaltCause) (s : State) :
    (halt cause s).subs.overlay = s.subs.overlay ∧ (halt cause s).subs.lost = s.subs.lost := by
  simp [halt]

end

/-! ### The end of a scrambled showing (R106, R135) -/

section
variable {s : State} {sh : Showing}

/-- The part as the captions of an ending showing are dropped. -/
def beforeCaptions (outcome : ShowingOutcome) (sh : Showing) (s : State) : State :=
  let s := closeRecord sh outcome (emptyUnits (fun _ => true) s)
  let s := raise .showingEnded
    (Layout.num 1 sh.play.id ++ Layout.code outcome.code ++ Layout.flag s.keys.counted) s
  dropCurrentSound sh (dropCurrentFrames (updateKeys (fun k => { k with bound := none }) s))

theorem beforeCaptions_subs (outcome : ShowingOutcome) (sh : Showing) (s : State) :
    (beforeCaptions outcome sh s).subs = s.subs := by
  simp [beforeCaptions]

theorem endShowing_outbox (outcome : ShowingOutcome) (hsh : s.showing = some sh) :
    (endShowing outcome s).subs.overlay = (clearAll .ended (beforeCaptions outcome sh s)).subs.overlay ∧
    (endShowing outcome s).subs.lost = s.subs.lost := by
  have hlost : (clearAll .ended (beforeCaptions outcome sh s)).subs.lost = s.subs.lost := by
    rw [clearAll_lost, beforeCaptions_subs]
  unfold endShowing
  rw [hsh]
  dsimp only
  rw [← hlost]
  simp [dropCaptions, beforeCaptions]

/-- With no SHOW in the overlay outbox, each cue shown there has its CLEAR in it when the showing has ended. -/
theorem endShowing_clears (outcome : ShowingOutcome) (hsh : s.showing = some sh) (hbox : s.subs.overlay = []) {k n : Nat}
    (hk : k ≤ 3) (hn : n ≤ 1) {shown : Shown} (h : OverlayShows k n shown s) :
    .clear k shown.timed.cue.number .ended ∈ (endShowing outcome s).subs.overlay := by
  have hsubs := beforeCaptions_subs outcome sh s
  rw [(endShowing_outbox outcome hsh).1, clearAll_eq]
  refine clearSlots_clears (mem_slotNumbers hk hn) ?_ ?_ _
  · obtain ⟨st, hst, hroute, hslot⟩ := h
    exact ⟨st, by rw [hsubs]; exact hst, hroute, hslot⟩
  · rw [hsubs, hbox]
    exact fun _ _ => rfl

/-- Places that leave the queue leave the link and the showing's copies as they are. -/
theorem keepPlaces_frames (keep : Place → Bool) (s : State) : (keepPlaces keep s).frames = { s.frames with
    places := s.frames.places.filter keep
    job := if s.frames.places.any fun p => decide (p.condition = .filling) && !keep p then none else s.frames.job } := by
  simp only [keepPlaces]
  split <;> rfl

theorem endShowing_frames (outcome : ShowingOutcome) (hsh : s.showing = some sh) : ∃ job,
    (endShowing outcome s).frames = { s.frames with
      places := s.frames.places.filter (·.prepared), job := job, keyCurrent := none, last := none, carried := none
      consecutive := 0 } := by
  refine ⟨(endShowing outcome s).frames.job, ?_⟩
  simp [endShowing, hsh, dropCurrentFrames, keepPlaces_frames]

theorem discardPrepared_frames (s : State) : ∃ places job keyPrepared, (discardPrepared s).frames =
    { s.frames with places := places, job := job, keyPrepared := keyPrepared } ∧ places ⊆ s.frames.places := by
  refine ⟨(discardPrepared s).frames.places, (discardPrepared s).frames.job, (discardPrepared s).frames.keyPrepared, ?_⟩
  unfold discardPrepared
  split
  · simp [dropPreparedSound, dropPreparedFrames, keepPlaces_frames]
  · simp

/-- The showing has ended ABORTED_LINK and the sequencer is HALTED, before the link is looked at. -/
def showingLost (s : State) : State := halt .abortedLink (endShowing .abortedLink s)

section
variable (hsh : s.showing = some sh)
include hsh

theorem showingLost_frames : ∃ places job keyPrepared, (showingLost s).frames = { s.frames with
      places := places, job := job, keyCurrent := none, keyPrepared := keyPrepared, last := none, carried := none
      consecutive := 0 } ∧ ∀ p ∈ places, p ∈ s.frames.places ∧ p.prepared = true := by
  obtain ⟨job, hended⟩ := endShowing_frames .abortedLink hsh
  obtain ⟨places, job', key, hdiscarded, hplaces⟩ := discardPrepared_frames (endShowing .abortedLink s)
  refine ⟨places, job', key, ?_, fun p hp => ?_⟩
  · simp [showingLost, halt, hdiscarded, hended]
  · simpa [hended] using hplaces hp

/-- A prepared PLAY leaves no place and no grant. -/
theorem showingLost_prepared (hp : s.preparedPlay.isSome = true) :
    (showingLost s).frames.places = [] ∧ (showingLost s).keys.prepared = none := by
  obtain ⟨p, hp⟩ := Option.isSome_iff_exists.1 hp
  have hprepared : (endShowing .abortedLink s).seq.prepared = some (.play p) := by
    rw [endShowing_seq]
    unfold State.preparedPlay at hp
    split at hp <;> simp_all
  obtain ⟨hkeys, -, hnone, -⟩ := discardPrepared_of_play hprepared
  obtain ⟨places, job, key, hframes, hall⟩ := showingLost_frames hsh
  have hsame : (showingLost s).frames.places = (discardPrepared (endShowing .abortedLink s)).frames.places := by
    simp [showingLost, halt]
  refine ⟨List.eq_nil_iff_forall_not_mem.2 fun x hx => ?_, by simp [showingLost, halt, hkeys]⟩
  have hpre := (hall x (by simpa [hframes] using hx)).2
  have hnot := hnone x (hsame ▸ hx)
  simp [hpre] at hnot

theorem showingLost_rest : (showingLost s).link = s.link ∧ (showingLost s).keys.bound = none ∧
    (showingLost s).seq.state = .halted ∧
    (showingLost s).seq.halt = some .abortedLink ∧ (showingLost s).seq.current = .none ∧
    (showingLost s).seq.pos = s.seq.pos ∧ (showingLost s).seq.stack = s.seq.stack ∧
    (showingLost s).subs.lost = s.subs.lost ∧
    ∀ r ∈ (showingLost s).log.records, r.sequence = sh.record → r.outcome = some .abortedLink := by
  have hlost := (endShowing_outbox .abortedLink hsh).2
  refine ⟨by simp [showingLost], by simp [showingLost, halt, hsh], ?_, ?_, ?_, ?_, ?_,
    by simp [showingLost, hlost], fun r hr hrecord => ?_⟩
  case refine_6 => exact (endShowing_closes .abortedLink hsh (by simpa [showingLost, halt] using hr) hrecord).1
  all_goals simp [showingLost]

end

/-! ### The send in flight (R129, R135) -/

theorem abandonSend_other {record : Nat} (h : ∀ picture, s.frames.sending ≠ some (.frame record picture)) :
    abandonSend record s = s := by
  unfold abandonSend
  split
  next f hf =>
    refine if_neg ?_
    cases f with
    | frame r picture =>
      have hr : r ≠ record := fun hr => h picture (by rw [hf, hr])
      simpa [Send.ofShowing] using hr
    | black | challenge => simp [Send.ofShowing]
  next => rfl

/-- The send of the showing is abandoned with its records (R164). -/
theorem abandonSend_own {record : Nat} {picture : Picture} (h : s.frames.sending = some (.frame record picture)) :
    abandonSend record s =
      freeLink { s with subs := { s.subs with lost := min max32 (s.subs.lost + s.frames.travelling.length) } } := by
  simp [abandonSend, h, Send.ofShowing]

/-- The next send leaves the queue, the reading key and the copy of the last frame. -/
@[simp] theorem freeLink_copies (s : State) : (freeLink s).frames.places = s.frames.places ∧
    (freeLink s).frames.keyCurrent = s.frames.keyCurrent ∧ (freeLink s).frames.last = s.frames.last := by
  simp only [freeLink, beginLinkCheck, beginSend]
  (repeat' split) <;> simp

theorem freeLink_link (h : s.link.requester ≠ .pending) : (freeLink s).link = s.link := by
  simp only [freeLink, if_neg h]
  split <;> simp

@[simp] theorem abandonSend_copies (record : Nat) (s : State) :
    (abandonSend record s).frames.places = s.frames.places ∧
    (abandonSend record s).frames.keyCurrent = s.frames.keyCurrent ∧
    (abandonSend record s).frames.last = s.frames.last := by
  unfold abandonSend; (repeat' split) <;> simp

theorem abandonSend_link {record : Nat} (h : s.link.requester ≠ .pending) :
    (abandonSend record s).link = s.link := by
  unfold abandonSend
  split
  · split
    · exact freeLink_link h
    · rfl
  · rfl

/-- A waiting frame of the showing goes black; any other send goes on waiting (R129, R135). -/
theorem blackenWaiting_waiting (record : Nat) (s : State) : (blackenWaiting record s).frames.waiting = s.frames.waiting.map
    (fun x => match x with
      | .frame r _ => if r = record then .black else x
      | _ => x) := by
  unfold blackenWaiting
  dsimp only
  congr 1
  funext x
  cases x <;> simp [Send.ofShowing]

/-- The abandoned send is counted with its records, and black goes in place of a waiting frame of the showing, with what the
overlay outbox then holds (R164). -/
theorem abandonSend_blackened {record : Nat} {picture : Picture} (hr : s.link.requester ≠ .pending)
    (hsend : s.frames.sending = some (.frame record picture)) :
    let t := abandonSend record (blackenWaiting record s)
    t.subs.lost = min max32 (s.subs.lost + s.frames.travelling.length) ∧ t.frames.waiting = none ∧
    (s.frames.waiting = none → t.frames.sending = none) ∧
    ∀ waiting, s.frames.waiting = some (.frame record waiting) →
      t.frames.sending = some .black ∧ t.subs.overlay = [] ∧ t.frames.travelling = s.subs.overlay := by
  intro t
  have hself : t = freeLink { blackenWaiting record s with
      subs := { s.subs with lost := min max32 (s.subs.lost + s.frames.travelling.length) } } :=
    abandonSend_own (s := blackenWaiting record s) hsend
  have hfreed : ∀ u : State, u.link.requester ≠ .pending →
      (freeLink u).subs.lost = u.subs.lost ∧ (freeLink u).frames.waiting = none := fun u hu => by
    cases hw : u.frames.waiting with
    | none => simp [freeLink_rests hu hw, hw]
    | some f => cases f <;> simp [freeLink_sends hu hw, beginSend]
  have hlost := hfreed { blackenWaiting record s with
    subs := { s.subs with lost := min max32 (s.subs.lost + s.frames.travelling.length) } } hr
  refine ⟨hself ▸ hlost.1, hself ▸ hlost.2, fun hnone => ?_, fun waiting hwaiting => ?_⟩
  · rw [hself, freeLink_rests (by exact hr) (by simp [blackenWaiting, hnone])]
  · rw [hself, freeLink_sends (f := .black) (by exact hr) (by simp [blackenWaiting, hwaiting, Send.ofShowing])]
    exact ⟨rfl, rfl, rfl⟩

theorem loseLink_scrambled (hsh : s.showing = some sh) (hkey : sh.play.composition.key ≠ none) :
    loseLink s = muteNow (abandonSend sh.record (blackenWaiting sh.record (showingLost s))) := by
  simp only [loseLink, hsh]
  exact if_pos (Option.isSome_iff_ne_none.2 hkey)

end

/-! ### The obligation -/

/-- What the loss of the link leaves of a scrambled showing (R106, R135): the sequencer HALTED, and the showing's places, key,
grant and samples gone. -/
structure ScrambledLost (sh : Showing) (s t : State) : Prop where
  link : t.link = s.link
  halted : t.seq.state = .halted ∧ t.seq.halt = some .abortedLink ∧ t.showing = none
  position : t.seq.pos = s.seq.pos ∧ t.seq.stack = s.seq.stack
  bound : t.keys.bound = none
  places : ∀ p ∈ t.frames.places, p ∈ s.frames.places ∧ p.prepared = true
  prepared : s.preparedPlay.isSome = true → t.frames.places = [] ∧ t.keys.prepared = none
  copies : t.frames.keyCurrent = none ∧ t.frames.last = none
  silent : t.sound.outputs = [] ∧ t.sound.mute = t.muteReason
  record : ∀ r ∈ t.log.records, r.sequence = sh.record → r.outcome = some .abortedLink

section
variable {s : State} {sh : Showing} (hsh : s.showing = some sh) (hkey : sh.play.composition.key ≠ none)
include hsh hkey

/-- A send in flight of another showing, of black or of a challenge runs on (R135). -/
theorem loseLink_keepsSend (hsend : ∀ picture, s.frames.sending ≠ some (.frame sh.record picture)) :
    (loseLink s).frames.sending = s.frames.sending ∧
    (loseLink s).frames.waiting = s.frames.waiting.map
      (fun x => match x with
        | .frame record _ => if record = sh.record then .black else x
        | _ => x) := by
  obtain ⟨places, job, key, hframes, -⟩ := showingLost_frames hsh
  have hother : ∀ picture, (blackenWaiting sh.record (showingLost s)).frames.sending ≠ some (.frame sh.record picture) :=
    fun picture => by
      show (showingLost s).frames.sending ≠ _
      rw [hframes]
      exact hsend picture
  have hmuted : ∀ u, (muteNow u).frames = u.frames := fun u => rfl
  rw [loseLink_scrambled hsh hkey, abandonSend_other hother, hmuted, blackenWaiting_waiting, hframes]
  refine ⟨?_, rfl⟩
  show (showingLost s).frames.sending = _
  rw [hframes]

variable (hr : s.link.requester ≠ .pending)
include hr

theorem loseLink_ends : ScrambledLost sh s (loseLink s) := by
  obtain ⟨hlink, hbound, hstate, hhalt, hcurrent, hpos, hstack, -, hrecords⟩ := showingLost_rest hsh
  obtain ⟨places, job, key, hframes, hplaces⟩ := showingLost_frames hsh
  have hprepared := showingLost_prepared hsh
  have hkept : ∀ u : State, (blackenWaiting sh.record u).frames.places = u.frames.places ∧
    (blackenWaiting sh.record u).frames.keyCurrent = u.frames.keyCurrent ∧
    (blackenWaiting sh.record u).frames.last = u.frames.last := fun u => ⟨rfl, rfl, rfl⟩
  have hlost := abandonSend_link (s := blackenWaiting sh.record (showingLost s)) (record := sh.record)
    (by show (showingLost s).link.requester ≠ _; rw [hlink]; exact hr)
  rw [loseLink_scrambled hsh hkey]
  constructor
  case link => simpa [hlink] using hlost
  case halted => simp [hstate, hhalt, hcurrent, State.showing]
  case position => simp [hpos, hstack]
  case bound => simp [hbound]
  case places => simpa [hkept, hframes] using hplaces
  case prepared => simpa [hkept] using hprepared
  case copies => simp [hkept, hframes]
  case silent => exact ⟨rfl, rfl⟩
  case record => simpa using hrecords

/-- A send in flight of the showing is abandoned, and END CLEAR records leave with the black that goes in its place (R164). -/
theorem loseLink_abandons {picture : Picture} (hsend : s.frames.sending = some (.frame sh.record picture)) :
    (loseLink s).subs.lost = min max32 (s.subs.lost + s.frames.travelling.length) ∧
    (loseLink s).frames.waiting = none ∧ (s.frames.waiting = none → (loseLink s).frames.sending = none) ∧
    ∀ waiting, s.frames.waiting = some (.frame sh.record waiting) →
      (loseLink s).frames.sending = some .black ∧ (loseLink s).subs.overlay = [] ∧
      ∀ k n shown, k ≤ 3 → n ≤ 1 → s.subs.overlay = [] → OverlayShows k n shown s →
        .clear k shown.timed.cue.number .ended ∈ (loseLink s).frames.travelling := by
  obtain ⟨hlink, -, -, -, -, -, -, hlost, -⟩ := showingLost_rest hsh
  obtain ⟨places, job, key, hframes, -⟩ := showingLost_frames hsh
  obtain ⟨hcount, hwaiting, hfree, hblack⟩ := abandonSend_blackened (s := showingLost s) (record := sh.record)
    (picture := picture) (by rw [hlink]; exact hr) (by rw [hframes]; exact hsend)
  have hmuted : ∀ u, (muteNow u).subs = u.subs ∧ (muteNow u).frames = u.frames := fun u => ⟨rfl, rfl⟩
  rw [loseLink_scrambled hsh hkey, (hmuted _).1, (hmuted _).2]
  rw [hlost, hframes] at hcount
  rw [hframes] at hfree hblack
  refine ⟨hcount, hwaiting, hfree, fun waiting hw => ?_⟩
  obtain ⟨hsending, hempty, htravelling⟩ := hblack waiting hw
  refine ⟨hsending, hempty, fun k n shown hk hn hbox hshows => ?_⟩
  have houtbox : (showingLost s).subs.overlay = (endShowing .abortedLink s).subs.overlay := by simp [showingLost]
  rw [htravelling, houtbox]
  exact endShowing_clears .abortedLink hsh hbox hk hn hshows

end

theorem muteReason_congr {s t : State} (hseq : t.seq = s.seq) (hlines : t.lines = s.lines) :
    t.muteReason = s.muteReason := by
  have hinterlocked : t.interlocked = s.interlocked := interlocked_of_holding (by rw [hlines])
  rw [State.muteReason, hinterlocked, hseq]
  rfl

/-- A second timeout reaches the showing, if there is one (R131, R135). -/
theorem exec_answerTimeout_lost {s : State} (ht : s.link.answerTimer.isSome = true) (hstate : s.link.state = .suspect) :
    let lost := loseLink (linkUnpaired .timeout none s)
    ∃ t, exec .answerTimeout s = .next t ∧ Settled lost t ∧ t.link = lost.link ∧ t.subs = lost.subs := by
  have hafter : s.link.state.after .timeout = .unpaired := by rw [hstate]; rfl
  refine ⟨_, exec_answerTimeout ht, ?_⟩
  rw [concludeCheck_of_unpaired hafter (by simp [hstate])]
  exact ⟨.settle_cutGather _ _, by simp, by simp⟩

/-- Settles O51: the begin and the outcomes of a check, and the loss of the link to a scrambled showing. -/
theorem linkChecksDecideThePairing : Obligations.LinkChecksDecideThePairing := by
  intro s
  refine ⟨exec_linkCheckBegin, fun n => exec_linkSendComplete_challenge, fun challenge projector =>
    exec_projectorAnswer_stray, fun projector => exec_projectorAnswer_paired, fun projector => exec_projectorAnswer_other,
    exec_answerTimeout_suspect, exec_answerTimeout_unpaired, fun sh ht hstate hretry hsh hkey => ?_⟩
  obtain ⟨t, hexec, ⟨hseq, hkeys, -, hframes, hsound, hlog, hlines, -⟩, hlink, hsubs⟩ := exec_answerTimeout_lost ht hstate
  have hafter : s.link.state.after .timeout = .unpaired := by rw [hstate]; rfl
  have hidle : (linkUnpaired .timeout none s).link.requester ≠ .pending := by
    simp [linkUnpaired, LinkSide.concluded, hafter, hretry]
  have hshow : (linkUnpaired .timeout none s).showing = some sh := hsh
  obtain ⟨hlinkKept, ⟨hhalted, hhalt, hnone⟩, ⟨hpos, hstack⟩, hbound, hplaces, hprepared, ⟨hkeyGone, hlast⟩,
    ⟨houtputs, hmute⟩, hrecord⟩ := loseLink_ends hshow hkey hidle
  have hunpaired : (linkUnpaired .timeout none s).link.state = .unpaired := hafter
  have hshowing := showing_of_current (congrArg Sequencer.current hseq)
  have hreason := muteReason_congr hseq hlines
  refine ⟨t, hexec, ?_⟩
  rw [hreason, hshowing, hlink, hlinkKept, hseq, hkeys, hframes, hsound, hlog, hsubs]
  refine ⟨hunpaired, hhalted, hhalt, hnone, hpos, hstack, hbound, hplaces, hprepared, hkeyGone, hlast, houtputs, hmute,
    hrecord, fun picture hsend => ?_, loseLink_keepsSend hshow hkey⟩
  obtain ⟨hlost, hwaiting, hfree, hblack⟩ := loseLink_abandons hshow hkey hidle hsend
  refine ⟨hlost, hwaiting, hfree, fun waiting hw => ?_⟩
  obtain ⟨hsending, hempty, hclears⟩ := hblack waiting hw
  exact ⟨hsending, hempty, fun k n st shown hk hn hbox hst hroute hslot =>
    hclears k n shown hk hn hbox ⟨st, hst, hroute, by rw [hslot]; rfl⟩⟩

end Machine
end Sys2Proof

end

section
/-!
What LIPSYNC SET does to the trims (R152), once for the proofs that follow.
-/
namespace Sys2Proof
namespace Machine

/-- The trims after a LIPSYNC SET in a state of the sequencer (R152), before a prepared PLAY takes it. -/
def Sound.trimmed (state : SeqState) (trim : Int) (x : Sound) : Sound :=
  { x with trimNext := trim, trimCurrent := if state = .idle ∨ state = .armed then trim else x.trimCurrent }

theorem serveLipsyncSet_eq (f : Frame) (trim : Int) (s : State) : serveLipsyncSet f trim s =
    let taken := clampInt (-4800) 4800 trim
    let u := restartPrepared taken (updateSound (Sound.trimmed s.seq.state taken) s)
    if taken = trim then answerOk 41 f [] u else answerClamped 41 f (Layout.int 2 taken) u := by
  have htrims : (let u := updateSound (fun x => { x with trimNext := clampInt (-4800) 4800 trim }) s
      if u.seq.state = .idle || u.seq.state = .armed then
        updateSound (fun x => { x with trimCurrent := clampInt (-4800) 4800 trim }) u
      else u) = updateSound (Sound.trimmed s.seq.state (clampInt (-4800) 4800 trim)) s := by
    simp only [Bool.or_eq_true, decide_eq_true_eq]
    split <;> rename_i hs <;> rw [updateSound_seq] at hs <;>
      simp only [updateSound, Sound.trimmed, hs, if_true, if_false]
  simp only [serveLipsyncSet, ← htrims]

end Machine
end Sys2Proof
end

section
/-!
How many portions the sound buffer holds after each operation (R140): the reader's beginning of a portion adds one, and no
other operation adds any.
-/
namespace Sys2Proof
namespace Machine

/-! ### Operations that keep the number of portions -/

/-- A lookup leaves the sound path to its reader. -/
theorem lookup_sound {reader : Reader} {kind : AskKind} {track block : Nat} {s u : State} {a : Answer}
    (h : lookup reader kind track block s = (a, u)) : u.sound = s.sound := by
  rw [show u = (lookup reader kind track block s).2 by rw [h]]
  simp

@[simp] theorem setCells_sound (cells : List Cell) (s : State) : (setCells cells s).sound =
    { s.sound with portions := s.sound.portions.map fun p => if p.filling then { p with cells := cells } else p } := rfl

@[simp] theorem askSound_sound (track block count store : Nat) (s : State) : (askSound track block count store s).sound =
    { s.sound with job := some { track := track, block := block, count := count } } := by
  simp [askSound]

@[simp] theorem fillPortion_portions (n : Nat) (s : State) :
    (fillPortion n s).sound.portions.length = s.sound.portions.length := by
  induction n generalizing s with
  | zero => rfl
  | succ n ih =>
    unfold fillPortion
    split
    · rfl
    · split
      · rfl
      · dsimp only
        split
        · simp
        · split
          · simp
          · split <;> rename_i hl <;> simp [ih, lookup_sound hl]

@[simp] theorem soundAnswer_portions (a : Answer) (s : State) :
    (soundAnswer a s).sound.portions.length = s.sound.portions.length := by
  unfold soundAnswer; (repeat' split) <;> simp

@[simp] theorem soundTransfer_portions (ok : Bool) (t : Transfer) (s : State) :
    (soundTransfer ok t s).sound.portions.length = s.sound.portions.length := by
  unfold soundTransfer; (repeat' split) <;> simp

@[simp] theorem takeOverSound_portions (s : State) :
    (takeOverSound s).sound.portions.length = s.sound.portions.length := by
  simp [takeOverSound]

@[simp] theorem beginHolding_portions (n : Nat) (s : State) :
    (beginHolding n s).sound.portions = s.sound.portions := by
  simp only [beginHolding]; split <;> simp

@[simp] theorem serveSoundMapLoad_portions (frame : Frame) (code : Nat) (routes : Option (List Route)) (s : State) :
    (serveSoundMapLoad frame code routes s).sound.portions = s.sound.portions := by
  unfold serveSoundMapLoad; (repeat' split) <;> simp [putMap]

@[simp] theorem serveFaderSet_portions (frame : Frame) (target frames : Nat) (s : State) :
    (serveFaderSet frame target frames s).sound.portions = s.sound.portions := by
  simp only [serveFaderSet]; split <;> simp [takeFade]

@[simp] theorem silenceOutputs_portions (s : State) : (silenceOutputs s).sound.portions = s.sound.portions := rfl

@[simp] theorem soundUnderrun_portions (cause : UnderrunCause) (missing : Nat) (s : State) :
    (soundUnderrun cause missing s).sound.portions = s.sound.portions := by
  unfold soundUnderrun; split <;> simp

@[simp] theorem outputPortion_portions (portion : Portion) (s : State) :
    (outputPortion portion s).sound.portions = s.sound.portions := by
  simp [outputPortion]

@[simp] theorem takeFade_portions (target frames : Nat) (s : State) :
    (takeFade target frames s).sound.portions = s.sound.portions := rfl

@[simp] theorem performCue_portions (pos : Pos) (a : CueAction) (s : State) :
    (performCue pos a s).sound.portions = s.sound.portions := by
  cases a <;> simp [performCue]

@[simp] theorem readerAnswer_portions (r : Reader) (a : Answer) (s : State) :
    (readerAnswer r a s).sound.portions.length = s.sound.portions.length := by
  cases r <;> simp [readerAnswer]

/-- A run of operations that each keep the number of places keeps it. -/
theorem foldl_portions {α : Type} {act : State → α → State} {l : List α} {s : State}
    (h : ∀ u a, (act u a).sound.portions.length = u.sound.portions.length) :
    (l.foldl act s).sound.portions.length = s.sound.portions.length := by
  induction l generalizing s with
  | nil => rfl
  | cons a l ih => exact ih.trans (h s a)

@[simp] theorem answerAll_portions (a : Answer) (asks : List Ask) (s : State) :
    (answerAll a asks s).sound.portions.length = s.sound.portions.length :=
  foldl_portions fun u q => by split <;> simp

@[simp] theorem answerFromMap_portions (track : Nat) (extents : List Extent) (q : Ask) (s : State) :
    (answerFromMap track extents q s).sound.portions.length = s.sound.portions.length := by
  simp only [answerFromMap]; (repeat' split) <;> simp

@[simp] theorem completeFill_portions (ok : Bool) (s : State) :
    (completeFill ok s).sound.portions.length = s.sound.portions.length := by
  simp only [completeFill]
  (repeat' split) <;> simp [foldl_portions (fun u q => answerFromMap_portions _ _ q u)]

@[simp] theorem flushTrack_portions (track : Nat) (s : State) :
    (flushTrack track s).sound.portions.length = s.sound.portions.length := by
  simp [flushTrack]

@[simp] theorem deleteTrack_portions (track : Nat) (s : State) :
    (deleteTrack track s).sound.portions.length = s.sound.portions.length := by
  simp [deleteTrack]

@[simp] theorem serveTrackDelete_portions (turn : Bool) (frame : Frame) (track : Nat) (s : State) :
    (serveTrackDelete turn frame track s).sound.portions.length = s.sound.portions.length := by
  unfold serveTrackDelete whenRoom; (repeat' split) <;> simp

@[simp] theorem damageTrack_portions (n : Nat) (slot : TrackSlot) (reason : DamageReason) (content : Option ContentCode)
    (s : State) : (damageTrack n slot reason content s).sound.portions.length = s.sound.portions.length := by
  unfold damageTrack; split <;> simp

@[simp] theorem judgeData_portions (n : Nat) (slot : TrackSlot) (g : Segment) (s : State) :
    (judgeData n slot g s).sound.portions.length = s.sound.portions.length := by
  simp only [judgeData]; (repeat' split) <;> simp

@[simp] theorem actOnSegment_portions (g : Segment) (s : State) :
    (actOnSegment g s).sound.portions.length = s.sound.portions.length := by
  unfold actOnSegment; (repeat' split) <;> simp

@[simp] theorem pumpSegment_portions (s : State) :
    (pumpSegment s).sound.portions.length = s.sound.portions.length := by
  unfold pumpSegment; (repeat' split) <;> simp

@[simp] theorem completeDescription_portions (n : Nat) (slot : TrackSlot) (e : TrackEntry) (block : List Byte) (s : State) :
    (completeDescription n slot e block s).sound.portions.length = s.sound.portions.length := by
  unfold completeDescription; (repeat' split) <;> simp

@[simp] theorem gatherWritten_portions (g : Gather) (s : State) :
    (gatherWritten g s).sound.portions.length = s.sound.portions.length := by
  unfold gatherWritten; (repeat' split) <;> simp

@[simp] theorem gatherFailed_portions (g : Gather) (s : State) :
    (gatherFailed g s).sound.portions.length = s.sound.portions.length := by
  unfold gatherFailed; split <;> simp

@[simp] theorem dataWritten_portions (ok : Bool) (g : Gather) (dropped : Bool) (s : State) :
    (dataWritten ok g dropped s).sound.portions.length = s.sound.portions.length := by
  rw [dataWritten_eq, pumpSegment_portions]
  (repeat' split) <;> simp [dataStored]

@[simp] theorem mapWritten_portions (ok : Bool) (m : MapBlock) (reply : Option Reply) (s : State) :
    (mapWritten ok m reply s).sound.portions.length = s.sound.portions.length := by
  simp only [mapWritten]; (repeat' split) <;> simp

@[simp] theorem interruptTrack_portions (id : Nat) (s : State) :
    (interruptTrack id s).sound.portions.length = s.sound.portions.length := by
  unfold interruptTrack; split <;> simp

@[simp] theorem serveIngestAbort_portions (frame : Frame) (s : State) :
    (serveIngestAbort frame s).sound.portions.length = s.sound.portions.length := by
  simp only [serveIngestAbort]
  (repeat' split) <;> simp [foldl_portions (fun u id => interruptTrack_portions id u)]

@[simp] theorem enterWait_portions (pos : Pos) (timeout : Option Nat) (s : State) :
    (enterWait pos timeout s).sound.portions.length = s.sound.portions.length := by
  simp [enterWait]

@[simp] theorem beginShowing_portions (p : Play) (g : Option (Nat × Grant)) (s : State) :
    (beginShowing p g s).sound.portions.length = s.sound.portions.length := by
  unfold beginShowing; split <;> simp

@[simp] theorem enterIdle_portions (s : State) : (enterIdle s).sound.portions = s.sound.portions := rfl

@[simp] theorem fireCues_portions (n : Nat) (s : State) : (fireCues n s).sound.portions = s.sound.portions := by
  induction n generalizing s with
  | zero => rfl
  | succ n ih =>
    unfold fireCues
    split
    · rw [ih]
      split <;> simp
    · rfl

@[simp] theorem judgeUnits_portions (s : State) : (judgeUnits s).sound.portions = s.sound.portions := by
  simp [judgeUnits]

/-! ### Operations that let portions go -/

theorem actWalk_sound {start : Pos} {s u : State} {stop : WalkEnd} (h : actWalk start s = (stop, u)) :
    u.sound = s.sound := by
  rw [show u = (actWalk start s).2 by rw [h]]
  simp

theorem recheckPlay_sound {p : Play} {s u : State} {v : Verdict} (h : recheckPlay p s = (v, u)) :
    u.sound = s.sound := by
  rw [show u = (recheckPlay p s).2 by rw [h]]
  simp

/-- A full reset leaves the sound renderer at its reset values. -/
theorem fullReset_sound (size ran : Nat) (landed : Bool) (s : State) :
    (fullReset size ran landed s).sound = Sound.reset := by
  simp [fullReset, resetUnits, State.reset]

@[simp] theorem fullReset_portions (size ran : Nat) (landed : Bool) (s : State) :
    (fullReset size ran landed s).sound.portions = [] :=
  congrArg Sound.portions (fullReset_sound size ran landed s)

@[simp] theorem resetAfterReply_portions (s : State) : (resetAfterReply s).sound.portions = [] := by
  simp [resetAfterReply]

section
variable {k : Nat} {s : State} (h : s.sound.portions.length ≤ k)
include h

theorem keepPortions_portions (keep : Portion → Bool) : (keepPortions keep s).sound.portions.length ≤ k := by
  simpa using (List.length_filter_le keep s.sound.portions).trans h

@[simp] theorem dropCurrentSound_portions (sh : Showing) : (dropCurrentSound sh s).sound.portions.length ≤ k :=
  keepPortions_portions h _

@[simp] theorem dropPreparedSound_portions : (dropPreparedSound s).sound.portions.length ≤ k := keepPortions_portions h _

@[simp] theorem dropSoundBeyond_portions (last : Nat) : (dropSoundBeyond last s).sound.portions.length ≤ k :=
  keepPortions_portions h _

/-- The due portion leaves the buffer, and so do those that the tick has left behind (R144). -/
@[simp] theorem renderDue_portions (sh : Showing) : (renderDue sh s).sound.portions.length ≤ k := by
  have hkept := keepPortions_portions h fun p => p.prepared || decide (s.time.frame ≤ p.frame)
  simp only [renderDue]
  generalize keepPortions (fun p => p.prepared || decide (s.time.frame ≤ p.frame)) s = t at hkept
  split
  · rename_i p rest hp
    have hrest : rest.length ≤ k := by rw [hp, List.length_cons] at hkept; omega
    (repeat' split) <;> simp [hrest, hkept]
  · simp [hkept]

@[simp] theorem renderSound_portions : (renderSound s).sound.portions.length ≤ k := by
  have hjudged : (judgeMute s).sound.portions.length ≤ k := h
  simp only [renderSound]
  repeat' split
  · exact h
  · exact renderDue_portions hjudged _
  · exact h

@[simp] theorem restartPrepared_portions (trim : Int) : (restartPrepared trim s).sound.portions.length ≤ k := by
  unfold restartPrepared
  split
  · exact h
  · exact keepPortions_portions h _

@[simp] theorem serveLipsyncSet_portions (frame : Frame) (trim : Int) :
    (serveLipsyncSet frame trim s).sound.portions.length ≤ k := by
  simp only [serveLipsyncSet_eq]
  have hrestarted := restartPrepared_portions (s := updateSound (Sound.trimmed s.seq.state (clampInt (-4800) 4800 trim)) s)
    h (clampInt (-4800) 4800 trim)
  split <;> simpa using hrestarted

@[simp] theorem discardPrepared_portions : (discardPrepared s).sound.portions.length ≤ k := by
  unfold discardPrepared; split <;> simp [h]

@[simp] theorem endShowing_portions (outcome : ShowingOutcome) : (endShowing outcome s).sound.portions.length ≤ k := by
  unfold endShowing; split <;> simp [h]

@[simp] theorem endShow_portions (outcome : ShowOutcome) : (endShow outcome s).sound.portions.length ≤ k := by
  simp [endShow, h]

@[simp] theorem halt_portions (cause : HaltCause) : (halt cause s).sound.portions.length ≤ k := by
  simp [halt, h]

@[simp] theorem haltAt_portions (pos : Pos) : (haltAt pos s).sound.portions.length ≤ k :=
  halt_portions (s := updateSeq _ s) h _

@[simp] theorem takeUpWalk_portions (stop : WalkEnd) : (takeUpWalk stop s).sound.portions.length ≤ k := by
  cases stop <;> simp [takeUpWalk, h]

@[simp] theorem blackGap_portions (start : Pos) : (blackGap start s).sound.portions.length ≤ k := by
  unfold blackGap
  dsimp only
  split <;> rename_i hw <;> simp [actWalk_sound hw, h]

@[simp] theorem takeOver_portions (p : Play) : (takeOver p s).sound.portions.length ≤ k := by
  unfold takeOver
  split <;> rename_i hp
  · simp [recheckPlay_sound hp, h]
  · split <;> simp [recheckPlay_sound hp, h]

@[simp] theorem endCurrent_portions (outcome : Showing → ShowingOutcome) :
    (endCurrent outcome s).sound.portions.length ≤ k := by
  simp only [endCurrent]; (repeat' split) <;> simp [h]

@[simp] theorem boundaryTick_portions : (boundaryTick s).sound.portions.length ≤ k := by
  simp only [boundaryTick]; split <;> simp [h]

@[simp] theorem skipBoundary_portions : (skipBoundary s).sound.portions.length ≤ k := by
  simp only [skipBoundary]; split <;> simp [h]

@[simp] theorem leaveWait_portions : (leaveWait s).sound.portions.length ≤ k := by
  simp only [leaveWait]; split <;> simp [h]

@[simp] theorem leaveLogFull_portions : (leaveLogFull s).sound.portions.length ≤ k := by
  unfold leaveLogFull
  split
  · exact h
  · split <;> rename_i hp <;> simp [recheckPlay_sound hp, h]

@[simp] theorem expirePause_portions : (expirePause s).sound.portions.length ≤ k := by
  simp [expirePause, h]

@[simp] theorem checkRepeats_portions : (checkRepeats s).sound.portions.length ≤ k := by
  unfold checkRepeats; (repeat' split) <;> simp [h]

@[simp] theorem loseLink_portions : (loseLink s).sound.portions.length ≤ k := by
  unfold loseLink; (repeat' split) <;> simp [h]

@[simp] theorem revokeShowing_portions : (revokeShowing s).sound.portions.length ≤ k := by
  unfold revokeShowing; split <;> simp [h]

@[simp] theorem takeOverIfReady_portions : (takeOverIfReady s).sound.portions.length ≤ k := by
  unfold takeOverIfReady; (repeat' split) <;> simp [h]

@[simp] theorem runTick_portions : (runTick s).sound.portions.length ≤ k := by
  unfold runTick; (repeat' split) <;> simp [h]

@[simp] theorem sequencerTick_portions : (sequencerTick s).sound.portions.length ≤ k := by
  unfold sequencerTick; split <;> simp [h]

@[simp] theorem frameTick_portions : (frameTick s).sound.portions.length ≤ k := by
  have htick : (sequencerTick (stepFade (stepPulses s))).sound.portions.length ≤ k := by simp [h]
  simp only [frameTick, cutGather_frame]
  generalize sequencerTick (stepFade (stepPulses s)) = t at htick
  refine checkRepeats_portions ?_
  simp only [clearAtTick_frame]
  refine renderSound_portions ?_
  simp only [presentPicture_frame, lookAheadIfDue_current, judgeUnits_portions]
  exact htick

@[simp] theorem clockTick_portions : (clockTick s).sound.portions.length ≤ k := by
  unfold clockTick
  exact frameTick_portions (s := updateTime _ s) h

@[simp] theorem syncEdge_portions (rising : Bool) : (syncEdge rising s).sound.portions.length ≤ k := by
  simp only [syncEdge]
  repeat' split
  · exact h
  · simp only [raise_sound]
    exact clockTick_portions (s := updateTime _ s) h
  · exact clockTick_portions (s := updateTime _ s) h
  · exact h

@[simp] theorem loseSync_portions : (loseSync s).sound.portions.length ≤ k := by
  simp only [loseSync, raise_sound]
  exact clockTick_portions (s := updateTime _ s) h

@[simp] theorem generatorTicks_portions : (generatorTicks s).sound.portions.length ≤ k := by
  unfold generatorTicks
  repeat' split
  · exact clockTick_portions h
  · exact loseSync_portions h
  · exact clockTick_portions (s := updateTime _ s) h
  · exact clockTick_portions (s := updateTime _ s) h
  · exact h

@[simp] theorem concludeCheck_portions (outcome : CheckOutcome) (answered : Option Nat) :
    (concludeCheck outcome answered s).sound.portions.length ≤ k := by
  have hended : (endLinkCheck outcome answered s).sound.portions.length ≤ k := by simpa using h
  simp only [concludeCheck]
  split
  · simpa using loseLink_portions hended
  · exact hended

theorem tryGo_portions {t : State} (ht : tryGo s = .ok t) : t.sound.portions.length ≤ k := by
  unfold tryGo at ht
  (repeat' split at ht) <;> cases ht <;> simp [h]

theorem trySkip_portions {t : State} (ht : trySkip s = .ok t) : t.sound.portions.length ≤ k := by
  unfold trySkip at ht
  (repeat' split at ht) <;> cases ht <;> simp [h]

theorem tryStop_portions {t : State} (ht : tryStop s = .ok t) : t.sound.portions.length ≤ k := by
  unfold tryStop at ht
  split at ht <;> cases ht
  · exact h
  · exact endShow_portions (endShowing_portions h _) _

/-- A request of the sequencer that is refused leaves the buffer. -/
theorem answerTry_portions (kind : Nat) (frame : Frame) {f : State → Except Reason State}
    (hf : ∀ t, f s = .ok t → t.sound.portions.length ≤ k) : (answerTry kind frame f s).sound.portions.length ≤ k := by
  unfold answerTry
  split
  · rename_i t ht; simpa using hf t ht
  · simpa using h

@[simp] theorem servePauseLimit_portions (frame : Frame) (seconds : Nat) :
    (servePauseLimit frame seconds s).sound.portions.length ≤ k := by
  have hended := expirePause_portions (s := updateSeq (fun q => { q with pauseLimit := min seconds 3600 }) s) h
  simp only [servePauseLimit]
  (repeat' split) <;> simp [h, hended]

@[simp] theorem revokeGrant_portions (slot : Nat) (g : Grant) : (revokeGrant slot g s).sound.portions.length ≤ k := by
  simp only [revokeGrant]; split <;> simp [h]

@[simp] theorem serveGrantRevoke_portions (turn : Bool) (frame : Frame) (slot : Nat) :
    (serveGrantRevoke turn frame slot s).sound.portions.length ≤ k := by
  unfold serveGrantRevoke whenRoom; (repeat' split) <;> simp [h]

@[simp] theorem actFunction_portions (n : Nat) (l : Line) : (actFunction n l s).sound.portions.length ≤ k := by
  unfold actFunction
  split
  case h_3 =>
    unfold orElseSame
    split
    · rename_i t ht; simpa using tryGo_portions h ht
    · simpa using h
  case h_5 =>
    unfold tryPause
    split <;> simpa [orElseSame] using h
  all_goals simpa using h

@[simp] theorem takeOnset_portions (n : Nat) : (takeOnset n s).sound.portions.length ≤ k := by
  unfold takeOnset
  split
  · exact h
  · exact actFunction_portions (s := updateLine _ _ s) h _ _

@[simp] theorem takeLevel_portions (n : Nat) (high : Bool) : (takeLevel n high s).sound.portions.length ≤ k := by
  simp only [takeLevel]
  repeat' split
  · exact h
  · exact takeOnset_portions (s := updateLine _ _ s) h _
  · exact h
  · exact h

@[simp] theorem changePin_portions (n : Nat) (high : Bool) : (changePin n high s).sound.portions.length ≤ k := by
  simp only [changePin]
  repeat' split
  on_goal 5 => exact takeLevel_portions (s := updateLine _ _ s) h _ _
  all_goals exact h

@[simp] theorem setInput_portions (n : Nat) (c : LineCondition) (debounce : Nat) (f : LineFunction) :
    (setInput n c debounce f s).sound.portions.length ≤ k := by
  have hset : (updateLine n (fun l => { l with
      output := false, condition := c, debounce := debounce, function := f, level := l.wire })
      (clearLine n s)).sound.portions.length ≤ k := by
    simpa using h
  simp only [setInput]
  repeat' split
  · exact takeOnset_portions hset n
  · exact hset
  · exact hset

@[simp] theorem serveLineSetup_portions (frame : Frame) (line : Nat) (config : LineRequest) :
    (serveLineSetup frame line config s).sound.portions.length ≤ k := by
  unfold serveLineSetup; (repeat' split) <;> simp [h]

@[simp] theorem showResetSequencer_portions : (showResetSequencer s).sound.portions.length ≤ k := by
  unfold showResetSequencer; split <;> simp [h]

@[simp] theorem showReset_portions : (showReset s).sound.portions.length ≤ k := by
  have hended : (dropPreparedSound (dropPreparedFrames (showResetSequencer (blackenLink s)))).sound.portions.length ≤ k :=
    dropPreparedSound_portions (by simpa using showResetSequencer_portions (s := blackenLink s) h)
  simpa [showReset] using hended

@[simp] theorem serveResetShow_portions (frame : Frame) : (serveResetShow frame s).sound.portions.length ≤ k := by
  simp [serveResetShow, h]

@[simp] theorem serveShowStart_portions (frame : Frame) : (serveShowStart frame s).sound.portions.length ≤ k := by
  unfold serveShowStart
  split
  · simpa using h
  · split
    rename_i hw
    simp [actWalk_sound hw, h]

@[simp] theorem completeOutgoing_portions : (completeOutgoing s).sound.portions.length ≤ k := by
  obtain ⟨p, hp | hp⟩ := completeOutgoing_cases s
  · rw [hp]; exact h
  · simp [hp]

@[simp] theorem mapBlockWriteComplete_portions (ok : Bool) : (mapBlockWriteComplete ok s).sound.portions.length ≤ k := by
  unfold mapBlockWriteComplete
  split
  · exact completeTransfer_keeps (P := fun u => u.sound.portions.length ≤ k) (fun _ _ _ hu => hu)
      (fun _ _ hu => by simpa using hu) h
  · exact h

/-- No request adds a portion. -/
@[simp] theorem serve_portions (turn : Bool) (c : Instr) : (serve turn c s).sound.portions.length ≤ k := by
  cases c
  case go f => exact answerTry_portions h 26 f fun _ => tryGo_portions h
  case skip f => exact answerTry_portions h 27 f fun _ => trySkip_portions h
  case stop f => exact answerTry_portions h 28 f fun _ => tryStop_portions h
  all_goals simp [serve, h]

@[simp] theorem serveDeferred_portions (n : Nat) : (serveDeferred n s).sound.portions.length ≤ k :=
  serveDeferred_keeps (P := fun u => u.sound.portions.length ≤ k) (fun _ _ _ hu => hu)
    (fun c _ hu => serve_portions hu false c) n h

@[simp] theorem serveWaiter_portions (w : Waiter) : (serveWaiter w s).sound.portions.length ≤ k := by
  unfold serveWaiter; (repeat' split) <;> simp [h]

@[simp] theorem queueWaiting_portions : (queueWaiting s).sound.portions.length ≤ k := by
  unfold queueWaiting; (repeat' split) <;> simp [h]

end

/-! ### The reader -/

/-- The reader begins a portion only while the buffer holds fewer than 4. -/
theorem beginPortion_portions {s : State} (h : s.sound.portions.length ≤ 4) :
    (beginPortion s).sound.portions.length ≤ 4 := by
  unfold beginPortion
  split
  · exact h
  · rename_i hroom
    simp only [Bool.or_eq_true, decide_eq_true_eq, not_or] at hroom
    split
    · exact h
    · simp; omega

/-- Every event keeps the buffer at 4 portions or fewer. -/
theorem event_portions {c : Instr} {s : State} (hc : requestOf c = none) (h : s.sound.portions.length ≤ 4) :
    ∃ u, exec c s = finish u ∧ u.sound.portions.length ≤ 4 := by
  have completes : ∀ {client ok act}, (∀ t u, (act t u).sound.portions.length = u.sound.portions.length) →
      (completeTransfer client ok act s).sound.portions.length ≤ 4 := fun hact =>
    completeTransfer_keeps (P := fun u => u.sound.portions.length ≤ 4) (fun _ _ _ hu => hu)
      (fun t u hu => (hact t u).trans_le hu) h
  cases c <;> try cases hc
  all_goals refine ⟨_, rfl, ?_⟩
  case soundReaderBeginPortion => exact beginPortion_portions h
  case pictureTransferComplete | windowFillComplete | soundTransferComplete | subtitleTransferComplete | sweepReadComplete =>
    exact completes fun t u => by simp
  case ingestWriteComplete =>
    split
    · exact completes fun t u => by simp
    · exact h
  all_goals (repeat' split) <;> simp [h]

end Machine
end Sys2Proof
end

section
/-!
The sound reader: its portions begun, its transfers completed or lost (R141, R142).
-/
namespace Sys2Proof
namespace Machine

/-! ### Positions -/

/-- No position is awaited. -/
theorem firstAwaited_eq_none {cells : List Cell} : firstAwaited cells = none ↔ ∀ c ∈ cells, c.isAwaited = false := by
  simp only [firstAwaited, List.findSome?_eq_none_iff]
  refine forall₂_congr fun c _ => ?_
  cases c <;> simp [Cell.isAwaited]

@[simp] theorem length_copyFromRun (p : Play) (s : State) (cells : List Cell) :
    (copyFromRun p s cells).length = cells.length := by
  unfold copyFromRun; split <;> simp

@[simp] theorem length_loseBlocks (p : Play) (track block count : Nat) (s : State) (cells : List Cell) :
    (loseBlocks p track block count s cells).length = cells.length := by
  simp [loseBlocks]

@[simp] theorem length_resolveFrame (p : Play) (f : Nat) (d : Int) (s : State) :
    (resolveFrame p f d s).length = samplesPerFrame p.composition.rate := by
  simp [resolveFrame]

/-! ### A portion begun -/

/-- The sound path as the filling of the last portion can leave it: the reader waits or does not, the read run may have gone,
and the portion has as many positions as before. -/
def Sound.fillsTo (old : List Portion) (p : Portion) (x y : Sound) : Prop :=
  ∃ job run cells, cells.length = p.cells.length ∧
    y = { x with job := job, run := run, portions := old ++ [{ p with cells := cells }] }

section
variable {old : List Portion} {p : Portion} {x : Sound}

theorem Sound.fillsTo.waits {s : State} (h : x.fillsTo old p s.sound) (job : Option SoundJob) :
    x.fillsTo old p { s.sound with job := job } := by
  obtain ⟨_, run, cells, hlength, hs⟩ := h
  exact ⟨job, run, cells, hlength, by rw [hs]⟩

theorem Sound.fillsTo.setCells {s : State} {cells : List Cell} (h : x.fillsTo old p s.sound)
    (hold : ∀ q ∈ old, q.filling = false) (hcells : cells.length = p.cells.length) :
    x.fillsTo old p (setCells cells s).sound := by
  obtain ⟨job, run, before, hlength, hs⟩ := h
  have hsame : (old.map fun q => if q.filling then { q with cells := cells } else q) = old := by
    refine (List.map_congr_left fun q hq => ?_).trans (List.map_id old)
    rw [hold q hq, if_neg Bool.false_ne_true, id]
  cases hfilling : ({ p with cells := before } : Portion).filling
  · exact ⟨job, run, before, hlength, by simp [hs, hsame, hfilling]⟩
  · exact ⟨job, run, cells, hcells, by simp [hs, hsame, hfilling]⟩

theorem Sound.fillsTo.dropsRun {s : State} (h : x.fillsTo old p s.sound) :
    x.fillsTo old p { s.sound with run := none } := by
  obtain ⟨job, _, cells, hlength, hs⟩ := h
  exact ⟨job, none, cells, hlength, by rw [hs]⟩

/-- Of a buffer whose other portions are COMPLETE, the FILLING one is the last. -/
theorem Sound.fillsTo.filling_length {s : State} {portion : Portion} (h : x.fillsTo old p s.sound)
    (hold : ∀ q ∈ old, q.filling = false) (hf : s.sound.portions.find? Portion.filling = some portion) :
    portion.cells.length = p.cells.length := by
  obtain ⟨job, run, cells, hlength, hs⟩ := h
  have hmem := List.mem_of_find?_eq_some hf
  have hfilling := List.find?_some hf
  rw [hs, List.mem_append, List.mem_singleton] at hmem
  obtain hmem | rfl := hmem
  · rw [hold portion hmem] at hfilling
    cases hfilling
  · exact hlength

/-- Filling the last portion leaves the others, and the frame and the owner of each. -/
theorem Sound.fillsTo.fillPortion (hold : ∀ q ∈ old, q.filling = false) (n : Nat) {s : State}
    (h : x.fillsTo old p s.sound) : x.fillsTo old p (fillPortion n s).sound := by
  induction n generalizing s with
  | zero => exact h
  | succ n ih =>
    unfold Machine.fillPortion
    split
    · exact h.waits none
    · next portion hf =>
      have hlength := h.filling_length hold hf
      split
      · exact h
      · next play hp =>
        have hset := h.setCells (cells := copyFromRun play s portion.cells) hold (by simp [hlength])
        dsimp only
        split
        · exact Sound.fillsTo.setCells (s := { s with sound := { s.sound with job := none } }) (h.waits none) hold
            (by simp [hlength])
        · split
          · exact h.setCells hold (by simp [hlength])
          · split
            · next hl => simpa [lookup_sound hl] using hset.waits _
            · next hl => simpa [lookup_sound hl] using hset.waits _
            · next u hl =>
              rw [← lookup_sound hl] at hset
              exact ih (Sound.fillsTo.setCells (s := { u with sound := { u.sound with run := none } }) hset.dropsRun hold
                (by simp [hlength]))
end

/-- The sound path with the reader's next portion at the tail of the buffer, before it is filled (R141). -/
def Sound.begun (prepared : Bool) (f : Nat) (cells : List Cell) (x : Sound) : Sound :=
  { x with
    portions := x.portions ++ [{ prepared := prepared, frame := f, cells := cells }]
    nextCurrent := if prepared then x.nextCurrent else f + 1
    nextPrepared := if prepared then f + 1 else x.nextPrepared }

section
variable {s : State} {tr : Transfer} {j : SoundJob} {portion : Portion} {p : Play}

/-- With room for it and none FILLING, the reader's next portion is resolved and filled (R141). -/
theorem beginPortion_eq {prepared : Bool} {f : Nat} (hroom : s.sound.portions.length < 4)
    (hold : ∀ q ∈ s.sound.portions, q.filling = false) (hnext : nextPortion s = some (prepared, p, f)) :
    let cells := resolveFrame p f (if prepared then s.sound.trimPrepared else s.sound.trimCurrent) s
    let u := { s with sound := s.sound.begun prepared f cells }
    beginPortion s = fillPortion (portionFuel u) u := by
  have hfilling : s.sound.portions.any Portion.filling = false := by simpa using hold
  simp only [beginPortion, hnext, hfilling, Nat.not_le.2 hroom, decide_false, Bool.or_false, Bool.false_eq_true, if_false]
  rfl

theorem exec_beginPortion {prepared : Bool} {f : Nat} (hroom : s.sound.portions.length < 4)
    (hold : ∀ q ∈ s.sound.portions, q.filling = false) (hnext : nextPortion s = some (prepared, p, f)) :
    ∃ t cells, exec .soundReaderBeginPortion s = .next t ∧
      t.sound.portions = s.sound.portions ++ [{ prepared := prepared, frame := f, cells := cells }] ∧
      cells.length = samplesPerFrame p.composition.rate ∧
      t.sound.nextCurrent = (if prepared then s.sound.nextCurrent else f + 1) ∧
      t.sound.nextPrepared = (if prepared then f + 1 else s.sound.nextPrepared) ∧
      t.catalogue = s.catalogue ∧ t.seq = s.seq ∧ t.frames = s.frames := by
  let cells := resolveFrame p f (if prepared then s.sound.trimPrepared else s.sound.trimCurrent) s
  let u := { s with sound := s.sound.begun prepared f cells }
  have hbegun : u.sound.fillsTo s.sound.portions { prepared := prepared, frame := f, cells := cells } u.sound :=
    ⟨s.sound.job, s.sound.run, cells, rfl, rfl⟩
  obtain ⟨job, run, filled, hfilled, hsound⟩ := hbegun.fillPortion hold (portionFuel u)
  refine ⟨settle (beginPortion s), filled, rfl, ?_⟩
  simp only [settle_frame, beginPortion_frame, and_true]
  rw [beginPortion_eq hroom hold hnext, hsound]
  exact ⟨rfl, hfilled.trans (length_resolveFrame _ _ _ _), rfl, rfl⟩

/-! ### A portion completed -/

theorem fillingPortion_iff : fillingPortion s = some (portion, p) ↔
    s.sound.portions.find? Portion.filling = some portion ∧ playOf portion.prepared s = some p := by
  unfold fillingPortion
  split
  · next q hq =>
    rw [hq]
    simp only [Option.map_eq_some_iff, Prod.mk.injEq, Option.some.injEq]
    exact ⟨fun ⟨_, hp, hportion, hplay⟩ => ⟨hportion, hportion ▸ hplay ▸ hp⟩,
      fun ⟨hportion, hp⟩ => ⟨p, hportion ▸ hp, hportion, rfl⟩⟩
  · next hq => simp [hq]

theorem portionFuel_pos (s : State) : ∃ n, portionFuel s = n + 1 := by
  unfold portionFuel; split <;> exact ⟨_, rfl⟩

/-- A FILLING portion is complete when the read run has all that it awaits (R141). -/
theorem fillPortion_complete (hf : fillingPortion s = some (portion, p))
    (hdone : firstAwaited (copyFromRun p s portion.cells) = none) : fillPortion (portionFuel s) s =
      setCells (copyFromRun p s portion.cells) { s with sound := { s.sound with job := none } } := by
  obtain ⟨hfind, hplay⟩ := fillingPortion_iff.1 hf
  obtain ⟨n, hn⟩ := portionFuel_pos s
  simp only [hn, fillPortion, hfind, hplay, hdone]

/-- With no portion FILLING the reader is done. -/
theorem fillPortion_done (h : ∀ q ∈ s.sound.portions, q.filling = false) :
    fillPortion (portionFuel s) s = { s with sound := { s.sound with job := none } } := by
  have hfind : s.sound.portions.find? Portion.filling = none := by simpa using h
  obtain ⟨n, hn⟩ := portionFuel_pos s
  simp only [hn, fillPortion, hfind]

/-- Positions of which none is awaited complete the FILLING portion. -/
theorem setCells_complete {cells : List Cell} (h : firstAwaited cells = none) :
    ∀ q ∈ (setCells cells s).sound.portions, q.filling = false := by
  simp only [setCells_sound, List.mem_map]
  rintro _ ⟨q, -, rfl⟩
  split
  · simpa [Portion.filling] using firstAwaited_eq_none.1 h
  · simpa using ‹¬ q.filling = true›

/-! ### Transfers of the reader -/

/-- The read run that a transfer of the reader brings (R141). -/
def SoundJob.arrived (tr : Transfer) (s : State) (j : SoundJob) : ReadRun :=
  { track := j.track, block := j.block,
    blocks := (List.range tr.request.count).map fun i => s.store.bytes (tr.request.first + i) }

/-- The completion of a transfer for the FILLING portion: the blocks become the read run, or the positions they were to
bring are lost with the run, and the portion is filled on (R141, R142). -/
theorem soundTransfer_eq (ok : Bool) (hj : s.sound.job = some j) (hf : fillingPortion s = some (portion, p)) :
    let u := if ok then { s with sound := { s.sound with run := some (j.arrived tr s) } }
      else setCells (loseBlocks p j.track j.block j.count s portion.cells)
        { s with sound := { s.sound with run := none } }
    soundTransfer ok tr s = fillPortion (portionFuel u) u := by
  intro u
  unfold soundTransfer
  split
  · next hj' hf' =>
    cases hj.symm.trans hj'
    cases hf.symm.trans hf'
    cases ok <;> rfl
  · next hno => exact absurd hf (hno _ _ _ hj)

/-- A transfer that brings all that the portion awaits completes it (R141). -/
theorem exec_soundTransfer_ok (hcur : s.arbiter.current = some tr) (hc : tr.request.client = .sound)
    (hd : tr.dropped = false) (hj : s.sound.job = some j) (hf : fillingPortion s = some (portion, p))
    (hdone : firstAwaited (copyFromRun p { s with sound := { s.sound with run := some (j.arrived tr s) } }
      portion.cells) = none) :
    ∃ t, exec (.soundTransferComplete true) s = .next t ∧ t.sound = { s.sound with
      job := none, run := some (j.arrived tr s)
      portions := s.sound.portions.map fun x => if x.filling then
        { x with cells := copyFromRun p { s with sound := { s.sound with run := some (j.arrived tr s) } } portion.cells }
        else x } := by
  obtain ⟨a, ha⟩ := completeTransfer_ok (act := soundTransfer true) hcur hc hd
  refine ⟨_, congrArg finish (ha.trans (congrArg grantNext (soundTransfer_eq true (by exact hj) (by exact hf)))), ?_⟩
  rw [if_pos rfl, fillPortion_complete (by exact hf) (by exact hdone)]
  simp only [settle_frame, grantNext_frame]
  rfl

/-- After a second failure the positions that the transfer was to bring are lost (R142). -/
theorem exec_soundTransfer_failed (hcur : s.arbiter.current = some tr) (hc : tr.request.client = .sound)
    (hd : tr.dropped = false) (hr : tr.retry = true) (hj : s.sound.job = some j)
    (hf : fillingPortion s = some (portion, p))
    (hdone : firstAwaited (loseBlocks p j.track j.block j.count s portion.cells) = none) :
    ∃ t, exec (.soundTransferComplete false) s = .next t ∧
      t.sound.portions = s.sound.portions.map (fun x => if x.filling then
        { x with cells := loseBlocks p j.track j.block j.count s portion.cells } else x) ∧
      t.sound.run = none ∧ t.arbiter.faults = bump max32 s.arbiter.faults := by
  refine ⟨_, congrArg finish ((completeTransfer_failed hcur hc hd hr).trans
    (congrArg grantNext (soundTransfer_eq false (by exact hj) (by exact hf)))), ?_⟩
  rw [if_neg Bool.false_ne_true, fillPortion_done (setCells_complete (by exact hdone))]
  simp only [settle_frame, grantNext_frame, grantNext_faults]
  exact ⟨rfl, rfl, rfl⟩
end

/-- Settles O31: a portion begun and filled as far as it goes, a transfer that completes it or loses it, and the buffer's
bound by the operations that change it. -/
theorem soundReaderFillsPortions : Obligations.SoundReaderFillsPortions := by
  refine ⟨fun s prepared p f hroom hold hnext => exec_beginPortion hroom hold hnext,
    fun s tr j portion p hcur hc hd hj hf => exec_soundTransfer_ok hcur hc hd hj hf,
    fun s tr j portion p hcur hc hd hr hj hf => exec_soundTransfer_failed hcur hc hd hr hj hf, fun s t h ht => ?_⟩
  exact step_keeps (P := fun u => u.sound.portions.length ≤ 4) (fun _ _ hu => hu) (fun u hu => by simpa using hu)
    (fun c u v hu hv => exec_keeps (P := fun u => u.sound.portions.length ≤ 4) (fun _ _ _ hu => hu)
      (fun u hu => serve_portions hu false c) (fun hc => event_portions hc hu) hu hv) h ht

end Machine
end Sys2Proof
end

section
/-!
The house fader (R149, R150): a fade's value after each of its ticks, FADER SET, and what the two resets leave of it.
-/
namespace Sys2Proof
namespace Machine

/-! ### A fade's values (R150) -/

section
variable {x : Fade} {k : Nat}

/-- Upward, truncation toward zero rounds the way gone down. -/
theorem Fade.at_up {d : Nat} (h : x.target = x.start + d) (k : Nat) : x.at k = x.start + d * k / x.length := by
  have hway : (x.target : Int) - x.start = d := by omega
  rw [Fade.at, hway, ← Int.natCast_mul, ← Int.ofNat_tdiv, ← Int.natCast_add, Int.toNat_natCast]

/-- Downward, truncation toward zero rounds the way gone up. -/
theorem Fade.at_down {d : Nat} (h : x.start = x.target + d) (k : Nat) : x.at k = x.start - d * k / x.length := by
  have hway : (x.target : Int) - x.start = -d := by omega
  rw [Fade.at, hway, Int.neg_mul, Int.neg_tdiv, ← Int.natCast_mul, ← Int.ofNat_tdiv, ← Int.sub_eq_add_neg, Int.toNat_sub]

/-- The share of a way after `k` of its ticks is at most the whole. -/
theorem share_le (d : Nat) {l : Nat} (hk : k ≤ l) : d * k / l ≤ d :=
  Nat.div_le_of_le_mul (Nat.mul_comm l d ▸ Nat.mul_le_mul_left d hk)

/-- A fade goes up or down by some way. -/
theorem Fade.way (x : Fade) : ∃ d, x.target = x.start + d ∨ x.start = x.target + d := by
  obtain h | h := Nat.le_total x.start x.target
  · exact ⟨_, .inl (Nat.add_sub_cancel' h).symm⟩
  · exact ⟨_, .inr (Nat.add_sub_cancel' h).symm⟩

theorem Fade.at_zero (x : Fade) : x.at 0 = x.start := by simp [Fade.at]

theorem Fade.at_length (h : 0 < x.length) : x.at x.length = x.target := by
  obtain ⟨d, hd | hd⟩ := x.way
  · rw [Fade.at_up hd, Nat.mul_div_cancel _ h, hd]
  · rw [Fade.at_down hd, Nat.mul_div_cancel _ h, hd, Nat.add_sub_cancel]

/-- A fade never passes either of its ends. -/
theorem Fade.at_between (hk : k ≤ x.length) : min x.start x.target ≤ x.at k ∧ x.at k ≤ max x.start x.target := by
  obtain ⟨d, hd | hd⟩ := x.way <;> have hshare := share_le d hk
  · rw [Fade.at_up hd]
    generalize d * k / x.length = gone at hshare
    omega
  · rw [Fade.at_down hd]
    generalize d * k / x.length = gone at hshare
    omega
end

/-! ### A fade's ticks (R150) -/

section
variable {s : State} {x : Fade}

theorem stepFade_moves (h : s.sound.fade = some x) (hlt : x.taken + 1 < x.length) : stepFade s =
    { s with sound := { s.sound with fader := x.at (x.taken + 1), fade := some { x with taken := x.taken + 1 } } } := by
  simp only [stepFade, h, if_neg (Nat.not_le.2 hlt)]

theorem stepFade_ends (h : s.sound.fade = some x) (hlast : x.length ≤ x.taken + 1) :
    stepFade s = { s with sound := { s.sound with fader := x.target, fade := none } } := by
  simp only [stepFade, h, if_pos hlast]

theorem exec_fadeEnd (h : s.sound.fade = some x) (hlast : x.length ≤ x.taken + 1) :
    exec .fadeEnd s = finish (stepFade s) := by
  show execFadeEnd s = _
  simp only [execFadeEnd, h, if_pos hlast]
end

/-- Settles O56: a fade's values by the share of its way, its ticks one by one, and its end. -/
theorem fadesReachTheirTarget : Obligations.FadesReachTheirTarget := by
  refine ⟨fun x k hk hl => ?_, fun s x h => ⟨stepFade_moves h, fun hlast => ?_⟩⟩
  · obtain ⟨hlow, hhigh⟩ := Fade.at_between hk
    exact ⟨hlow, hhigh, x.at_zero, Fade.at_length hl⟩
  · rw [exec_fadeEnd h hlast, stepFade_ends h hlast, finish]

/-! ### FADER SET and the resets (R149) -/

/-- FADER SET begins a fade with its values brought to their ranges, and says so when one was brought. -/
theorem exec_faderSet {f : Frame} {s : State} (target frames : Nat) (h : s.accepts 40 f) :
    exec (.faderSet f target frames) s = .next (State.answering 40 f
      (if target ≤ 8192 ∧ frames ≤ 1200 then .ok else .clamped) none
      (if target ≤ 8192 ∧ frames ≤ 1200 then []
       else Layout.num 2 (min target 8192) ++ Layout.num 2 (min frames 1200)) (takeFade target frames s)) := by
  show request 40 f _ (serveFaderSet f target frames) s = _
  by_cases hr : target ≤ 8192 ∧ frames ≤ 1200
  · simp only [if_pos hr]
    refine request_ok h ?_ rfl
    simp only [serveFaderSet, hr, decide_true, Bool.and_self, if_true]
    rfl
  · simp only [if_neg hr]
    refine request_clamped h ?_ rfl
    have hrange : (decide (target ≤ 8192) && decide (frames ≤ 1200)) = false := by simpa using hr
    simp only [serveFaderSet, hrange, Bool.false_eq_true, if_false]
    rfl

theorem exec_fullReset_sound (size ran : Nat) (landed : Bool) (s : State) :
    ∃ t, exec (.fullReset size ran landed) s = .next t ∧ t.sound = Sound.reset :=
  ⟨_, rfl, by simp [fullReset_sound]⟩

@[simp] theorem keepPortions_fader (keep : Portion → Bool) (s : State) :
    (keepPortions keep s).sound.fader = s.sound.fader ∧ (keepPortions keep s).sound.fade = s.sound.fade := by
  simp only [keepPortions]; split <;> simp

@[simp] theorem dropCurrentSound_fader (sh : Showing) (s : State) :
    (dropCurrentSound sh s).sound.fader = s.sound.fader ∧ (dropCurrentSound sh s).sound.fade = s.sound.fade :=
  keepPortions_fader _ s

@[simp] theorem dropPreparedSound_fader (s : State) :
    (dropPreparedSound s).sound.fader = s.sound.fader ∧ (dropPreparedSound s).sound.fade = s.sound.fade :=
  keepPortions_fader _ s

@[simp] theorem discardPrepared_fader (s : State) :
    (discardPrepared s).sound.fader = s.sound.fader ∧ (discardPrepared s).sound.fade = s.sound.fade := by
  unfold discardPrepared; split <;> simp

@[simp] theorem endShowing_fader (outcome : ShowingOutcome) (s : State) :
    (endShowing outcome s).sound.fader = s.sound.fader ∧ (endShowing outcome s).sound.fade = s.sound.fade := by
  unfold endShowing; split <;> simp

@[simp] theorem enterIdle_fader (s : State) :
    (enterIdle s).sound.fader = s.sound.fader ∧ (enterIdle s).sound.fade = s.sound.fade := ⟨rfl, rfl⟩

/-- A show reset ends neither a fade nor its value. -/
@[simp] theorem showReset_fader (s : State) :
    (showReset s).sound.fader = s.sound.fader ∧ (showReset s).sound.fade = s.sound.fade := by
  have hseq : (showResetSequencer (blackenLink s)).sound.fader = s.sound.fader ∧
      (showResetSequencer (blackenLink s)).sound.fade = s.sound.fade := by
    unfold showResetSequencer
    split <;> simp [endShow]
  simp [showReset, hseq]

theorem exec_resetShow_fader {f : Frame} {s : State} (h : s.accepts 53 f) : ∃ t, exec (.resetShow f) s = .next t ∧
    t.sound.fader = s.sound.fader ∧ t.sound.fade = s.sound.fade := by
  refine ⟨_, request_of_accepts h, ?_⟩
  simp [serveResetShow]

/-- Settles O55: FADER SET and a FADER cue take a fade in the same way, and the two resets leave the fader by their own. -/
theorem faderSetFollowsItsRule : Obligations.FaderSetFollowsItsRule := by
  refine fun s => ⟨fun f target frames => exec_faderSet target frames, fun pos target frames => rfl, by decide,
    fun size ran landed => ?_, fun f => exec_resetShow_fader⟩
  obtain ⟨t, ht, hsound⟩ := exec_fullReset_sound size ran landed s
  exact ⟨t, ht, congrArg Sound.fader hsound, congrArg Sound.fade hsound⟩

end Machine
end Sys2Proof
end

section
/-!
Samples scaled, saturated and counted (R146).
-/
namespace Sys2Proof
namespace Machine

/-! ### The value of a sample -/

theorem scaled_floor (sample : Int) (gain fader : Nat) : 16777216 * scaled sample gain fader ≤ sample * gain * fader ∧
    sample * gain * fader < 16777216 * (scaled sample gain fader + 1) := by
  unfold scaled
  generalize sample * gain * fader = product
  omega

theorem scaled_unity (sample : Int) : scaled sample 4096 4096 = sample := by
  unfold scaled
  omega

theorem saturate_eq (v : Int) : saturate v = max (-8388608) (min 8388607 v) := by
  unfold saturate
  split
  · omega
  · split <;> omega

/-- An output's value is that of its route's source channel (R145, R148). -/
theorem outputValue_of_route {sets : List RouteSet} {fader k : Nat} {samples : List Int} {o ch : Nat} {set : RouteSet}
    {route : Route} (hset : sets.find? (fun r => decide (r.reel = k)) = some set) (hroute : set.routes[o]? = some route)
    (hsource : route.source = some ch) (hch : ch < set.channels) :
    outputValue sets fader k samples o = scaled (samples.getD ch 0) route.gain fader := by
  simp [outputValue, hset, hroute, hsource, hch]

/-! ### A portion output -/

/-- Rows counted one by one count as many as their values together. -/
theorem total_count_rows {α : Type} (p : α → Bool) (rows : List (List α)) :
    total (rows.map fun row => (row.filter p).length) = (rows.flatten.filter p).length := by
  induction rows with
  | nil => rfl
  | cons row rows ih => simp [ih]

/-- An underrun changes only its count in the sound renderer. -/
theorem soundUnderrun_sound (cause : UnderrunCause) (missing : Nat) (s : State) :
    ∃ underruns, (soundUnderrun cause missing s).sound = { s.sound with underruns := underruns } := by
  unfold soundUnderrun
  split
  · exact ⟨_, rfl⟩
  · exact ⟨_, rfl⟩

theorem outputPortion_sound (portion : Portion) (s : State) :
    let rows := portion.cells.map (outputRow s.sound.routesCurrent s.sound.fader)
    (outputPortion portion s).sound.outputs = rows.map (·.map saturate) ∧
    (outputPortion portion s).sound.clips =
      min max32 (s.sound.clips + (rows.flatten.filter fun v => !decide (saturate v = v)).length) := by
  intro rows
  unfold outputPortion
  obtain ⟨underruns, h⟩ := soundUnderrun_sound .fault (portion.cells.filter Cell.isLost).length
    { s with sound := { s.sound with
        outputs := rows.map (·.map saturate)
        clips := min max32 (s.sound.clips +
          total (rows.map fun row => (row.filter fun v => !decide (saturate v = v)).length)) } }
  rw [h, total_count_rows]
  exact ⟨rfl, rfl⟩

/-- Saturation raises no notice: only lost positions do (R144, R146). -/
theorem outputPortion_notices {portion : Portion} (h : ∀ c ∈ portion.cells, c ≠ .lost) (s : State) :
    (outputPortion portion s).notices = s.notices := by
  have hnone : portion.cells.filter Cell.isLost = [] := by
    refine List.filter_eq_nil_iff.2 fun c hc => ?_
    cases c with
    | lost => exact absurd rfl (h _ hc)
    | silence | awaited | present => exact Bool.false_ne_true
  simp [outputPortion, soundUnderrun, hnone]

theorem renderSound_muted {s : State} (h : s.muted = true) : renderSound s =
    { s with sound := { s.sound with outputs := [], mute := (renderSound s).sound.mute } } := by
  rw [renderSound_mute]
  unfold renderSound
  split
  · rw [if_pos h]; rfl
  · rfl

/-- Settles O54: the value of one sample, the values and clips of a portion, and the mute. -/
theorem samplesAreScaledAndSaturated : Obligations.SamplesAreScaledAndSaturated := by
  refine ⟨fun sample gain fader => ?_, saturate_eq, fun sets fader k samples o ch set route => outputValue_of_route,
    fun s portion => ?_, fun s => renderSound_muted, fun size ran landed s => ?_⟩
  · obtain ⟨hlow, hhigh⟩ := scaled_floor sample gain fader
    exact ⟨hlow, hhigh, scaled_unity sample⟩
  · obtain ⟨houtputs, hclips⟩ := outputPortion_sound portion s
    exact ⟨houtputs, hclips, fun h => outputPortion_notices h s⟩
  · obtain ⟨t, ht, hsound⟩ := exec_fullReset_sound size ran landed s
    exact ⟨t, ht, congrArg Sound.clips hsound⟩

end Machine
end Sys2Proof
end

section
/-!
SOUND MAP LOAD and LIPSYNC SET (R143, R147, R152).
-/
namespace Sys2Proof
namespace Machine

/-! ### SOUND MAP LOAD (R147) -/

theorem routeFits_iff (r : Route) : Route.fits r = true ↔ r.gain ≤ 8192 ∧ ∀ ch, r.source = some ch → ch ≤ 23 := by
  unfold Route.fits
  cases r.source <;> simp [within, and_comm]

theorem routeFits_eq_false (r : Route) :
    Route.fits r = false ↔ 8192 < r.gain ∨ r.source.any (fun ch => decide (23 < ch)) = true := by
  rw [← Bool.not_eq_true, routeFits_iff]
  cases r.source <;> simp [imp_iff_not_or]

section
variable {f : Frame} {s : State} {code : Nat} {routes : List Route}

/-- A map within its ranges goes where one of its code is, or else into the lowest free slot. -/
theorem exec_soundMapLoad_put {slot : Nat} (h : s.accepts 38 f) (hcode : code ≤ 255) (hlength : routes.length = 24)
    (hroutes : ∀ r ∈ routes, Route.fits r = true)
    (hslot : (∃ m, findMap s.sound.maps code = some (slot, m)) ∨
      findMap s.sound.maps code = none ∧ s.sound.maps.lowestFree 8 = some slot) :
    exec (.soundMapLoad f code (some routes)) s = .next (State.ok 38 f [] (putMap slot code routes s)) := by
  refine request_ok h ?_ rfl
  have hall : routes.all Route.fits = true := List.all_eq_true.2 hroutes
  simp only [serveSoundMapLoad, received_frame]
  obtain ⟨m, hm⟩ | ⟨hnone, hfree⟩ := hslot
  · simp [Nat.not_lt.2 hcode, hlength, hall, hm, putMap, updateSound]
  · simp [Nat.not_lt.2 hcode, hlength, hall, hnone, hfree, putMap, updateSound]

theorem exec_soundMapLoad_full (h : s.accepts 38 f) (hcode : code ≤ 255) (hlength : routes.length = 24)
    (hroutes : ∀ r ∈ routes, Route.fits r = true) (hnone : findMap s.sound.maps code = none)
    (hfree : s.sound.maps.lowestFree 8 = none) :
    exec (.soundMapLoad f code (some routes)) s = .next (s.no 38 f .tableFull) := by
  have hall : routes.all Route.fits = true := List.all_eq_true.2 hroutes
  refine request_refuses h ?_
  simp [serveSoundMapLoad, Nat.not_lt.2 hcode, hlength, hall, hnone, hfree]

theorem exec_soundMapLoad_remove {slot : Nat} {m : SoundMap} (h : s.accepts 38 f) (hcode : code ≤ 255)
    (hm : findMap s.sound.maps code = some (slot, m)) : exec (.soundMapLoad f code none) s =
      .next (State.ok 38 f [] (updateSound (fun x => { x with maps := x.maps.erase slot }) s)) := by
  refine request_ok h ?_ rfl
  simp [serveSoundMapLoad, Nat.not_lt.2 hcode, hm, updateSound]

theorem exec_soundMapLoad_notFound (h : s.accepts 38 f) (hcode : code ≤ 255)
    (hnone : findMap s.sound.maps code = none) :
    exec (.soundMapLoad f code none) s = .next (s.no 38 f .notFound) := by
  refine request_refuses h ?_
  simp [serveSoundMapLoad, Nat.not_lt.2 hcode, hnone]

theorem exec_soundMapLoad_badCode {routes : Option (List Route)} (h : s.accepts 38 f) (hcode : 255 < code) :
    exec (.soundMapLoad f code routes) s = .next (s.no 38 f .outOfRange) := by
  refine request_refuses h ?_
  cases routes <;> simp [serveSoundMapLoad, hcode]

theorem exec_soundMapLoad_badRoutes (h : s.accepts 38 f)
    (hbad : routes.length ≠ 24 ∨ ∃ r ∈ routes, Route.fits r = false) :
    exec (.soundMapLoad f code (some routes)) s = .next (s.no 38 f .outOfRange) := by
  have hcheck : (decide (255 < code) || decide (routes.length ≠ 24) || !routes.all Route.fits) = true := by
    rw [Bool.or_assoc, Bool.or_eq_true]
    refine .inr ?_
    simpa using hbad
  refine request_refuses h ?_
  simp only [serveSoundMapLoad, hcheck, if_true]
end

/-! ### Discards and withdrawals (R143, R44) -/

/-- What a reader gives up: none of its requests waits, and none of its questions is live. -/
theorem withdrawReader_withdraws (r : Reader) (s : State) :
    (∀ x ∈ (withdrawReader r s).arbiter.waiting, x.client ≠ r.client) ∧
    ∀ x ∈ (withdrawReader r s).cache.fills, ∀ q ∈ x.asks, q.reader = r → q.kind ≠ .sequencerPreparation →
      q.live = false := by
  constructor
  · intro x hx
    simpa using (List.mem_filter.1 hx).2
  · intro x hx q hq hreader hkind
    obtain ⟨y, -, rfl⟩ := List.mem_map.1 (List.mem_filter.1 hx).1
    obtain ⟨a, -, rfl⟩ := List.mem_map.1 hq
    split at hreader <;> rename_i ha
    · rw [if_pos ha]
    · rw [if_neg ha] at hkind
      exact absurd (by simp [Ask.ofReader, hreader, hkind]) ha

theorem keepPortions_sound (keep : Portion → Bool) (s : State) : (keepPortions keep s).sound = { s.sound with
    portions := s.sound.portions.filter keep
    job := if s.sound.portions.any (fun q => q.filling && !keep q) then none else s.sound.job } := by
  simp only [keepPortions]
  split <;> simp

/-- A FILLING portion that is discarded ends the reader's work on it (R143). -/
theorem keepPortions_withdraws {keep : Portion → Bool} {s : State}
    (h : s.sound.portions.any (fun q => q.filling && !keep q) = true) :
    (∀ x ∈ (keepPortions keep s).arbiter.waiting, x.client ≠ .sound) ∧
    ∀ x ∈ (keepPortions keep s).cache.fills, ∀ q ∈ x.asks, q.reader = .sound → q.kind ≠ .sequencerPreparation →
      q.live = false := by
  simp only [keepPortions, if_pos h]
  exact withdrawReader_withdraws .sound _

/-! ### LIPSYNC SET (R152) -/

theorem restartPrepared_of_none {u : State} (h : u.preparedPlay = none) (trim : Int) : restartPrepared trim u = u := by
  simp [restartPrepared, h]

theorem restartPrepared_of_some {u : State} {p : Play} (h : u.preparedPlay = some p) (trim : Int) :
    restartPrepared trim u = updateSound (fun x => { x with nextPrepared := p.firstFrame, trimPrepared := trim })
      (keepPortions (fun q => !q.prepared) u) := by
  simp [restartPrepared, h]

section
variable {f : Frame} {s : State} {trim : Int}

/-- LIPSYNC SET takes its trim, and says so when it was brought to its range. -/
theorem exec_lipsyncSet {taken : Int} (htaken : clampInt (-4800) 4800 trim = taken) (h : s.accepts 41 f) :
    exec (.lipsyncSet f trim) s = .next
      { restartPrepared taken (updateSound (Sound.trimmed s.seq.state taken) (s.received 41 f)) with
        port := s.port.answers 41 f (if taken = trim then .ok else .clamped) none
          (if taken = trim then [] else Layout.int 2 taken) } := by
  have hport : (restartPrepared taken (updateSound (Sound.trimmed s.seq.state taken) (s.received 41 f))).port =
      (s.received 41 f).port := by simp
  show request 41 f _ (serveLipsyncSet f trim) s = _
  rw [request_of_accepts h, serveLipsyncSet_eq, htaken]
  by_cases ht : taken = trim
  · simp only [if_pos ht]
    exact finish_answer h hport .ok none []
  · simp only [if_neg ht]
    exact finish_answer h hport .clamped none _

theorem exec_lipsyncSet_prepared {p : Play} (h : s.accepts 41 f) (hp : s.preparedPlay = some p) : ∃ t,
    let taken := clampInt (-4800) 4800 trim
    exec (.lipsyncSet f trim) s = .next t ∧
    t.port = s.port.answers 41 f (if taken = trim then .ok else .clamped) none
      (if taken = trim then [] else Layout.int 2 taken) ∧
    t.sound = { s.sound with
      trimNext := taken, trimPrepared := taken
      trimCurrent := if s.seq.state = .idle ∨ s.seq.state = .armed then taken else s.sound.trimCurrent
      portions := s.sound.portions.filter (fun q => !q.prepared), nextPrepared := p.firstFrame
      job := if s.sound.portions.any (fun q => q.filling && q.prepared) then none else s.sound.job } ∧
    (s.sound.portions.any (fun q => q.filling && q.prepared) = true →
      (∀ r ∈ t.arbiter.waiting, r.client ≠ .sound) ∧
      (∀ x ∈ t.cache.fills, ∀ q ∈ x.asks, q.reader = .sound → q.kind ≠ .sequencerPreparation → q.live = false)) ∧
    t.frames = s.frames ∧ t.seq = s.seq ∧ t.catalogue = s.catalogue := by
  let taken := clampInt (-4800) 4800 trim
  let u := updateSound (Sound.trimmed s.seq.state taken) (s.received 41 f)
  have hu : u.preparedPlay = some p := hp
  refine ⟨_, exec_lipsyncSet rfl h, rfl, ?_⟩
  dsimp only
  rw [restartPrepared_of_some hu]
  refine ⟨?_, fun hfilling => ?_, ?_⟩
  · simp [keepPortions_sound, u, taken, Sound.trimmed]
  · have hdrops : u.sound.portions.any (fun q => q.filling && !!q.prepared) = true := by
      simpa [u, Sound.trimmed] using hfilling
    simpa using keepPortions_withdraws hdrops
  · simp [u]
end

/-- Settles O53: SOUND MAP LOAD check by check, and LIPSYNC SET without and with a prepared PLAY. -/
theorem soundSettingsAreTaken : Obligations.SoundSettingsAreTaken := by
  intro f s
  refine ⟨fun code routes h hcode hlength hroutes => ?_,
    fun code h hcode => ⟨fun slot m => exec_soundMapLoad_remove h hcode, exec_soundMapLoad_notFound h hcode⟩, fun trim h hp => ?_, fun code routes => exec_soundMapLoad_badCode,
    fun code routes h hbad => ?_, fun trim p => exec_lipsyncSet_prepared⟩
  · have hfits : ∀ r ∈ routes, Route.fits r = true := fun r hr => (routeFits_iff r).2 (hroutes r hr)
    exact ⟨fun slot m hm => exec_soundMapLoad_put h hcode hlength hfits (.inl ⟨m, hm⟩), fun hnone =>
      ⟨fun slot hfree => exec_soundMapLoad_put h hcode hlength hfits (.inr ⟨hnone, hfree⟩),
        exec_soundMapLoad_full h hcode hlength hfits hnone⟩⟩
  · have hu : (updateSound (Sound.trimmed s.seq.state (clampInt (-4800) 4800 trim)) (s.received 41 f)).preparedPlay =
      none := hp
    refine (exec_lipsyncSet rfl h).trans ?_
    rw [restartPrepared_of_none hu]
    rfl
  · exact exec_soundMapLoad_badRoutes h (by simpa only [routeFits_eq_false] using hbad)

end Machine
end Sys2Proof
end

section
/-!
The subtitle loader: its loads begun, its transfers completed or lost (R155, R156, R158).
-/
namespace Sys2Proof

/-- Two changes of one element of a list, the one after the other. -/
theorem updateAt_updateAt {α : Type} (f g : α → α) (l : List α) (n : Nat) :
    updateAt f (updateAt g l n) n = updateAt (fun x => f (g x)) l n := by
  refine List.ext_getElem? fun i => ?_
  by_cases hi : i = n
  · subst hi; simp [Function.comp_def]
  · simp [getElem?_updateAt_other _ _ hi]

@[simp] theorem replaceAt_replaceAt {α : Type} (l : List α) (n : Nat) (x y : α) :
    replaceAt (replaceAt l n x) n y = replaceAt l n y :=
  updateAt_updateAt _ _ l n

namespace Machine

/-! ### The bank being loaded -/

theorem loaderBank_eq_some {l : Loader} {s : State} {st : Stream} {b : Bank} (hst : s.subs.streams[l.stream]? = some st)
    (hb : st.banks[l.bank]? = some b) : loaderBank l s = some b := by
  simp [loaderBank, hst, hb]

/-- A change of a bank puts the changed bank in its place. -/
theorem updateBank_streams {s : State} {k n : Nat} {st : Stream} {b : Bank} (f : Bank → Bank)
    (hst : s.subs.streams[k]? = some st) (hb : st.banks[n]? = some b) : (updateBank k n f s).subs.streams =
      updateAt (fun x => { x with banks := replaceAt x.banks n (f b) }) s.subs.streams k := by
  refine updateAt_congr fun x hx => ?_
  obtain rfl : st = x := Option.some.inj (hst.symm.trans hx)
  have hbanks : updateAt f st.banks n = replaceAt st.banks n (f b) :=
    updateAt_congr fun y hy => by rw [Option.some.inj (hb.symm.trans hy)]
  rw [hbanks]

/-- The whole list read into an idle bank leaves the bank LOADED (R156, R158). -/
theorem finishLoad_idle {l : Loader} {b : Bank} {st : Stream} {u : State} (hst : u.subs.streams[l.stream]? = some st)
    (hb : st.banks[l.bank]? = some b) (hidle : st.live ≠ some l.bank) :
    (finishLoad l u).subs.loader = none ∧ (finishLoad l u).subs.streams = updateAt (fun x => { x with
      banks := replaceAt x.banks l.bank { b with state := .loaded } }) u.subs.streams l.stream := by
  have hstreams := updateBank_streams (s := { u with subs := { u.subs with loader := none } })
    (fun b => { b with state := .loaded }) hst hb
  simp only [finishLoad, loaderBank_eq_some hst hb]
  rw [if_neg]
  · exact ⟨by simp [updateBank], by simpa using hstreams⟩
  · simp [loaderLive, hstreams, hst, hidle]

/-- The cues lost with a load into an idle bank are counted by cause FAULT (R158, R167). -/
theorem failLoad_drops {l : Loader} {b : Bank} {st : Stream} {u : State} (hst : u.subs.streams[l.stream]? = some st)
    (hb : st.banks[l.bank]? = some b) (hidle : st.live ≠ some l.bank) :
    (failLoad l u).subs.drops = addAt u.subs.drops 5 b.cues.length := by
  simp only [failLoad, loaderBank_eq_some hst hb]
  rw [if_neg]
  · simp [countDrops, updateBank, DropCause.code]
  · simp [loaderLive, updateBank, countDrops, hst, hidle]

/-! ### A load begun (R158) -/

@[simp] theorem askSubtitle_subs (l : Loader) (store remaining : Nat) (s : State) :
    (askSubtitle l store remaining s).subs =
      { s.subs with loader := some { l with count := min 8 (min remaining (l.total - l.block)) } } := by
  simp [askSubtitle]

/-- A lookup leaves the subtitle engine to its loader. -/
theorem lookup_subs {reader : Reader} {kind : AskKind} {track block : Nat} {s u : State} {a : Answer}
    (h : lookup reader kind track block s = (a, u)) : u.subs = s.subs := by
  rw [show u = (lookup reader kind track block s).2 by rw [h]]
  simp

/-- The loader's work on a bank whose list is a track, before its first lookup. -/
def Loader.onTrack (k n t : Nat) (s : State) : Loader :=
  { stream := k, bank := n, track := t, block := 0, total := ceilDiv (subtitleBytes t s) Config.blockBytes,
    left := subtitleBytes t s, buffer := [], ended := false, count := 0 }

section
variable {s u : State} {l : Loader} {store remaining : Nat}

/-- A lookup that hits leads to the transfer of the blocks found. -/
theorem lookUpCues_hit {b : Bank} (hb : loaderBank l s = some b)
    (h : lookup .subtitle (if b.prepared then .readerPreparation else .lookup) l.track l.block s =
      (.hit store remaining, u)) : lookUpCues l s = askSubtitle l store remaining u := by
  simp [lookUpCues, hb, h]

/-- The loader takes its next bank and asks for the blocks its lookup gives. -/
theorem beginLoad_hit {k n t : Nat} {b : Bank} {p : Play} (hidle : s.subs.loader = none) (hnext : nextLoad s = some (k, n))
    (hb : (s.subs.streams[k]?).bind (fun st => st.banks[n]?) = some b) (hp : playOf b.prepared s = some p)
    (ht : subtitleTrack p b.reel k = some t)
    (h : lookup .subtitle (if b.prepared then .readerPreparation else .lookup) t 0 s = (.hit store remaining, u)) :
    beginLoad s = askSubtitle (Loader.onTrack k n t s) store remaining u := by
  have hbank : ∀ l : Loader, l.stream = k → l.bank = n → loaderBank l s = some b := by
    rintro l rfl rfl
    obtain ⟨st, hst, hbst⟩ := Option.bind_eq_some_iff.1 hb
    exact loaderBank_eq_some hst hbst
  have hlooks : beginLoad s = lookUpCues (Loader.onTrack k n t s) s := by
    simp only [beginLoad, hidle, hnext, hbank, hp, Option.bind_some, ht]
    rfl
  rw [hlooks, lookUpCues_hit (hbank _ rfl rfl) h]

theorem exec_subtitleLoadBegin {k n t : Nat} {b : Bank} {p : Play} (hidle : s.subs.loader = none)
    (hnext : nextLoad s = some (k, n)) (hb : (s.subs.streams[k]?).bind (fun st => st.banks[n]?) = some b)
    (hp : playOf b.prepared s = some p) (ht : subtitleTrack p b.reel k = some t)
    (h : lookup .subtitle (if b.prepared then .readerPreparation else .lookup) t 0 s = (.hit store remaining, u)) :
    let count := min 8 (min remaining (ceilDiv (subtitleBytes t s) Config.blockBytes))
    ∃ v, exec .subtitleLoadBegin s = .next v ∧ v.subs.loader = some { Loader.onTrack k n t s with count := count } ∧
      (∃ r : StoreRequest, r.client = .subtitle ∧ r.writes = false ∧ r.first = store ∧ r.count = count ∧
        (v.arbiter.current = some (Transfer.begin r) ∨ r ∈ v.arbiter.waiting ∨ v.arbiter.held = some r)) ∧
      v.subs.streams = s.subs.streams ∧ v.cache = u.cache ∧ v.seq = s.seq ∧ v.frames = s.frames := by
  intro count
  have hbegin := beginLoad_hit hidle hnext hb hp ht h
  refine ⟨settle (beginLoad s), rfl, ?_⟩
  simp only [settle_frame, beginLoad_frame, and_true]
  rw [hbegin]
  exact ⟨by rw [askSubtitle_subs]; rfl,
    ⟨{ client := .subtitle, writes := false, first := store, count := count, track := some t }, rfl, rfl, rfl, rfl,
      askStore_made _ _⟩,
    by rw [askSubtitle_subs, lookup_subs h], by simp⟩
end

/-! ### Transfers of the loader (R155, R158) -/

/-- The list bytes that a transfer of the loader brings. -/
def Loader.fresh (tr : Transfer) (s : State) (l : Loader) : List Byte :=
  listBytes ((List.range tr.request.count).map fun i => s.store.bytes (tr.request.first + i)) l.left

/-- What the records in the bytes a transfer brings make of a bank, with the bytes left over and the list's end. -/
def Loader.takes (tr : Transfer) (s : State) (b : Bank) (l : Loader) : Bank × List Byte × Bool :=
  takeRecords ((l.buffer ++ l.fresh tr s).length + 1) (l.left - (l.fresh tr s).length) b (l.buffer ++ l.fresh tr s)

/-- The loader after a transfer, before its next lookup. -/
def Loader.advanced (tr : Transfer) (s : State) (rest : List Byte) (ended : Bool) (l : Loader) : Loader :=
  { l with block := l.block + l.count, left := l.left - (l.fresh tr s).length, buffer := rest, ended := ended, count := 0 }

/-- The part with the records of a transfer admitted to the loader's bank, and those dropped counted (R156, R167). -/
def admitted (l : Loader) (b b' : Bank) (s : State) : State :=
  countDrops .form (b'.form - b.form) (countDrops .order (b'.order - b.order)
    (countDrops .capacity (b'.capacity - b.capacity) (updateBank l.stream l.bank (fun _ => b') s)))

section
variable {s : State} {tr : Transfer} {l : Loader} {b b' : Bank} {st : Stream} {rest : List Byte} {ended : Bool}

theorem admitted_streams (hst : s.subs.streams[l.stream]? = some st) (hb : st.banks[l.bank]? = some b) :
    (admitted l b b' s).subs.streams =
      updateAt (fun x => { x with banks := replaceAt x.banks l.bank b' }) s.subs.streams l.stream :=
  updateBank_streams (fun _ => b') hst hb

@[simp] theorem admitted_frame : (admitted l b b' s).arbiter = s.arbiter ∧ (admitted l b b' s).cache = s.cache ∧
    (admitted l b b' s).catalogue = s.catalogue := by
  simp [admitted]

/-- The records of a transfer are admitted; then the list has ended, or the loader looks up its next block. -/
theorem subtitleTransfer_ok (hl : s.subs.loader = some l) (hbank : loaderBank l s = some b)
    (htakes : l.takes tr s b = (b', rest, ended)) : subtitleTransfer true tr s =
      if ended || l.total ≤ l.block + l.count then finishLoad (l.advanced tr s rest ended) (admitted l b b' s)
      else lookUpCues (l.advanced tr s rest ended) { admitted l b b' s with
        subs := { (admitted l b b' s).subs with loader := some (l.advanced tr s rest ended) } } := by
  unfold Loader.takes Loader.fresh at htakes
  simp only [subtitleTransfer, hl, hbank, Bool.not_true, Bool.false_eq_true, if_false, htakes]
  rfl

/-- The last transfer of a list leaves the bank of an idle reel LOADED with the cues admitted. -/
theorem exec_subtitleTransfer_last (hcur : s.arbiter.current = some tr) (hc : tr.request.client = .subtitle)
    (hd : tr.dropped = false) (hl : s.subs.loader = some l) (hst : s.subs.streams[l.stream]? = some st)
    (hb : st.banks[l.bank]? = some b) (hidle : st.live ≠ some l.bank) (hlast : l.total ≤ l.block + l.count)
    (htakes : l.takes tr s b = (b', rest, ended)) :
    ∃ t, exec (.subtitleTransferComplete true) s = .next t ∧ t.subs.loader = none ∧
      t.subs.streams = updateAt (fun x => { x with banks := replaceAt x.banks l.bank { b' with state := .loaded } })
        s.subs.streams l.stream := by
  obtain ⟨n, hn⟩ := completeTransfer_succeeds (act := subtitleTransfer true) hcur hc hd
  let v := { s with arbiter := { s.arbiter with retries := n } }
  have hfinish : subtitleTransfer true tr v = finishLoad (l.advanced tr v rest ended) (admitted l b b' v) := by
    rw [subtitleTransfer_ok (s := v) hl (loaderBank_eq_some (s := v) hst hb) htakes]
    simp [hlast]
  have hadmitted := admitted_streams (s := v) (b' := b') hst hb
  obtain ⟨hloader, hstreams⟩ := finishLoad_idle (l := l.advanced tr v rest ended) (u := admitted l b b' v)
    (st := { st with banks := replaceAt st.banks l.bank b' }) (b := b')
    (by rw [hadmitted]; simp [Loader.advanced, v, hst]) (getElem?_replaceAt_same b' hb) hidle
  refine ⟨_, congrArg finish (hn.trans (congrArg grantNext hfinish)), ?_⟩
  simp only [settle_frame, grantNext_frame]
  refine ⟨hloader, hstreams.trans ?_⟩
  rw [hadmitted]
  simp [Loader.advanced, updateAt_updateAt, v]

/-- After a second failure the bank of an idle reel is LOADED and empty. -/
theorem exec_subtitleTransfer_failed (hcur : s.arbiter.current = some tr) (hc : tr.request.client = .subtitle)
    (hd : tr.dropped = false) (hr : tr.retry = true) (hl : s.subs.loader = some l)
    (hst : s.subs.streams[l.stream]? = some st) (hb : st.banks[l.bank]? = some b) (hidle : st.live ≠ some l.bank) :
    ∃ t, exec (.subtitleTransferComplete false) s = .next t ∧ t.subs.loader = none ∧
      t.subs.streams = updateAt (fun x => { x with
        banks := replaceAt x.banks l.bank { b with state := .loaded, cues := [], text := 0 } })
        s.subs.streams l.stream ∧
      t.subs.drops = addAt s.subs.drops 5 b.cues.length := by
  have hfail : subtitleTransfer false tr (faulted tr s) = failLoad l (faulted tr s) := by
    simp [subtitleTransfer, faulted, hl]
  obtain ⟨hloader, hstreams⟩ := failLoad_idle (u := faulted tr s) hst hb hidle
  have hdrops := failLoad_drops (u := faulted tr s) hst hb hidle
  refine ⟨_, congrArg finish ((completeTransfer_failed hcur hc hd hr).trans (congrArg grantNext hfail)), ?_⟩
  simp only [settle_frame, grantNext_frame]
  exact ⟨hloader, hstreams, hdrops⟩

/-- A transfer that does not bring the last of the list has the next one asked for, the cues it brought admitted. -/
theorem exec_subtitleTransfer_next {n : Nat} {e : CacheEntry} (hcur : s.arbiter.current = some tr)
    (hc : tr.request.client = .subtitle) (hd : tr.dropped = false) (hl : s.subs.loader = some l)
    (hst : s.subs.streams[l.stream]? = some st) (hb : st.banks[l.bank]? = some b) (hmore : l.block + l.count < l.total)
    (hwait : ∀ r ∈ s.arbiter.waiting, r.client ≠ .subtitle) (htakes : l.takes tr s b = (b', rest, false))
    (hj : judgeLookup .subtitle l.track (l.block + l.count) s = none)
    (hf : findCovering s.cache.entries l.track (l.block + l.count) = some (n, e)) :
    let next := l.block + l.count
    let count := min 8 (min (e.count - (next - e.block)) (l.total - next))
    ∃ t, exec (.subtitleTransferComplete true) s = .next t ∧
      t.subs.loader = some { l.advanced tr s rest false with count := count } ∧
      t.subs.streams = updateAt (fun x => { x with banks := replaceAt x.banks l.bank b' }) s.subs.streams l.stream ∧
      (∃ r : StoreRequest, r.client = .subtitle ∧ r.writes = false ∧ r.first = e.store + (next - e.block) ∧
        r.count = count ∧ (t.arbiter.current = some (Transfer.begin r) ∨ r ∈ t.arbiter.waiting)) := by
  intro next count
  obtain ⟨retries, hn⟩ := completeTransfer_succeeds (act := subtitleTransfer true) hcur hc hd
  let v := { s with arbiter := { s.arbiter with retries := retries } }
  let l' := l.advanced tr s rest false
  let u := { admitted l b b' v with subs := { (admitted l b b' v).subs with loader := some l' } }
  have hadmitted := admitted_streams (s := v) (b' := b') hst hb
  have hbank : loaderBank l' u = some b' := loaderBank_eq_some (st := { st with banks := replaceAt st.banks l.bank b' })
    (by simp only [u]; rw [hadmitted]; simp [l', Loader.advanced, v, hst]) (getElem?_replaceAt_same b' hb)
  have hlooks : subtitleTransfer true tr v = lookUpCues l' u := by
    rw [subtitleTransfer_ok (s := v) hl (loaderBank_eq_some (s := v) hst hb) htakes]
    simp only [Bool.false_or, decide_eq_true_eq, if_neg (Nat.not_le.2 hmore)]
    rfl
  have hask := lookUpCues_hit hbank (lookup_hit (s := u) (track := l'.track) (block := l'.block) hj hf)
  refine ⟨_, congrArg finish (hn.trans (congrArg grantNext (hlooks.trans hask))), ?_⟩
  simp only [settle_frame, grantNext_frame]
  rw [askSubtitle_subs]
  refine ⟨rfl, hadmitted,
    { client := .subtitle, writes := false, first := e.store + (next - e.block), count := count, track := some l.track },
    rfl, rfl, rfl, rfl, grantNext_askStore hcur hd hwait⟩
end

/-- Settles O32: a load begun with the transfer its lookup leads to, and a transfer that is the last of its list, that fails
twice, or that another follows. -/
theorem subtitleLoaderLoadsBanks : Obligations.SubtitleLoaderLoadsBanks :=
  ⟨fun _ _ _ _ _ _ _ _ _ hidle hnext hb hp ht h => exec_subtitleLoadBegin hidle hnext hb hp ht h,
    fun _ _ _ _ _ _ _ _ hcur hc hd hl hst hb hidle hlast htakes =>
      exec_subtitleTransfer_last hcur hc hd hl hst hb hidle hlast htakes,
    fun _ _ _ _ _ hcur hc hd hr hl hst hb hidle => exec_subtitleTransfer_failed hcur hc hd hr hl hst hb hidle,
    fun _ _ _ _ _ _ _ _ _ hcur hc hd hl hst hb hmore hwait htakes hj hf =>
      exec_subtitleTransfer_next hcur hc hd hl hst hb hmore hwait htakes hj hf⟩

end Machine
end Sys2Proof
end

section
/-!
The outboxes of the subtitle engine (R163, R164): what SHOW and CLEAR records make of them while the seat link transmits.
-/
namespace Sys2Proof
namespace Machine

/-! ### Records into one outbox (R164) -/

/-- An outbox with its count of cancelled pairs, after a CLEAR that goes to it or does not. -/
def clearBox (goes : Bool) (k number : Nat) (reason : ClearReason) (box : List CaptionRecord × Nat) :
    List CaptionRecord × Nat :=
  if !goes then box
  else if box.1.any (CaptionRecord.presents k number) then
    (box.1.filter (fun r => !r.presents k number), bump max32 box.2)
  else (box.1 ++ [.clear k number reason], box.2)

/-- An outbox with its count of cancelled pairs, after a SHOW that goes to it or does not. -/
def showBox (goes : Bool) (r : CaptionRecord) (box : List CaptionRecord × Nat) : List CaptionRecord × Nat :=
  (if goes then box.1 ++ [r] else box.1, box.2)

/-- An outbox with its count of cancelled pairs, after the stream of a cue on display has changed whether it feeds it. -/
def rerouteBox (stream composition reel : Nat) (before after : Bool) (box : List CaptionRecord × Nat) (shown : Shown) :
    List CaptionRecord × Nat :=
  if before && !after then clearBox true stream shown.timed.cue.number .route box
  else if after && !before then showBox true (.present stream composition reel shown.timed.cue) box
  else box

theorem showBox_clearBox_reroute (stream composition reel : Nat) (before after : Bool) (box : List CaptionRecord × Nat)
    (shown : Shown) :
    showBox (after && !before) (.present stream composition reel shown.timed.cue)
      (clearBox (before && !after) stream shown.timed.cue.number .route box) =
    rerouteBox stream composition reel before after box shown := by
  cases before <;> cases after <;> rfl

/-! ### Both outboxes -/

/-- The part with both outboxes, and their counts of cancelled pairs, in place of its own. -/
def State.withOutboxes (o b : List CaptionRecord × Nat) (s : State) : State :=
  { s with subs := { s.subs with overlay := o.1, seats := b.1, cancelled := [o.2, b.2] } }

section
variable {s : State} {x : CaptionRecord} {c0 c1 : Nat}

theorem withOutboxes_self (hc : s.subs.cancelled = [c0, c1]) :
    s.withOutboxes (s.subs.overlay, c0) (s.subs.seats, c1) = s := by
  simp [State.withOutboxes, ← hc]

/-- While the seat link transmits it takes no record. -/
theorem feedSeats_busy (hx : s.subs.transmitting = some x) : feedSeats s = s := by
  simp [feedSeats, hx]

theorem sendShow_busy (hx : s.subs.transmitting = some x) (overlay seats : Bool) (r : CaptionRecord) :
    sendShow overlay seats r s = { s with subs := { s.subs with
      overlay := if overlay then s.subs.overlay ++ [r] else s.subs.overlay
      seats := if seats then s.subs.seats ++ [r] else s.subs.seats } } :=
  feedSeats_busy (by exact hx)

theorem sendShow_withOutboxes (hx : s.subs.transmitting = some x) (overlay seats : Bool) (r : CaptionRecord)
    (o b : List CaptionRecord × Nat) :
    sendShow overlay seats r (s.withOutboxes o b) = s.withOutboxes (showBox overlay r o) (showBox seats r b) :=
  sendShow_busy (s := s.withOutboxes o b) hx overlay seats r

theorem sendClear_withOutboxes (hx : s.subs.transmitting = some x) (overlay seats : Bool) (k number : Nat)
    (reason : ClearReason) (o b : List CaptionRecord × Nat) :
    sendClear overlay seats k number reason (s.withOutboxes o b) =
      s.withOutboxes (clearBox overlay k number reason o) (clearBox seats k number reason b) := by
  refine (feedSeats_busy (by exact hx)).trans ?_
  have hbox : ∀ (goes : Bool) (box : List CaptionRecord × Nat),
      (if goes then clearInto k number reason box.1 else (box.1, false)) =
        ((clearBox goes k number reason box).1,
          goes && box.1.any (CaptionRecord.presents k number)) ∧
      (clearBox goes k number reason box).2 =
        if goes && box.1.any (CaptionRecord.presents k number) then bump max32 box.2 else box.2 := by
    intro goes box
    cases goes
    · exact ⟨rfl, rfl⟩
    · cases h : box.1.any (CaptionRecord.presents k number) <;> simp [clearInto, clearBox, h]
  obtain ⟨ho, hoc⟩ := hbox overlay o
  obtain ⟨hb, hbc⟩ := hbox seats b
  simp only [State.withOutboxes, ho, hb, hoc, hbc]
  (repeat' split) <;> rfl

/-- A cue that is cleared leaves its slot, with a CLEAR to every output its stream feeds (R163). -/
theorem clearSlot_busy {k n : Nat} {st : Stream} {shown : Shown} (hx : s.subs.transmitting = some x)
    (hc : s.subs.cancelled = [c0, c1]) (hst : s.subs.streams[k]? = some st) (hslot : (st.slots[n]?).join = some shown)
    (reason : ClearReason) : clearSlot k n reason s =
      (updateStream k (fun st => { st with slots := replaceAt st.slots n none }) s).withOutboxes
        (clearBox st.route.toOverlay k shown.timed.cue.number reason (s.subs.overlay, c0))
        (clearBox st.route.toSeats k shown.timed.cue.number reason (s.subs.seats, c1)) := by
  simp only [clearSlot, hst, hslot]
  rw [← sendClear_withOutboxes (s := updateStream k (fun st => { st with slots := replaceAt st.slots n none }) s) hx]
  exact congrArg _ (withOutboxes_self (s := updateStream k _ s) hc).symm
end

/-! ### A route changed (R154, R164) -/

section
variable {s : State} {x : CaptionRecord} {stream : Nat} {before after : StreamRoute}

/-- A route change sends a SHOW of a cue on display to the outputs it adds and a CLEAR to those it removes. -/
theorem rerouteCue_withOutboxes (hx : s.subs.transmitting = some x) (shown : Shown) (o b : List CaptionRecord × Nat) :
    rerouteCue stream before after shown (s.withOutboxes o b) =
      let reroute := rerouteBox stream ((s.showing.map (·.play.id)).getD 0) s.time.reel
      s.withOutboxes (reroute before.toOverlay after.toOverlay o shown) (reroute before.toSeats after.toSeats b shown) := by
  simp only [rerouteCue, sendClear_withOutboxes hx, ← showBox_clearBox_reroute]
  split
  · exact sendShow_withOutboxes hx _ _ _ _ _
  · rename_i hnone
    obtain ⟨ho, hb⟩ := Bool.or_eq_false_iff.1 (Bool.not_eq_true _ ▸ hnone)
    rw [ho, hb]
    rfl

theorem foldl_rerouteCue (hx : s.subs.transmitting = some x) (l : List Shown) (o b : List CaptionRecord × Nat) :
    l.foldl (fun u shown => rerouteCue stream before after shown u) (s.withOutboxes o b) =
      let reroute := rerouteBox stream ((s.showing.map (·.play.id)).getD 0) s.time.reel
      s.withOutboxes (l.foldl (reroute before.toOverlay after.toOverlay) o)
        (l.foldl (reroute before.toSeats after.toSeats) b) := by
  induction l generalizing o b with
  | nil => rfl
  | cons shown l ih =>
    rw [List.foldl_cons, rerouteCue_withOutboxes hx]
    exact ih _ _

/-- A route is taken, and reaches the cues on display one by one. -/
theorem setRoute_eq {st : Stream} (r : StreamRoute) (hst : s.subs.streams[stream]? = some st) :
    setRoute stream r s = (st.slots.filterMap id).foldl (fun u shown => rerouteCue stream st.route r shown u)
      (updateStream stream (fun st => { st with route := r }) s) := by
  simp only [setRoute, hst]
  rw [List.foldl_filterMap]
  refine List.foldl_ext _ _ _ fun u slot _ => ?_
  cases slot <;> rfl
end

end Machine
end Sys2Proof
end

section
/-!
STREAM SET (R154).
-/
namespace Sys2Proof
namespace Machine

section
variable {f : Frame} {s : State} {stream route : Nat} {offset : Int} {r : StreamRoute} {st : Stream}

theorem streamRouteOf_eq_none (h : 3 < route) : streamRouteOf route = none := by
  match route with
  | n + 4 => rfl

theorem exec_streamSet_badNumber (h : s.accepts 43 f) (hbad : 3 < stream ∨ 3 < route) :
    exec (.streamSet f stream route offset) s = .next (s.no 43 f .outOfRange) := by
  refine request_no h ?_ rfl
  by_cases hs : 3 < stream
  · simp only [serveStreamSet, if_pos hs]
    rfl
  · simp only [serveStreamSet, if_neg hs, streamRouteOf_eq_none (hbad.resolve_left hs)]
    rfl

theorem exec_streamSet_full (h : s.accepts 43 f) (hs : stream ≤ 3) (hr : streamRouteOf route = some r)
    (hover : r.toOverlay = true) (hfull : overlayFree stream s = false) :
    exec (.streamSet f stream route offset) s = .next (s.no 43 f .overlayFull) := by
  have hfull' : overlayFree stream (s.received 43 f) = false := hfull
  refine request_no h ?_ rfl
  simp only [serveStreamSet, if_neg (Nat.not_lt.2 hs), hr, hover, hfull', Bool.not_false, Bool.and_self, if_true]
  rfl

/-- STREAM SET takes its route and its offset, and says so when the offset was brought to its range. -/
theorem exec_streamSet_takes {taken : Int} (htaken : clampInt (-10000) 10000 offset = taken) (h : s.accepts 43 f)
    (hs : stream ≤ 3) (hr : streamRouteOf route = some r) (hfree : r.toOverlay = false ∨ overlayFree stream s = true) :
    exec (.streamSet f stream route offset) s = .next
      { updateStream stream (fun st => { st with next := taken }) (setRoute stream r (s.received 43 f)) with
        port := s.port.answers 43 f (if taken = offset then .ok else .clamped) none
          (if taken = offset then [] else Layout.int 2 taken) } := by
  have hover : (r.toOverlay && !overlayFree stream (s.received 43 f)) = false := by
    have hsame : overlayFree stream (s.received 43 f) = overlayFree stream s := rfl
    rw [hsame]
    rcases hfree with hfree | hfree <;> simp [hfree]
  have hport : (updateStream stream (fun st => { st with next := taken }) (setRoute stream r (s.received 43 f))).port =
      (s.received 43 f).port := by simp
  show request 43 f _ (serveStreamSet f stream route offset) s = _
  rw [request_of_accepts h]
  simp only [serveStreamSet, if_neg (Nat.not_lt.2 hs), hr, hover, Bool.false_eq_true, if_false, htaken]
  by_cases ht : taken = offset
  · simp only [if_pos ht]
    exact finish_answer h hport .ok none []
  · simp only [if_neg ht]
    exact finish_answer h hport .clamped none _

/-- A stream's route and next offset set one after the other. -/
theorem updateAt_route_next {l : List Stream} (taken : Int) (hst : l[stream]? = some st) :
    updateAt (fun st => { st with next := taken }) (updateAt (fun st => { st with route := r }) l stream) stream =
      replaceAt l stream { st with route := r, next := taken } := by
  rw [updateAt_updateAt]
  exact updateAt_congr fun y hy => by rw [Option.some.inj (hst.symm.trans hy)]

/-- With no cue on display, a stream's route and next offset change that stream only. -/
theorem setRoute_next_blank {taken : Int} (hst : s.subs.streams[stream]? = some st) (hslots : st.slots = [none, none]) :
    updateStream stream (fun st => { st with next := taken }) (setRoute stream r s) =
      { s with subs := { s.subs with
          streams := replaceAt s.subs.streams stream { st with route := r, next := taken } } } := by
  rw [setRoute_eq r hst, ← updateAt_route_next taken hst, hslots]
  rfl

/-- While the seat link transmits, they change that stream, and the outboxes by its cues on display. -/
theorem setRoute_next_busy {taken : Int} {x : CaptionRecord} {c0 c1 : Nat} (hst : s.subs.streams[stream]? = some st)
    (hx : s.subs.transmitting = some x) (hc : s.subs.cancelled = [c0, c1]) :
    let reroute := rerouteBox stream ((s.showing.map (·.play.id)).getD 0) s.time.reel
    let overlay := (st.slots.filterMap id).foldl (reroute st.route.toOverlay r.toOverlay) (s.subs.overlay, c0)
    let seats := (st.slots.filterMap id).foldl (reroute st.route.toSeats r.toSeats) (s.subs.seats, c1)
    updateStream stream (fun st => { st with next := taken }) (setRoute stream r s) =
      { s with subs := { s.subs with
          streams := replaceAt s.subs.streams stream { st with route := r, next := taken }
          overlay := overlay.1, seats := seats.1, cancelled := [overlay.2, seats.2] } } := by
  let u := updateStream stream (fun st => { st with route := r }) s
  have hroute := foldl_rerouteCue (s := u) (stream := stream) (before := st.route) (after := r) hx
    (st.slots.filterMap id) (u.subs.overlay, c0) (u.subs.seats, c1)
  rw [withOutboxes_self (s := u) hc, ← setRoute_eq r hst] at hroute
  rw [hroute, ← updateAt_route_next taken hst]
  rfl

/-- STREAM SET with no cue on display. -/
theorem exec_streamSet_blank {taken : Int} (htaken : clampInt (-10000) 10000 offset = taken) (h : s.accepts 43 f)
    (hs : stream ≤ 3) (hr : streamRouteOf route = some r) (hfree : r.toOverlay = false ∨ overlayFree stream s = true)
    (hst : s.subs.streams[stream]? = some st) (hslots : st.slots = [none, none]) :
    exec (.streamSet f stream route offset) s = .next (State.answering 43 f
      (if taken = offset then .ok else .clamped) none (if taken = offset then [] else Layout.int 2 taken)
      { s with subs := { s.subs with
          streams := replaceAt s.subs.streams stream { st with route := r, next := taken } } }) := by
  rw [exec_streamSet_takes htaken h hs hr hfree, setRoute_next_blank (s := s.received 43 f) hst hslots]
  rfl

/-- STREAM SET while the seat link transmits. -/
theorem exec_streamSet_busy {taken : Int} {x : CaptionRecord} {c0 c1 : Nat}
    (htaken : clampInt (-10000) 10000 offset = taken) (h : s.accepts 43 f) (hs : stream ≤ 3)
    (hr : streamRouteOf route = some r) (hfree : r.toOverlay = false ∨ overlayFree stream s = true)
    (hst : s.subs.streams[stream]? = some st) (hx : s.subs.transmitting = some x) (hc : s.subs.cancelled = [c0, c1]) :
    let reroute := rerouteBox stream ((s.showing.map (·.play.id)).getD 0) s.time.reel
    let overlay := (st.slots.filterMap id).foldl (reroute st.route.toOverlay r.toOverlay) (s.subs.overlay, c0)
    let seats := (st.slots.filterMap id).foldl (reroute st.route.toSeats r.toSeats) (s.subs.seats, c1)
    exec (.streamSet f stream route offset) s = .next (State.answering 43 f
      (if taken = offset then .ok else .clamped) none (if taken = offset then [] else Layout.int 2 taken)
      { s with subs := { s.subs with
          streams := replaceAt s.subs.streams stream { st with route := r, next := taken }
          overlay := overlay.1, seats := seats.1, cancelled := [overlay.2, seats.2] } }) := by
  rw [exec_streamSet_takes htaken h hs hr hfree, setRoute_next_busy (s := s.received 43 f) hst hx hc]
  rfl
end

end Machine
end Sys2Proof
end

section
/-!
Cue times converted (R159), and the display slots cleared (R162, R163).
-/
namespace Sys2Proof
namespace Machine

/-! ### Conversion (R159) -/

section
variable {rate duration : Nat} {offset : Int} {c : Cue} {x : TimedCue}

theorem convertCue_eq_none : convertCue rate duration offset c = none ↔ duration ≤ cueFrame rate offset c.inTime := by
  simp [convertCue]

/-- A cue converted lies in the reel and is on display for a frame at least. -/
theorem convertCue_some (h : convertCue rate duration offset c = some x) :
    x.cue = c ∧ x.inFrame = cueFrame rate offset c.inTime ∧ x.inFrame < x.outFrame ∧ x.outFrame ≤ duration := by
  simp only [convertCue] at h
  split at h
  · cases h
  · obtain rfl := Option.some.inj h
    refine ⟨rfl, rfl, ?_⟩
    dsimp only
    split <;> omega
end

/-! ### A stream's slots cleared (R163) -/

/-- The cue in slot `n` of stream `k` is cleared if it satisfies `p`. -/
def clearIf (k n : Nat) (p : Shown → Bool) (reason : ClearReason) (s : State) : State :=
  match s.subs.streams[k]? with
  | none => s
  | some st =>
    match (st.slots[n]?).join with
    | none => s
    | some shown => if p shown then clearSlot k n reason s else s

theorem clearWhere_eq (k : Nat) (p : Shown → Bool) (reason : ClearReason) (s : State) :
    clearWhere k p reason s = clearIf k 1 p reason (clearIf k 0 p reason s) := rfl

section
variable {s : State} {j k n : Nat} {st : Stream} {p : Shown → Bool} {reason : ClearReason}

theorem clearSlot_stream {shown : Shown} (hst : s.subs.streams[k]? = some st)
    (hslot : (st.slots[n]?).join = some shown) :
    (clearSlot k n reason s).subs.streams[k]? = some { st with slots := replaceAt st.slots n none } := by
  simp [clearSlot, hst, hslot]

/-- A slot that is cleared by a property keeps its cue if the cue does not have it. -/
theorem clearIf_stream (hst : s.subs.streams[k]? = some st) : (clearIf k n p reason s).subs.streams[k]? =
    some { st with slots := updateAt (Option.filter fun y => !p y) st.slots n } := by
  have hkeeps : (∀ y, st.slots[n]? = some y → Option.filter (fun y => !p y) y = y) →
      s.subs.streams[k]? = some { st with slots := updateAt (Option.filter fun y => !p y) st.slots n } := fun h => by
    rw [updateAt_congr (g := fun y => y) h, updateAt_id, hst]
  simp only [clearIf, hst]
  split
  · rename_i hnone
    refine hkeeps fun y hy => ?_
    rw [hy] at hnone
    obtain rfl : y = none := hnone
    rfl
  · rename_i shown hshown
    have hslot : st.slots[n]? = some (some shown) := Option.join_eq_some_iff.1 hshown
    split
    · rename_i hp
      rw [clearSlot_stream hst hshown, replaceAt]
      congr 2
      refine updateAt_congr fun y hy => ?_
      obtain rfl : some shown = y := Option.some.inj (hslot.symm.trans hy)
      exact (Option.filter_some_neg (by simp [hp])).symm
    · rename_i hp
      refine hkeeps fun y hy => ?_
      obtain rfl : some shown = y := Option.some.inj (hslot.symm.trans hy)
      simp [hp]

theorem clearWhere_stream {a b : Option Shown} (hst : s.subs.streams[k]? = some st) (hslots : st.slots = [a, b]) :
    (clearWhere k p reason s).subs.streams[k]? =
      some { st with slots := [a.filter fun y => !p y, b.filter fun y => !p y] } := by
  rw [clearWhere_eq, clearIf_stream (clearIf_stream hst), hslots]
  rfl

/-- Stream `k` displays no cue. -/
def State.blank (k : Nat) (s : State) : Prop :=
  ∀ st : Stream, s.subs.streams[k]? = some st → ∀ n : Nat, (st.slots[n]?).join = none

theorem blank_of_slots (h : ∀ st, s.subs.streams[k]? = some st → st.slots = [none, none]) : s.blank k := by
  intro st hst n
  rw [h st hst]
  match n with
  | 0 | 1 | n + 2 => simp

theorem clearIf_blank (h : s.blank k) : clearIf k n p reason s = s := by
  unfold clearIf
  split
  · rfl
  · rename_i st hst
    rw [h st hst n]

theorem clearWhere_blank (h : s.blank k) : clearWhere k p reason s = s := by
  rw [clearWhere_eq, clearIf_blank h, clearIf_blank h]

theorem foldl_clearWhere_blank {l : List Nat} (h : ∀ j ∈ l, s.blank j) :
    l.foldl (fun s k => clearWhere k p reason s) s = s := by
  induction l with
  | nil => rfl
  | cons j l ih =>
    obtain ⟨hj, hl⟩ := List.forall_mem_cons.1 h
    rw [List.foldl_cons, clearWhere_blank hj, ih hl]

/-- The one cue of a stream, in its lower slot, is cleared if it has the property. -/
theorem clearWhere_one {shown : Shown} (hst : s.subs.streams[k]? = some st) (hslots : st.slots = [some shown, none])
    (hp : p shown = true) : clearWhere k p reason s = clearSlot k 0 reason s := by
  have hslot : (st.slots[0]?).join = some shown := by simp [hslots]
  have hblank : (clearSlot k 0 reason s).blank k := blank_of_slots fun x hx => by
    obtain rfl := Option.some.inj ((clearSlot_stream hst hslot).symm.trans hx)
    simp [hslots, replaceAt, updateAt]
  have hfirst : clearIf k 0 p reason s = clearSlot k 0 reason s := by simp [clearIf, hst, hslot, hp]
  rw [clearWhere_eq, hfirst, clearIf_blank hblank]
end

/-! ### The slots of every stream -/

/-- The displayed cues of every stream that satisfy `p` are cleared. -/
def clearEach (p : Shown → Bool) (reason : ClearReason) (s : State) : State :=
  streamNumbers.foldl (fun s k => clearWhere k p reason s) s

theorem clearAll_eq_clearEach (reason : ClearReason) (s : State) :
    clearAll reason s = clearEach (fun _ => true) reason s := rfl

theorem clearAtTick_eq_clearEach (s : State) :
    clearAtTick s = clearEach (fun shown => decide (shown.timed.outFrame ≤ s.time.reelFrame)) .out s := by
  simp [clearAtTick, clearEach, streamNumbers, clearPassed]

/-- The streams before and after one of the four. -/
theorem streamNumbers_split {k : Nat} (hk : k ≤ 3) :
    ∃ before after, streamNumbers = before ++ k :: after ∧ k ∉ before ∧ k ∉ after := by
  have hmem : k ∈ streamNumbers := by simp [streamNumbers]; omega
  obtain ⟨before, after, hsplit⟩ := List.append_of_mem hmem
  have hnodup : (before ++ k :: after).Nodup := hsplit ▸ (by decide : streamNumbers.Nodup)
  obtain ⟨-, hafter, hbefore⟩ := List.nodup_append.1 hnodup
  exact ⟨before, after, hsplit, fun h => hbefore k h k (by simp) rfl, (List.nodup_cons.1 hafter).1⟩

section
variable {s : State} {k : Nat} {st : Stream} {p : Shown → Bool} {reason : ClearReason}

theorem foldl_clearWhere_other {l : List Nat} (h : k ∉ l) (s : State) :
    (l.foldl (fun s k => clearWhere k p reason s) s).subs.streams[k]? = s.subs.streams[k]? := by
  induction l generalizing s with
  | nil => rfl
  | cons j l ih =>
    obtain ⟨hj, hl⟩ := not_or.1 (mt List.mem_cons.2 h)
    exact (ih hl _).trans (clearWhere_other hj _ _ _)

/-- Each stream loses from its slots the cues that have the property. -/
theorem clearEach_stream {a b : Option Shown} (hk : k ≤ 3) (hst : s.subs.streams[k]? = some st)
    (hslots : st.slots = [a, b]) : (clearEach p reason s).subs.streams[k]? =
      some { st with slots := [a.filter fun y => !p y, b.filter fun y => !p y] } := by
  obtain ⟨before, after, hsplit, hbefore, hafter⟩ := streamNumbers_split hk
  rw [clearEach, hsplit, List.foldl_append, List.foldl_cons, foldl_clearWhere_other hafter]
  exact clearWhere_stream ((foldl_clearWhere_other hbefore s).trans hst) hslots

/-- The only cue on display, in the lower slot of its stream, is cleared alone. -/
theorem clearEach_one {shown : Shown} (hk : k ≤ 3) (hst : s.subs.streams[k]? = some st)
    (hslots : st.slots = [some shown, none]) (hothers : ∀ j, j ≠ k → s.blank j) (hp : p shown = true) :
    clearEach p reason s = clearSlot k 0 reason s := by
  obtain ⟨before, after, hsplit, hbefore, hafter⟩ := streamNumbers_split hk
  rw [clearEach, hsplit, List.foldl_append, List.foldl_cons,
    foldl_clearWhere_blank fun j hj => hothers j fun h => hbefore (h ▸ hj),
    clearWhere_one hst hslots hp]
  refine foldl_clearWhere_blank fun j hj x hx => ?_
  have hne : j ≠ k := fun h => hafter (h ▸ hj)
  rw [clearSlot_other hne] at hx
  exact hothers j hne x hx

/-- Streams that display nothing, but for one. -/
theorem blank_of_eraseIdx (h : ∀ y ∈ s.subs.streams.eraseIdx k, y.slots = [none, none]) :
    ∀ j, j ≠ k → s.blank j := fun j hj =>
  blank_of_slots fun y hy => h y (List.mem_eraseIdx_iff_getElem?.2 ⟨j, hj, hy⟩)
end

/-- A tick leaves on display the cues whose out-frame it has not reached. -/
theorem clearAtTick_stream {s : State} {k : Nat} {st : Stream} {a b : Option Shown} (hk : k ≤ 3)
    (hst : s.subs.streams[k]? = some st) (hslots : st.slots = [a, b]) :
    let kept := fun x : Option Shown => x.filter fun y => decide (s.time.reelFrame < y.timed.outFrame)
    (clearAtTick s).subs.streams[k]? = some { st with slots := [kept a, kept b] } := by
  have hkept : ∀ y : Shown,
      (!decide (y.timed.outFrame ≤ s.time.reelFrame)) = decide (s.time.reelFrame < y.timed.outFrame) := fun y => by
    rw [← decide_not, decide_eq_decide, Nat.not_le]
  rw [clearAtTick_eq_clearEach, clearEach_stream hk hst hslots]
  simp only [hkept]

theorem clearAll_stream {s : State} {k : Nat} {st : Stream} {a b : Option Shown} (hk : k ≤ 3)
    (hst : s.subs.streams[k]? = some st) (hslots : st.slots = [a, b]) (reason : ClearReason) :
    (clearAll reason s).subs.streams[k]? = some { st with slots := [none, none] } := by
  rw [clearAll_eq_clearEach, clearEach_stream hk hst hslots]
  simp

/-! ### A reel start without a bank (R157, R159) -/

/-- The outboxes, the record in transmission and the counts of cancelled pairs. -/
def Subtitles.outboxes (x : Subtitles) :
    List CaptionRecord × List CaptionRecord × Option CaptionRecord × List Nat :=
  (x.overlay, x.seats, x.transmitting, x.cancelled)

/-- No bank is live, and the outboxes are those of `x`. -/
def Quiet (x : Subtitles) (s : State) : Prop :=
  s.subs.outboxes = x.outboxes ∧ ∀ st ∈ s.subs.streams, st.live = none

section
variable {x : Subtitles} {s : State}

/-- A law that an act keeps is kept by the act repeated along a list. -/
theorem foldl_keeps {α : Type} {P : State → Prop} {act : State → α → State} (hact : ∀ u a, P u → P (act u a))
    {l : List α} {s : State} (h : P s) : P (l.foldl act s) := by
  induction l generalizing s with
  | nil => exact h
  | cons a l ih => exact ih (hact s a h)

theorem Quiet.updateStream (h : Quiet x s) (k : Nat) {f : Stream → Stream} (hf : ∀ st, (f st).live = st.live) :
    Quiet x (updateStream k f s) := by
  refine ⟨h.1, fun st hst => ?_⟩
  rcases mem_updateAt hst with hst | ⟨y, hy, rfl⟩
  · exact h.2 st hst
  · exact (hf y).trans (h.2 y hy)

theorem Quiet.abandonLoad (h : Quiet x s) (k n : Nat) : Quiet x (abandonLoad k n s) := by
  unfold Machine.abandonLoad
  split
  · split
    · simpa [Quiet, Subtitles.outboxes] using h
    · exact h
  · exact h

theorem Quiet.discardBank (h : Quiet x s) (following : Option (Bool × Nat)) (k n : Nat) :
    Quiet x (discardBank following k n s) := by
  unfold Machine.discardBank
  split
  · exact h
  · split
    · exact h
    · dsimp only
      split <;> split
      · exact h
      · exact Quiet.abandonLoad (h.updateStream k fun _ => by rfl) k n
      · exact h
      · exact Quiet.abandonLoad (h.updateStream k fun _ => by rfl) k n

theorem Quiet.beginBank (h : Quiet x s) (prepared : Bool) (reel k : Nat) : Quiet x (beginBank prepared reel k s) := by
  unfold Machine.beginBank
  split
  · split
    · exact h
    · split
      · exact h
      · exact h.updateStream k fun _ => rfl
  · exact h

/-- A judgement of the banks makes none live and sends nothing. -/
theorem Quiet.judgeBanks (h : Quiet x s) : Quiet x (judgeBanks s) := by
  have hdiscards : Quiet x (streamNumbers.foldl
      (fun u k => [0, 1].foldl (fun u n => Machine.discardBank (followingReel s) k n u) u) s) :=
    foldl_keeps (fun u k hu => foldl_keeps (fun v n hv => hv.discardBank _ k n) hu) h
  unfold Machine.judgeBanks
  dsimp only
  split
  · exact hdiscards
  · exact foldl_keeps (fun u k hu => hu.beginBank _ _ k) hdiscards

/-- With no live bank there is nothing to convert. -/
theorem Quiet.convertLive (h : Quiet x s) (k : Nat) : convertLive k s = s := by
  unfold Machine.convertLive
  split
  · rename_i st sh hst hsh
    rw [h.2 st (List.mem_of_getElem? hst)]
  · rfl

theorem Quiet.convertLives (h : Quiet x s) (l : List Nat) : l.foldl (fun s k => Machine.convertLive k s) s = s :=
  List.foldl_fixed' h.convertLive l
end

@[simp] theorem clearAll_besideSlots (reason : ClearReason) (s : State) :
    (clearAll reason s).subs.streams.map Stream.besideSlots = s.subs.streams.map Stream.besideSlots := by
  simp [clearAll, streamNumbers]

/-- The clearing of every slot leaves which banks belong to a reel. -/
theorem clearAll_bankOf {s : State} {reel : Nat} (h : ∀ y ∈ s.subs.streams, bankOf y reel = none)
    (reason : ClearReason) : ∀ y ∈ (clearAll reason s).subs.streams, bankOf y reel = none := by
  intro y hy
  have hbeside : y.besideSlots ∈ s.subs.streams.map Stream.besideSlots :=
    clearAll_besideSlots reason s ▸ List.mem_map_of_mem hy
  obtain ⟨z, hz, hzy⟩ := List.mem_map.1 hbeside
  calc bankOf y reel = bankOf y.besideSlots reel := rfl
    _ = bankOf z.besideSlots reel := by rw [hzy]
    _ = none := h z hz

/-- The part with every stream changed by `f`. -/
def State.mapStreams (f : Stream → Stream) (s : State) : State :=
  { s with subs := { s.subs with streams := s.subs.streams.map f } }

theorem Quiet.mapStreams {x : Subtitles} {s : State} {f : Stream → Stream} (hboxes : s.subs.outboxes = x.outboxes)
    (hf : ∀ st ∈ s.subs.streams, (f st).live = none) : Quiet x (s.mapStreams f) := by
  refine ⟨hboxes, fun y hy => ?_⟩
  obtain ⟨z, hz, rfl⟩ := List.mem_map.1 hy
  exact hf z hz

/-- The stages of a reel start (R159). -/
theorem reelStartCaptions_eq (s : State) : reelStartCaptions s =
    let u := clearAll .reelEnd s
    let v := u.mapStreams fun st => { st with live := bankOf st u.time.reel, timed := none, nextCue := 0 }
    streamNumbers.foldl (fun s k => convertLive k s)
      ((judgeBanks v).mapStreams fun st => { st with current := st.next }) := by
  simp only [reelStartCaptions, State.mapStreams]

/-- With no bank for the new reel, a reel start sends no more than the clearing of every slot. -/
theorem reelStartCaptions_outboxes {s : State} (h : ∀ y ∈ s.subs.streams, bankOf y s.time.reel = none) :
    (reelStartCaptions s).subs.outboxes = (clearAll .reelEnd s).subs.outboxes := by
  have hreel : (clearAll .reelEnd s).time.reel = s.time.reel := by simp
  have hnone := clearAll_bankOf h .reelEnd
  rw [← hreel] at hnone
  simp only [reelStartCaptions_eq]
  generalize clearAll .reelEnd s = u at hnone ⊢
  have hjudged := (Quiet.mapStreams (x := u.subs) (s := u)
    (f := fun st => { st with live := bankOf st u.time.reel, timed := none, nextCue := 0 }) rfl hnone).judgeBanks
  have hstarted := Quiet.mapStreams (f := fun st => { st with current := st.next }) hjudged.1 hjudged.2
  rw [hstarted.convertLives]
  exact hstarted.1

/-! ### One cue cleared (R163, R164) -/

/-- The subtitle engine `t`, transmitting `x`, has the outboxes of `s`, whose counts of cancelled pairs are `c0` and `c1`,
after a CLEAR of a cue of stream `k` to every output that its route feeds. -/
def ClearsCue (x : CaptionRecord) (k number c0 c1 : Nat) (route : StreamRoute) (reason : ClearReason)
    (s t : Subtitles) : Prop :=
  let overlay := clearBox route.toOverlay k number reason (s.overlay, c0)
  let seats := clearBox route.toSeats k number reason (s.seats, c1)
  t.overlay = overlay.1 ∧ t.seats = seats.1 ∧ t.cancelled = [overlay.2, seats.2] ∧ t.transmitting = some x

theorem ClearsCue.of_outboxes {x : CaptionRecord} {k number c0 c1 : Nat} {route : StreamRoute} {reason : ClearReason}
    {s t u : Subtitles} (h : ClearsCue x k number c0 c1 route reason s t) (hu : u.outboxes = t.outboxes) :
    ClearsCue x k number c0 c1 route reason s u := by
  simp only [Subtitles.outboxes, Prod.mk.injEq] at hu
  obtain ⟨hoverlay, hseats, htransmitting, hcancelled⟩ := hu
  unfold ClearsCue
  rw [hoverlay, hseats, htransmitting, hcancelled]
  exact h

/-- The only cue on display, cleared while the seat link transmits. -/
theorem clearEach_clearsCue {s : State} {k c0 c1 : Nat} {st : Stream} {shown : Shown} {x : CaptionRecord}
    {p : Shown → Bool} {reason : ClearReason} (hk : k ≤ 3) (hst : s.subs.streams[k]? = some st)
    (hslots : st.slots = [some shown, none]) (hothers : ∀ y ∈ s.subs.streams.eraseIdx k, y.slots = [none, none])
    (hx : s.subs.transmitting = some x) (hc : s.subs.cancelled = [c0, c1]) (hp : p shown = true) :
    ClearsCue x k shown.timed.cue.number c0 c1 st.route reason s.subs (clearEach p reason s).subs := by
  have hslot : (st.slots[0]?).join = some shown := by simp [hslots]
  rw [clearEach_one hk hst hslots (blank_of_eraseIdx hothers) hp, clearSlot_busy hx hc hst hslot]
  exact ⟨rfl, rfl, rfl, hx⟩

end Machine
end Sys2Proof
end

section
/-!
A unit fired with a cue (R162, R163), and the records of the seat link (R165).
-/
namespace Sys2Proof
namespace Machine

/-! ### The slot of a new cue (R162) -/

theorem chooseSlot_lower (b : Option Shown) : chooseSlot [none, b] = (0, none) := rfl

theorem chooseSlot_upper {a : Option Shown} (ha : a ≠ none) : chooseSlot [a, none] = (1, none) := by
  obtain ⟨y, rfl⟩ := Option.ne_none_iff_exists'.1 ha
  rfl

theorem chooseSlot_free {a b : Option Shown} (h : a = none ∨ b = none) : ∃ n, chooseSlot [a, b] = (n, none) := by
  by_cases ha : a = none
  · exact ⟨0, ha ▸ chooseSlot_lower b⟩
  · exact ⟨1, h.resolve_left ha ▸ chooseSlot_upper ha⟩

/-- With both slots busy the cue with the earlier out-frame is displaced, of equal ones the lower. -/
theorem chooseSlot_busy (y z : Shown) : ∃ n,
    let later := z.timed.outFrame < y.timed.outFrame
    let old := if later then z else y
    chooseSlot [some y, some z] = (n, some old) ∧ ([some y, some z][n]?).join = some old ∧
    ∀ x, replaceAt [some y, some z] n x = if later then [some y, x] else [x, some z] := by
  by_cases hlater : z.timed.outFrame < y.timed.outFrame
  · refine ⟨1, ?_⟩
    simp only [chooseSlot, hlater, if_true]
    exact ⟨by simp [hlater], rfl, fun _ => rfl⟩
  · refine ⟨0, ?_⟩
    simp only [chooseSlot, hlater, if_false]
    exact ⟨by simp [hlater], rfl, fun _ => rfl⟩

/-! ### A cue shown (R162) -/

/-- The unit of stream `k` is fired with a cue of the current showing, and no cue on display has passed. -/
structure CueFires (s : State) (k tag : Nat) (st : Stream) (sh : Showing) (cue : TimedCue) : Prop where
  stream : s.subs.streams[k]? = some st
  showing : s.showing = some sh
  cue : (st.timed.getD [])[tag]? = some cue
  unpassed : st.nonePassed s.time.reelFrame

theorem nonePassed_of_slots {frame : Nat} {st : Stream} {a b : Option Shown} (hslots : st.slots = [a, b])
    (h : ∀ y ∈ a.toList ++ b.toList, frame < y.timed.outFrame) : st.nonePassed frame := by
  intro n shown hn
  rw [hslots] at hn
  refine h shown ?_
  match n with
  | 0 => simp_all
  | 1 => simp_all
  | n + 2 => simp at hn

section
variable {s : State} {k tag n : Nat} {st : Stream} {sh : Showing} {cue : TimedCue}

/-- A cue already over is dropped LATE. -/
theorem CueFires.showCue_late (h : CueFires s k tag st sh cue) (hover : cue.outFrame ≤ s.time.reelFrame) :
    showCue k tag s = countDrops .late 1 s := by
  simp only [showCue, clearPassed_of_none h.stream h.unpassed, h.stream, h.showing, h.cue, if_pos hover]

/-- A cue takes an empty slot, with a SHOW to every output its stream feeds. -/
theorem CueFires.showCue_free (h : CueFires s k tag st sh cue) (hlate : s.time.reelFrame < cue.outFrame)
    (hchoose : chooseSlot st.slots = (n, none)) : showCue k tag s =
      sendShow st.route.toOverlay st.route.toSeats (.present k sh.play.id s.time.reel cue.cue)
        (updateStream k (fun st => { st with slots := replaceAt st.slots n (some { tag := tag, timed := cue }) }) s) := by
  simp only [showCue, clearPassed_of_none h.stream h.unpassed, h.stream, h.showing, h.cue, if_neg (Nat.not_le.2 hlate),
    hchoose, updateStream_frame]

/-- The cue displaced is counted and cleared, and CUE_DISPLACED raised (R162). -/
def displaceCue (k n : Nat) (old : Shown) (cue : TimedCue) (s : State) : State :=
  raise .cueDisplaced (Layout.num 1 k ++ Layout.num 2 old.timed.cue.number ++ Layout.num 2 cue.cue.number)
    (clearSlot k n .displaced { s with subs := { s.subs with displaced := bump max32 s.subs.displaced } })

/-- With both slots busy a cue takes the slot of the one it displaces. -/
theorem CueFires.showCue_displaces {old : Shown} (h : CueFires s k tag st sh cue)
    (hlate : s.time.reelFrame < cue.outFrame) (hchoose : chooseSlot st.slots = (n, some old)) : showCue k tag s =
      sendShow st.route.toOverlay st.route.toSeats (.present k sh.play.id s.time.reel cue.cue)
        (updateStream k (fun st => { st with slots := replaceAt st.slots n (some { tag := tag, timed := cue }) })
          (displaceCue k n old cue s)) := by
  simp only [showCue, clearPassed_of_none h.stream h.unpassed, h.stream, h.showing, h.cue, if_neg (Nat.not_le.2 hlate),
    hchoose, updateStream_frame, raise_frame, clearSlot_frame]
  rfl

theorem displaceCue_raises {old : Shown} {c : Cause} (h : s.notices.causes[20]? = some c) : occurred c
    (Layout.num 1 k ++ Layout.num 2 old.timed.cue.number ++ Layout.num 2 cue.cue.number)
    (displaceCue k n old cue s).notices.causes 20 :=
  occurred_raise (c := .cueDisplaced) (by simpa [NoticeCause.number] using h)

variable {x : CaptionRecord} {c0 c1 : Nat}

/-- A cue in an empty slot, while the seat link transmits. -/
theorem CueFires.free_leaves (h : CueFires s k tag st sh cue) (hlate : s.time.reelFrame < cue.outFrame)
    (hchoose : chooseSlot st.slots = (n, none)) (hx : s.subs.transmitting = some x) :
    let t := showCue k tag s
    let record := CaptionRecord.present k sh.play.id s.time.reel cue.cue
    t.subs.streams[k]? = some { st with slots := replaceAt st.slots n (some { tag := tag, timed := cue }) } ∧
    t.notices = s.notices ∧
    t.subs.overlay = (if st.route.toOverlay then s.subs.overlay ++ [record] else s.subs.overlay) ∧
    t.subs.seats = (if st.route.toSeats then s.subs.seats ++ [record] else s.subs.seats) := by
  intro t record
  have ht : t = _ := (h.showCue_free hlate hchoose).trans (sendShow_busy (by exact hx) _ _ _)
  rw [ht]
  exact ⟨by simp [h.stream], rfl, rfl, rfl⟩

/-- An outbox after the CLEAR of a displaced cue and the SHOW of the one that displaces it. -/
def displaceBox (goes : Bool) (k number : Nat) (record : CaptionRecord) (box : List CaptionRecord) : List CaptionRecord :=
  if !goes then box
  else (if box.any (CaptionRecord.presents k number) then box.filter (fun r => !r.presents k number)
    else box ++ [.clear k number .displaced]) ++ [record]

theorem showBox_clearBox_displaced (goes : Bool) (k number c : Nat) (record : CaptionRecord) (box : List CaptionRecord) :
    (showBox goes record (clearBox goes k number .displaced (box, c))).1 = displaceBox goes k number record box := by
  cases goes
  · rfl
  · cases h : box.any (CaptionRecord.presents k number) <;> simp [showBox, clearBox, displaceBox, h]

/-- A cue that displaces another, while the seat link transmits. -/
theorem CueFires.displaces_leaves {old : Shown} (h : CueFires s k tag st sh cue)
    (hlate : s.time.reelFrame < cue.outFrame) (hchoose : chooseSlot st.slots = (n, some old))
    (hslot : (st.slots[n]?).join = some old) (hx : s.subs.transmitting = some x) (hc : s.subs.cancelled = [c0, c1]) :
    let t := showCue k tag s
    let record := CaptionRecord.present k sh.play.id s.time.reel cue.cue
    t.subs.streams[k]? = some { st with slots := replaceAt st.slots n (some { tag := tag, timed := cue }) } ∧
    t.subs.overlay = displaceBox st.route.toOverlay k old.timed.cue.number record s.subs.overlay ∧
    t.subs.seats = displaceBox st.route.toSeats k old.timed.cue.number record s.subs.seats ∧
    t.subs.displaced = bump max32 s.subs.displaced ∧
    ∀ c : Cause, s.notices.causes[20]? = some c → ∃ d : Cause, t.notices.causes[20]? = some d ∧ d.pending = true ∧
      d.count = bump 255 c.count ∧ d.latest.map (·.detail) =
        some (Layout.num 1 k ++ Layout.num 2 old.timed.cue.number ++ Layout.num 2 cue.cue.number) := by
  intro t record
  let u := { s with subs := { s.subs with displaced := bump max32 s.subs.displaced } }
  have hclear := clearSlot_busy (s := u) (reason := .displaced) hx hc h.stream hslot
  have ht : t = sendShow _ _ _ _ := h.showCue_displaces hlate hchoose
  have hraised : (displaceCue k n old cue s).subs = (clearSlot k n .displaced u).subs := by simp [displaceCue, u]
  have hshow := sendShow_busy (x := x)
    (s := updateStream k (fun st => { st with slots := replaceAt st.slots n (some { tag := tag, timed := cue }) })
      (displaceCue k n old cue s))
    (by rw [updateStream_subs, hraised, hclear]; exact hx) st.route.toOverlay st.route.toSeats record
  rw [ht, hshow]
  refine ⟨?_, ?_, ?_, ?_, fun c hcause => ?_⟩
  · simp [hraised, clearSlot_stream (s := u) h.stream hslot]
  · rw [← showBox_clearBox_displaced (c := c0), updateStream_subs, hraised, hclear]
    rfl
  · rw [← showBox_clearBox_displaced (c := c1), updateStream_subs, hraised, hclear]
    rfl
  · rw [updateStream_subs, hraised, hclear]
    rfl
  · simp only [updateStream_frame]
    exact displaceCue_raises hcause
end

/-! ### The seat link (R165) -/

/-- A record sent is counted, and the oldest one waiting begins. -/
theorem exec_seatRecordComplete {s : State} {r : CaptionRecord} (h : s.subs.transmitting = some r) :
    exec .seatRecordComplete s = .next (settle
      { s with subs := { s.subs with
          transmitting := s.subs.seats.head?, seats := s.subs.seats.drop 1, sent := addAt s.subs.sent 1 1 } }) := by
  show finish _ = _
  simp only [h, feedSeats]
  cases hseats : s.subs.seats <;> simp [finish]

/-- Settles O57: STREAM SET check by check and with its records, cue times converted, the seat link, the slots cleared at a
tick, a reel start and an end, and a cue fired late, into an empty slot or in place of another. -/
theorem streamsCuesAndSeatRecords : Obligations.StreamsCuesAndSeatRecords := by
  refine ⟨fun f s stream route offset h => ⟨exec_streamSet_badNumber h, fun r st hs hr hst =>
      ⟨exec_streamSet_full h hs hr, fun hfree => exec_streamSet_blank rfl h hs hr hfree hst⟩⟩,
    fun rate duration offset c => ⟨convertCue_eq_none, fun x => convertCue_some⟩,
    fun s r => exec_seatRecordComplete,
    fun f s stream route offset r st x h hs hr hst hfree hx c0 c1 hc =>
      exec_streamSet_busy rfl h hs hr hfree hst hx hc,
    fun s k st a b hk hst hslots => ⟨clearAtTick_stream hk hst hslots, clearAll_stream hk hst hslots⟩,
    fun s k c0 c1 st shown x hk hst hslots hothers hx hc => ?_,
    fun s k tag c0 c1 st sh cue a b x hst hsh hcue hslots hpassed hx hc => ?_⟩
  · have hcleared {p reason} (hp : p shown = true) : ClearsCue x k shown.timed.cue.number c0 c1 st.route reason s.subs
        (clearEach p reason s).subs := clearEach_clearsCue hk hst hslots hothers hx hc hp
    have hall (reason : ClearReason) : ClearsCue x k shown.timed.cue.number c0 c1 st.route reason s.subs
        (clearAll reason s).subs := by
      rw [clearAll_eq_clearEach]
      exact hcleared rfl
    refine ⟨fun hout => ?_, fun reason => ?_, fun hnone => ?_⟩
    · rw [clearAtTick_eq_clearEach]
      exact hcleared (by simpa using hout)
    · exact hall reason
    · exact (hall .reelEnd).of_outboxes (reelStartCaptions_outboxes hnone)
  · have h : CueFires s k tag st sh cue := ⟨hst, hsh, hcue, nonePassed_of_slots hslots hpassed⟩
    refine ⟨h.showCue_late, fun hlate => ⟨fun ha => ?_, fun ha hb => ?_, fun hfree => ?_, fun y z hy hz => ?_⟩⟩
    · subst ha
      obtain ⟨hplaced, -⟩ := h.free_leaves hlate (hslots ▸ chooseSlot_lower b) hx
      simpa [hslots, replaceAt, updateAt] using hplaced
    · subst hb
      obtain ⟨hplaced, -⟩ := h.free_leaves hlate (hslots ▸ chooseSlot_upper ha) hx
      simpa [hslots, replaceAt, updateAt] using hplaced
    · obtain ⟨n, hchoose⟩ := chooseSlot_free hfree
      exact (h.free_leaves hlate (hslots ▸ hchoose) hx).2
    · subst hy hz
      obtain ⟨n, hchoose, hslot, hreplace⟩ := chooseSlot_busy y z
      have hleaves := h.displaces_leaves hlate (hslots ▸ hchoose) (hslots ▸ hslot) hx hc
      rw [hslots, hreplace] at hleaves
      exact hleaves

end Machine
end Sys2Proof
end
